-- ==== Sys2Proof/Word.lean ====
section
/-! DEFINITION. The word types of the VD-FX48 register space and byte strings (00 R10, R18, R19). -/
namespace Sys2Proof

/-- One byte of a record, descriptor or packet (00 R10). -/
abbrev Byte := BitVec 8

/-- One 32-bit register (00 R18, R19). -/
abbrev Word := BitVec 32

end Sys2Proof
end

