-- ==== Sys2Proof/Syntax.lean ====
section
/-! DEFINITION. The commands the engine takes from outside, and their operands. One constructor per row of the
opcode table; each command brings the time that passed before it and what arrives from outside: a request frame, a
register write with its writer, a reading of the scene or of an analogue part, an edge on a pin (log 2, log 4). -/
namespace Sys2Proof

/-- Who makes a direct register access: the session of a slot, or nobody's session (12 R441). -/
abbrev Who := Option (Fin 4)

/-- A request frame (13 R486) or the envelope of a link packet (14 R526) as it reaches the engine. -/
structure Req where
  /-- the port: false — the Stolfin chain; true — the lane link -/
  link : Bool
  /-- on the chain, the side of arrival: false — CHI; true — CHO -/
  cho : Bool
  /-- on the link, the packet type it travelled in (R525) -/
  ptype : Nat
  /-- addr [6:0] of R486 -/
  addr : Nat
  /-- cmd [6:5] of R486 -/
  slot : Nat
  /-- cmd [7] of R486 -/
  hasMac : Bool
  /-- seq of R486 -/
  seq : Nat
  payload : List Byte
  /-- the mac field of R486, little-endian as a number; 0 without one -/
  mac : Nat
deriving DecidableEq, Repr

/-- What the analogue locator reads of one tile (03 R112 to R114): its sums and scores before the flags; the mean in
0.25 DN, the resolution of R121. The model holds the readings to the tolerances of R114. -/
structure TileIn where
  edge : Nat
  orient : Nat
  coh : Nat
  l : Nat
  q : Nat
  d : Nat
  mean : Nat
  contrast : Nat
deriving DecidableEq, Repr

/-- What a training phase ended with (14 R535): lanes locked or aligned by direction (bit masks), lanes that carry
inverted polarity, the partner's lane numbers, and for each receive lane the counts of open points that EQ found at the settings
0 dB to 15 dB (R545). -/
structure TrainInfo where
  rxLanes : Nat
  txLanes : Nat
  inverted : Nat
  partner : List Nat
  peaks : List (List Nat)
deriving DecidableEq, Repr

/-- The kinds of symbol that can stand in a candidate's region (05 R184, R189). -/
inductive SymKind where
  /-- no finder, lattice or grid of a supported kind can be fitted -/
  | nothing
  | dataMatrix | qr | microQr | code128 | dotCode | blazeD
  /-- recognised, but an unsupported symbology or option (R189) -/
  | unsupported
deriving DecidableEq, Repr

/-- What the finder search of a decode task comes to in its region's pixels (05 R184, R186, R189, R208). -/
inductive Seen where
  /-- no finder, lattice or grid of a kind the task looks for -/
  | nothing
  /-- one of a kind that is recognised and not supported (R189) -/
  | other
  /-- the L and the alternating sides of a Data Matrix -/
  | ell
  /-- square finder patterns -/
  | squares
  /-- bars -/
  | bars
  /-- a lattice of dots -/
  | dots
deriving DecidableEq, Repr

/-- What a decode task meets in its region's pixels (05): the finder and the fit of a lattice or grid to it. What stands at the places
of the fit, and all that the engine decides from it, the model reads from the region's pixels itself. -/
structure Finding where
  seen : Seen
  /-- where nothing is fitted or the kind is not supported: the last stage completed and the finders found (06 R234) -/
  stage : Nat := 0
  finders : Nat := 0
  /-- modules, cells or dots down and across, as the fit lies -/
  rows : Nat := 0
  cols : Nat := 0
  /-- the fit's outer corners in order around it, x and y in 1/4 096 pixel: rows run from the first to the second -/
  quad : List (Nat × Nat) := []
  /-- the view's tilt in 1/256 degree; the narrowest quiet zone in 1/256 module, X or dot pitch; dot diameter in 1/256 pixel -/
  tilt : Nat := 0
  quiet : Nat := 0xFFFF
  dot : Nat := 0
  /-- the finder dots are those of a mirror image (R189) -/
  mirror : Bool := false
deriving DecidableEq, Repr

/-- What Tally's search of a staring candidate finds to measure (09 R332): the extent of the symbol in modules, for Code 128 its
length in X and the bar height; for DotCode its lattice in cells. The rest of the measurement is computed from the region's pixels. -/
structure TallyMeas where
  cols : Nat
  rows : Nat
deriving DecidableEq, Repr

/-- What the memory training of start phase S4 meets (15 R555, R556, R580): the ranks that answer on channels A and B, each with its
MR5 to MR8, MR5 in the lowest byte; whether they are LPDDR4X devices; the failed tries of each step of R580 at each rate of R556, the
highest rate first, eight steps a rate; how long it takes, in µs; the DQS oscillator count of each rank, channel A's first; and the VREF
word of R587. -/
structure MemTrain where
  ranksA : List Nat
  ranksB : List Nat
  lp4x : Bool := true
  fails : List Nat := []
  time : Nat
  dqs : List Nat
  vref : Nat
deriving DecidableEq, Repr

/-- A master of the external memory (15 R563, R566, R568): sensor readout, the drain of the staging store and photodiode capture in
real time; admitted work, speculation, calibration, and the link. -/
inductive MemWho where
  | sensor | roi | capture | admitted | speculative | calibration | link
deriving DecidableEq, Repr

/-- A row of the external memory. -/
structure RowAt where
  ch : Nat
  rank : Nat
  bank : Nat
  row : Nat
deriving DecidableEq, Repr

/-- A word of a row as a read meets it (15 R560): its number in the row, and which of its 72 bits are wrong, the check byte's from 64. -/
structure WordErr where
  word : Nat
  bits : List Nat
deriving DecidableEq, Repr

/-- The wrong words that a read of a row meets, and those that its second read meets (15 R577). -/
structure RowSeen where
  first : List WordErr := []
  again : List WordErr := []
deriving DecidableEq, Repr

/-- What moves between a master and a row (15 R566, R568). -/
structure MemMove where
  who : MemWho
  bytes : Nat
  write : Bool := true
deriving DecidableEq, Repr

/-- What the memory's wake step finds on each rank, channel A's first (15 R583): its DQS oscillator's count, and its MR4. -/
structure MemWake where
  counts : List Nat := []
  codes : List Nat := []
deriving DecidableEq, Repr

/-- What the engine meets in one start (17 R625 to R629): failed attempts of S1, S3 and S6; which copies of the non-volatile
store are good; the engines that pass their vectors; the SRAM macros with a bad row; how S5 ends (0 — still training,
1 — UP, 2 — LIMP_UP, 3 — STANDALONE) and the furthest phase a training reached that ended in STANDALONE (14 R536). -/
structure StartOutcome where
  /-- junction temperature, Q8.8 °C -/
  temp : Nat
  /-- Tally's self-test passes (09 R359) -/
  selftest : Bool
  s1 : Nat
  nvCopy : Bool
  nvBad : Bool
  s3 : Nat
  /-- 0 — trims or regulators; 1 — the sensor; 2 — the locator -/
  s3Part : Nat
  mem : MemTrain
  link : Nat
  furthest : Nat := 2
  info : TrainInfo
  s6 : Nat
  engines : Nat
  macros : List Nat
deriving DecidableEq, Repr

/-- What ends with a decode task beside what it met: what the task of the candidate's other hypothesis met, when it ends in the same
tick (04 R163); the rows of the external memory that its reads of the region found with wrong words (15 R577); how many errors the
engine's local store corrected since its last task ended, those of a task squashed meanwhile included (04 R181). -/
structure TaskSeen where
  twin : Option Finding := none
  rows : List (RowAt × RowSeen) := []
  ecc : Nat := 0
deriving DecidableEq, Repr

/-- The end of an exposure: the ticks that pass before it, and for each tile of the array that is not dark the charges of its 256
pixels in electrons (03 R92, R101). -/
structure ExposureSeen where
  dt : Nat
  img : List (Nat × List Nat) := []
deriving DecidableEq, Repr

/-- The commands of the VD-FX48: one constructor per row of the opcode table, in its order. `dt` is how many ring ticks
pass before the command (log 2; EXPOSURE_END's is a record that holds it beside what the sensor saw); the other operands are what the command brings from outside the engine. -/
inductive Instr where
  /-- JOB_SUBMIT (R28): A job descriptor arrives in a JOB packet or a chain JOB_SUBMIT request and is checked for port and session, then admitted or refused. -/
  | jobSubmit (dt : Nat) (r : Req)
  /-- PACE_SAMPLE (R54): Every 3 125 ticks the engine samples every pace gauge. -/
  | paceSample (dt : Nat) (fabric : Nat) (gauges : List Nat)
  /-- PACE_UPDATE (R54): Every 31 250 ticks the measured and planning paces are updated from the lowest samples since the last update. -/
  | paceUpdate (dt : Nat)
  /-- ACCOUNTING_WINDOW (R71): A new 312 500-tick window starts, and the speculation and calibration shares are renewed. -/
  | accountingWindow (dt : Nat)
  /-- DELIVERY_DEADLINE (R79): The deadline of an uncommitted delivery expires and a forfeit record is committed with won_by timer. -/
  | deliveryDeadline (dt : Nat) (seq : Nat) (unit : Nat)
  /-- COMMIT_CUT (R171): At the deadline less 3 125 ticks, the remaining speculative tasks of the delivery are squashed. -/
  | commitCut (dt : Nat) (seq : Nat) (unit : Nat)
  /-- ARM_TIMEOUT (R682): The arm timeout of an exposure job expires, and the job takes no further trigger and raises 0xB131. -/
  | armTimeout (dt : Nat) (seq : Nat)
  /-- INTERVAL_END (R79): The minimum interval of a repeating exposure job ends, so the job's next trigger is on time. -/
  | intervalEnd (dt : Nat) (seq : Nat)
  /-- CANCEL (R82): A write of a host_tag to ADM.CANCEL ends that job and takes no further trigger. -/
  | cancel (dt : Nat) (who : Who) (tag : Word)
  /-- SOFT_TRIG (R83): A write of a host_tag to ADM.SOFT_TRIG triggers a live exposure job with trigger 0x02, or is refused with 0xB105. -/
  | softTrig (dt : Nat) (who : Who) (tag : Word)
  /-- TRIGGER_INPUT (R99): An edge of the configured polarity appears on TRIG0 or TRIG1 and its filter hold begins. -/
  | triggerInput (dt : Nat) (pin : Nat) (level : Bool)
  /-- TRIGGER_ACCEPT (R104): A qualified trigger is accepted and either takes a frame for one job or raises one event. -/
  | triggerAccept (dt : Nat) (src : Nat)
  /-- EXPOSURE_START (R101): The exposure starts 40 ticks plus the trigger delay after acceptance. -/
  | exposureStart (dt : Nat)
  /-- EXPOSURE_END (R101): The exposure ends and charge transfers to the storage nodes, giving the delivery's zero. -/
  | exposureEnd (dt : ExposureSeen)
  /-- SNS_TRANSFER (R127): The storage transfer has not completed 625 ticks after the due end of exposure, and the frame is forfeited with 0x4042. -/
  | snsTransfer (dt : Nat)
  /-- TILE_ROW_COMPLETE (R143): The locator completes a tile row, and the cluster builder links its seeds and support tiles into clusters. -/
  | tileRowComplete (dt : Nat) (tiles : List TileIn)
  /-- LOC_MAP_LATE (R127): A tile row passes its bound without completing, and the frame is forfeited with 0x4041. -/
  | locMapLate (dt : Nat)
  /-- BAND_CONVERTED (R150): A band's conversion ends, and it is transferred from the line store once tile row b + 1 has completed. -/
  | bandConverted (dt : Nat) (noise : List (Nat × List Int))
  /-- STORAGE_WINDOW_END (R96): The storage window of a frame ends and its storage nodes are released. -/
  | storageWindowEnd (dt : Nat)
  /-- SNS_TEMP_RANGE (R126): The sensor temperature leaves or re-enters 0 °C to +60 °C, raising 0x4051. -/
  | snsTempRange (dt : Nat) (temp : Word)
  /-- SPEC_TASK_START (R156): Cruiser starts a speculative task on a candidate once all of its conditions hold. -/
  | specTaskStart (dt : Nat)
  /-- TASK_ASSIGN (R165): The admitted task at the head of the queue goes to the free engine with the highest gauge. -/
  | taskAssign (dt : Nat)
  /-- DECODE_TASK_END (R163): A decode task ends, and the candidate's hypotheses are resolved. -/
  | decodeTaskEnd (dt : Nat) (eng : Nat) (f : Finding) (more : TaskSeen)
  /-- DEC_ENGINE_FAULT (R168): An engine check fails or its store has an uncorrectable error, so its task restarts elsewhere and the engine is offered to Understory. -/
  | decEngineFault (dt : Nat) (eng : Nat) (store : Bool)
  /-- GROUP_COMMIT (R171): A ready and unblocked result group commits into its pool. -/
  | groupCommit (dt : Nat) (path : Nat)
  /-- RESULT_READ (R245): The chain command releases records up to a pool_seq and returns the oldest held record. -/
  | resultRead (dt : Nat) (r : Req)
  /-- FADE_END (R269): A cross-fade completes on every channel, the target bank becomes active and any pending request is evaluated. -/
  | fadeEnd (dt : Nat)
  /-- COEF_WRITE (R272): A write to a FIR coefficient register is accepted into the inactive bank or refused with 0x6021 or 0x6022. -/
  | coefWrite (dt : Nat) (who : Who) (bank : Bool) (tap : Nat) (v : Word)
  /-- PD_BIAS_FAULT (R253): A bias output current over 3 mA for 10 µs sets the output to 0 V and latches 0x6051. -/
  | pdBiasFault (dt : Nat) (ch : Nat)
  /-- ADC_FAULT (R290): An ADC fails its self-check, latching 0x6011 and offering it to Understory. -/
  | adcFault (dt : Nat) (adc : Nat)
  /-- SUPPRESS_END (R283): A channel's suppression count reaches zero and its samples are valid again. -/
  | suppressEnd (dt : Nat) (ch : Nat)
  /-- FREEZE_PIN_EDGE (R264): The freeze pin under freeze_mode 3 changes level, freezing or unfreezing the DC block. -/
  | freezePinEdge (dt : Nat) (pin : Nat) (level : Bool)
  /-- RSM_OVERSPEED (R280): A profile sample whose computation would start over 3.2 µs late is marked overspeed and raises 0x6042. -/
  | rsmOverspeed (dt : Nat) (ch : Nat) (seq : Nat)
  /-- POS_PACKET (R300): A POS packet arrives, and each sample is time-offset and then accepted or discarded. -/
  | posPacket (dt : Nat) (payload : List Byte)
  /-- SWEEP_BOUNDARY (R306): At the later of acceptance and window_start - SWEEP_LEAD, the preset and next-sweep bundles apply and the sweep count increments. -/
  | sweepBoundary (dt : Nat) (seq : Nat)
  /-- WINDOW_START (R264): A sweep window opens, and freeze_mode 1 freezes the DC block of its channels. -/
  | windowStart (dt : Nat) (seq : Nat)
  /-- WINDOW_END (R319): A sweep window closes, giving the delivery's zero and unfreezing the DC block. -/
  | windowEnd (dt : Nat) (seq : Nat)
  /-- POS_LATE (R304): A position's late limit expires before its samples were accepted, leaving it invalid and raising 0x6063. -/
  | posLate (dt : Nat) (seq : Nat) (ch : Nat) (j : Nat)
  /-- LINE_DECODE (R311): The line decoder anchors, fits and checks Blaze-L candidates on the computed profile. -/
  | lineDecode (dt : Nat) (seq : Nat) (levels : List Int)
  /-- TALLY_APPEND (R335): Tally completes a measurement and appends its record to the chain. -/
  | tallyAppend (dt : Nat) (m : TallyMeas)
  /-- BLOCK_CLOSE_AGE (R348): The open block closes 10 ms after its first record. -/
  | blockCloseAge (dt : Nat)
  /-- BLOCK_SIGNED (R348): Tally finishes the Ed25519 seal of a closed block and writes it to the measurement store. -/
  | blockSigned (dt : Nat)
  /-- TAMPER_CHANGE (R352): A TAMP_N level held for 10 ms raises 0x8041 or 0x8042 and appends an epoch record and a log entry. -/
  | tamperChange (dt : Nat) (isOpen : Bool)
  /-- UNSEAL (R353): SEAL_CMD 0x01 from a Seal session closes the block, increments the counter and begins the unseal, or is refused. -/
  | unseal (dt : Nat) (who : Who)
  /-- UNSEAL_COMPLETE (R353): The unseal completes, with an epoch record of kind 0x22, and Tally is unsealed. -/
  | unsealComplete (dt : Nat)
  /-- RESEAL (R353): SEAL_CMD 0x02 from a Seal session starts the reseal check of the staged block, or is refused. -/
  | reseal (dt : Nat) (who : Who)
  /-- RESEAL_COMPLETE (R355): The reseal completes, the staged block becomes active, the counter increments and Tally is sealed. -/
  | resealComplete (dt : Nat)
  /-- PARAM_DATA_WRITE (R356): A write to TLYC.PARAM_DATA reaches the staged block, or is refused with 0x8035 or 0xB003. -/
  | paramDataWrite (dt : Nat) (who : Who) (v : Word)
  /-- PARAM_DATA_READ (R363): A read of TLYC.PARAM_DATA returns the selected word and advances the caller's offset by 4. -/
  | paramDataRead (dt : Nat) (who : Who)
  /-- MEAS_READ (R350): The chain command releases measurement items and returns the oldest record or seal held. -/
  | measRead (dt : Nat) (r : Req)
  /-- TALLY_WATCHDOG (R328): Tally's watchdog restarts its logic, which then continues the segment with an epoch record of kind 0x21. -/
  | tallyWatchdog (dt : Nat) (storeOk : Bool)
  /-- LIT_TRIM_SLOT (R372): A sector's trim slot falls due, and the trim moves toward the reference within its limits. -/
  | litTrimSlot (dt : Nat) (sector : Nat)
  /-- CAL_LIT_CMD (R373): A write arms the reference latch of the named sectors. -/
  | calLitCmd (dt : Nat) (who : Who) (v : Word)
  /-- PD_CAL_PERIOD (R375): A photodiode calibration period elapses, and each enabled channel is due for calibration. -/
  | pdCalPeriod (dt : Nat)
  /-- PD_CAL_START (R376): The injector condition is met, the injector is connected and the offset and gain measurement starts. -/
  | pdCalStart (dt : Nat) (ch : Nat)
  /-- PD_CAL_END (R377): The measurement ends, and new trims are staged or 0x6071 is latched. -/
  | pdCalEnd (dt : Nat) (ch : Nat) (y0 : List Int) (y1 : List Int)
  /-- PACE_SLOT (R379): Every second the pace slot publishes drift and checks task times against prediction. -/
  | paceSlot (dt : Nat)
  /-- CAMPAIGN_CLOSE (R382): A campaign's close_time arrives before its last mark, fixing its zero. -/
  | campaignClose (dt : Nat) (seq : Nat)
  /-- FIT_START (R384): The campaign fit starts on its fit unit within 20 µs of the zero. -/
  | fitStart (dt : Nat) (seq : Nat)
  /-- FIT_END (R384): The fit ends and the correction packet is committed, or it reruns or is forfeited after a fit-unit fault. -/
  | fitEnd (dt : Nat) (seq : Nat) (unitFault : Bool)
  /-- CORR_READ (R495): The chain command releases a correction item and returns bytes of the oldest one held. -/
  | corrRead (dt : Nat) (r : Req)
  /-- SHADOW_DECODE (R634): Every DECC.SHADOW seconds a shadow task re-decodes a region and compares the result. -/
  | shadowDecode (dt : Nat)
  /-- LANE_EQ_SCAN (R546): Every 10 s one lane is eye-scanned and a neighbouring equaliser setting may be staged. -/
  | laneEqScan (dt : Nat) (points : List Word)
  /-- DRAM_ZQ_SLOT (R581): Every 128 ms a ZQ calibration starts, and it is latched at the slot's commit point. -/
  | dramZqSlot (dt : Nat)
  /-- DRAM_DQS_SLOT (R581): Every 16 ms the DQS oscillator runs, and a delay correction or retrain is staged when it drifts. -/
  | dramDqsSlot (dt : Nat) (counts : List Nat)
  /-- PRECHARGE_START (R404): Before a conduction, all columns are pulled to VPRE with every row released. -/
  | prechargeStart (dt : Nat)
  /-- CONDUCTION_START (R402): A row conducts, and each column latches its amplitude and duty code. -/
  | conductionStart (dt : Nat)
  /-- CONDUCTION_END (R399): A conduction ends and its ROWDRV output is released. -/
  | conductionEnd (dt : Nat)
  /-- LED_TEST (R420): At 1.6 µs into a conduction of 2 µs or more, a position is tested as open, short or good. -/
  | ledTest (dt : Nat) (col : Nat) (ia : Nat) (ib : Nat) (volt : Nat)
  /-- DIAG_PERIOD_END (R423): A diagnostic period ends, updating unverified states, imbalance monitors and owed stretched pulses. -/
  | diagPeriodEnd (dt : Nat)
  /-- LITD_RETEST (R421): A write to LITD.RETEST returns the named positions to unverified. -/
  | litdRetest (dt : Nat) (who : Who) (v : Word)
  /-- DUTY_CLAMP (R419): A sink's time above 400 mA reaches 200 µs and it is lowered to 400 mA. -/
  | dutyClamp (dt : Nat) (col : Nat)
  /-- LTEMP_READ (R428): Every 10 ms the thermistor is read, setting derating, shutdown or an LTEMP fault. -/
  | ltempRead (dt : Nat) (ohms : Nat) (vled : Nat)
  /-- PAT_STEP_EXPIRY (R411): A HOLD or RAMP duration of a pattern engine elapses and the program moves to its next step. -/
  | patStepExpiry (dt : Nat) (e : Nat)
  /-- PAT_RAMP_UNIT (R412): A unit of a RAMP elapses and the level moves to its next value. -/
  | patRampUnit (dt : Nat) (e : Nat)
  /-- PAT_WAITEXP_TIMEOUT (R414): A WAITEXP timeout expires before its edge and the program continues with timed_out set. -/
  | patWaitexpTimeout (dt : Nat) (e : Nat)
  /-- MUX_SLOT (R413): A multiplex slot of a pattern engine ends and the next row of its mask begins with a pre-charge. -/
  | muxSlot (dt : Nat) (e : Nat)
  /-- BND_OPEN (R453): BND.CMD 0x1 opens the session's bundle, or is refused for lack of a slot or an already open bundle. -/
  | bndOpen (dt : Nat) (who : Who)
  /-- BND_CLOSE (R453): BND.CMD 0x2 closes the open bundle with its commit point. -/
  | bndClose (dt : Nat) (who : Who) (point : Nat)
  /-- BND_ABORT (R453): BND.CMD 0x3 aborts the session's open bundle. -/
  | bndAbort (dt : Nat) (who : Who)
  /-- RWB_WRITE (R454): A write to an RWB register is staged in the open bundle, or made as a one-write bundle. -/
  | rwbWrite (dt : Nat) (who : Who) (addr : Nat) (v : Word)
  /-- BUNDLE_COMMIT_IMMEDIATE (R459): An immediate bundle commits once its domains are ready, after the state checks of R456. -/
  | bundleCommitImmediate (dt : Nat) (id : Nat)
  /-- BND_WAIT_EXPIRED (R460): A waiting bundle reaches BND.WAIT_LIMIT and aborts with 0xB026. -/
  | bndWaitExpired (dt : Nat) (id : Nat)
  /-- EVT_LATCH_CLEAR (R449): Writing 1 to an EVT_LATCH bit clears it. -/
  | evtLatchClear (dt : Nat) (who : Who) (page : Nat) (bits : Word)
  /-- FAULT_CLEAR (R450): Writing CONTROL.fault_clear clears the page's FAULT register. -/
  | faultClear (dt : Nat) (who : Who) (page : Nat)
  /-- CLAIM_TAKE (R469): A take makes the writer's role the owner of a free resource, or is refused. -/
  | claimTake (dt : Nat) (who : Who) (res : Nat)
  /-- CLAIM_RELEASE (R469): An ordinary release frees a resource owned by the writer's role, or is refused. -/
  | claimRelease (dt : Nat) (who : Who) (res : Nat)
  /-- CLAIM_FORCE_RELEASE (R469): A Service release by force frees a resource, or is refused. -/
  | claimForceRelease (dt : Nat) (who : Who) (res : Nat)
  /-- TIMER_FIRE (R474): A timer reaches its firing time, triggers exposure jobs and pulses its GP pin. -/
  | timerFire (dt : Nat) (n : Nat)
  /-- TIMER_PULSE_END (R474): The 313-tick GP pulse of a timer firing ends. -/
  | timerPulseEnd (dt : Nat) (n : Nat)
  /-- TIMERS_READ (R475): A read of GPC.TIMERS reports and restarts the firings since the last read. -/
  | timersRead (dt : Nat) (who : Who)
  /-- TIMESTAMP_LO_READ (R129): A read of a _LO timestamp register captures the matching _HI half. -/
  | timestampLoRead (dt : Nat) (who : Who) (addr : Nat)
  /-- REG_WRITE_OTHER (R441): A write to a register with no behaviour of its own is checked and applied, ignored or refused. -/
  | regWriteOther (dt : Nat) (who : Who) (addr : Nat) (v : Word)
  /-- ENUM (R497): The enumeration frame gives the next free address to an unaddressed engine and passes on. -/
  | enum (dt : Nat) (r : Req)
  /-- PROBE (R494): The AON front end answers with address, mode, hop state and power state. -/
  | probe (dt : Nat) (r : Req)
  /-- MODE (R499): A MODE command sets ring or spur mode at its EOF; ring mode clears broken flags. -/
  | mode (dt : Nat) (r : Req)
  /-- REG_READ (R494): The command reads up to 64 consecutive registers, stopping at the first refusal. -/
  | regRead (dt : Nat) (r : Req)
  /-- REG_WRITE (R494): The command writes up to 64 consecutive registers, stopping at the first refusal. -/
  | regWrite (dt : Nat) (r : Req)
  /-- EVENT_READ (R495): The command releases event notices up to release_seq and returns the oldest held. -/
  | eventRead (dt : Nat) (r : Req)
  /-- SES_CHALLENGE (R500): A challenge reserves a slot and returns the engine nonce, or is refused. -/
  | sesChallenge (dt : Nat) (r : Req)
  /-- SES_PROVE (R500): The host's tag is checked, and the session opens or the slot is freed with 0x9035. -/
  | sesProve (dt : Nat) (r : Req)
  /-- SES_CLOSE (R504): The command closes the session. -/
  | sesClose (dt : Nat) (r : Req)
  /-- SES_KEY_SET (R508): The command sets a role key from a wrapped block, or is refused. -/
  | sesKeySet (dt : Nat) (r : Req)
  /-- SES_IDLE_CLOSED (R504): No request is accepted for SES.IDLE_LIMIT and the session closes with 0x9038. -/
  | sesIdleClosed (dt : Nat) (slot : Nat)
  /-- SES_CHALLENGE_EXPIRED (R500): A reserved slot gets no proof within 1 s and is freed. -/
  | sesChallengeExpired (dt : Nat) (slot : Nat)
  /-- SES_BACKOFF_END (R505): The 1 s backoff after four failed proofs ends, and challenges for the role are accepted again. -/
  | sesBackoffEnd (dt : Nat) (role : Nat)
  /-- SES_FORCE_CLOSE (R504): A Service write to SES.CLOSE closes the named sessions by force. -/
  | sesForceClose (dt : Nat) (who : Who) (v : Word)
  /-- CHAIN_FRAME_REPEAT (R490): A frame not consumed by the engine is repeated out of the opposite side. -/
  | chainFrameRepeat (dt : Nat) (cho : Bool) (bytes : List Byte)
  /-- FRAME_DISCARD (R487): A frame with a bad CRC, too long or too short is discarded and counted. -/
  | frameDiscard (dt : Nat) (cho : Bool) (cause : Nat)
  /-- RAIL_ERROR (R481): Both rails high, or an unknown control code, discards the character and raises 0x9011. -/
  | railError (dt : Nat) (cho : Bool)
  /-- HOP_BROKEN (R483): No acknowledge rises within CHN.HOP_LIMIT, the frame is dropped and the hop is marked broken. -/
  | hopBroken (dt : Nat) (cho : Bool)
  /-- HOP_TURN (R484): The receiver holds the acknowledge on an idle hop, and the hop's direction is exchanged. -/
  | hopTurn (dt : Nat) (cho : Bool) (collision : Bool)
  /-- CHN_RESP_TIMEOUT (R492): The response limit expires before the request's steps finish, and the engine answers with 0x9021. -/
  | chnRespTimeout (dt : Nat) (link : Bool)
  /-- ACK_RECEIVE (R532): An ACK frees covered packets from the retry buffer, releases delivered items and updates credit. -/
  | ackReceive (dt : Nat) (lseq : Nat) (credit : Nat)
  /-- NAK_RECEIVE (R532): A NAK makes the sender replay every unacknowledged packet from the named lseq. -/
  | nakReceive (dt : Nat) (lseq : Nat) (credit : Nat)
  /-- LINK_PACKET_BAD (R529): A packet with a CRC failure or out of order is discarded and a NAK is sent. -/
  | linkPacketBad (dt : Nat) (sop : List Byte) (data : List Byte)
  /-- REPLAY_TIMER (R532): The replay timer reaches LNK.REPLAY_LIMIT and the sender replays from the oldest unacknowledged packet. -/
  | replayTimer (dt : Nat)
  /-- ACK_SEND (R530): The receiver's ACK timer or count expires and an ACK or NAK is sent. -/
  | ackSend (dt : Nat)
  /-- LINK_ACK_LOSS (R534): No ACK or NAK arrives for 1 ms and the link goes down to retrain. -/
  | linkAckLoss (dt : Nat)
  /-- DETECT_CHECK (R535): Every 100 ms DETECT checks for the forwarded clock and termination. -/
  | detectCheck (dt : Nat) (lanes : Nat)
  /-- TRAIN_PHASE_DONE (R535): A training phase meets its exit condition and the partner's ready flag, and the next phase begins. -/
  | trainPhaseDone (dt : Nat) (info : TrainInfo)
  /-- LNK_TRAIN_TIMEOUT (R536): A phase makes no progress for 10 ms and is retried, or the link goes to limp mode or STANDALONE. -/
  | lnkTrainTimeout (dt : Nat)
  /-- CLOCK_PRESENT (R517): The forwarded clock has stayed within tolerance for 20 µs and is declared present. -/
  | clockPresent (dt : Nat)
  /-- LNK_CLOCK_LOST (R517): The forwarded clock stops or leaves ±1 000 ppm, and the ring enters holdover. -/
  | lnkClockLost (dt : Nat)
  /-- CRYSTAL_SWITCH (R517): Within 50 µs of clock loss, the ring switches to the crystal reference without a glitch. -/
  | crystalSwitch (dt : Nat)
  /-- LNK_LANE_LOST (R540): A lane shows 8 invalid headers or loses lock, latching 0x2011 and sending RESTRIPE. -/
  | lnkLaneLost (dt : Nat) (lane : Nat) (lock : Bool)
  /-- RESTRIPE (R541): A RESTRIPE block from the partner is applied within 5 µs with an out-of-schedule ALIGN stripe. -/
  | restripe (dt : Nat) (mask : Nat) (ver : Nat) (lost : Nat)
  /-- LNK_RETRAIN (R537): A write of 1 to LNK.CTL.retrain starts training at DETECT. -/
  | lnkRetrain (dt : Nat) (who : Who)
  /-- LNK_HOLD_DOWN (R548): A write of LNK.CTL.hold_down keeps the link down or lets it train. -/
  | lnkHoldDown (dt : Nat) (who : Who) (v : Bool)
  /-- EYE_SCAN_START (R544): A write of 1 to EYE_CTL.start queues an eye scan as a calibration slot. -/
  | eyeScanStart (dt : Nat) (who : Who) (lane : Nat) (v : Word)
  /-- REFRESH_DUE (R571): A refresh due time passes, raising the debt, and a REFab is issued or postponed. -/
  | refreshDue (dt : Nat) (ch : Nat) (rank : Nat) (idle : Bool)
  /-- BURST_END (R571): A gap longer than BURST_GAP ends a burst, and the debt is paid back to zero. -/
  | burstEnd (dt : Nat) (ch : Nat)
  /-- MR4_READ (R572): Every 4 ms MR4 is read, and a changed code sets the refresh interval and ceiling. -/
  | mr4Read (dt : Nat) (ch : Nat) (rank : Nat) (code : Nat)
  /-- REFRESH_WINDOW (R574): A new refresh window begins and the disturbance tables are cleared. -/
  | refreshWindow (dt : Nat) (ch : Nat) (rank : Nat)
  /-- NEIGHBOUR_REFRESH (R575): A disturbance entry at the limit causes its neighbour rows to be refreshed. -/
  | neighbourRefresh (dt : Nat) (ch : Nat) (rank : Nat) (bank : Nat) (row : Nat)
  /-- SCRUB_READ (R576): A scrub read of a row corrects single-bit errors. -/
  | scrubRead (dt : Nat) (ch : Nat) (rank : Nat) (bank : Nat) (row : Nat) (first : List WordErr) (again : List WordErr) (last : Bool)
  /-- REMAP_COPY_DONE (R578): The copy of a row into its spare completes and the new mapping is committed. -/
  | remapCopyDone (dt : Nat) (ch : Nat)
  /-- PAGE_HOLD_EXPIRY (R569): MEM.PRED_CFG.hold expires and an open row is closed. -/
  | pageHoldExpiry (dt : Nat) (ch : Nat) (rank : Nat) (bank : Nat)
  /-- RANK_POWER_DOWN (R582): A rank idle for MEM.PD_CFG.idle ticks enters power-down. -/
  | rankPowerDown (dt : Nat) (ch : Nat) (rank : Nat)
  /-- DOMAIN_GATE (R595): An idle domain that may gate does so after PWR.GATE_DELAY. -/
  | domainGate (dt : Nat) (d : Nat)
  /-- PWR_GATE_WAIT (R597): A held domain still held after 5 ms aborts its bundles and gates. -/
  | pwrGateWait (dt : Nat) (d : Nat)
  /-- DOMAIN_WAKE (R599): The first access to a gated domain wakes it and stalls. -/
  | domainWake (dt : Nat) (who : Who) (addr : Nat)
  /-- DOMAIN_READY (R599): A waking domain becomes ready and its clamps are released. -/
  | domainReady (dt : Nat) (d : Nat)
  /-- PWR_DOMAIN_LATE (R599): A domain not ready within twice its bound latches 0x1012, refuses the access and restarts. -/
  | pwrDomainLate (dt : Nat) (d : Nat)
  /-- ENTER_ROSEMARY (R600): PWR.CMD 0x1 starts entry to Rosemary, or is refused with 0x1021. -/
  | enterRosemary (dt : Nat) (who : Who)
  /-- ENTER_OFF (R609): PWR.CMD 0x2 starts entry to Off, or is refused. -/
  | enterOff (dt : Nat) (who : Who)
  /-- ROSEMARY_ENTERED (R601): With holds ended, the timestamp and AON count are captured, clamps engage and the ring stops. -/
  | rosemaryEntered (dt : Nat)
  /-- WAKE (R604): An enabled wake source in Rosemary starts the ordered wake. -/
  | wake (dt : Nat) (src : Nat) (frame : Option Req) (cmd : Nat)
  /-- WAKE_STEP_READY (R606): A wake step reports ready and the next step begins. -/
  | wakeStepReady (dt : Nat) (fwd : Bool) (mem : MemWake)
  /-- PWR_WAKE_STEP (R607): A wake step misses its bound, latching 0x1031 and starting from S1. -/
  | pwrWakeStep (dt : Nat) (storeOk : Bool)
  /-- AON_WINDOW (R611): Every 100 ms the AON period is measured and published. -/
  | aonWindow (dt : Nat) (cycles : Nat) (temp : Nat)
  /-- AON_TEMP_SAMPLE (R612): In Rosemary, AON samples its temperature once a second. -/
  | aonTempSample (dt : Nat) (temp : Nat)
  /-- TMB_SET (R617): A write to TMB.SET_HI sets the counter, or is refused with 0x1042. -/
  | tmbSet (dt : Nat) (who : Who) (v : Word)
  /-- TMB_ALARM_ARM (R618): A write to TMB.ALARM_HI arms the alarm. -/
  | tmbAlarmArm (dt : Nat) (who : Who) (v : Word)
  /-- TMB_ALARM (R618): The counter reaches the alarm time, which fires and raises 0x1044. -/
  | tmbAlarm (dt : Nat)
  /-- ALARM_DISARM (R623): Writing 0 to ALARM_CTL.armed disarms the alarm. -/
  | alarmDisarm (dt : Nat) (who : Who) (v : Word)
  /-- UNCERT_CLEAR (R614): Writing TMB.CTL.uncert_clear clears TMB.UNCERT. -/
  | uncertClear (dt : Nat) (who : Who)
  /-- PORST_ASSERT (R662): An assertion of PORST_N ends all work and abandons any start in progress. -/
  | porstAssert (dt : Nat)
  /-- PORST_RELEASE (R625): Release of PORST_N begins a start from S1. -/
  | porstRelease (dt : Nat) (storeOk : Bool)
  /-- AON_POWER_ON (R616): VDD_AON rises after loss, and the counter starts from zero with time invalid. -/
  | aonPowerOn (dt : Nat)
  /-- SUPPLY_OUT_OF_RANGE (R664): A rail leaves its operating range, with the effects of removal without Off. -/
  | supplyOutOfRange (dt : Nat) (rail : Nat)
  /-- START (R625): The engine runs start phases S1 to S7, retrying each phase up to its attempts. -/
  | start (dt : Nat) (o : StartOutcome)
  /-- START_RETRY_DELAY (R627): 100 ms after a failed start with the count below 3, the engine starts again from S1. -/
  | startRetryDelay (dt : Nat)
  /-- CLEAR_COUNT (R627): A Service write of START_CTL.clear_count clears the failed-start count and raises 0xA084 in Coppice. -/
  | clearCount (dt : Nat) (who : Who)
  /-- RESTART (R645): A Service write of START_CTL.restart starts from S1, or is refused with 0xA085 while a job is live. -/
  | restart (dt : Nat) (who : Who)
  /-- UNDERSTORY_OFFER (R635): A unit is offered to Understory, and a recovery starts or is queued. -/
  | understoryOffer (dt : Nat) (kind : Nat) (u : Nat) (wear : Bool)
  /-- SPARE_INSERT (R631): At the safe point a spare is inserted through an engine bundle. -/
  | spareInsert (dt : Nat)
  /-- SAFE_POINT_TIMEOUT (R632): A failed unit with unusable output has no safe point 30 ms into its recovery, and the spare is inserted at once. -/
  | safePointTimeout (dt : Nat)
  /-- UST_ESCALATED (R637): A second fault in the unit under recovery latches 0xA102 and restarts its domain. -/
  | ustEscalated (dt : Nat)
  /-- DOMAIN_RESTART_DONE (R637): A domain restart completes its self-test, the clamps are released and the recovery continues. -/
  | domainRestartDone (dt : Nat)
  /-- DOMAIN_WATCHDOG (R637): A domain watchdog expires, latching 0xA112 and restarting the domain. -/
  | domainWatchdog (dt : Nat) (d : Nat)
  /-- THM_HOT (R640): The junction exceeds THM.LIMITS.warn and 0x1051 is raised. -/
  | thmHot (dt : Nat) (temp : Nat)
  /-- THM_SHUTDOWN (R640): At 125 °C the engine ends every conduction, forfeits pending deliveries and enters the Off-like state. -/
  | thmShutdown (dt : Nat) (temp : Nat)
  /-- CHAIN_SAMPLE (R259): Every D ADC samples a channel produces a chain sample that passes the decimator, trim, rank filter, DC block, FIR and phase delay, and the resampler computes the profile samples it completes. -/
  | chainSample (dt : Nat) (ch : Nat) (codes : List Int)
  /-- LINK_TRANSMIT (R534): When the transmitter is free and credit and retry-buffer room allow, the engine starts its next packet, chosen by the order of precedence and the round robin of the pools and stores. -/
  | linkTransmit (dt : Nat)
  /-- PACKET_DISCARD (R525): A packet of an unlisted type, or one sent in the wrong direction, passes its CRC and lseq check and is then discarded and counted in LNK.RX_DISCARD. -/
  | packetDiscard (dt : Nat) (ptype : Nat)
  /-- CHN_CMD_UNKNOWN (R494): A request frame with a command code that R494 does not list is answered with 0x9024 and not executed. -/
  | chnCmdUnknown (dt : Nat) (r : Req) (cmd : Nat)
  /-- CHUNK_BOUNDARY (R566): A real-time chunk of up to 2 048 bytes ends, and an inserted REFab, a catch-up or a neighbour refresh waiting for the chunk boundary may run. -/
  | chunkBoundary (dt : Nat) (ch : Nat) (rank : Nat) (bank : Nat) (row : Nat) (mv : MemMove) (wait : Nat) (seen : RowSeen)
  /-- ROWDRV_ASSERT (R399): LIT.ROW_LEAD before a conduction begins, the engine asserts ROWDRVn of the row to be driven. -/
  | rowdrvAssert (dt : Nat)
  /-- SYNC_PULSE_END (R132): In SYNC_CFG mode 2, SYNC_OUT's 1 µs pulse from the exposure start ends and the output returns low. -/
  | syncPulseEnd (dt : Nat)
deriving DecidableEq, Repr

end Sys2Proof
end

