-- ==== Sys2Proof/Decode.lean ====
section
/-! DEFINITION. The words that spell commands. The engine decodes no instructions: its commands are events and requests
from outside, and no row of the table has bits. The register and frame layouts a command is built from are decoded where
the command means something (Operands, Chain). -/
namespace Sys2Proof

/-- The command a word spells by the table's bits: the table gives no row bits, so no word spells one. -/
def decodeTableWord (_nbits _w : Nat) : Option Instr := none

end Sys2Proof
end

