-- ==== Sys2Proof/Config.lean ====
section
/-! DEFINITION. What one engine or its surroundings fixes and the spec gives no number for: free values.
Each is an opaque constant without a body, so no proof can see what it is (log 5). -/
namespace Sys2Proof.Config

/-- The fresh engine nonces nd of SES_CHALLENGE (13 R500), by the number of challenges before: a free value. -/
opaque freeNonce : Nat → BitVec 128

/-- The 32-byte Ed25519 private seed made inside the engine at manufacture (09 R323): a free value. -/
opaque tallySeed : BitVec 256

/-- The factory Service key of this engine (00 R2, 13 R507): a free value. -/
opaque factoryServiceKey : BitVec 128

/-- Factory trim of locator column c, and of the spare of group g at 256 + g (03 R120): a free value. -/
opaque factoryTrim : Nat → BitVec 8

/-- Whether a decode task that meets a symbol outside the reading conditions of 05 R187 reads it all the same, by the tick it started and
its engine: the rule promises nothing there. -/
opaque readsBeyond : Nat → Nat → Bool

/-- How many digits the Application Identifier at the head of these data has in the GS1 table, or none when it is
unknown (05 R195): the table is the GS1 General Specifications', not the manual's. -/
opaque gs1Ai : List Byte → Option Nat

/-- The gauge the factory model predicts from PACE_REF at VDD_CORE (mV) and junction temperature (Q8.8) (10 R379). -/
opaque gaugeModel : BitVec 16 → BitVec 16 → BitVec 16 → BitVec 16

/-- model_rev and the grid's origin and spacing in the factory parameter block, which 09 R341 does not state. -/
opaque factoryRev : BitVec 32
opaque factoryGrid : BitVec 128

/-- Spare rows of an SRAM macro: 2 % of its rows, whose number the manual does not state (17 R631). -/
opaque sramSpares : Nat → BitVec 8

/-- The time of audit-log entry 0, written at manufacture (09 R357). -/
opaque manufactureTime : BitVec 64

/-- What a register shows that the engine measures of itself and no command brings: register address and the count it was
taken at (log 12). -/
opaque reading : Nat → Nat → BitVec 32

/-- The writer identities that a job could read, bit n for writer n, by its descriptor (02 R65 test 6): nothing in a descriptor
names them (log 23). -/
opaque readableWriters : List Byte → BitVec 32

/-- Whether the request that lost a race against a deadline still reached the element within the same 20 ns (02 R78), by job and
unit. -/
opaque lateRequest : Nat → Nat → Bool

/-- What the error code of a DRAM word makes of three wrong bits or more (15 R560): clean, corrected or uncorrectable, by those bits
(log 105). -/
opaque eccMany : List Nat → BitVec 8

/-- Read latency, write latency and nWR of the JESD209-4 tables at a data rate, with read DBI (15 R557; log 105). -/
opaque memLatency : Nat → Nat × Nat × Nat

/-- A result the manual states no value for, by the state's counter of free values: the field point of a mark the camera
model takes beyond signed 32 bits (09 R339). -/
opaque freeValue : Nat → BitVec 64

end Sys2Proof.Config
end

