-- ==== Sys2Proof/Machine/Bits.lean ====
section
/-! DEFINITION. Bit fields of numbers and registers, byte strings (00 R9, R10), rounding and saturation helpers. -/
namespace Sys2Proof.Machine

/-- Bits [hi:lo] of a number (00 R9). -/
def fld (n hi lo : Nat) : Nat := n / 2 ^ lo % 2 ^ (hi + 1 - lo)

/-- `n` with bits [hi:lo] replaced by `v` modulo the field's width. -/
def putFld (n hi lo v : Nat) : Nat :=
  n - fld n hi lo * 2 ^ lo + v % 2 ^ (hi + 1 - lo) * 2 ^ lo

/-- Bit `i` of a number. -/
def bitN (n i : Nat) : Bool := n / 2 ^ i % 2 = 1

/-- A Bool as a bit. -/
def b2n (b : Bool) : Nat := if b then 1 else 0

/-- Bit `i` set or cleared. -/
def putBit (n i : Nat) (b : Bool) : Nat := putFld n i i (b2n b)

/-- The least of `n` and the largest value of a `w`-bit field: a saturating count. -/
def sat (w n : Nat) : Nat := min n (2 ^ w - 1)

/-- Two's complement of `w` bits read as an integer. -/
def sgn (w n : Nat) : Int := if n % 2 ^ w < 2 ^ (w - 1) then (n % 2 ^ w : Nat) else (n % 2 ^ w : Nat) - (2 ^ w : Nat)

/-- An integer as `w` bits of two's complement. -/
def twos (w : Nat) (i : Int) : Nat := (i % (2 ^ w : Nat)).toNat

/-- The integer nearest to i ÷ d, halves up (R613's round_half_up, for i of either sign). -/
def roundHalfUp (i : Int) (d : Nat) : Int := (2 * i + d) / (2 * d)

/-- Quotient of naturals rounded up. -/
def ceilDiv (a b : Nat) : Nat := (a + b - 1) / b

/-- The distance of two naturals. -/
def absDiff (a b : Nat) : Nat := if a ≤ b then b - a else a - b

/-- Clamp of an integer to a range. -/
def clampI (lo hi i : Int) : Int := if i < lo then lo else if hi < i then hi else i

/-- `n` little-endian bytes of a value (00 R10). -/
def le : Nat → Nat → List Byte
  | 0, _ => []
  | n + 1, v => BitVec.ofNat 8 (v % 256) :: le n (v / 256)

/-- The value of little-endian bytes (00 R10). -/
def unle : List Byte → Nat
  | [] => 0
  | b :: bs => b.toNat + 256 * unle bs

/-- `n` big-endian bytes of a value. -/
def be (n v : Nat) : List Byte := (le n v).reverse

/-- The value of big-endian bytes. -/
def unbe (l : List Byte) : Nat := unle l.reverse

/-- `n` bytes of `l` from offset `o`, zeros beyond its end. -/
def slice (l : List Byte) (o n : Nat) : List Byte :=
  let t := (l.drop o).take n
  t ++ List.replicate (n - t.length) 0

/-- The little-endian field of `n` bytes at offset `o` (00 R10). -/
def getLe (l : List Byte) (o n : Nat) : Nat := unle (slice l o n)

/-- `n` zero bytes. -/
def zeros (n : Nat) : List Byte := List.replicate n 0

/-- Entry `i` of a list changed by `f` (no change beyond its end). -/
def upd {α : Type} (l : List α) (i : Nat) (f : α → α) : List α :=
  match l, i with
  | [], _ => []
  | a :: t, 0 => f a :: t
  | a :: t, i + 1 => a :: upd t i f

/-- How many bits of the first `w` are 1. -/
def popcount : Nat → Nat → Nat
  | 0, _ => 0
  | w + 1, n => n % 2 + popcount w (n / 2)

/-- The position of the lowest 1 among the first `w` bits. -/
def lowestBit (w n : Nat) : Option Nat := (List.range w).find? (bitN n)

/-- CRC-16 of R487 over the bytes, most significant bit first, from `crc`. -/
def crc16Byte (crc : Nat) (b : Nat) : Nat :=
  (List.range 8).foldl (fun c _ =>
    let c2 := c * 2 % 65536
    if c / 32768 = 1 then Nat.xor c2 0x1021 else c2) (Nat.xor crc (b * 256))

/-- The CRC-16 of R487: x¹⁶ + x¹² + x⁵ + 1, initial value 0xFFFF. -/
def crc16 (l : List Byte) : Nat := l.foldl (fun c b => crc16Byte c b.toNat) 0xFFFF

/-- One byte of the CRC-32 of R524, bit-reflected. -/
def crc32Byte (crc : Nat) (b : Nat) : Nat :=
  (List.range 8).foldl (fun c _ =>
    if c % 2 = 1 then Nat.xor (c / 2) 0xEDB88320 else c / 2) (Nat.xor crc b)

/-- The CRC-32 of R524: 0x04C11DB7 reflected, initial value and final exclusive OR 0xFFFFFFFF. -/
def crc32 (l : List Byte) : Nat :=
  Nat.xor (l.foldl (fun c b => crc32Byte c b.toNat) 0xFFFFFFFF) 0xFFFFFFFF

end Sys2Proof.Machine
end

