-- ==== Sys2Proof/Machine/RegMap.lean ====
section
/-! DEFINITION. The register space: 256 pages of 256 registers (00 R18 to R24), the page index (12 R451), the common
page header (12 R446 to R448), and for each register its access, its reset value and the fields a write must keep to
(12 R455). A register whose table gives a dash for reset holds here the value log 10 names. -/
namespace Sys2Proof.Machine

/-- The access codes of 00 R21, and the claim registers of 12 R467. -/
inductive Access where
  | ro | rw | rwb | w1c | wo | rws | rsv | claim
deriving DecidableEq, Repr

/-- One writable field: bits [hi:lo] and the range of values its table states (R455). -/
structure Fld where
  hi : Nat
  lo : Nat
  min : Nat
  max : Nat
deriving DecidableEq, Repr

/-- One row of a register table: registers at off, off + stride, … , their access, reset value and fields. -/
structure RegDef where
  off : Nat
  count : Nat
  stride : Nat
  acc : Access
  reset : Nat
  flds : List Fld
deriving DecidableEq, Repr

/-- Registers of the ID page (00 R3, 09 R360): offset, count, stride, access, reset, writable fields. -/
def tblID : List RegDef := [
  ⟨0x40, 1, 4, .ro, 0xf0484302, []⟩,
  ⟨0x80, 8, 4, .ro, 0, []⟩,
  ⟨0xa0, 8, 4, .ro, 0, []⟩,
  ⟨0xc0, 1, 4, .ro, 0x20001, []⟩]

/-- Registers of the SYS page (R645): offset, count, stride, access, reset, writable fields. -/
def tblSYS : List RegDef := [
  ⟨0x40, 1, 4, .ro, 0, []⟩,
  ⟨0x44, 1, 4, .wo, 0, [⟨0, 0, 0, 1⟩, ⟨1, 1, 0, 1⟩]⟩,
  ⟨0x48, 1, 4, .ro, 0, []⟩,
  ⟨0x4c, 1, 4, .ro, 1, []⟩,
  ⟨0x50, 4, 8, .ro, 0, []⟩,
  ⟨0x54, 4, 8, .ro, 0, []⟩,
  ⟨0x80, 1, 4, .rw, 0, [⟨5, 0, 0, 0x3f⟩, ⟨9, 8, 0, 3⟩]⟩,
  ⟨0x84, 1, 4, .ro, 0, []⟩,
  ⟨0x88, 1, 4, .ro, 0, []⟩]

/-- Registers of the SES page (R513): offset, count, stride, access, reset, writable fields. -/
def tblSES : List RegDef := [
  ⟨0x40, 4, 4, .ro, 0, []⟩,
  ⟨0x50, 4, 4, .ro, 0, []⟩,
  ⟨0x60, 1, 4, .rw, 0x12c, [⟨11, 0, 1, 0xe10⟩]⟩,
  ⟨0x64, 1, 4, .ro, 0, []⟩,
  ⟨0x68, 1, 4, .ro, 0, []⟩,
  ⟨0x6c, 1, 4, .wo, 0, [⟨3, 0, 0, 0xf⟩]⟩,
  ⟨0x70, 1, 4, .ro, 0, []⟩]

/-- Registers of the BND page (R477): offset, count, stride, access, reset, writable fields. -/
def tblBND : List RegDef := [
  ⟨0x40, 1, 4, .wo, 0, [⟨3, 0, 1, 3⟩, ⟨9, 8, 0, 3⟩]⟩,
  ⟨0x44, 1, 4, .ro, 0, []⟩,
  ⟨0x48, 1, 4, .ro, 0, []⟩,
  ⟨0x4c, 1, 4, .ro, 0, []⟩,
  ⟨0x50, 1, 4, .ro, 0, []⟩,
  ⟨0x54, 1, 4, .rw, 0x3e8, [⟨15, 0, 1, 0xea60⟩]⟩,
  ⟨0x58, 4, 4, .ro, 0, []⟩,
  ⟨0x68, 1, 4, .ro, 0, []⟩,
  ⟨0x6c, 1, 4, .ro, 0, []⟩]

/-- Registers of the ADM page (R247, R395, R85, R90): offset, count, stride, access, reset, writable fields. -/
def tblADM : List RegDef := [
  ⟨0x40, 1, 4, .ro, 0x40004000, []⟩,
  ⟨0x44, 1, 4, .ro, 0x40003eb8, []⟩,
  ⟨0x48, 1, 4, .rwb, 0x148, [⟨15, 0, 0x148, 0x666⟩]⟩,
  ⟨0x4c, 1, 4, .ro, 0, []⟩,
  ⟨0x50, 1, 4, .rwb, 0x205030c, [⟨7, 0, 0, 0x14⟩, ⟨15, 8, 1, 0xa⟩, ⟨23, 16, 0, 0xa⟩, ⟨31, 24, 0, 5⟩]⟩,
  ⟨0x54, 1, 4, .ro, 0, []⟩,
  ⟨0x58, 1, 4, .ro, 0, []⟩,
  ⟨0x5c, 1, 4, .ro, 0, []⟩,
  ⟨0x60, 1, 4, .ro, 0, []⟩,
  ⟨0x64, 1, 4, .ro, 0, []⟩,
  ⟨0x68, 1, 4, .ro, 0, []⟩,
  ⟨0x6c, 1, 4, .ro, 0, []⟩,
  ⟨0x70, 1, 4, .ro, 0, []⟩,
  ⟨0x74, 1, 4, .ro, 0, []⟩,
  ⟨0x78, 1, 4, .wo, 0, [⟨31, 0, 0, 0xffffffff⟩]⟩,
  ⟨0x7c, 1, 4, .wo, 0, [⟨31, 0, 0, 0xffffffff⟩]⟩,
  ⟨0x80, 1, 4, .ro, 0, []⟩,
  ⟨0x84, 1, 4, .ro, 0, []⟩,
  ⟨0x88, 1, 4, .rw, 0, [⟨5, 0, 0, 0x3f⟩, ⟨9, 8, 0, 3⟩]⟩,
  ⟨0x8c, 1, 4, .ro, 0, []⟩,
  ⟨0x100, 40, 4, .ro, 0, []⟩,
  ⟨0x200, 16, 4, .ro, 0, []⟩,
  ⟨0x240, 1, 4, .rwb, 0, [⟨15, 0, 0, 0xffff⟩]⟩,
  ⟨0x244, 1, 4, .ro, 0, []⟩,
  ⟨0x248, 1, 4, .ro, 0, []⟩,
  ⟨0x300, 1, 4, .rwb, 7, [⟨0, 0, 0, 1⟩, ⟨1, 1, 0, 1⟩, ⟨2, 2, 0, 1⟩, ⟨8, 8, 0, 1⟩]⟩,
  ⟨0x304, 1, 4, .rwb, 0xa41f4, [⟨9, 0, 0xa, 0x3e8⟩, ⟨15, 12, 1, 8⟩, ⟨23, 16, 1, 0xff⟩]⟩,
  ⟨0x308, 1, 4, .rwb, 0x203e8, [⟨15, 0, 0x64, 0xea60⟩, ⟨18, 16, 0, 4⟩]⟩,
  ⟨0x30c, 1, 4, .rwb, 0xf6769800, [⟨31, 0, 0, 0xffffffff⟩]⟩,
  ⟨0x310, 1, 4, .rwb, 0xf6769800, [⟨31, 0, 0, 0xffffffff⟩]⟩,
  ⟨0x314, 1, 4, .rwb, 0x4c4b40, [⟨23, 0, 0x186a0, 0x989680⟩]⟩,
  ⟨0x318, 1, 4, .rwb, 0x989680, [⟨23, 0, 0x186a0, 0xf42400⟩]⟩,
  ⟨0x31c, 1, 4, .ro, 0, []⟩,
  ⟨0x320, 1, 4, .ro, 0, []⟩,
  ⟨0x324, 1, 4, .ro, 0, []⟩,
  ⟨0x328, 1, 4, .ro, 0, []⟩,
  ⟨0x32c, 1, 4, .ro, 0, []⟩,
  ⟨0x340, 8, 4, .ro, 0x8000, []⟩,
  ⟨0x360, 8, 4, .ro, 0, []⟩,
  ⟨0x380, 1, 4, .wo, 0, [⟨7, 0, 0, 0xff⟩]⟩,
  ⟨0x384, 1, 4, .ro, 0, []⟩]

/-- Registers of the EVT page (R476): offset, count, stride, access, reset, writable fields. -/
def tblEVT : List RegDef := [
  ⟨0x40, 8, 4, .ro, 0, []⟩,
  ⟨0x60, 1, 4, .rw, 0, [⟨0, 0, 0, 1⟩]⟩,
  ⟨0x64, 1, 4, .ro, 0, []⟩]

/-- Registers of the PWR page (R620): offset, count, stride, access, reset, writable fields. -/
def tblPWR : List RegDef := [
  ⟨0x40, 1, 4, .ro, 0, []⟩,
  ⟨0x44, 1, 4, .rw, 1, [⟨0, 0, 0, 1⟩]⟩,
  ⟨0x48, 1, 4, .wo, 0, [⟨3, 0, 1, 2⟩]⟩,
  ⟨0x4c, 1, 4, .rwb, 0x64, [⟨15, 0, 0xa, 0xffff⟩]⟩,
  ⟨0x50, 1, 4, .ro, 0, []⟩,
  ⟨0x54, 1, 4, .ro, 0, []⟩,
  ⟨0x58, 1, 4, .rwb, 0x3f, [⟨5, 0, 0, 0x3f⟩]⟩,
  ⟨0x5c, 1, 4, .ro, 0xf, []⟩,
  ⟨0x60, 1, 4, .ro, 0, []⟩,
  ⟨0x64, 1, 4, .ro, 0, []⟩,
  ⟨0x68, 1, 4, .ro, 0, []⟩,
  ⟨0x6c, 1, 4, .ro, 0, []⟩]

/-- Registers of the TMB page (R623): offset, count, stride, access, reset, writable fields. -/
def tblTMB : List RegDef := [
  ⟨0x40, 1, 4, .ro, 0, []⟩,
  ⟨0x44, 1, 4, .ro, 0, []⟩,
  ⟨0x48, 1, 4, .ro, 0, []⟩,
  ⟨0x4c, 1, 4, .ro, 0, []⟩,
  ⟨0x50, 1, 4, .ro, 0, []⟩,
  ⟨0x54, 1, 4, .ro, 0x19001900, []⟩,
  ⟨0x58, 1, 4, .ro, 0, []⟩,
  ⟨0x5c, 1, 4, .ro, 0, []⟩,
  ⟨0x60, 1, 4, .ro, 0, []⟩,
  ⟨0x64, 1, 4, .ro, 0, []⟩,
  ⟨0x68, 1, 4, .ro, 0, []⟩,
  ⟨0x6c, 1, 4, .rw, 0, [⟨31, 0, 0, 0xffffffff⟩]⟩,
  ⟨0x70, 1, 4, .rw, 0, [⟨31, 0, 0, 0xffffffff⟩]⟩,
  ⟨0x74, 1, 4, .rw, 0, [⟨0, 0, 0, 1⟩, ⟨1, 1, 0, 1⟩]⟩,
  ⟨0x78, 1, 4, .wo, 0, [⟨31, 0, 0, 0xffffffff⟩]⟩,
  ⟨0x7c, 1, 4, .wo, 0, [⟨31, 0, 0, 0xffffffff⟩]⟩,
  ⟨0x80, 1, 4, .rw, 0, [⟨0, 0, 0, 1⟩]⟩]

/-- Registers of the UST page (R646): offset, count, stride, access, reset, writable fields. -/
def tblUST : List RegDef := [
  ⟨0x40, 1, 4, .ro, 0, []⟩,
  ⟨0x44, 1, 4, .ro, 0, []⟩,
  ⟨0x48, 1, 4, .ro, 0, []⟩,
  ⟨0x4c, 1, 4, .ro, 0, []⟩,
  ⟨0x50, 1, 4, .ro, 0, []⟩,
  ⟨0x54, 1, 4, .ro, 0, []⟩,
  ⟨0x58, 1, 4, .rwb, 0x210450, [⟨7, 0, 0x28, 0x78⟩, ⟨11, 8, 1, 0xf⟩, ⟨19, 12, 4, 0xff⟩, ⟨23, 20, 1, 0xf⟩]⟩,
  ⟨0x5c, 1, 4, .ro, 0, []⟩]

/-- Registers of the CHN page (R511): offset, count, stride, access, reset, writable fields. -/
def tblCHN : List RegDef := [
  ⟨0x40, 1, 4, .ro, 0, []⟩,
  ⟨0x44, 1, 4, .ro, 0, []⟩,
  ⟨0x48, 1, 4, .ro, 0, []⟩,
  ⟨0x4c, 1, 4, .rw, 0x3e8, [⟨16, 0, 0x64, 0x186a0⟩]⟩,
  ⟨0x50, 1, 4, .rw, 0x1388, [⟨16, 0, 0x64, 0x186a0⟩]⟩,
  ⟨0x54, 1, 4, .ro, 0, []⟩,
  ⟨0x58, 1, 4, .ro, 0, []⟩,
  ⟨0x5c, 1, 4, .ro, 0, []⟩,
  ⟨0x60, 1, 4, .ro, 0, []⟩,
  ⟨0x64, 1, 4, .ro, 0, []⟩,
  ⟨0x68, 1, 4, .ro, 0, []⟩]

/-- Registers of the LNK page (R548): offset, count, stride, access, reset, writable fields. -/
def tblLNK : List RegDef := [
  ⟨0x40, 1, 4, .ro, 0, []⟩,
  ⟨0x44, 1, 4, .rw, 0, [⟨0, 0, 0, 1⟩, ⟨1, 1, 0, 1⟩]⟩,
  ⟨0x48, 1, 4, .ro, 0, []⟩,
  ⟨0x4c, 1, 4, .ro, 0, []⟩,
  ⟨0x50, 1, 4, .rwb, 0xc35, [⟨11, 0, 0x139, 0xc35⟩]⟩,
  ⟨0x54, 1, 4, .rwb, 0x3e8, [⟨16, 0, 0x64, 0x186a0⟩]⟩,
  ⟨0x58, 1, 4, .ro, 0, []⟩,
  ⟨0x5c, 1, 4, .ro, 0, []⟩,
  ⟨0x60, 1, 4, .ro, 0, []⟩,
  ⟨0x64, 1, 4, .ro, 0, []⟩,
  ⟨0x68, 1, 4, .ro, 0, []⟩,
  ⟨0x6c, 1, 4, .ro, 0, []⟩,
  ⟨0x70, 1, 4, .ro, 0, []⟩,
  ⟨0x74, 1, 4, .ro, 0, []⟩,
  ⟨0x78, 1, 4, .ro, 0, []⟩,
  ⟨0x7c, 1, 4, .rwb, 0xc10, [⟨5, 0, 4, 0x30⟩, ⟨13, 8, 4, 0x30⟩]⟩,
  ⟨0x80, 1, 4, .ro, 0, []⟩]

/-- Registers of the LNKn page (R551): offset, count, stride, access, reset, writable fields. -/
def tblLNKn : List RegDef := [
  ⟨0x40, 1, 4, .ro, 0, []⟩,
  ⟨0x44, 1, 4, .ro, 0, []⟩,
  ⟨0x48, 1, 4, .rwb, 0, [⟨3, 0, 0, 0xf⟩, ⟨4, 4, 0, 1⟩]⟩,
  ⟨0x4c, 1, 4, .rwb, 3, [⟨2, 0, 0, 6⟩, ⟨4, 4, 0, 1⟩]⟩,
  ⟨0x50, 1, 4, .rw, 0, [⟨0, 0, 0, 1⟩, ⟨7, 4, 0, 0xf⟩, ⟨8, 8, 0, 1⟩, ⟨16, 16, 0, 1⟩]⟩,
  ⟨0x54, 1, 4, .ro, 0, []⟩,
  ⟨0x58, 1, 4, .rw, 0, [⟨6, 0, 0, 0x7f⟩]⟩,
  ⟨0x5c, 1, 4, .ro, 0, []⟩,
  ⟨0x60, 1, 4, .ro, 0, []⟩,
  ⟨0x64, 1, 4, .ro, 0, []⟩]

/-- Registers of the LNKCK page (R552): offset, count, stride, access, reset, writable fields. -/
def tblLNKCK : List RegDef := [
  ⟨0x40, 1, 4, .ro, 0, []⟩,
  ⟨0x44, 1, 4, .ro, 0, []⟩,
  ⟨0x48, 1, 4, .rwb, 1, [⟨0, 0, 0, 1⟩, ⟨4, 4, 0, 1⟩]⟩,
  ⟨0x4c, 1, 4, .ro, 0, []⟩,
  ⟨0x50, 1, 4, .ro, 0, []⟩]

/-- Registers of the MEM page (R585): offset, count, stride, access, reset, writable fields. -/
def tblMEM : List RegDef := [
  ⟨0x40, 1, 4, .ro, 0x10aa0001, []⟩,
  ⟨0x44, 1, 4, .ro, 0, []⟩,
  ⟨0x48, 1, 4, .ro, 0, []⟩,
  ⟨0x4c, 1, 4, .rwb, 0x110, [⟨7, 0, 1, 0xff⟩, ⟨8, 8, 0, 1⟩]⟩,
  ⟨0x50, 1, 4, .ro, 0, []⟩,
  ⟨0x54, 1, 4, .ro, 0, []⟩,
  ⟨0x58, 1, 4, .ro, 0, []⟩,
  ⟨0x5c, 1, 4, .ro, 0, []⟩,
  ⟨0x60, 1, 4, .ro, 0, []⟩,
  ⟨0x64, 1, 4, .rwb, 0x18, [⟨7, 0, 1, 0xa8⟩]⟩,
  ⟨0x68, 1, 4, .ro, 0, []⟩,
  ⟨0x6c, 1, 4, .ro, 0, []⟩,
  ⟨0x70, 1, 4, .ro, 0, []⟩,
  ⟨0x74, 1, 4, .rwb, 0x40, [⟨11, 0, 0x10, 0xfff⟩]⟩]

/-- Registers of the MEMT page (R587): offset, count, stride, access, reset, writable fields. -/
def tblMEMT : List RegDef := [
  ⟨0x40, 1, 4, .ro, 0x38, []⟩,
  ⟨0x44, 1, 4, .ro, 0, []⟩,
  ⟨0x48, 1, 4, .ro, 0, []⟩,
  ⟨0x4c, 1, 4, .rwb, 0x10, [⟨6, 0, 4, 0x64⟩]⟩,
  ⟨0x50, 1, 4, .ro, 0, []⟩,
  ⟨0x54, 1, 4, .ro, 0, []⟩,
  ⟨0x58, 1, 4, .ro, 0, []⟩,
  ⟨0x5c, 1, 4, .ro, 0, []⟩,
  ⟨0x60, 1, 4, .ro, 0, []⟩]

/-- Registers of the MEMF page (R588): offset, count, stride, access, reset, writable fields. -/
def tblMEMF : List RegDef := [
  ⟨0x40, 1, 4, .ro, 0, []⟩,
  ⟨0x44, 1, 4, .ro, 0, []⟩,
  ⟨0x48, 1, 4, .rwb, 0x40, [⟨9, 0, 0x10, 0x3e8⟩]⟩,
  ⟨0x4c, 1, 4, .ro, 0, []⟩,
  ⟨0x50, 1, 4, .ro, 0, []⟩,
  ⟨0x54, 1, 4, .ro, 0, []⟩,
  ⟨0x58, 1, 4, .rwb, 0x2000, [⟨15, 0, 0x400, 0x8000⟩]⟩,
  ⟨0x5c, 1, 4, .ro, 0, []⟩]

/-- Registers of the MEMX page (R589): offset, count, stride, access, reset, writable fields. -/
def tblMEMX : List RegDef := [
  ⟨0x40, 1, 4, .ro, 0, []⟩,
  ⟨0x44, 1, 4, .ro, 0, []⟩,
  ⟨0x48, 1, 4, .rwb, 4, [⟨7, 0, 1, 0x40⟩]⟩,
  ⟨0x4c, 1, 4, .ro, 0, []⟩]

/-- Registers of the SNS page (R128): offset, count, stride, access, reset, writable fields. -/
def tblSNS : List RegDef := [
  ⟨0x40, 1, 4, .rwb, 0x10, [⟨1, 0, 0, 2⟩, ⟨4, 4, 0, 1⟩]⟩,
  ⟨0x44, 1, 4, .rwb, 0x802, [⟨0, 0, 0, 1⟩, ⟨1, 1, 0, 1⟩, ⟨15, 8, 0, 0xff⟩]⟩,
  ⟨0x48, 1, 4, .rwb, 0x802, [⟨0, 0, 0, 1⟩, ⟨1, 1, 0, 1⟩, ⟨15, 8, 0, 0xff⟩]⟩,
  ⟨0x4c, 1, 4, .rwb, 0, [⟨19, 0, 0, 0xfffff⟩]⟩,
  ⟨0x50, 1, 4, .rwb, 0, [⟨19, 0, 0, 0xfffff⟩]⟩,
  ⟨0x54, 1, 4, .rwb, 0, [⟨1, 0, 0, 3⟩, ⟨2, 2, 0, 1⟩]⟩,
  ⟨0x58, 1, 4, .ro, 1, []⟩,
  ⟨0x5c, 1, 4, .ro, 0, []⟩,
  ⟨0x60, 1, 4, .ro, 0, []⟩,
  ⟨0x64, 1, 4, .ro, 0, []⟩,
  ⟨0x68, 1, 4, .ro, 0, []⟩,
  ⟨0x6c, 1, 4, .ro, 0, []⟩,
  ⟨0x70, 1, 4, .ro, 0x1900, []⟩,
  ⟨0x74, 1, 4, .ro, 0, []⟩,
  ⟨0x78, 1, 4, .ro, 0x10, []⟩,
  ⟨0x7c, 1, 4, .ro, 0, []⟩]

/-- Registers of the LOC page (R135): offset, count, stride, access, reset, writable fields. -/
def tblLOC : List RegDef := [
  ⟨0x40, 1, 4, .rwb, 1, [⟨0, 0, 0, 1⟩]⟩,
  ⟨0x44, 1, 4, .rwb, 0xc40, [⟨7, 0, 0, 0xff⟩, ⟨15, 8, 0, 0xff⟩]⟩,
  ⟨0x48, 1, 4, .rwb, 0xb506060, [⟨7, 0, 0, 0xff⟩, ⟨15, 8, 0, 0xff⟩, ⟨23, 16, 0, 0xff⟩, ⟨27, 24, 0, 0xf⟩]⟩,
  ⟨0x4c, 1, 4, .rwb, 0x18, [⟨7, 0, 0, 0xff⟩]⟩,
  ⟨0x50, 1, 4, .rwb, 0x3f806, [⟨7, 0, 0, 0xff⟩, ⟨17, 8, 0, 0x3ff⟩]⟩,
  ⟨0x54, 1, 4, .rwb, 0xbfbafff8, [⟨7, 0, 0, 0xff⟩, ⟨15, 8, 0, 0xff⟩, ⟨23, 16, 0, 0xbf⟩, ⟨31, 24, 0, 0xbf⟩]⟩,
  ⟨0x58, 1, 4, .ro, 0, []⟩,
  ⟨0x5c, 1, 4, .ro, 0, []⟩,
  ⟨0x60, 1, 4, .ro, 0, []⟩]

/-- Registers of the ROI page (R174): offset, count, stride, access, reset, writable fields. -/
def tblROI : List RegDef := [
  ⟨0x40, 1, 4, .rwb, 2, [⟨2, 0, 0, 4⟩]⟩,
  ⟨0x44, 1, 4, .ro, 0, []⟩,
  ⟨0x48, 1, 4, .ro, 0, []⟩,
  ⟨0x4c, 1, 4, .ro, 0, []⟩,
  ⟨0x50, 1, 4, .ro, 0, []⟩,
  ⟨0x54, 1, 4, .ro, 0, []⟩,
  ⟨0x58, 1, 4, .ro, 0, []⟩]

/-- Registers of the LOCX page (R139): offset, count, stride, access, reset, writable fields. -/
def tblLOCX : List RegDef := [
  ⟨0x40, 1, 4, .ro, 0, []⟩,
  ⟨0x44, 1, 4, .ro, 0, []⟩,
  ⟨0x48, 1, 4, .ro, 0, []⟩,
  ⟨0x4c, 1, 4, .rwb, 0x18, [⟨7, 0, 8, 0x40⟩]⟩,
  ⟨0x50, 1, 4, .rwb, 0x401, [⟨0, 0, 0, 1⟩, ⟨15, 8, 1, 0xc⟩]⟩,
  ⟨0x100, 64, 4, .ro, 0, []⟩,
  ⟨0x200, 1, 4, .ro, 0, []⟩,
  ⟨0x204, 1, 4, .ro, 0, []⟩,
  ⟨0x240, 8, 4, .ro, 0, []⟩,
  ⟨0x280, 64, 4, .ro, 0, []⟩]

/-- Registers of the DECn page (R181): offset, count, stride, access, reset, writable fields. -/
def tblDECn : List RegDef := [
  ⟨0x40, 1, 4, .ro, 0, []⟩,
  ⟨0x44, 1, 4, .ro, 0x40004000, []⟩,
  ⟨0x48, 1, 4, .ro, 0x4000, []⟩,
  ⟨0x4c, 1, 4, .ro, 0, []⟩,
  ⟨0x50, 1, 4, .ro, 0, []⟩,
  ⟨0x54, 1, 4, .ro, 0, []⟩,
  ⟨0x58, 1, 4, .ro, 0, []⟩,
  ⟨0x5c, 1, 4, .ro, 0, []⟩,
  ⟨0x60, 1, 4, .ro, 0, []⟩]

/-- Registers of the DECC page (R179): offset, count, stride, access, reset, writable fields. -/
def tblDECC : List RegDef := [
  ⟨0x40, 1, 4, .rwb, 0xff, [⟨7, 0, 0, 0xff⟩]⟩,
  ⟨0x44, 1, 4, .ro, 0xffff, []⟩,
  ⟨0x48, 1, 4, .ro, 0x30000, []⟩,
  ⟨0x4c, 1, 4, .ro, 0, []⟩,
  ⟨0x50, 1, 4, .rwb, 0x3c, [⟨15, 0, 1, 0xe10⟩]⟩,
  ⟨0x54, 1, 4, .ro, 0, []⟩]

/-- Registers of the CRU page (R176): offset, count, stride, access, reset, writable fields. -/
def tblCRU : List RegDef := [
  ⟨0x40, 1, 4, .rwb, 0x103, [⟨2, 0, 1, 4⟩, ⟨10, 8, 1, 4⟩]⟩,
  ⟨0x44, 1, 4, .rwb, 2, [⟨3, 0, 1, 0xf⟩]⟩,
  ⟨0x48, 1, 4, .rwb, 0xc, [⟨4, 0, 8, 0x10⟩]⟩,
  ⟨0x4c, 1, 4, .rwb, 7, [⟨0, 0, 0, 1⟩, ⟨1, 1, 0, 1⟩, ⟨2, 2, 0, 1⟩]⟩,
  ⟨0x50, 1, 4, .ro, 1, []⟩,
  ⟨0x54, 1, 4, .ro, 0, []⟩,
  ⟨0x58, 1, 4, .ro, 0, []⟩,
  ⟨0x5c, 1, 4, .ro, 0, []⟩,
  ⟨0x60, 1, 4, .ro, 0, []⟩,
  ⟨0x64, 1, 4, .ro, 0, []⟩,
  ⟨0x68, 1, 4, .ro, 0, []⟩,
  ⟨0x6c, 1, 4, .ro, 0, []⟩,
  ⟨0x70, 1, 4, .ro, 0, []⟩,
  ⟨0x74, 1, 4, .ro, 0, []⟩]

/-- Registers of the PDA page (R292): offset, count, stride, access, reset, writable fields. -/
def tblPDA : List RegDef := [
  ⟨0x40, 1, 4, .ro, 0, []⟩,
  ⟨0x44, 1, 4, .rwb, 0, [⟨7, 0, 0, 0xff⟩]⟩,
  ⟨0x48, 1, 4, .ro, 0, []⟩,
  ⟨0x100, 8, 16, .rwb, 0x12, [⟨2, 0, 0, 4⟩, ⟨6, 4, 0, 4⟩, ⟨9, 8, 0, 3⟩, ⟨14, 12, 0, 7⟩]⟩,
  ⟨0x104, 8, 16, .rwb, 0x3e8, [⟨16, 0, 0, 0x186a0⟩]⟩,
  ⟨0x108, 8, 16, .ro, 0, []⟩,
  ⟨0x10c, 8, 16, .rsv, 0, []⟩]

/-- Registers of the PDCn page (R295): offset, count, stride, access, reset, writable fields. -/
def tblPDCn : List RegDef := [
  ⟨0x40, 1, 4, .rwb, 0x103, [⟨2, 0, 0, 7⟩, ⟨5, 4, 0, 2⟩, ⟨8, 8, 0, 1⟩, ⟨15, 12, 0, 0xf⟩, ⟨16, 16, 0, 1⟩]⟩,
  ⟨0x44, 1, 4, .rwb, 0xf80, [⟨13, 0, 0, 0x3fff⟩]⟩,
  ⟨0x48, 1, 4, .ro, 0, []⟩,
  ⟨0x4c, 1, 4, .ro, 0x8000, []⟩,
  ⟨0x50, 1, 4, .ro, 0, []⟩,
  ⟨0x54, 1, 4, .ro, 0, []⟩,
  ⟨0x58, 1, 4, .ro, 0, []⟩,
  ⟨0x5c, 1, 4, .ro, 0, []⟩,
  ⟨0x60, 1, 4, .ro, 0, []⟩,
  ⟨0x64, 1, 4, .ro, 0, []⟩,
  ⟨0x68, 1, 4, .ro, 0, []⟩,
  ⟨0x6c, 1, 4, .ro, 0, []⟩,
  ⟨0x70, 1, 4, .ro, 0, []⟩]

/-- Registers of the PDC8 page (R295): of the table of PDC0 to PDC7, only these are defined. -/
def tblPDC8 : List RegDef := [
  ⟨0x60, 1, 4, .ro, 0, []⟩,
  ⟨0x64, 1, 4, .ro, 0, []⟩,
  ⟨0x68, 1, 4, .ro, 0, []⟩]

/-- Registers of the RSM page (R298, R321): offset, count, stride, access, reset, writable fields. -/
def tblRSM : List RegDef := [
  ⟨0x40, 1, 4, .ro, 0, []⟩,
  ⟨0x44, 1, 4, .ro, 0, []⟩,
  ⟨0x48, 1, 4, .ro, 0, []⟩,
  ⟨0x4c, 1, 4, .ro, 0, []⟩,
  ⟨0x50, 1, 4, .ro, 0, []⟩,
  ⟨0x54, 1, 4, .rw, 0, [⟨7, 0, 0, 0xff⟩, ⟨11, 8, 0, 0xf⟩]⟩,
  ⟨0x58, 1, 4, .ro, 0, []⟩,
  ⟨0x100, 1, 4, .rwb, 0x271, [⟨11, 0, 0x3f, 0xc35⟩]⟩,
  ⟨0x104, 1, 4, .rwb, 0x3d09, [⟨14, 0, 0x271, 0x493e⟩]⟩,
  ⟨0x108, 1, 4, .rwb, 0, [⟨31, 0, 0, 0xffffffff⟩]⟩,
  ⟨0x10c, 1, 4, .rwb, 0xf424, [⟨21, 0, 0xc35, 0x2faf08⟩]⟩,
  ⟨0x110, 1, 4, .ro, 0, []⟩,
  ⟨0x114, 1, 4, .ro, 0, []⟩,
  ⟨0x118, 1, 4, .ro, 0, []⟩,
  ⟨0x11c, 1, 4, .ro, 0, []⟩,
  ⟨0x120, 1, 4, .ro, 0, []⟩,
  ⟨0x124, 1, 4, .ro, 0, []⟩,
  ⟨0x128, 1, 4, .ro, 0, []⟩,
  ⟨0x12c, 1, 4, .ro, 0, []⟩,
  ⟨0x130, 1, 4, .ro, 0, []⟩,
  ⟨0x134, 1, 4, .ro, 0, []⟩,
  ⟨0x138, 1, 4, .ro, 0, []⟩]

/-- Registers of the FIR page (R297): offset, count, stride, access, reset, writable fields. -/
def tblFIR : List RegDef := [
  ⟨0x40, 1, 4, .ro, 0, []⟩,
  ⟨0x44, 1, 4, .rwb, 0, [⟨0, 0, 0, 1⟩, ⟨1, 1, 0, 1⟩]⟩,
  ⟨0x48, 1, 4, .rwb, 0x100, [⟨12, 0, 0x10, 0x1000⟩]⟩,
  ⟨0x4c, 1, 4, .ro, 0, []⟩,
  ⟨0x50, 1, 4, .ro, 0, []⟩,
  ⟨0x54, 1, 4, .ro, 0, []⟩,
  ⟨0x100, 32, 4, .rw, 0, [⟨17, 0, 0, 0x3ffff⟩]⟩,
  ⟨0x180, 32, 4, .rw, 0, [⟨17, 0, 0, 0x3ffff⟩]⟩]

/-- Registers of the LIT page (R434): offset, count, stride, access, reset, writable fields. -/
def tblLIT : List RegDef := [
  ⟨0x40, 1, 4, .rwb, 1, [⟨0, 0, 0, 1⟩]⟩,
  ⟨0x44, 1, 4, .rwb, 0x80, [⟨7, 0, 0, 0xff⟩]⟩,
  ⟨0x48, 1, 4, .rwb, 0xff, [⟨7, 0, 0, 0xff⟩, ⟨8, 8, 0, 1⟩]⟩,
  ⟨0x4c, 1, 4, .rwb, 0, [⟨22, 0, 0, 0x4c4b40⟩]⟩,
  ⟨0x50, 1, 4, .rwb, 0x3e8, [⟨13, 0, 0x32, 0x2710⟩]⟩,
  ⟨0x54, 1, 4, .rwb, 0x280014, [⟨5, 0, 5, 0x28⟩, ⟨23, 16, 0xa, 0xa0⟩]⟩,
  ⟨0x58, 1, 4, .rwb, 5, [⟨4, 0, 0, 0x19⟩]⟩,
  ⟨0x5c, 1, 4, .rwb, 0x64, [⟨13, 0, 0x64, 0x2710⟩]⟩,
  ⟨0x60, 1, 4, .rwb, 0xd6b1, [⟨1, 0, 0, 1⟩, ⟨15, 4, 0xbb8, 0x1194⟩]⟩,
  ⟨0x64, 1, 4, .ro, 0x1001900, []⟩,
  ⟨0x68, 1, 4, .ro, 0, []⟩,
  ⟨0x6c, 1, 4, .ro, 0, []⟩,
  ⟨0x70, 1, 4, .ro, 0, []⟩,
  ⟨0x74, 1, 4, .ro, 0, []⟩]

/-- Registers of the LITC page (R437): offset, count, stride, access, reset, writable fields. -/
def tblLITC : List RegDef := [
  ⟨0x40, 24, 4, .rwb, 0x70200, [⟨9, 0, 0, 0x3ff⟩, ⟨16, 16, 0, 1⟩, ⟨17, 17, 0, 1⟩, ⟨18, 18, 0, 1⟩]⟩,
  ⟨0x100, 24, 4, .ro, 0, []⟩]

/-- Registers of the PATn page (R438): offset, count, stride, access, reset, writable fields. -/
def tblPATn : List RegDef := [
  ⟨0x40, 1, 4, .rwb, 0, [⟨0, 0, 0, 1⟩, ⟨13, 8, 0, 0x3f⟩]⟩,
  ⟨0x44, 1, 4, .rwb, 1, [⟨1, 0, 0, 3⟩, ⟨4, 4, 0, 1⟩]⟩,
  ⟨0x48, 1, 4, .ro, 0x800, []⟩,
  ⟨0x4c, 1, 4, .ro, 0, []⟩,
  ⟨0x50, 1, 4, .ro, 0, []⟩,
  ⟨0x100, 64, 4, .rwb, 0, [⟨31, 0, 0, 0xffffffff⟩]⟩]

/-- Registers of the LITD page (R439): offset, count, stride, access, reset, writable fields. -/
def tblLITD : List RegDef := [
  ⟨0x40, 1, 4, .rwb, 0x10a, [⟨7, 0, 1, 0x64⟩, ⟨8, 8, 0, 1⟩]⟩,
  ⟨0x44, 1, 4, .rwb, 0x322828, [⟨7, 0, 0xa, 0x6e⟩, ⟨15, 8, 8, 0x50⟩, ⟨23, 16, 0x1e, 0x78⟩]⟩,
  ⟨0x48, 1, 4, .wo, 0, [⟨2, 0, 0, 7⟩, ⟨8, 4, 0, 0x17⟩, ⟨12, 12, 0, 1⟩]⟩,
  ⟨0x4c, 1, 4, .ro, 0xc000, []⟩,
  ⟨0x50, 1, 4, .ro, 0, []⟩,
  ⟨0x100, 8, 8, .ro, 0, []⟩,
  ⟨0x104, 8, 8, .ro, 0, []⟩]

/-- Registers of the TLY page (R361): offset, count, stride, access, reset, writable fields. -/
def tblTLY : List RegDef := [
  ⟨0x40, 1, 4, .ro, 0, []⟩,
  ⟨0x44, 1, 4, .ro, 0, []⟩,
  ⟨0x48, 1, 4, .ro, 0, []⟩,
  ⟨0x4c, 1, 4, .ro, 0, []⟩,
  ⟨0x50, 1, 4, .ro, 0, []⟩,
  ⟨0x54, 1, 4, .rwb, 0, [⟨0, 0, 0, 1⟩]⟩,
  ⟨0x58, 1, 4, .ro, 0, []⟩,
  ⟨0x5c, 1, 4, .rws, 0, [⟨7, 0, 1, 2⟩]⟩,
  ⟨0x60, 1, 4, .rws, 0, [⟨23, 0, 0, 0xffffff⟩]⟩,
  ⟨0x64, 1, 4, .ro, 0, []⟩]

/-- Registers of the TLYC page (R363): offset, count, stride, access, reset, writable fields. -/
def tblTLYC : List RegDef := [
  ⟨0x40, 1, 4, .rw, 0, [⟨13, 0, 0, 0x22a7⟩, ⟨16, 16, 0, 1⟩]⟩,
  ⟨0x44, 1, 4, .rws, 0, [⟨31, 0, 0, 0xffffffff⟩]⟩,
  ⟨0x48, 8, 4, .ro, 0, []⟩]

/-- Registers of the TLYA page (R364): offset, count, stride, access, reset, writable fields. -/
def tblTLYA : List RegDef := [
  ⟨0x40, 1, 4, .ro, 0, []⟩,
  ⟨0x44, 1, 4, .ro, 0, []⟩,
  ⟨0x48, 1, 4, .rw, 0, [⟨7, 0, 0, 0xff⟩, ⟨11, 8, 0, 0xf⟩]⟩,
  ⟨0x4c, 1, 4, .ro, 0, []⟩,
  ⟨0x50, 1, 4, .ro, 0, []⟩]

/-- Registers of the GPC page (R475): offset, count, stride, access, reset, writable fields. -/
def tblGPC : List RegDef := [
  ⟨0x40, 8, 4, .rwb, 0, [⟨2, 0, 0, 3⟩, ⟨3, 3, 0, 1⟩, ⟨4, 4, 0, 1⟩, ⟨10, 8, 0, 7⟩]⟩,
  ⟨0x60, 1, 4, .ro, 0, []⟩,
  ⟨0x80, 8, 16, .rwb, 0, [⟨0, 0, 0, 1⟩, ⟨1, 1, 0, 1⟩]⟩,
  ⟨0x84, 8, 16, .rwb, 0x4c4b4, [⟨31, 0, 0x139, 0xffffffff⟩]⟩,
  ⟨0x88, 8, 16, .rwb, 0, [⟨31, 0, 0, 0xffffffff⟩]⟩,
  ⟨0x8c, 8, 16, .rwb, 0, [⟨31, 0, 0, 0xffffffff⟩]⟩,
  ⟨0x100, 8, 4, .claim, 0, [⟨7, 0, 0, 0xff⟩, ⟨9, 8, 1, 3⟩]⟩,
  ⟨0x120, 8, 4, .claim, 0, [⟨7, 0, 0, 0xff⟩, ⟨9, 8, 1, 3⟩]⟩,
  ⟨0x140, 16, 4, .claim, 0, [⟨7, 0, 0, 0xff⟩, ⟨9, 8, 1, 3⟩]⟩,
  ⟨0x180, 1, 4, .claim, 0, [⟨7, 0, 0, 0xff⟩, ⟨9, 8, 1, 3⟩]⟩,
  ⟨0x184, 1, 4, .ro, 0, []⟩]

/-- Registers of the THM page (R648): offset, count, stride, access, reset, writable fields. -/
def tblTHM : List RegDef := [
  ⟨0x40, 1, 4, .ro, 0x19001900, []⟩,
  ⟨0x44, 1, 4, .ro, 0, []⟩,
  ⟨0x48, 1, 4, .rwb, 0x69, [⟨7, 0, 0x5a, 0x73⟩]⟩,
  ⟨0x4c, 1, 4, .ro, 0, []⟩,
  ⟨0x50, 1, 4, .ro, 1, []⟩,
  ⟨0x54, 1, 4, .ro, 0, []⟩]

/-- Registers of the HDR page (R446): offset, count, stride, access, reset, writable fields. -/
def tblHDR : List RegDef := [
  ⟨0, 1, 4, .ro, 0, []⟩,
  ⟨4, 1, 4, .ro, 0, []⟩,
  ⟨8, 1, 4, .ro, 0, []⟩,
  ⟨0xc, 1, 4, .rw, 0, [⟨0, 0, 0, 1⟩, ⟨1, 1, 0, 1⟩, ⟨8, 8, 0, 1⟩]⟩,
  ⟨0x10, 1, 4, .ro, 0, []⟩,
  ⟨0x14, 1, 4, .w1c, 0, [⟨31, 0, 0, 0xffffffff⟩]⟩,
  ⟨0x18, 1, 4, .rw, 0, [⟨31, 0, 0, 0xffffffff⟩]⟩,
  ⟨0x1c, 1, 4, .ro, 0, []⟩,
  ⟨0x20, 1, 4, .ro, 0, []⟩,
  ⟨0x24, 1, 4, .ro, 0, []⟩,
  ⟨0x28, 1, 4, .ro, 0, []⟩,
  ⟨0x2c, 1, 4, .ro, 0, []⟩,
  ⟨0x30, 4, 4, .rsv, 0, []⟩]

/-! The registers by name: page × 0x400 + offset (R18); of instanced pages `n` is the instance, of register arrays `i` the index. -/

abbrev Reg.ADM_PACE_NOW : Nat := 0x1040
abbrev Reg.ADM_PACE_PLAN : Nat := 0x1044
abbrev Reg.ADM_PACE_GUARD : Nat := 0x1048
abbrev Reg.ADM_CAPACITY : Nat := 0x104C
abbrev Reg.ADM_SHARES : Nat := 0x1050
abbrev Reg.ADM_MEM_CAP : Nat := 0x1054
abbrev Reg.ADM_LINK_CAP : Nat := 0x1058
abbrev Reg.ADM_LOAD_ENG : Nat := 0x105C
abbrev Reg.ADM_LOAD_MEM : Nat := 0x1060
abbrev Reg.ADM_LOAD_LINK : Nat := 0x1064
abbrev Reg.ADM_LIVE : Nat := 0x1068
abbrev Reg.ADM_SEQ : Nat := 0x106C
abbrev Reg.ADM_SHORTFALL : Nat := 0x1070
abbrev Reg.ADM_COUNTS : Nat := 0x1074
abbrev Reg.ADM_CANCEL : Nat := 0x1078
abbrev Reg.ADM_SOFT_TRIG : Nat := 0x107C
abbrev Reg.ADM_SPEC_USED : Nat := 0x1080
abbrev Reg.ADM_CAL_USED : Nat := 0x1084
abbrev Reg.ADM_COST (i : Nat) : Nat := 0x1100 + 4 * i
abbrev Reg.ADM_HIST_SEL : Nat := 0x1088
abbrev Reg.ADM_HIST_DATA : Nat := 0x108C
abbrev Reg.SNS_SENSOR_CFG : Nat := 0x6040
abbrev Reg.SNS_TRIG0_CFG : Nat := 0x6044
abbrev Reg.SNS_TRIG1_CFG : Nat := 0x6048
abbrev Reg.SNS_TRIG0_DELAY : Nat := 0x604C
abbrev Reg.SNS_TRIG1_DELAY : Nat := 0x6050
abbrev Reg.SNS_SYNC_CFG : Nat := 0x6054
abbrev Reg.SNS_EXP_STATUS : Nat := 0x6058
abbrev Reg.SNS_FRAMES : Nat := 0x605C
abbrev Reg.SNS_TRIG_TIME_LO : Nat := 0x6060
abbrev Reg.SNS_TRIG_TIME_HI : Nat := 0x6064
abbrev Reg.SNS_EOE_TIME_LO : Nat := 0x6068
abbrev Reg.SNS_EOE_TIME_HI : Nat := 0x606C
abbrev Reg.SNS_TEMP : Nat := 0x6070
abbrev Reg.SNS_DEFECTS : Nat := 0x6074
abbrev Reg.SNS_BLACK : Nat := 0x6078
abbrev Reg.SNS_MISSED : Nat := 0x607C
abbrev Reg.LOC_LOC_CFG : Nat := 0x6440
abbrev Reg.LOC_SEED_EDGE : Nat := 0x6444
abbrev Reg.LOC_SEED_SCORE : Nat := 0x6448
abbrev Reg.LOC_AMBIG : Nat := 0x644C
abbrev Reg.LOC_LEVELS : Nat := 0x6450
abbrev Reg.LOC_REF_AREA : Nat := 0x6454
abbrev Reg.LOC_MAP_STATUS : Nat := 0x6458
abbrev Reg.LOC_MAP_TIME : Nat := 0x645C
abbrev Reg.LOC_TILE_COUNTS : Nat := 0x6460
abbrev Reg.LOCX_SPARE_STATUS : Nat := 0x6C40
abbrev Reg.LOCX_SPARE_MAP_LO : Nat := 0x6C44
abbrev Reg.LOCX_SPARE_MAP_HI : Nat := 0x6C48
abbrev Reg.LOCX_DRIFT_LIMIT : Nat := 0x6C4C
abbrev Reg.LOCX_OFFSET_LOOP : Nat := 0x6C50
abbrev Reg.LOCX_TRIM (i : Nat) : Nat := 0x6D00 + 4 * i
abbrev Reg.LOCX_SPARE_TRIM0 : Nat := 0x6E00
abbrev Reg.LOCX_SPARE_TRIM1 : Nat := 0x6E04
abbrev Reg.LOCX_DEGRADED (i : Nat) : Nat := 0x6E40 + 4 * i
abbrev Reg.LOCX_FTRIM (i : Nat) : Nat := 0x6E80 + 4 * i
abbrev Reg.ROI_CFG : Nat := 0x6840
abbrev Reg.ROI_LAST_TILES : Nat := 0x6844
abbrev Reg.ROI_LAST_BANDS : Nat := 0x6848
abbrev Reg.ROI_LAST_END : Nat := 0x684C
abbrev Reg.ROI_CLIPPED : Nat := 0x6850
abbrev Reg.ROI_STAGING : Nat := 0x6854
abbrev Reg.ROI_PEAK_END : Nat := 0x6858
abbrev Reg.CRU_CLOSE : Nat := 0xCC40
abbrev Reg.CRU_CLUSTER : Nat := 0xCC44
abbrev Reg.CRU_HYPO : Nat := 0xCC48
abbrev Reg.CRU_SPEC_CTL : Nat := 0xCC4C
abbrev Reg.CRU_STATE : Nat := 0xCC50
abbrev Reg.CRU_CAND : Nat := 0xCC54
abbrev Reg.CRU_SPEC_STARTED : Nat := 0xCC58
abbrev Reg.CRU_SPEC_PROMOTED : Nat := 0xCC5C
abbrev Reg.CRU_SQ_GROWTH : Nat := 0xCC60
abbrev Reg.CRU_SQ_UNLISTED : Nat := 0xCC64
abbrev Reg.CRU_SQ_HYPO : Nat := 0xCC68
abbrev Reg.CRU_SQ_PREEMPT : Nat := 0xCC6C
abbrev Reg.CRU_SQ_OTHER : Nat := 0xCC70
abbrev Reg.CRU_UNTRIED : Nat := 0xCC74
abbrev Reg.DECC_SYM_ENABLE : Nat := 0xC840
abbrev Reg.DECC_ACTIVE : Nat := 0xC844
abbrev Reg.DECC_SPARE : Nat := 0xC848
abbrev Reg.DECC_RETIRED : Nat := 0xC84C
abbrev Reg.DECC_SHADOW : Nat := 0xC850
abbrev Reg.DECC_TASKS : Nat := 0xC854
abbrev Reg.DEC_STATE (n : Nat) : Nat := 0x8040 + 0x400 * n
abbrev Reg.DEC_PACE (n : Nat) : Nat := 0x8044 + 0x400 * n
abbrev Reg.DEC_PACE_REF (n : Nat) : Nat := 0x8048 + 0x400 * n
abbrev Reg.DEC_DRIFT (n : Nat) : Nat := 0x804C + 0x400 * n
abbrev Reg.DEC_DONE (n : Nat) : Nat := 0x8050 + 0x400 * n
abbrev Reg.DEC_SQUASHED (n : Nat) : Nat := 0x8054 + 0x400 * n
abbrev Reg.DEC_FAILED (n : Nat) : Nat := 0x8058 + 0x400 * n
abbrev Reg.DEC_BUSY (n : Nat) : Nat := 0x805C + 0x400 * n
abbrev Reg.DEC_STORE_ECC (n : Nat) : Nat := 0x8060 + 0x400 * n
abbrev Reg.ADM_POOL (i : Nat) : Nat := 0x1200 + 4 * i
abbrev Reg.ADM_POOL_ROUTE : Nat := 0x1240
abbrev Reg.ADM_POOL_HEAD : Nat := 0x1244
abbrev Reg.ADM_POOL_LOST : Nat := 0x1248
abbrev Reg.PDA_STATUS : Nat := 0xE040
abbrev Reg.PDA_FREEZE : Nat := 0xE044
abbrev Reg.PDA_INJ_STATUS : Nat := 0xE048
abbrev Reg.PDA_PRESET_CFG (i : Nat) : Nat := 0xE100 + 16 * i
abbrev Reg.PDA_PRESET_CORNER (i : Nat) : Nat := 0xE104 + 16 * i
abbrev Reg.PDA_PRESET_K (i : Nat) : Nat := 0xE108 + 16 * i
abbrev Reg.PDC_CFG (n : Nat) : Nat := 0xE440 + 0x400 * n
abbrev Reg.PDC_PHASE (n : Nat) : Nat := 0xE444 + 0x400 * n
abbrev Reg.PDC_TRIM_OFS (n : Nat) : Nat := 0xE448 + 0x400 * n
abbrev Reg.PDC_TRIM_GAIN (n : Nat) : Nat := 0xE44C + 0x400 * n
abbrev Reg.PDC_SETTLE (n : Nat) : Nat := 0xE450 + 0x400 * n
abbrev Reg.PDC_SETTLE_UNFREEZE (n : Nat) : Nat := 0xE454 + 0x400 * n
abbrev Reg.PDC_SUPPRESS (n : Nat) : Nat := 0xE458 + 0x400 * n
abbrev Reg.PDC_GROUP_DELAY (n : Nat) : Nat := 0xE45C + 0x400 * n
abbrev Reg.PDC_ADC_MAP (n : Nat) : Nat := 0xE460 + 0x400 * n
abbrev Reg.PDC_LAST (n : Nat) : Nat := 0xE464 + 0x400 * n
abbrev Reg.PDC_CLIPS (n : Nat) : Nat := 0xE468 + 0x400 * n
abbrev Reg.PDC_STAGE_SAT (n : Nat) : Nat := 0xE46C + 0x400 * n
abbrev Reg.PDC_DISTURBED (n : Nat) : Nat := 0xE470 + 0x400 * n
abbrev Reg.FIR_BANK_STATE : Nat := 0x10C40
abbrev Reg.FIR_BANK_REQ : Nat := 0x10C44
abbrev Reg.FIR_FADE_LEN : Nat := 0x10C48
abbrev Reg.FIR_FADE_POS : Nat := 0x10C4C
abbrev Reg.FIR_CHANGES : Nat := 0x10C50
abbrev Reg.FIR_REFUSED : Nat := 0x10C54
abbrev Reg.FIR_COEF_A (i : Nat) : Nat := 0x10D00 + 4 * i
abbrev Reg.FIR_COEF_B (i : Nat) : Nat := 0x10D80 + 4 * i
abbrev Reg.RSM_STATUS : Nat := 0x10840
abbrev Reg.RSM_PITCH : Nat := 0x10844
abbrev Reg.RSM_OUT_COUNT : Nat := 0x10848
abbrev Reg.RSM_UNMEASURED : Nat := 0x1084C
abbrev Reg.RSM_OVERSPEED : Nat := 0x10850
abbrev Reg.RSM_KERNEL_SEL : Nat := 0x10854
abbrev Reg.RSM_KERNEL_DATA : Nat := 0x10858
abbrev Reg.RSM_POS_GAP : Nat := 0x10900
abbrev Reg.RSM_POS_LATE : Nat := 0x10904
abbrev Reg.RSM_TIME_OFS : Nat := 0x10908
abbrev Reg.RSM_SWEEP_LEAD : Nat := 0x1090C
abbrev Reg.RSM_POS_COUNT : Nat := 0x10910
abbrev Reg.RSM_POS_DISCARD : Nat := 0x10914
abbrev Reg.RSM_POS_LATE_COUNT : Nat := 0x10918
abbrev Reg.RSM_POS_GAPS : Nat := 0x1091C
abbrev Reg.RSM_POS_LAST_LO : Nat := 0x10920
abbrev Reg.RSM_POS_LAST_HI : Nat := 0x10924
abbrev Reg.RSM_POS_AGE : Nat := 0x10928
abbrev Reg.RSM_POS_FILL : Nat := 0x1092C
abbrev Reg.RSM_SWEEPS : Nat := 0x10930
abbrev Reg.RSM_LINE : Nat := 0x10934
abbrev Reg.RSM_POS_SEQ_GAP : Nat := 0x10938
abbrev Reg.ID_DEVICE : Nat := 0x40
abbrev Reg.ID_TALLY_PK (i : Nat) : Nat := 0x80 + 4 * i
abbrev Reg.ID_TALLY_IDENT (i : Nat) : Nat := 0xA0 + 4 * i
abbrev Reg.ID_TALLY_ALG : Nat := 0xC0
abbrev Reg.TLY_STATE : Nat := 0x14040
abbrev Reg.TLY_SEGMENT : Nat := 0x14044
abbrev Reg.TLY_NEXT_SEQ : Nat := 0x14048
abbrev Reg.TLY_BLOCKS : Nat := 0x1404C
abbrev Reg.TLY_STORE : Nat := 0x14050
abbrev Reg.TLY_ROUTE : Nat := 0x14054
abbrev Reg.TLY_REFUSED_CAND : Nat := 0x14058
abbrev Reg.TLY_SEAL_CMD : Nat := 0x1405C
abbrev Reg.TLY_SEAL_ARG : Nat := 0x14060
abbrev Reg.TLY_SEAL_RESULT : Nat := 0x14064
abbrev Reg.TLYC_PARAM_SEL : Nat := 0x14440
abbrev Reg.TLYC_PARAM_DATA : Nat := 0x14444
abbrev Reg.TLYC_STAGED_IDENT (i : Nat) : Nat := 0x14448 + 4 * i
abbrev Reg.TLYA_COUNTER : Nat := 0x14840
abbrev Reg.TLYA_ENTRIES : Nat := 0x14844
abbrev Reg.TLYA_LOG_SEL : Nat := 0x14848
abbrev Reg.TLYA_LOG_DATA : Nat := 0x1484C
abbrev Reg.TLYA_REFUSED : Nat := 0x14850
abbrev Reg.ADM_CAL_CTL : Nat := 0x1300
abbrev Reg.ADM_CAL_LIT_CFG : Nat := 0x1304
abbrev Reg.ADM_CAL_PD_CFG : Nat := 0x1308
abbrev Reg.ADM_CAL_FIELD_X0 : Nat := 0x130C
abbrev Reg.ADM_CAL_FIELD_Y0 : Nat := 0x1310
abbrev Reg.ADM_CAL_FIELD_STEP : Nat := 0x1314
abbrev Reg.ADM_CAL_FIT : Nat := 0x1318
abbrev Reg.ADM_CAL_STATE : Nat := 0x131C
abbrev Reg.ADM_CAL_DEFERRED : Nat := 0x1320
abbrev Reg.ADM_CAMP0 : Nat := 0x1324
abbrev Reg.ADM_CAMP1 : Nat := 0x1328
abbrev Reg.ADM_CAMP_LATE : Nat := 0x132C
abbrev Reg.ADM_CAL_LIT_TRIM (i : Nat) : Nat := 0x1340 + 4 * i
abbrev Reg.ADM_CAL_LIT_REF (i : Nat) : Nat := 0x1360 + 4 * i
abbrev Reg.ADM_CAL_LIT_CMD : Nat := 0x1380
abbrev Reg.ADM_CAL_PATCH : Nat := 0x1384
abbrev Reg.LIT_CFG : Nat := 0x12040
abbrev Reg.LIT_CURRENT : Nat := 0x12044
abbrev Reg.LIT_STROBE_CTL : Nat := 0x12048
abbrev Reg.LIT_STROBE_START : Nat := 0x1204C
abbrev Reg.LIT_STROBE_WIDTH : Nat := 0x12050
abbrev Reg.LIT_PRECHARGE : Nat := 0x12054
abbrev Reg.LIT_ROW_LEAD : Nat := 0x12058
abbrev Reg.LIT_MUX : Nat := 0x1205C
abbrev Reg.LIT_THERM : Nat := 0x12060
abbrev Reg.LIT_THERM_STATUS : Nat := 0x12064
abbrev Reg.LIT_STATUS : Nat := 0x12068
abbrev Reg.LIT_LAST_FRAME : Nat := 0x1206C
abbrev Reg.LIT_VLED : Nat := 0x12070
abbrev Reg.LIT_CLAMPS : Nat := 0x12074
abbrev Reg.LITC_COL_CFG (i : Nat) : Nat := 0x12440 + 4 * i
abbrev Reg.LITC_COL_STAT (i : Nat) : Nat := 0x12500 + 4 * i
abbrev Reg.PAT_CTL (n : Nat) : Nat := 0x12840 + 0x400 * n
abbrev Reg.PAT_CFG (n : Nat) : Nat := 0x12844 + 0x400 * n
abbrev Reg.PAT_STATE (n : Nat) : Nat := 0x12848 + 0x400 * n
abbrev Reg.PAT_ROWS (n : Nat) : Nat := 0x1284C + 0x400 * n
abbrev Reg.PAT_ELAPSED (n : Nat) : Nat := 0x12850 + 0x400 * n
abbrev Reg.PAT_PROG (n : Nat) (i : Nat) : Nat := 0x12900 + 0x400 * n + 4 * i
abbrev Reg.LITD_DIAG : Nat := 0x13040
abbrev Reg.LITD_THRESH : Nat := 0x13044
abbrev Reg.LITD_RETEST : Nat := 0x13048
abbrev Reg.LITD_SUMMARY : Nat := 0x1304C
abbrev Reg.LITD_STRETCHES : Nat := 0x13050
abbrev Reg.LITD_STATE_LO (i : Nat) : Nat := 0x13100 + 8 * i
abbrev Reg.LITD_STATE_HI (i : Nat) : Nat := 0x13104 + 8 * i
abbrev Reg.HDR_PAGE_ID (page : Nat) : Nat := page * 0x400 + 0x0
abbrev Reg.HDR_PAGE_CAPS (page : Nat) : Nat := page * 0x400 + 0x4
abbrev Reg.HDR_STATUS (page : Nat) : Nat := page * 0x400 + 0x8
abbrev Reg.HDR_CONTROL (page : Nat) : Nat := page * 0x400 + 0xC
abbrev Reg.HDR_EVT_RAW (page : Nat) : Nat := page * 0x400 + 0x10
abbrev Reg.HDR_EVT_LATCH (page : Nat) : Nat := page * 0x400 + 0x14
abbrev Reg.HDR_EVT_ENABLE (page : Nat) : Nat := page * 0x400 + 0x18
abbrev Reg.HDR_FAULT (page : Nat) : Nat := page * 0x400 + 0x1C
abbrev Reg.HDR_DOMAIN (page : Nat) : Nat := page * 0x400 + 0x20
abbrev Reg.HDR_SPARE_MAP (page : Nat) : Nat := page * 0x400 + 0x24
abbrev Reg.HDR_BUNDLE_TAG (page : Nat) : Nat := page * 0x400 + 0x28
abbrev Reg.HDR_CLAIM (page : Nat) : Nat := page * 0x400 + 0x2C
abbrev Reg.GPC_GP_CFG (i : Nat) : Nat := 0x16040 + 4 * i
abbrev Reg.GPC_GP_IN : Nat := 0x16060
abbrev Reg.GPC_T_CTL (i : Nat) : Nat := 0x16080 + 16 * i
abbrev Reg.GPC_T_PERIOD (i : Nat) : Nat := 0x16084 + 16 * i
abbrev Reg.GPC_T_START_LO (i : Nat) : Nat := 0x16088 + 16 * i
abbrev Reg.GPC_T_START_HI (i : Nat) : Nat := 0x1608C + 16 * i
abbrev Reg.GPC_CLAIM_GP (i : Nat) : Nat := 0x16100 + 4 * i
abbrev Reg.GPC_CLAIM_T (i : Nat) : Nat := 0x16120 + 4 * i
abbrev Reg.GPC_CLAIM_POOL (i : Nat) : Nat := 0x16140 + 4 * i
abbrev Reg.GPC_CLAIM_LTEMP : Nat := 0x16180
abbrev Reg.GPC_TIMERS : Nat := 0x16184
abbrev Reg.EVT_PENDING (i : Nat) : Nat := 0x1440 + 4 * i
abbrev Reg.EVT_ROUTE : Nat := 0x1460
abbrev Reg.EVT_LOST : Nat := 0x1464
abbrev Reg.BND_CMD : Nat := 0xC40
abbrev Reg.BND_MINE : Nat := 0xC44
abbrev Reg.BND_LAST : Nat := 0xC48
abbrev Reg.BND_LAST_ABORT : Nat := 0xC4C
abbrev Reg.BND_ABORT_ADDR : Nat := 0xC50
abbrev Reg.BND_WAIT_LIMIT : Nat := 0xC54
abbrev Reg.BND_SLOT (i : Nat) : Nat := 0xC58 + 4 * i
abbrev Reg.BND_ENGINE : Nat := 0xC68
abbrev Reg.BND_COUNTS : Nat := 0xC6C
abbrev Reg.CHN_ADDR : Nat := 0x2440
abbrev Reg.CHN_MODE : Nat := 0x2444
abbrev Reg.CHN_HOP : Nat := 0x2448
abbrev Reg.CHN_HOP_LIMIT : Nat := 0x244C
abbrev Reg.CHN_RESP_LIMIT : Nat := 0x2450
abbrev Reg.CHN_FRAMES : Nat := 0x2454
abbrev Reg.CHN_REPEATED : Nat := 0x2458
abbrev Reg.CHN_ERRORS : Nat := 0x245C
abbrev Reg.CHN_SEC_ERRORS : Nat := 0x2460
abbrev Reg.CHN_TURNS : Nat := 0x2464
abbrev Reg.CHN_WAKES : Nat := 0x2468
abbrev Reg.SES_SLOT (i : Nat) : Nat := 0x840 + 4 * i
abbrev Reg.SES_COUNTER (i : Nat) : Nat := 0x850 + 4 * i
abbrev Reg.SES_IDLE_LIMIT : Nat := 0x860
abbrev Reg.SES_FAILS : Nat := 0x864
abbrev Reg.SES_KEYS : Nat := 0x868
abbrev Reg.SES_CLOSE : Nat := 0x86C
abbrev Reg.SES_OPENS : Nat := 0x870
abbrev Reg.LNK_STATE : Nat := 0x2840
abbrev Reg.LNK_CTL : Nat := 0x2844
abbrev Reg.LNK_RX_MAP : Nat := 0x2848
abbrev Reg.LNK_TX_MAP : Nat := 0x284C
abbrev Reg.LNK_REPLAY_LIMIT : Nat := 0x2850
abbrev Reg.LNK_RESP_LIMIT : Nat := 0x2854
abbrev Reg.LNK_RETRY_FILL : Nat := 0x2858
abbrev Reg.LNK_CREDIT : Nat := 0x285C
abbrev Reg.LNK_TX_PACKETS : Nat := 0x2860
abbrev Reg.LNK_RX_PACKETS : Nat := 0x2864
abbrev Reg.LNK_RX_ERRORS : Nat := 0x2868
abbrev Reg.LNK_REPLAYS : Nat := 0x286C
abbrev Reg.LNK_CONTESTED : Nat := 0x2870
abbrev Reg.LNK_TRAINS : Nat := 0x2874
abbrev Reg.LNK_FAILOVERS : Nat := 0x2878
abbrev Reg.LNK_EYE_MIN : Nat := 0x287C
abbrev Reg.LNK_RX_DISCARD : Nat := 0x2880
abbrev Reg.LNK_LANE_STATE (n : Nat) : Nat := 0x2C40 + 0x400 * n
abbrev Reg.LNK_CTLE (n : Nat) : Nat := 0x2C44 + 0x400 * n
abbrev Reg.LNK_CTLE_CFG (n : Nat) : Nat := 0x2C48 + 0x400 * n
abbrev Reg.LNK_TX_CFG (n : Nat) : Nat := 0x2C4C + 0x400 * n
abbrev Reg.LNK_EYE_CTL (n : Nat) : Nat := 0x2C50 + 0x400 * n
abbrev Reg.LNK_EYE_RESULT (n : Nat) : Nat := 0x2C54 + 0x400 * n
abbrev Reg.LNK_EYE_SEL (n : Nat) : Nat := 0x2C58 + 0x400 * n
abbrev Reg.LNK_EYE_DATA (n : Nat) : Nat := 0x2C5C + 0x400 * n
abbrev Reg.LNK_ERRORS (n : Nat) : Nat := 0x2C60 + 0x400 * n
abbrev Reg.LNK_SKEW (n : Nat) : Nat := 0x2C64 + 0x400 * n
abbrev Reg.LNKCK_CK_STATE : Nat := 0x4040
abbrev Reg.LNKCK_CK_FREQ : Nat := 0x4044
abbrev Reg.LNKCK_CK_CFG : Nat := 0x4048
abbrev Reg.LNKCK_CK_EVENTS : Nat := 0x404C
abbrev Reg.LNKCK_HOLDOVER : Nat := 0x4050
abbrev Reg.MEM_CONFIG : Nat := 0x4440
abbrev Reg.MEM_CAPACITY : Nat := 0x4444
abbrev Reg.MEM_ARCHIVE : Nat := 0x4448
abbrev Reg.MEM_PRED_CFG : Nat := 0x444C
abbrev Reg.MEM_PRED_STATS : Nat := 0x4450
abbrev Reg.MEM_BW : Nat := 0x4454
abbrev Reg.MEM_RT_WAIT : Nat := 0x4458
abbrev Reg.MEM_ECC_CORR : Nat := 0x445C
abbrev Reg.MEM_ECC_UNCORR : Nat := 0x4460
abbrev Reg.MEM_SCRUB_CFG : Nat := 0x4464
abbrev Reg.MEM_SCRUB_STATUS : Nat := 0x4468
abbrev Reg.MEM_DEVICE_A : Nat := 0x446C
abbrev Reg.MEM_DEVICE_B : Nat := 0x4470
abbrev Reg.MEM_PD_CFG : Nat := 0x4474
abbrev Reg.MEMT_TRAIN_STATUS : Nat := 0x4840
abbrev Reg.MEMT_TRAIN_TIME : Nat := 0x4844
abbrev Reg.MEMT_WAKE_TIME : Nat := 0x4848
abbrev Reg.MEMT_DQS_LIMIT : Nat := 0x484C
abbrev Reg.MEMT_DQS_A : Nat := 0x4850
abbrev Reg.MEMT_DQS_B : Nat := 0x4854
abbrev Reg.MEMT_TRACK : Nat := 0x4858
abbrev Reg.MEMT_VREF : Nat := 0x485C
abbrev Reg.MEMT_RETRAINS : Nat := 0x4860
abbrev Reg.MEMF_REF_A : Nat := 0x4C40
abbrev Reg.MEMF_REF_B : Nat := 0x4C44
abbrev Reg.MEMF_BURST_GAP : Nat := 0x4C48
abbrev Reg.MEMF_REF_COUNTS : Nat := 0x4C4C
abbrev Reg.MEMF_HOT : Nat := 0x4C50
abbrev Reg.MEMF_MAX_DEBT : Nat := 0x4C54
abbrev Reg.MEMF_DIST_LIMIT : Nat := 0x4C58
abbrev Reg.MEMF_DIST_COUNTS : Nat := 0x4C5C
abbrev Reg.MEMX_REMAP_A : Nat := 0x5040
abbrev Reg.MEMX_REMAP_B : Nat := 0x5044
abbrev Reg.MEMX_REMAP_LIMIT : Nat := 0x5048
abbrev Reg.MEMX_REMAP_CAUSE : Nat := 0x504C
abbrev Reg.PWR_STATE : Nat := 0x1840
abbrev Reg.PWR_CTL : Nat := 0x1844
abbrev Reg.PWR_CMD : Nat := 0x1848
abbrev Reg.PWR_GATE_DELAY : Nat := 0x184C
abbrev Reg.PWR_POWERED : Nat := 0x1850
abbrev Reg.PWR_HELD : Nat := 0x1854
abbrev Reg.PWR_WAKE_EN : Nat := 0x1858
abbrev Reg.PWR_WAKE_SRC : Nat := 0x185C
abbrev Reg.PWR_WAKE_TIME : Nat := 0x1860
abbrev Reg.PWR_WAKE_STEPS : Nat := 0x1864
abbrev Reg.PWR_COUNTS : Nat := 0x1868
abbrev Reg.PWR_STALL : Nat := 0x186C
abbrev Reg.TMB_STATUS : Nat := 0x1C40
abbrev Reg.TMB_TIME_LO : Nat := 0x1C44
abbrev Reg.TMB_TIME_HI : Nat := 0x1C48
abbrev Reg.TMB_AON_PERIOD : Nat := 0x1C4C
abbrev Reg.TMB_AON_COUNT : Nat := 0x1C50
abbrev Reg.TMB_TEMP : Nat := 0x1C54
abbrev Reg.TMB_UNCERT_LO : Nat := 0x1C58
abbrev Reg.TMB_UNCERT_HI : Nat := 0x1C5C
abbrev Reg.TMB_LAST_BOUND : Nat := 0x1C60
abbrev Reg.TMB_LAST_ADDED_LO : Nat := 0x1C64
abbrev Reg.TMB_LAST_ADDED_HI : Nat := 0x1C68
abbrev Reg.TMB_ALARM_LO : Nat := 0x1C6C
abbrev Reg.TMB_ALARM_HI : Nat := 0x1C70
abbrev Reg.TMB_ALARM_CTL : Nat := 0x1C74
abbrev Reg.TMB_SET_LO : Nat := 0x1C78
abbrev Reg.TMB_SET_HI : Nat := 0x1C7C
abbrev Reg.TMB_CTL : Nat := 0x1C80
abbrev Reg.SYS_STATE : Nat := 0x440
abbrev Reg.SYS_START_CTL : Nat := 0x444
abbrev Reg.SYS_FAILED_STARTS : Nat := 0x448
abbrev Reg.SYS_STARTS : Nat := 0x44C
abbrev Reg.SYS_START_HIST_A (i : Nat) : Nat := 0x450 + 8 * i
abbrev Reg.SYS_START_HIST_B (i : Nat) : Nat := 0x454 + 8 * i
abbrev Reg.SYS_FLOG_SEL : Nat := 0x480
abbrev Reg.SYS_FLOG_DATA : Nat := 0x484
abbrev Reg.SYS_FLOG_COUNT : Nat := 0x488
abbrev Reg.UST_SPARES_A : Nat := 0x2040
abbrev Reg.UST_SPARES_B : Nat := 0x2044
abbrev Reg.UST_SRAM : Nat := 0x2048
abbrev Reg.UST_RECOVERY : Nat := 0x204C
abbrev Reg.UST_LAST : Nat := 0x2050
abbrev Reg.UST_COUNTS : Nat := 0x2054
abbrev Reg.UST_LIMITS : Nat := 0x2058
abbrev Reg.UST_DEGRADED : Nat := 0x205C
abbrev Reg.THM_TEMP : Nat := 0x16440
abbrev Reg.THM_VCORE : Nat := 0x16444
abbrev Reg.THM_LIMITS : Nat := 0x16448
abbrev Reg.THM_HOURS : Nat := 0x1644C
abbrev Reg.THM_POWER_CYCLES : Nat := 0x16450
abbrev Reg.THM_HEALTH : Nat := 0x16454

/-- What the page index states of a page: block code, instance, power domain (as R448 codes it), its event bits and
whether it is one of several instances. -/
structure PageInfo where
  c1 : Char
  c2 : Char
  inst : Nat
  dom : Nat
  evts : Nat
  instanced : Bool
  tbl : List RegDef
deriving DecidableEq, Repr

/-- The page index of R451. -/
def pageInfo (p : Nat) : Option PageInfo :=
  if p = 0x00 then some ⟨'I', 'D', 0, 0, 0, false, tblID⟩
  else if p = 0x01 then some ⟨'S', 'Y', 0, 7, 0, false, tblSYS⟩
  else if p = 0x02 then some ⟨'S', 'E', 0, 7, 5, false, tblSES⟩
  else if p = 0x03 then some ⟨'B', 'N', 0, 7, 2, false, tblBND⟩
  else if p = 0x04 then some ⟨'A', 'D', 0, 7, 7, false, tblADM⟩
  else if p = 0x05 then some ⟨'E', 'V', 0, 7, 0, false, tblEVT⟩
  else if p = 0x06 then some ⟨'P', 'W', 0, 0, 5, false, tblPWR⟩
  else if p = 0x07 then some ⟨'T', 'M', 0, 0, 4, false, tblTMB⟩
  else if p = 0x08 then some ⟨'U', 'S', 0, 7, 7, false, tblUST⟩
  else if p = 0x09 then some ⟨'C', 'H', 0, 0, 4, false, tblCHN⟩
  else if p = 0x0A then some ⟨'L', 'N', 0, 6, 8, false, tblLNK⟩
  else if 0x0B ≤ p ∧ p ≤ 0x0F then some ⟨'L', 'L', p - 0x0B, 6, 0, true, tblLNKn⟩
  else if p = 0x10 then some ⟨'L', 'K', 0, 6, 2, false, tblLNKCK⟩
  else if p = 0x11 then some ⟨'M', 'C', 0, 5, 3, false, tblMEM⟩
  else if p = 0x12 then some ⟨'M', 'T', 0, 5, 4, false, tblMEMT⟩
  else if p = 0x13 then some ⟨'M', 'F', 0, 5, 2, false, tblMEMF⟩
  else if p = 0x14 then some ⟨'M', 'X', 0, 5, 2, false, tblMEMX⟩
  else if p = 0x18 then some ⟨'S', 'N', 0, 2, 3, false, tblSNS⟩
  else if p = 0x19 then some ⟨'L', 'O', 0, 2, 2, false, tblLOC⟩
  else if p = 0x1A then some ⟨'R', 'I', 0, 2, 3, false, tblROI⟩
  else if p = 0x1B then some ⟨'L', 'X', 0, 2, 3, false, tblLOCX⟩
  else if 0x20 ≤ p ∧ p ≤ 0x31 then some ⟨'D', 'E', p - 0x20, p - 0x10, 2, true, tblDECn⟩
  else if p = 0x32 then some ⟨'D', 'C', 0, 7, 1, false, tblDECC⟩
  else if p = 0x33 then some ⟨'C', 'R', 0, 7, 1, false, tblCRU⟩
  else if p = 0x38 then some ⟨'P', 'A', 0, 3, 9, false, tblPDA⟩
  else if 0x39 ≤ p ∧ p ≤ 0x40 then some ⟨'P', 'C', p - 0x39, 3, 0, true, tblPDCn⟩
  else if p = 0x41 then some ⟨'P', 'C', 8, 3, 0, true, tblPDC8⟩
  else if p = 0x42 then some ⟨'R', 'S', 0, 3, 7, false, tblRSM⟩
  else if p = 0x43 then some ⟨'F', 'I', 0, 3, 0, false, tblFIR⟩
  else if p = 0x48 then some ⟨'L', 'I', 0, 4, 7, false, tblLIT⟩
  else if p = 0x49 then some ⟨'L', 'C', 0, 4, 0, false, tblLITC⟩
  else if 0x4A ≤ p ∧ p ≤ 0x4B then some ⟨'P', 'T', p - 0x4A, 4, 0, true, tblPATn⟩
  else if p = 0x4C then some ⟨'L', 'D', 0, 4, 0, false, tblLITD⟩
  else if p = 0x50 then some ⟨'T', 'Y', 0, 1, 7, false, tblTLY⟩
  else if p = 0x51 then some ⟨'T', 'C', 0, 1, 0, false, tblTLYC⟩
  else if p = 0x52 then some ⟨'T', 'A', 0, 1, 0, false, tblTLYA⟩
  else if p = 0x58 then some ⟨'G', 'P', 0, 7, 0, false, tblGPC⟩
  else if p = 0x59 then some ⟨'T', 'H', 0, 0, 2, false, tblTHM⟩
  else none

/-- The register row of a table that covers a page offset. -/
def findDef (off : Nat) : List RegDef → Option RegDef
  | [] => none
  | d :: t =>
    if d.off ≤ off ∧ (off - d.off) % d.stride = 0 ∧ (off - d.off) / d.stride < d.count then some d else findDef off t

/-- The page and the offset of an address (R18). -/
def pageOf (a : Nat) : Nat := a / 0x400
/-- The offset of an address in its page (R18). -/
def offOf (a : Nat) : Nat := a % 0x400

/-- The register row at an address: a header register, a block register, or none for an unnamed offset (R442). -/
def regDef (a : Nat) : Option RegDef :=
  match pageInfo (pageOf a) with
  | none => none
  | some p => if offOf a < 0x40 then findDef (offOf a) tblHDR else findDef (offOf a) p.tbl

/-- The reset value of a register (R23): its row's, but for the taps 15 and 16 of each bank (R297), the lamp input's claim (R471),
and the outcome of the start that has just reached S7 (17 R628). -/
def resetOf (a : Nat) : Word :=
  if a = 0x10D3C ∨ a = 0x10D40 ∨ a = 0x10DBC ∨ a = 0x10DC0 then 0x10000
  else if a = 0x16180 then 0x11
  else if a = 0x450 then 0x10F
  else if a = 0x454 then 1
  else match regDef a with
    | some d => BitVec.ofNat 32 d.reset
    | none => 0

/-- The access of a register; an unnamed offset is treated as RSV (R442). -/
def accessOf (a : Nat) : Access :=
  match regDef a with
  | some d => d.acc
  | none => .rsv

/-- Does value `v` keep to the fields: every other bit 0 (R22) and every field in its range (R455)? -/
def fieldsOk (v : Nat) (fs : List Fld) : Bool :=
  fs.all (fun f => f.min ≤ fld v f.hi f.lo && fld v f.hi f.lo ≤ f.max) &&
  (fs.foldl (fun w f => putFld w f.hi f.lo 0) v == 0)

end Sys2Proof.Machine
end

