-- ==== Sys2Proof/Machine/State.lean ====
section
/-! DEFINITION. The machine's state as plain data: the queue of waiting commands and the engine itself, block by block,
and the state right after reset, which is the end of start phase S7 (00 R23). Registers whose value is only their own
live in `regs`; a register the engine computes from its blocks is read through readReg (Access). -/
namespace Sys2Proof.Machine

/-- No command of this block stops the machine: every command has an effect the spec gives, so a fault is never raised. -/
inductive Fault where
deriving DecidableEq, Repr

/-- Why a command has no meaning yet. -/
inductive Refusal where
  /-- raised by an arm of exec whose command is not modelled yet; safe: nothing is claimed of it -/
  | notModelled (mnemonic : String)
deriving DecidableEq, Repr

/-- A request on its way through the engine (13 R486, R492): the frame, its command code, its arrival, and the counter value
and session key it was accepted under (R501). -/
structure Call where
  r : Req
  cmd : Nat
  at_ : Nat
  ctr : Nat := 0
  ks : BitVec 128 := 0
deriving DecidableEq, Repr

/-! ### Time and power (16) -/

/-- The timestamp counter and the always-on timebase (16 R611 to R618). -/
structure TimeSt where
  /-- the interface ring runs, so the timestamp counter counts -/
  ringRuns : Bool := true
  /-- TMB.STATUS.valid -/
  valid : Bool := true
  /-- TMB.STATUS.nominal: no window has completed since AON power-up -/
  nominal : Bool := true
  /-- tick at which the last window of R611 ended, and at which the present one began -/
  windowAt : Option Nat := none
  windowFrom : Nat := 0
  /-- VDD_AON was lost: the counter starts from 0 when the ring first runs (R616) -/
  lost : Bool := false
  /-- AON count, modulo 2^48 -/
  aon : Nat := 0
  /-- the AON period, unsigned Q8.24 ticks -/
  period : Nat := 0x4E200000
  /-- T_e and A_e, captured at step 4 of R601 -/
  capT : Nat := 0
  capA : Nat := 0
  /-- STATUS.nominal at that capture -/
  capNominal : Bool := true
  /-- every temperature sample of this sleep lay within 5 °C of the window's -/
  tempOk : Bool := true
  /-- TMB.STATUS.excursion -/
  excursion : Bool := false
  /-- TMB.UNCERT, LAST_BOUND and LAST_ADDED -/
  uncert : Nat := 0
  lastBound : Nat := 0
  lastAdded : Nat := 0
  /-- TMB.SET_LO as last written -/
  setLo : Nat := 0
  /-- ticks that the ring has run since manufacture, which THM.HOURS shows in hours (17 R648; log 12) -/
  worked : Nat := 0
deriving DecidableEq, Repr

/-- One power domain: its switch, its ready signal, its clamps (16 R592, R593) and when its present wake began. -/
structure DomSt where
  powered : Bool := true
  ready : Bool := true
  clamped : Bool := false
  wakeAt : Nat := 0
  /-- tick of the last access, transfer or hold (R595) -/
  touched : Nat := 0
  /-- a restart of R637 is under way, since this tick -/
  restartAt : Option Nat := none
  /-- a gate is waiting for holds to end, since this tick (R597) -/
  gateAt : Option Nat := none
deriving DecidableEq, Repr

/-- Where the engine stands between Run and Off (16 R594, R600 to R609). -/
inductive PwrMode where
  /-- Run or Idle, as PWR.CTL.auto_gate states -/
  | run
  /-- entering Rosemary -/
  | entering
  /-- in Rosemary -/
  | rosemary
  /-- waking: the wake step under way, 1 to 4 (R606) -/
  | waking (step : Nat)
  /-- entering Off -/
  | enteringOff
  /-- the state of R609: every wake source disabled -/
  | off
  /-- PORST_N is asserted, or the supplies are gone -/
  | reset
deriving DecidableEq, Repr

/-- Power (16). -/
structure PwrSt where
  mode : PwrMode := .run
  /-- wake sources latched during entry, in order of arrival (R605) -/
  latched : List Nat := []
  /-- the frame the front end holds, and how many frames it had to drop or found it busy (13 R498) -/
  held : Option Call := none
  /-- requests answered after the wake with this status (R498) -/
  refused : List (Call × Nat) := []
  /-- time at the start of the wake, and at the start of its present step -/
  wakeFrom : Nat := 0
  stepFrom : Nat := 0
  /-- the engine must not start until the junction is below 110 °C (17 R640) -/
  hotStop : Bool := false
deriving DecidableEq, Repr

/-! ### Start, faults and spares (17) -/

/-- SYS.STATE [2:0] of 17 R645. -/
inductive SysMode where
  | starting | ready | coppice | halted
deriving DecidableEq, Repr

/-- One entry of SYS.FLOG (17 R642). -/
structure FlogEntry where
  code : Nat
  page : Nat
  count : Nat
  time : Nat
  start : Nat
deriving DecidableEq, Repr

/-- The start machine (17 R625 to R630). -/
structure SysSt where
  mode : SysMode := .ready
  phase : Nat := 7
  coppiceStart : Bool := false
  /-- the Coppice engine's index -/
  coppiceEng : Nat := 0
  /-- a failed start waits its 100 ms (R627), since this tick -/
  retryAt : Option Nat := none
  flog : List FlogEntry := []
deriving DecidableEq, Repr

/-- The kinds of spare of 17 R631 and the domain restart, coded as UST.RECOVERY codes them. -/
inductive SpareKind where
  | engine | column | lane | adc | row | sram | key | sink | domain
deriving DecidableEq, Repr

/-- One recovery or one queued offer (17 R635). -/
structure Recovery where
  kind : SpareKind
  /-- the unit: engine, column, lane (16 + lane for transmit), ADC, row number of the memory's table, macro, slot, sink half, domain -/
  u : Nat
  /-- a wear offer, whose unit still works -/
  wear : Bool
  /-- tick at which the recovery started -/
  since : Nat
  escalated : Bool := false
deriving DecidableEq, Repr

/-- Understory (17 R631 to R638). -/
structure UstSt where
  /-- the recovery under way first, the queue behind it -/
  queue : List Recovery := []
  running : Bool := false
  /-- spare rows in use, by SRAM macro -/
  sramUsed : List (Nat × Nat) := []
  /-- the domain that restarts for the recovery at the head (R637) -/
  restarting : Option Nat := none
  /-- key slots served from a spare slot (13 R509) -/
  keySpared : List Nat := []
  /-- engines marked suspect (R634) -/
  suspect : List Nat := []
deriving DecidableEq, Repr

/-! ### Bundles, claims, timers, events (12) -/

/-- A session's bundle: its staged writes, its commit point (0 immediate, 1 next frame, 2 next sweep) and when it
closed (12 R452 to R459). -/
structure Bundle where
  id : Nat
  slot : Nat
  writes : List (Nat × Word) := []
  point : Nat := 0
  closedAt : Nat := 0
  /-- the role of its session, which R472 asks for again at the commit -/
  role : Nat := 0
  /-- its session has closed: what it locks is locked to no session of today (R458, R461) -/
  orphan : Bool := false
deriving DecidableEq, Repr

/-- What one of the engine's own bundles writes (12 R462). -/
inductive EngAct where
  /-- a register that is RO to the host -/
  | reg (addr : Nat) (v : Word)
  /-- a locator column is degraded (03 R124) -/
  | degrade (col : Nat)
  /-- trims of locator columns (256 + g: of the spare of group g), as differences from the factory trim (03 R121) -/
  | locTrims (l : List (Nat × Int))
  /-- the offset and gain trims of a photodiode channel (10 R377) -/
  | pdTrim (ch ofs gain : Nat)
  /-- the trim of an illumination sector (10 R372) -/
  | litTrim (sector trim : Nat)
  /-- a reference of an illumination sector (10 R373) -/
  | litRef (sector ref : Nat)
  /-- a receive lane's equaliser setting (14 R546) -/
  | laneEq (lane peak : Nat)
  /-- the latch of a ZQ calibration, or a write-DQ delay correction (15 R581) -/
  | zqLatch
  | dqs (ch rank ps : Nat)
  /-- the insertion of a spare (17 R631) -/
  | spare (kind : SpareKind) (u : Nat)
  /-- a new row mapping (15 R578) -/
  | remap (ch : Nat)
  /-- Tally's parameter block after a reseal (09 R355) -/
  | tallyParam
deriving DecidableEq, Repr

/-- A waiting bundle of the engine's own; `point` 0 — a safe point of its own, 1 — next frame, 2 — next sweep, 3 — whichever
of the two comes first. -/
structure EngBundle where
  point : Nat
  act : EngAct
deriving DecidableEq, Repr

/-- What BND shows one caller of his last bundles (12 R477). -/
structure BndCaller where
  last : Nat := 0
  lastAbort : Nat := 0
  abortAddr : Nat := 0
  /-- the tick, the commit point and the tag of a bundle that expired last (R460) -/
  expired : Option (Nat × Nat × Nat) := none
deriving DecidableEq, Repr

/-- The bundle manager (12 R452 to R466). -/
structure BndSt where
  /-- the open bundle of each slot -/
  opened : List (Option Bundle) := [none, none, none, none]
  /-- waiting bundles of every slot, in order of close -/
  waiting : List Bundle := []
  eng : List EngBundle := []
  /-- acts of the engine's own that wait for one of its 8 slots (R452) -/
  engWait : List EngBundle := []
  /-- the next tag of R457 -/
  nextTag : Nat := 1
  nextId : Nat := 0
  callers : List BndCaller := [{}, {}, {}, {}]
  /-- the last committed value of every RWB register that differs from its reset value (R465) -/
  shadow : List (Nat × Word) := []
deriving DecidableEq, Repr

/-- One event notice (13 R496). -/
structure Notice where
  seq : Nat
  code : Nat
  page : Nat
  bit : Nat
  time : Nat
deriving DecidableEq, Repr

/-- Event notices (13 R496). -/
structure EvtSt where
  nextSeq : Nat := 0
  /-- notices held for EVENT_READ, oldest first -/
  held : List Notice := []
  /-- notices waiting for the link's EVENT packets -/
  toLink : List Notice := []
deriving DecidableEq, Repr

/-- A timer of 12 R474: its next firing, if it has one, whether its pin pulse runs, and since when. -/
structure TimerSt where
  next : Option Nat := none
  pulse : Bool := false
  firedAt : Nat := 0
deriving DecidableEq, Repr

/-- Pins and timers (12 R467 to R475). -/
structure GpcSt where
  timers : List TimerSt := List.replicate 8 {}
  /-- level seen on each GP pin -/
  level : List Bool := List.replicate 8 false
deriving DecidableEq, Repr

/-- The levels of the pins the engine drives, as R449, R475 and 03 R132 give them. -/
structure PinSt where
  /-- EVT_N is driven low -/
  evtLow : Bool := false
  /-- each GP pin: none — not driven -/
  gp : List (Option Bool) := List.replicate 8 none
  /-- SYNC_OUT -/
  sync : Bool := false
  /-- the transmit lanes LTX are driven, and FCKOP/N -/
  lanes : Bool := true
  fcko : Bool := false
  /-- DRAM CKE by channel and rank, and RESET_N -/
  cke : List (List Bool) := [[false], [false]]
  resetN : Bool := false
deriving DecidableEq, Repr

/-! ### Chain and sessions (13) -/

/-- A role key's slot: empty, the factory Service key, or a key that was set (13 R507). -/
inductive Key where
  | empty
  | factory
  | value (k : BitVec 128)
deriving DecidableEq, Repr

/-- SES.SLOTn [1:0] of 13 R513. -/
inductive SlotState where
  | free | challenged | opened
deriving DecidableEq, Repr

/-- One session slot (13 R500 to R504). -/
structure SesSlot where
  st : SlotState := .free
  role : Nat := 0
  /-- the port it was opened on: true — the link -/
  link : Bool := false
  counter : Nat := 0
  ks : BitVec 128 := 0
  nh : BitVec 128 := 0
  nd : BitVec 128 := 0
  /-- when it was challenged; when it last accepted a request -/
  since : Nat := 0
deriving DecidableEq, Repr

/-- The request a slot answered last, byte for byte, and the answer kept for it (13 R493). -/
structure Kept where
  asked : List Byte := []
  answer : List Byte := []
  valid : Bool := false
deriving DecidableEq, Repr

/-- Sessions and keys (13 R500 to R509). -/
structure SesSt where
  slots : List SesSlot := [{}, {}, {}, {}]
  opKey : Key := .empty
  svcKey : Key := .factory
  sealKey : Key := .empty
  /-- slots whose last challenge expired unproved, so that a late proof is answered with 0x9037 (R500) -/
  expired : List Nat := []
  /-- consecutive failed proofs, by role 1 to 3 -/
  fails : List Nat := [0, 0, 0, 0]
  /-- when the backoff of a role began (R505) -/
  backoff : List (Option Nat) := [none, none, none, none]
  /-- challenges answered so far: the index of the next fresh nonce -/
  nonces : Nat := 0
  /-- kept answers: slots 0 to 3, and 4 for requests without a session -/
  kept : List Kept := [{}, {}, {}, {}, {}]
deriving DecidableEq, Repr

/-- An access that waits for a gated domain (12 R443, 16 R599), and how far its request has come. -/
inductive Pending where
  | read (who : Who) (addr : Nat)
  | write (who : Who) (addr : Nat) (v : Word)
  /-- a REG_READ or REG_WRITE with `done` registers carried out and the values read so far -/
  | req (c : Call) (done : Nat) (vals : List Byte)
deriving DecidableEq, Repr

/-- A stalled access: its domain and when it stalled. -/
structure Stall where
  dom : Nat
  since : Nat
  what : Pending
deriving DecidableEq, Repr

/-- A frame on its way out of a hop: since when, and its symbols, 9 to a character, SOF and EOF with it (13 R483, R485). -/
structure HopSend where
  cho : Bool
  since : Nat
  symbols : Nat
deriving DecidableEq, Repr

/-- The chain (13 R480 to R499): its counters and flags stand in the CHN page's registers. -/
structure ChnSt where
  /-- frames that may still be on their way out -/
  sending : List HopSend := []
  /-- when the engine last asked to turn the CHI hop and the CHO hop (R484) -/
  turned : List (Option Nat) := [none, none]
  /-- stalled accesses, oldest first -/
  stalls : List Stall := []
deriving DecidableEq, Repr

/-- What leaves the engine on its ports during one command. -/
inductive Wire where
  /-- a frame on the chain, out of the CHO side (true) or the CHI side -/
  | chain (cho : Bool) (bytes : List Byte)
  /-- the frame under way on a hop is dropped or lost: nothing more of it leaves (13 R483, R484) -/
  | chainCut (cho : Bool)
  /-- the blocks of a packet, SOP and data, 8 bytes each, dealt to the active lanes in stripe order (14 R521, R523) -/
  | stream (bytes : List Byte)
  /-- a control block of 8 bytes on a physical transmit lane (14 R520) -/
  | block (lane : Nat) (bytes : List Byte)
deriving DecidableEq, Repr

/-- The outcome of the last single register access (12 R440): status, and the value of a read. -/
structure AccSt where
  stalled : Bool := false
  status : Nat := 0
  value : Nat := 0
deriving DecidableEq, Repr

/-! ### The lane link (14) -/

/-- What a packet in the retry buffer carries, so that its acknowledgement can release it (14 R532, R538). -/
inductive PktSrc where
  | answer
  | event
  | pool (p seq : Nat)
  | meas (seq : Nat)
  | blockSeal (first : Nat)
  | corr (tag : Nat) (size : Nat)
  | bulk (tag unit kind : Nat)
deriving DecidableEq, Repr

/-- A sequenced packet in the retry buffer. -/
structure Pkt where
  lseq : Nat
  ptype : Nat
  payload : List Byte
  sentAt : Nat
  src : PktSrc
deriving DecidableEq, Repr

/-- LNK.STATE.state of 14 R549. -/
inductive LinkState where
  | down | detect | clock | align | eq | confirm | up | limpTrain | limpUp | standalone
deriving DecidableEq, Repr

/-- The roles of a lane in one direction (14 R551). -/
inductive LaneRole where
  | off | active | spare | failed
deriving DecidableEq, Repr

/-- One physical lane (14 R551). -/
structure LaneSt where
  rx : LaneRole := .off
  tx : LaneRole := .off
  lock : Bool := false
  aligned : Bool := false
  inverted : Bool := false
  partner : Nat := 0
  /-- the eye points of the last scan, as the 128 words of EYE_DATA -/
  eye : List Word := []
  /-- an eye scan was asked for (R544) -/
  scanAsked : Bool := false
  /-- consecutive scans below LNK.EYE_MIN (R543) -/
  lowEyes : Nat := 0
  /-- the next trial step of R546, and the open points found at the setting in force -/
  trial : Nat := 0
  openPts : Nat := 0
deriving DecidableEq, Repr

/-- The link (14). -/
structure LnkSt where
  state : LinkState := .up
  lanes : List LaneSt := List.replicate 4 { rx := .active, tx := .active, lock := true, aligned := true } ++
    [{ rx := .spare, tx := .spare, lock := true, aligned := true }]
  lastPhase : Nat := 5
  attempt : Nat := 1
  limpAttempt : Nat := 0
  mapVer : Nat := 1
  /-- the map version of the engine's own direction, and the last ALIGN stripe that set its schedule: tick and stripe count
  (R521, R541) -/
  txVer : Nat := 1
  stripeAt : Nat := 0
  stripeNo : Nat := 0
  /-- the phase of training under way, coded as TRAIN byte 1, and when it began -/
  phase : Nat := 5
  phaseAt : Nat := 0
  /-- lseq of the next packet sent; lseq expected next -/
  txSeq : Nat := 0
  rxSeq : Nat := 0
  retry : List Pkt := []
  /-- packets of the retry buffer whose replay waits for credit (R531) -/
  replayQ : List Nat := []
  /-- when the replay timer started (R532) -/
  replayFrom : Nat := 0
  /-- when the timer last replayed (R533) -/
  replayedAt : Option Nat := none
  /-- bytes the partner's last credit still allows, and the credit last granted to it -/
  creditLeft : Nat := 0
  granted : Nat := 0
  /-- packets accepted since the last ACK sent -/
  unacked : Nat := 0
  /-- a NAK for the expected lseq was sent at this tick -/
  nakAt : Option Nat := none
  lastAckIn : Nat := 0
  lastAckOut : Nat := 0
  lastCrcEvt : Option Nat := none
  /-- answers waiting to be sent: ptype and payload -/
  answers : List (Nat × List Byte) := []
  /-- the next turn of the round robin of R534: 0 to 15 pools, 16 measurement store, 17 correction store -/
  turn : Nat := 0
  /-- the lane failover under way: tick of the fault (R541) -/
  faultAt : Option Nat := none
  /-- the lane the equalisation loop scans next (R546) -/
  eqLane : Nat := 0
  /-- forwarded clock present, lock, ring source is the forwarded clock, holdover since, absent since -/
  ckPresent : Bool := true
  ckLocked : Bool := true
  ckForward : Bool := true
  holdover : Option Nat := none
  absentAt : Option Nat := none
deriving DecidableEq, Repr

/-! ### External memory (15) -/

/-- One bank: its predictor (R569), its open row, when it was last accessed, and its disturbance table (R574). -/
structure BankSt where
  pred : Nat := 2
  row : Option Nat := none
  isOpen : Bool := false
  touched : Nat := 0
  dist : List (Nat × Nat) := []
  sparesUsed : Nat := 0
deriving DecidableEq, Repr

/-- One rank of a channel: refresh (R570), its refresh window (R574) and its banks. -/
structure RankSt where
  mr4 : Nat := 3
  debt : Int := 0
  nextDue : Nat := 1220
  down : Bool := false
  /-- a catch-up of R573 waits for a chunk boundary, since this tick -/
  catchUp : Option Nat := none
  /-- a refresh must be inserted at the next chunk boundary (R571) -/
  insertDue : Bool := false
  touched : Nat := 0
  winAt : Nat := 0
  /-- the highest disturbance entry of this window -/
  distMax : Nat := 0
  banks : List BankSt := List.replicate 8 {}
  /-- the DQS-to-DQ delay in force, ps -/
  dqsDelay : Nat := 0
  /-- the tick of the last MR4 read (R572) -/
  mr4At : Nat := 0
deriving DecidableEq, Repr

/-- A row whose copy into a spare runs or waits for its mapping (15 R578); `retire` — into the archive ring, since its
bank has no spare left (R579). -/
structure RowCopy where
  rank : Nat
  bank : Nat
  row : Nat
  /-- the remap was caused by an uncorrectable word -/
  uncorr : Bool
  retire : Bool := false
  done : Bool := false
deriving DecidableEq, Repr

/-- One channel. -/
structure MemCh where
  ranks : List RankSt := [{}]
  /-- a real-time burst holds the channel (R570), and the tick at which its last chunk ended -/
  burst : Bool := false
  chunkEnd : Nat := 0
  /-- the master of the burst, and the rank and bank of its last chunk -/
  burstBy : MemWho := .sensor
  chunkAt : Nat × Nat := (0, 0)
  /-- rows remapped: rank, bank, row; and the spare row that serves each (R578) -/
  remapped : List ((Nat × Nat × Nat) × Nat) := []
  retired : Nat := 0
  /-- corrected errors by row since it was last written in full -/
  errors : List ((Nat × Nat × Nat) × Nat) := []
  /-- rows offered for an uncorrectable word -/
  uncorr : List (Nat × Nat × Nat) := []
  copies : List RowCopy := []
  /-- spare rows in use -/
  spares : Nat := 0
  /-- a row of the channel has been retired (R579) -/
  exhausted : Bool := false
  /-- neighbour refreshes waiting for a chunk boundary: rank, bank, row -/
  neighbours : List (Nat × Nat × Nat) := []
deriving DecidableEq, Repr

/-- What lies in the external memory (R563). -/
inductive MemData where
  /-- tile maps; region buffers; full-frame pixels; profile words; a campaign's fit store -/
  | mapRow | tile | band | profile | fit
deriving DecidableEq, Repr

/-- A stream of data (R564): what it is, the job and the frame or sweep it belongs to, and for profile words their channel. -/
structure Stream where
  kind : MemData
  jobSeq : Nat
  unit : Nat
  sub : Nat := 0
deriving DecidableEq, Repr

/-- Bytes of a stream that its real-time master has still to write (03 R98; 04 R154; 07 R287; 15 R566). -/
structure Owed where
  of_ : Stream
  bytes : Nat
deriving DecidableEq, Repr

/-- A data row that holds a unit of a stream (R563, R564): which unit, and how many of its 2 048 bytes are written. -/
structure RowHeld where
  at_ : RowAt
  of_ : Stream
  part : Nat
  fill : Nat
deriving DecidableEq, Repr

/-- An uncorrectable word of a stream's data (R577): its number in the stream, and its bits that are wrong. -/
structure BadWord where
  kind : MemData
  word : Nat
  bits : List Nat
deriving DecidableEq, Repr

/-- What the controller writes to the devices' mode registers in training (R557): burst length, write preamble and latencies in tCK,
DBI, drive and termination as divisors of RZQ, the pull-up calibration point in tenths of VDDQ, the data mask, the VREF output, CA ODT on
rank 0, and the oscillator's run time in tCK. -/
structure ModeRegs where
  burstLength : Nat := 16
  writePre : Nat := 2
  readLatency : Nat
  writeLatency : Nat
  nWR : Nat
  readDbi : Bool := true
  writeDbi : Bool := true
  pullDown : Nat := 6
  pullUp : Nat := 6
  dqOdt : Nat := 5
  caOdt : Nat := 3
  socOdt : Nat := 4
  caOdtRank0 : Bool := true
  dataMask : Bool := false
  vrefOut : Bool := false
  oscRun : Nat := 512
deriving DecidableEq, Repr

/-- External memory (15). -/
structure MemSt where
  chans : List MemCh := [{}, {}]
  /-- archive slots in service, and retired -/
  slots : Nat := 63
  retiredSlots : Nat := 0
  /-- slots held by frames: admission sequence and unit numbers -/
  held : List (Nat × Nat) := []
  lastCorrEvt : Option Nat := none
  /-- a ZQ calibration has started and waits for its latch (R581) -/
  zqWaiting : Bool := false
  /-- counts of this millisecond: accesses to the remembered row, other accesses, raw bytes moved, of them real-time -/
  hits : Nat := 0
  misses : Nat := 0
  moved : Nat := 0
  rtMoved : Nat := 0
  /-- what the real-time masters have still to write, oldest first -/
  owed : List Owed := []
  /-- the data rows that hold data, in the order they were taken (R563, R564) -/
  rows : List RowHeld := []
  /-- scrub (R576): when its period began, the rows read in it, and whether its pass is complete -/
  scrubFrom : Nat := 0
  scrubbed : List RowAt := []
  passDone : Bool := false
  /-- the mode registers, once they have been written (R557) -/
  modes : Option ModeRegs := none
deriving DecidableEq, Repr

/-! ### Jobs and results (02, 06) -/

/-- HIST state of 02 R90. -/
inductive JobEnd where
  | live | lastDelivery | cancelled | armTimeout
deriving DecidableEq, Repr

/-- A live job: its descriptor and mark list as submitted (02 R45 to R49), and what has become of it since. -/
structure Job where
  seq : Nat
  desc : List Byte
  /-- tick of acceptance -/
  acceptedAt : Nat
  /-- exposure: frames taken (02 R46); sweep: 1 once its boundary has passed -/
  taken : Nat := 0
  /-- no further trigger: cancelled or armed out, with the cause (02 R82, R682) -/
  stopped : JobEnd := .live
  /-- end of the interval: the next trigger is on time from this tick (02 R79) -/
  nextOk : Nat := 0
  /-- start of the arm timeout (02 R682) -/
  armAt : Nat := 0
  /-- groups lost since the last stored group (06 R240) -/
  lost : Nat := 0
deriving DecidableEq, Repr

/-- One answer of the admission history (02 R90). -/
structure HistEntry where
  tag : Nat
  seq : Nat
  verdict : Nat
  state : Nat
  fault : Nat
  time : Nat
deriving DecidableEq, Repr

/-- A stored record: its pool_seq, its bytes, the job it belongs to, and when its group committed (06 R239). -/
structure Rec where
  seq : Nat
  jobSeq : Nat
  unitSeq : Nat
  bytes : List Byte
  /-- order of commit over all pools, for ADM.POOL_HEAD -/
  order : Nat
  /-- bytes of the whole group it belongs to, which are freed together (R239) -/
  groupBytes : Nat := 0
  /-- sent on the link and not yet acknowledged -/
  sent : Bool := false
deriving DecidableEq, Repr

/-- One pool (06 R239 to R241). -/
structure PoolSt where
  recs : List Rec := []
  nextSeq : Nat := 0
deriving DecidableEq, Repr

/-- Bulk data of a committed group that follows its records on the link (06 R242): packets still to build. -/
structure Bulk where
  pool : Nat
  tag : Nat
  unitSeq : Nat
  /-- 0 tile map; 1 ROI tiles; 2 profile samples -/
  kind : Nat
  /-- the packets, each one payload whole; how many are sent, and acknowledged -/
  packets : List (List Byte)
  sent : Nat := 0
  acked : Nat := 0
deriving DecidableEq, Repr

/-- An item of the correction store: a correction packet or a campaign's forfeit record (10 R394, 06 R238). -/
structure CorrItem where
  tag : Nat
  jobSeq : Nat
  bytes : List Byte
  /-- bytes already sent on the link as fragments, and acknowledged -/
  sentTo : Nat := 0
  acked : Nat := 0
deriving DecidableEq, Repr

/-- The result store (06). -/
structure PoolsSt where
  pools : List PoolSt := List.replicate 16 {}
  bulk : List Bulk := []
  corr : List CorrItem := []
  nextOrder : Nat := 0
deriving DecidableEq, Repr
/-! ### The photodiode chain (07) -/

/-- The settings of a filter preset a channel runs under, taken at a sweep boundary (07 R288). -/
structure Preset where
  /-- which preset -/
  n : Nat := 0
  /-- D and L -/
  d : Nat := 4
  l : Nat := 3
  corner : Nat := 1000
  k : Nat := 431777
  mode : Nat := 0
  pin : Nat := 0
deriving DecidableEq, Repr

/-- The position of a chain sample: not decided yet, invalid, or known, in 1/256 nm (08 R303, R304). -/
inductive PosDec where
  | undecided
  | invalid
  | known (x y : Int)
deriving DecidableEq, Repr

/-- A chain sample: index, attributed time, newest ADC sample and arrival at the resampler in 1/1024 tick, the FIR output,
its flags, and its position (07 R274, R275, R283, R285). -/
structure Smp where
  j : Nat
  tau : Int
  t : Int
  y : Int
  sup : Bool
  sat : Bool
  arr : Int := 0
  pos : PosDec := .undecided
deriving DecidableEq, Repr

/-- One photodiode channel's chain: integrators and combs modulo 2^34 (R258), rank window, baseline in 2^-32 of 1/16 LSB
(R262), FIR delay line, and the flags of the samples they hold. Lists run newest first. -/
structure PdCh where
  preset : Preset := {}
  integ : List Nat := [0, 0, 0, 0]
  combs : List Nat := [0, 0, 0, 0]
  /-- index of the next chain sample, and of the next ADC sample to integrate, counted from the epoch (R258, R259) -/
  nextJ : Nat := 0
  nextN : Nat := 0
  rank : List Int := List.replicate 9 0
  base : Int := 0
  fir : List Int := List.replicate 32 0
  /-- ADC samples that were clipped, the last 61; rank inputs, FIR inputs and outputs whose span saturated (R285) -/
  clipped : List Bool := []
  rankSat : List Bool := []
  firSat : List Bool := []
  /-- the phase delay in force, Q6.8, and the chain samples its integer part holds back (R274, R275) -/
  phase : Nat := 3968
  line : List Smp := []
  /-- when the channel's resampler is free, in 1/1024 tick (R280, 08 R309) -/
  busy : Int := 0
  /-- the DC block holds its baseline (R264) -/
  frozen : Bool := false
  /-- causes, as mode and pin, whose freeze a switch or gain change has ended and that have not been asserted anew since (R265) -/
  ended : List (Nat × Nat) := []
  /-- profile samples are suppressed; PDC.SUPPRESS counts what remains (R283) -/
  suppressing : Bool := false
  /-- the ADC serving the channel (R290) -/
  adc : Nat
  /-- the bias output is held at 0 V after an overcurrent (R253) -/
  biasOff : Bool := false
  /-- no ADC is left for the channel (R290): it is unavailable, or will be from its next safe point -/
  lost : Bool := false
  lostOwed : Bool := false
  /-- the ADC serving the channel has failed: no sample of it is measured until the spare stands in (R290) -/
  adcBad : Bool := false
  /-- place in a cross-fade that found the channel running (R269) -/
  fade : Option Nat := none
deriving DecidableEq, Repr

/-- The FIR banks (R267 to R271): the active bank (true — B), the fade under way with its target and length, the
pending request with its target and mode (true — hard). -/
structure FirSt where
  active : Bool := false
  fade : Option (Bool × Nat) := none
  pending : Option (Bool × Bool) := none
deriving DecidableEq, Repr

/-- A calibration measurement of one photodiode channel (10 R376). -/
structure PdMeas where
  ch : Nat
  since : Nat
  /-- PDC.CFG.input as it was -/
  input : Nat
  /-- K, the charge code, and the chain samples waited before each mean -/
  k : Nat
  code : Nat
  wait : Nat
  /-- chain samples seen since the injector was connected, and the sums of the decimator's outputs without and with charge -/
  seen : Nat := 0
  sum0 : Int := 0
  sum1 : Int := 0
deriving DecidableEq, Repr

/-- The photodiode block. -/
structure PdSt where
  /-- the sampling epoch, a multiple of 4 ticks (R256) -/
  epoch : Nat := 0
  chans : List PdCh := (List.range 8).map (fun i => { adc := i })
  fir : FirSt := {}
  /-- the spare ADC has failed or stands out of service -/
  spareBad : Bool := false
  /-- channels due for calibration, with the periods each has waited (10 R375, R378) -/
  calDue : List (Nat × Nat) := []
  calNow : List PdMeas := []
  /-- channels for which a moment of this period has met the conditions of 10 R375 (R378) -/
  calMet : List Nat := []
deriving DecidableEq, Repr

/-! ### Sweeps (08) -/

/-- One position sample of a POS packet (08 R299): its time, field x and y in nm. -/
structure PosSample where
  time : Int
  x : Int
  y : Int
  /-- tick of acceptance -/
  arrival : Nat
deriving DecidableEq, Repr

/-- The position stream (08 R299 to R304). -/
structure PosSt where
  /-- accepted samples, in order of time -/
  samples : List PosSample := []
  lastSeq : Option Nat := none
  lastTime : Option Int := none
  /-- start times of the spacings counted in RSM.POS_GAPS -/
  gapsSeen : List Int := []
deriving DecidableEq, Repr

/-- One channel of a sweep: its chain samples since the boundary, and its profile words so far (07 R285). -/
structure SwCh where
  ch : Nat
  smps : List Smp := []
  words : List Nat := []
  /-- uncorrectable words of its profile in the external memory (15 R577) -/
  bad : List BadWord := []
  /-- every sample is marked unmeasured: the channel is lost, or this was a third open window (07 R290, 08 R309) -/
  shut : Bool := false
  /-- the window opened under another sweep's preset (07 R289) -/
  conflict : Bool := false
  /-- the sweep's preset, held back at its boundary by another sweep's window (07 R289) -/
  owed : Option Preset := none
  /-- the next profile sample is overspeed: its word waits for its mark (07 R280) -/
  late : Option Nat := none
  clipSeen : Bool := false
  satSeen : Bool := false
deriving DecidableEq, Repr

/-- A Blaze-L candidate after the line decoder (08 R311 to R315): lattice a + (k + 1/2) b in 1/2^16 nm. -/
structure Mark where
  index : Nat
  ch : Nat
  status : Nat
  fault : Nat
  a : Int
  b : Int
  /-- dots brighter than the background -/
  bright : Bool
  /-- measurement point, in nm rounded half up; |b| in 10 nm, rounded half up (R313) -/
  x : Int
  pitch : Nat := 0
  /-- layer, writer, mark index and check value -/
  bits : Nat
  tallySeq : Nat := 0xFFFFFFFF
  tallied : Bool := false
deriving DecidableEq, Repr

/-- A sweep from its boundary to its release (08). -/
structure Sweep where
  jobSeq : Nat
  unit : Nat
  /-- its job's descriptor: Tally may measure its marks when the job has ended -/
  desc : List Byte := []
  boundary : Nat
  /-- the audit counter at its boundary (09 R355) -/
  audit : Nat := 0
  opened : Bool := false
  closed : Bool := false
  deadline : Nat := 0
  /-- RSM.POS_GAP and RSM.POS_LATE as they stood at its boundary (01 R36) -/
  posGap : Nat := 625
  posLate : Nat := 15625
  /-- the reference point: its time, x and y in 1/256 nm (R305) -/
  ref : Option (Int × Int × Int) := none
  chans : List SwCh := []
  /-- codes already raised for this sweep -/
  raised : List Nat := []
  /-- the line decoder has run, at this tick -/
  decodedAt : Option Nat := none
  marks : List Mark := []
  unlisted : Nat := 0
  merged : Nat := 0
  changed : Bool := false
  fault : Nat := 0
  isOver : Bool := false
deriving DecidableEq, Repr

/-- The sweep block. -/
structure SwpSt where
  sweeps : List Sweep := []
  /-- codes raised for sweep jobs before their boundary: admission sequence number and code (R300) -/
  early : List (Nat × Nat) := []
  pos : PosSt := {}
deriving DecidableEq, Repr

/-! ### Tally (09) -/

/-- A candidate Tally has taken, with the sequence number it got (09 R330, R331). -/
structure TlyCand where
  seq : Nat
  /-- the flying-spot path -/
  sweep : Bool
  jobSeq : Nat
  tag : Nat
  /-- the campaign its job names, 0 for none (10 R380) -/
  camp : Nat := 0
  unit : Nat
  /-- the delivery's zero -/
  start : Nat
  index : Nat
  symbology : Nat
  writer : Nat := 0xFF
  layer : Nat := 0xFFFF
  fragment : Nat := 0
  markIndex : Nat := 0xFF
  clipped : Bool := false
  /-- cluster of a staring candidate -/
  cluster : Nat := 0
  /-- the coarse pose (04 R169): staring, the centre and the pitch in 1/16 pixel and the angle in 1/256 turn; sweep, the measurement
  point in nm, 0, 0 and the pitch in 10 nm -/
  x : Int := 0
  y : Nat := 0
  angle : Nat := 0
  pitch : Nat := 0
  /-- sweep: the reading channel, and read against its write direction -/
  ch : Nat := 0
  reversed : Bool := false
  /-- the region's tiles, 256 values each, and the frame's sat_level -/
  tiles : List (Nat × List Nat) := []
  level : Nat := 1023
deriving DecidableEq, Repr

/-- What waits for its append, in order of seq: a taken candidate, or an epoch record behind one. -/
inductive TlyItem where
  | cand (c : TlyCand)
  | epoch (num : Nat) (bytes : List Byte)
deriving DecidableEq, Repr

/-- The block being filled (09 R348): its records' number, its first record, the tick of that record, the chain value
before it, and the identity and counter it runs under. -/
structure TlyBlock where
  count : Nat := 0
  first : Nat := 0
  since : Nat := 0
  hPrev : List Byte := []
deriving DecidableEq, Repr

/-- A closed block that waits for its signature, or its seal in the store: the number of its last record, and its first
160 bytes (09 R349). -/
structure TlySeal where
  first : Nat
  last : Nat
  bytes : List Byte
  seg : Nat := 1
deriving DecidableEq, Repr

/-- An item of the measurement store (09 R350): a record by its seq, or a seal by its first_seq64. -/
structure MeasItem where
  isSeal : Bool
  num : Nat
  bytes : List Byte
  /-- the segment it belongs to -/
  seg : Nat := 1
  sent : Bool := false
deriving DecidableEq, Repr

/-- TLY.STATE [1:0]. -/
inductive SealState where
  | closed | unsealed | resealing
deriving DecidableEq, Repr

/-- Tally (09). -/
structure TlySt where
  sealSt : SealState := .closed
  /-- an unseal is under way and completes within 5 ms -/
  unsealing : Bool := false
  tampOpen : Bool := false
  /-- changes of TAMP_N qualified while the ring stood still, to be recorded at the wake (R345) -/
  tampOwed : List Bool := []
  selftestFailed : Bool := false
  /-- VDD_TLY stands within its limits -/
  supplied : Bool := true
  segment : Nat := 1
  /-- the segment's first record, kind 0x20, is still to be appended: the tick of the segment's start and the counter then -/
  startOwed : Option (Nat × Nat) := some (0, 0)
  /-- number of the next record within the segment, without wrap -/
  nextSeq : Nat := 0
  /-- what has a seq and is not appended yet -/
  taken : List TlyItem := []
  /-- the chain value; none — the segment's first one, SHA-256(A ‖ LE32(segment)) (R346) -/
  chain : Option (List Byte) := none
  block : TlyBlock := {}
  blockNo : Nat := 0
  /-- closed blocks that wait for their signature -/
  toSign : List TlySeal := []
  signed : Nat := 0
  /-- records and seals held, in order -/
  store : List MeasItem := []
  counter : Nat := 0
  /-- the last 256 audit-log entries, newest first, 64 bytes each; how many were written -/
  log : List (List Byte) := []
  entries : Nat := 1
  /-- none: the factory block of R341 -/
  active : Option (List Byte) := none
  staged : Option (List Byte) := none
deriving DecidableEq, Repr

/-! ### Calibration (10) -/

/-- The loops of 10 R369 that run in slots, and the eye scan asked for by a write (14 R551). -/
inductive CalLoop where
  | lit | pd | pace | shadow | eq | zq | dqs | eye | column
deriving DecidableEq, Repr

/-- The measurements of a symbol from which its grades are taken (05 R198 to R202): symbol contrast and the mean of its light modules
above the black level in 1/16 DN; modulation, reflectance margin, fixed pattern damage, axial and grid nonuniformity, unused error
correction, print growth across and down, cell contrast and cell modulation in 0.1 %; and the grades of modulation, reflectance
margin and cell modulation. -/
structure GradeIn where
  contrast : Int := 0
  light : Int := 0
  vals : List Int := []
  mods : List Nat := []
deriving DecidableEq, Repr

/-- What a decode task has read (05): the kind and size of symbol, what error correction and the checks found, the data, the pose and
the measurements for its grades. -/
structure Reading where
  kind : SymKind := .nothing
  rows : Nat := 0
  /-- Code 128: symbol characters (05 R194) -/
  cols : Nat := 0
  /-- last stage completed, finders found (06 R234) -/
  stage : Nat := 0
  finders : Nat := 0
  errors : Nat := 0xFFFF
  erasures : Nat := 0
  /-- error correction exceeded; a required check failed -/
  ecFails : Bool := false
  checkFails : Bool := false
  /-- transmitted data (05 R197), and the offsets of the bytes in it that stand for FNC1 -/
  data : List Byte := []
  seps : List Nat := []
  fnc1First : Bool := false
  fnc2 : Bool := false
  fnc3 : Bool := false
  readerProg : Bool := false
  mirror : Bool := false
  lightOnDark : Bool := false
  saPos : Nat := 0
  saTotal : Nat := 0
  saFile : Nat := 0
  eci : Option Nat := none
  ecLevel : Nat := 0
  mask : Nat := 0
  /-- the two characters of the symbology identifier, code first -/
  symId : Nat := 0
  x : Nat := 0
  y : Nat := 0
  angle : Nat := 0
  /-- unsigned Q8.8 pixels -/
  pitch : Nat := 0
  /-- DotCode: the dot diameter, unsigned Q8.8 pixels, its module size (05 R187, R201) -/
  dot : Nat := 0
  /-- Blaze-D: the corrected codeword, its errors and its erasures (05 R209) -/
  blaze : Option (List Nat × Nat × Nat) := none
  grade : GradeIn := {}
deriving DecidableEq, Repr

/-- The illumination loop of one sector (10 R371 to R373): the mean ρ as a fraction, frames taken since the last slot,
the tick of that slot, and the armed latch. -/
structure LitLoop where
  num : Nat := 0
  den : Nat := 1
  since : Nat := 0
  lastSlot : Nat := 0
  armed : Bool := false
deriving DecidableEq, Repr

/-- How an entry of a mark list was settled (10 R380, R381): seq of the record, whether it is used, and its field point. -/
structure Settled where
  seq : Nat
  used : Bool
  x : Int
  y : Int
deriving DecidableEq, Repr

/-- A campaign on its fit unit (10 R380 to R384). -/
structure Campaign where
  jobSeq : Nat
  tag : Nat
  entries : List (Option Settled) := []
  /-- segment and seq of the first taken record, seq of the last -/
  segment : Nat := 0
  firstSeq : Option Nat := none
  lastSeq : Nat := 0
  start : Option Nat := none
  byClose : Bool := false
  /-- Tally's identity in force at the zero -/
  identity : List Byte := []
  deadline : Nat := 0
  /-- tick at which the fit started -/
  fitAt : Option Nat := none
  /-- an uncorrectable word stands in its fit store (15 R577) -/
  storeBad : Bool := false
  /-- a fault recorded against the delivery (02 R76), 0 for none -/
  fault : Nat := 0
  isOver : Bool := false
deriving DecidableEq, Repr

/-- What a slot of the column-offset loop works from (03 R121): the mean dark level of each column, the unit whose trim serves
it, and LOCX.DRIFT_LIMIT of the frame. -/
structure ColumnIn where
  levels : List (Option Int)
  units : List Nat
  limit : Nat
deriving DecidableEq, Repr

/-- A shadow decode that waits (10 R366; 17 R634): its candidate, and for the third decode of a mismatch the two engines and
what the second one found. -/
structure ShadowIn where
  jobSeq : Nat
  unit : Nat
  cand : Nat
  family : Nat
  third : Option (Nat × Nat × Nat × Reading) := none
deriving DecidableEq, Repr

/-- The calibration engine (10). -/
structure CalSt where
  lit : List LitLoop := List.replicate 8 {}
  /-- valid readings since reset by sector mask, in 1/4 DN (R374) -/
  patch : List (Nat × Nat) := []
  /-- fit units 0 and 1 -/
  units : List (Option Campaign) := [none, none]
  /-- ratios of actual to predicted task time of each engine's last 256 admitted tasks, as fractions, newest first;
  engines for which 0x5041 was raised -/
  ratios : List (List (Nat × Nat)) := List.replicate 18 []
  mismatch : List Nat := []
  /-- consecutive pace slots in which each engine's drift lay beyond UST.LIMITS.pace_drift (17 R633) -/
  driftRuns : List Nat := List.replicate 18 0
  /-- slots run in this accounting window -/
  slotsRun : Nat := 0
  /-- slots deferred under 02 R74, in order: loop and unit; and slots that wait for a share, or again after a preemption
  (R365) -/
  waiting : List (CalLoop × Nat) := []
  shareWait : List (CalLoop × Nat) := []
  /-- the inputs of a column-offset slot and of a shadow slot that wait (R366) -/
  columnIn : Option ColumnIn := none
  shadowIn : Option ShadowIn := none
  /-- the tick from which every loop's schedule runs (16 R601): the start, or the last wake -/
  origin : Nat := 0
  /-- the tick of each loop's last slot, by loop and unit -/
  lastRun : List ((CalLoop × Nat) × Nat) := []
  /-- the engine shadowed last, and engines whose comparison is open (17 R634) -/
  shadowNext : Nat := 0
deriving DecidableEq, Repr

/-! ### Illumination (11) -/

/-- Sources of light by rank (11 R416). -/
inductive LitSrc where
  | strobe | pat0 | pat1
deriving DecidableEq, Repr

/-- The drive of one column in a conduction (11 R401): off, an amplitude code, or code 250 with a duty code; the column's
on-time starts `cut4` quarter ticks late to repay a stretch and ends at `stop4` in a conduction stretched for others; `owed`
is the programmed charge of a stretched column, in code × quarter tick (R422); `src` is the source it serves (R417). A column that
joins a conduction under way starts at `from4`. -/
structure ColDrive where
  code : Nat := 0
  from4 : Nat := 0
  src : LitSrc := .strobe
  duty : Option Nat := none
  cut4 : Nat := 0
  stop4 : Option Nat := none
  owed : Option Nat := none
deriving DecidableEq, Repr

/-- A sink's reading 1.6 µs into the conduction of its position (11 R420): currents of its halves in µA and its COL voltage in mV. -/
structure LedReading where
  col : Nat
  ia : Nat
  ib : Nat
  volt : Nat
deriving DecidableEq, Repr

/-- A conduction: its source, row, columns, start, and whether it is a stretched pulse. Times in quarter ticks. -/
structure Conduct where
  src : LitSrc
  row : Nat
  cols : List ColDrive
  start4 : Nat
  /-- when it ends; none — when the mask or the level changes (R413) -/
  end4 : Option Nat := none
  stretch : Bool := false
  /-- columns that have been read in this conduction -/
  tested : List Nat := []
  /-- readings that are no test yet, because their column has not lasted 2 µs (R420) -/
  readings : List LedReading := []
  /-- the source that each column was seen used by (R417) -/
  used : List (Option LitSrc) := []
deriving DecidableEq, Repr

/-- A pulse that stood inside a frame's exposure, for its sector mask and drive charge (11 R403, R408): row, columns,
trim, start and end in quarter ticks. -/
structure Pulse where
  row : Nat
  cols : List ColDrive
  start4 : Nat
  end4 : Nat
deriving DecidableEq, Repr

/-- The strobe of a frame (11 R405, R407): its rows still to light, the place in the sequence and its fixed settings in
quarter ticks; current settings are fixed with it. -/
structure Strobe where
  unit : Nat
  x4 : Nat
  rows : List Nat
  i : Nat := 0
  o4 : Nat
  w4 : Nat
  pre4 : Nat
  p4 : Nat
  global : Nat
  colCfg : List Nat
  trims : List Nat
  /-- LIT.ROW_LEAD, fixed with them -/
  lead4 : Nat := 0
deriving DecidableEq, Repr

/-- A pattern engine (11 R409 to R414). -/
structure PatSt where
  running : Bool := false
  waiting : Bool := false
  timedOut : Bool := false
  step : Nat := 0
  level : Nat := 0
  /-- level at the start of a ramp -/
  lev0 : Nat := 0
  rows : Nat := 0
  elapsed : Nat := 0
  /-- when the present step began, and when the slot timeline started, in quarter ticks -/
  stepAt4 : Nat := 0
  slotAt4 : Nat := 0
  /-- row of the present slot -/
  slotRow : Nat := 0
  /-- counters of LOOP steps that have been reached -/
  loops : List (Nat × Nat) := []
deriving DecidableEq, Repr

/-- One LED position (11 R420 to R423): its state code, consecutive open and short tests, whether it conducted in this
diagnostic period and for 2 µs or more, a stretch owed, periods without a completed stretch, and the charge to repay in
units of code × quarter tick. -/
structure LedPos where
  st : Nat := 0
  opens : Nat := 0
  shorts : Nat := 0
  conducted : Bool := false
  long : Bool := false
  owed : Bool := false
  /-- the stretched pulse of this period has been given; its test was completed -/
  stretched : Bool := false
  completed : Bool := false
  failed : Nat := 0
  debt : Nat := 0
deriving DecidableEq, Repr

/-- One column sink (11 R398, R419, R425, R426): retired halves, intervals above the continuous limit in quarter ticks,
whether it is lowered, imbalance readings of this period (sum in 2^-40), periods above the limit. -/
structure SinkSt where
  offA : Bool := false
  offB : Bool := false
  hot : List (Nat × Nat) := []
  lowered : Bool := false
  imbSum : Nat := 0
  imbCount : Nat := 0
  imbPeriods : Nat := 0
  /-- sums of the halves' deviations from half of the sink's current, in µA (R426) -/
  devA : Nat := 0
  devB : Nat := 0
deriving DecidableEq, Repr

/-- The illumination block. -/
structure LitSt where
  cond : Option Conduct := none
  /-- pre-charge under way: its source, row and start -/
  prech : Option (LitSrc × Nat × Nat) := none
  /-- the ROWDRV output asserted -/
  rowdrv : Option Nat := none
  /-- strobes of frames, oldest first -/
  strobes : List Strobe := []
  /-- row the chase lights next; none — the lowest of the mask (R406) -/
  chase : Option Nat := none
  pats : List PatSt := [{}, {}]
  pos : List LedPos := List.replicate 192 {}
  sinks : List SinkSt := List.replicate 24 {}
  /-- start of the diagnostic period -/
  diagAt : Nat := 0
  /-- last tick of 0x7031 -/
  clampAt : Option Nat := none
  shutdown : Bool := false
  factor : Nat := 256
  /-- lamp-board temperature, Q8.8 two's complement -/
  temp : Nat := 0
  ntcOpen : Bool := false
  ntcShort : Bool := false
  derated : Bool := false
deriving DecidableEq, Repr


/-! ### The staring path (03, 04) -/

/-- The states of a cluster (04 R145), and the two ways it leaves (R144, R146). -/
inductive ClusterState where
  | forming | looks | closed | merged | discarded
deriving DecidableEq, Repr

/-- The settings a frame runs under, taken at its boundary (03 R105): the registers' values in force. -/
structure FrameCfg where
  sensorCfg : Nat
  seedEdge : Nat
  seedScore : Nat
  ambig : Nat
  levels : Nat
  refArea : Nat
  symEnable : Nat
  close : Nat
  cluster : Nat
  hypo : Nat
  specCtl : Nat
  guard : Nat
  /-- spare map, degraded columns: LOCX.SPARE_MAP_LO and HI, DEGRADED0 to 7 -/
  spareLo : Nat
  spareHi : Nat
  degraded : List Nat
  /-- ADM.CAL_LIT_TRIM0 to 7 -/
  trims : List Nat
  /-- LOC.LOC_CFG, SNS.SYNC_CFG, LOCX.OFFSET_LOOP and DRIFT_LIMIT, ADM.CAL_LIT_CFG.patch_refl -/
  locCfg : Nat := 1
  syncCfg : Nat := 0
  offsetLoop : Nat := 0x401
  driftLimit : Nat := 0x18
  patchRefl : Nat := 500
deriving DecidableEq, Repr

/-- How one hypothesis of a candidate ended: what its task read, its status (06 R227), its engine and when it ended. -/
structure Outcome where
  f : Reading
  family : Nat
  status : Nat
  eng : Nat
  startedAt : Nat
  endedAt : Nat
  /-- gauge of that engine when it started (10 R379) -/
  gauge : Nat := 16384
  /-- the result still stands in a slot of the engine, unpromoted (04 R164) -/
  inSlot : Bool
deriving DecidableEq, Repr

/-- A cluster of tiles and, once it is a candidate, its hypotheses (04 R142 to R163). -/
structure Cluster where
  /-- order of start in the frame -/
  id : Nat
  tiles : List Nat
  st : ClusterState := .forming
  /-- the last row with a member tile (R145) -/
  last : Nat
  /-- when it first looked closed, or closed (R156) -/
  lookedAt : Option Nat := none
  /-- candidate index once listed (R158) -/
  index : Option Nat := none
  prim : Option Outcome := none
  sec : Option Outcome := none
  /-- a secondary task has been started or squashed; the secondary was left untried (R163) -/
  secTried : Bool := false
  untried : Bool := false
  /-- the winner is the secondary -/
  secWon : Bool := false
  /-- resolved: decoded, no decode, or untried (R170) -/
  resolved : Bool := false
  /-- some region tile is missing (R153); ROI.CLIPPED has counted it -/
  clipped : Bool := false
  clipCounted : Bool := false
  tallySeq : Nat := 0xFFFFFFFF
  tallyFault : Nat := 0
  tallied : Bool := false
deriving DecidableEq, Repr

/-- A frame from its trigger to its release (03, 04). -/
structure Frame where
  jobSeq : Nat
  /-- the frame number, SNS.FRAMES (03 R128) -/
  unit : Nat
  /-- its job's descriptor: the locator runs on when the job has ended -/
  desc : List Byte := []
  trigAt : Nat
  /-- the audit counter at its boundary (09 R355) -/
  audit : Nat := 0
  /-- the job's light code (02 R47) -/
  light : Nat := 0
  /-- exposure start, in ticks, and due end of exposure, in quarter ticks (R101) -/
  expStart : Nat
  expEnd4 : Nat
  /-- when the sensor is free again, in units of 1/4 tick (R103) -/
  busyUntil4 : Nat
  cfg : FrameCfg
  started : Bool := false
  /-- end of exposure recorded: the delivery's zero -/
  zero : Option Nat := none
  deadline : Nat := 0
  /-- storage window open -/
  storage : Bool := false
  /-- tile rows completed, their words row by row -/
  rows : List (List Nat) := []
  mapDone : Bool := false
  /-- per locator column: sum of the dark tiles' means in 0.25 DN, and their number (R121) -/
  dark : List (Nat × Nat) := List.replicate 256 (0, 0)
  clusters : List Cluster := []
  nextId : Nat := 0
  limitRaised : Bool := false
  /-- bands queued, those queued late (R149), the band in conversion and when it began, bands converted, of them late -/
  bandQueue : List Nat := []
  lateQ : List Nat := []
  converting : Option (Nat × Nat) := none
  converted : List Nat := []
  late : Nat := 0
  lostRows : Nat := 0
  /-- bands that stand in the line store and wait for the row below (R150): their tiles that are not all black -/
  lineStore : List (Nat × List (Nat × List Byte)) := []
  /-- bands that have left the line store -/
  left : List Nat := []
  /-- tiles transferred, in order, with their 320 bytes (R151, R154) -/
  tiles : List (Nat × List Byte) := []
  /-- the charges of the storage nodes, in e⁻, of the tiles that hold any: 256 pixels in row-major order (R92, R96) -/
  img : List (Nat × List Nat) := []
  /-- the archive ring's copy of a full-frame readout: 12-bit codes of the tiles that are not all black (R92, R683) -/
  archived : List (Nat × List Nat) := []
  /-- the binned readout of Coppice: sixteen 4 × 4 charge-summed codes for each tile that is not all black (R95, 17 R630) -/
  binned : List (Nat × List Nat) := []
  refused : Nat := 0
  budgetRaised : Bool := false
  rowsLostRaised : Bool := false
  /-- 0x4062 has been raised (R153) -/
  clipRaised : Bool := false
  /-- listed: candidates ranked and counted -/
  listed : Nat := 0
  unlisted : Nat := 0
  discarded : Nat := 0
  /-- the commit cut has passed (R171) -/
  cut : Bool := false
  /-- a fault recorded against the delivery (02 R79), 0 for none -/
  fault : Nat := 0
  /-- a direct write changed a setting while the frame ran (01 R37) -/
  changed : Bool := false
  /-- illumination sectors lit (11 R408), and patch reading validity (05 R201) -/
  sectors : Nat := 0
  pulses : List Pulse := []
  /-- its patch reading in 1/4 DN, if valid (10 R370) -/
  patch : Option Nat := none
  patchOk : Bool := false
  /-- the frame holds an archive slot (15 R565) -/
  archive : Bool := false
  /-- uncorrectable words of its data in the external memory (15 R577) -/
  bad : List BadWord := []
  /-- its delivery has ended: committed or forfeited -/
  isOver : Bool := false
deriving DecidableEq, Repr

/-- What a shadow decode is held against (17 R634): the values of its region's tiles, the symbologies and the size class of the job,
and the engine, status and reading of the outcome that stands. -/
structure ShadowRef where
  codes : List (Nat × List Nat)
  syms : Nat
  sizeClass : Nat
  eng : Nat
  status : Nat
  reading : Reading
deriving DecidableEq, Repr

/-- A decode task: running on an engine, or admitted and waiting (04 R156 to R168). -/
structure Task where
  jobSeq : Nat
  unit : Nat
  cand : Nat
  secondary : Bool
  family : Nat
  admitted : Bool
  eng : Nat := 0
  startedAt : Nat := 0
  /-- gauge of the engine when it started (R157) -/
  gauge : Nat := 16384
  /-- order of start, for R166 -/
  order : Nat := 0
  /-- a shadow decode (17 R634) -/
  shadow : Bool := false
  /-- what a shadow decode is held against -/
  ref : Option ShadowRef := none
  /-- the third decode of a mismatch: the engines of the first two, and the status and finding of the second (17 R634) -/
  first : Option (Nat × Nat × Nat × Reading) := none
deriving DecidableEq, Repr

/-- Decode engines and Cruiser (04), the accounting window (02 R71). -/
structure DecSt where
  running : List Task := []
  queue : List Task := []
  /-- lowest gauges sampled since the last update: fabric, and each engine's (02 R54); 0xFFFF before a sample -/
  fabricLow : Nat := 0xFFFF
  engLow : List Nat := List.replicate 18 0xFFFF
  /-- for each engine, the samples of the last second that no later one lies below, oldest first: time and gauge (04 R181) -/
  engMin : List (List (Nat × Nat)) := List.replicate 18 []
  gauge : List Nat := List.replicate 18 16384
  fabric : Nat := 16384
  order : Nat := 0
  /-- the accounting window (02 R71): its number, its N, speculative and calibration engine ticks, and DRAM bytes booked -/
  win : Nat := 0
  winN : Nat := 16
  specTicks : Nat := 0
  calTicks : Nat := 0
  specBytes : Nat := 0
  calBytes : Nat := 0
  /-- the last window: its N, and what work that started in it has used (02 R71, R85) -/
  lastN : Nat := 16
  lastSpec : Nat := 0
  lastCal : Nat := 0
  /-- corrected local-store errors of the trailing 24 h, by engine: tick and number (17 R633) -/
  eccLog : List (List (Nat × Nat)) := List.replicate 18 []
  /-- tasks that have ended, per delivery: the engine time already spent at pace 1.00, in 1/16 µs (02 R75) -/
  spent : List ((Nat × Nat) × Nat) := []
deriving DecidableEq, Repr

/-- The sensor block (03). -/
structure SnsSt where
  /-- frames, oldest first; a frame leaves once its storage window has ended and its delivery is over -/
  frames : List Frame := []
  /-- qualification of TRIG0 and TRIG1 (R99): the level now, and for each edge in qualification the tick at which it is
  accepted, with the delay set at that edge (R106) -/
  level : List Bool := [false, false]
  /-- when each of the two levels was taken (16 R603) -/
  levelAt : List Nat := [0, 0]
  since : List (List (Nat × Nat)) := [[], []]
  /-- the previous frame's exposure start, occupancy end and storage end (R103), in 1/4 ticks and ticks -/
  busy4 : Nat := 0
  storeEnd : Nat := 0
  /-- SYNC_OUT's mode 2 pulse runs -/
  syncPulse : Bool := false
  /-- offset trims of the 256 columns and the 8 spares, signed units of 0.25 DN, as differences from the factory trim
  (R120), and how many consecutive updates have drifted (R122) -/
  trims : List Int := List.replicate 264 0
  drift : List Nat := List.replicate 264 0
  /-- the factory map of defective pixels: 4096 × row + column (R94) -/
  defects : List Nat := []
deriving DecidableEq, Repr

/-! ### The whole -/

/-- The engine: everything the spec gives it but the queue of waiting commands. -/
structure Blk where
  /-- the timestamp counter (00 R16); while the ring stands, the time predicted under 16 R613 -/
  now : Nat := 0
  /-- how many free values have been taken: the model's own counter, no register of the engine (log 5) -/
  free : Nat := 0
  /-- every register whose value differs from its reset value, by address, in rising order -/
  regs : List (Nat × Word) := []
  /-- the value a _LO read captured for its _HI register, by the _HI address (03 R129) -/
  hiCapture : List (Nat × Word) := []
  /-- per-caller selectors: PARAM_SEL, LOG_SEL, HIST_SEL of each session slot -/
  selectors : List (Nat × Nat × Nat) := [(0, 0, 0), (0, 0, 0), (0, 0, 0), (0, 0, 0)]
  time : TimeSt := {}
  /-- the domains AON, TLY, LOC, PDA, LIT, MEM, LNK, SYS and then DEC0 to DEC17 -/
  doms : List DomSt := List.replicate 24 ({} : DomSt) ++
    List.replicate 2 ({ powered := false, ready := false, clamped := true } : DomSt)
  pwr : PwrSt := {}
  sys : SysSt := {}
  ust : UstSt := {}
  bnd : BndSt := {}
  evt : EvtSt := {}
  gpc : GpcSt := {}
  pins : PinSt := {}
  ses : SesSt := {}
  chn : ChnSt := {}
  acc : AccSt := {}
  /-- what the engine sent on its ports during the last command -/
  wire : List Wire := []
  lnk : LnkSt := {}
  mem : MemSt := {}
  /-- live jobs, in order of admission -/
  jobs : List Job := []
  /-- the admission history, newest first (02 R90) -/
  hist : List HistEntry := []
  store : PoolsSt := {}
  sns : SnsSt := {}
  dec : DecSt := {}
  pd : PdSt := {}
  swp : SwpSt := {}
  tly : TlySt := {}
  cal : CalSt := {}
  lit : LitSt := {}
deriving DecidableEq, Repr

/-- The machine: the commands that wait, first in first out, and the engine. -/
structure State where
  pending : List Instr
  blk : Blk
deriving DecidableEq, Repr

/-- The machine right after start phase S7: no command waits, every register at its reset value (00 R23). -/
def State.reset : State := { pending := [], blk := {} }

end Sys2Proof.Machine
end

