-- ==== Sys2Proof/Machine/Flags.lean ====
section
/-! DEFINITION. The register file, and every flag computation: which page and EVT_RAW bit each code sets, whether it is
a fault that latches (17 R641 and the tables it lists), EVT_RAW, EVT_LATCH, FAULT, the fault log, event notices, and
the pins that follow from them (12 R449, R450; 13 R496; 17 R642). -/
namespace Sys2Proof.Machine

/-! ### The register file -/

/-- Value listed for a key, if it is listed. -/
def lookupReg : List (Nat × Word) → Nat → Option Word
  | [], _ => none
  | (k, v) :: t, a => if k = a then some v else lookupReg t a

/-- The list without key `a`. -/
def eraseReg : List (Nat × Word) → Nat → List (Nat × Word)
  | [], _ => []
  | (k, v) :: t, a => if k = a then eraseReg t a else (k, v) :: eraseReg t a

/-- The list with `a` given value `v`, keys rising. -/
def insertReg : List (Nat × Word) → Nat → Word → List (Nat × Word)
  | [], a, v => [(a, v)]
  | (k, w) :: t, a, v =>
    if a < k then (a, v) :: (k, w) :: t else if a = k then (a, v) :: t else (k, w) :: insertReg t a v

/-- A register of the file: the value listed, or the reset value (00 R23). -/
def getReg (l : List (Nat × Word)) (a : Nat) : Word := (lookupReg l a).getD (resetOf a)

/-- The file with register `a` at `v`; a register at its reset value is not listed. -/
def putReg (l : List (Nat × Word)) (a : Nat) (v : Word) : List (Nat × Word) :=
  if v = resetOf a then eraseReg l a else insertReg l a v

/-- The file's canonical form: keys rising, no register at its reset value listed. -/
def regsWf : List (Nat × Word) → Bool
  | [] => true
  | [(k, v)] => v != resetOf k
  | (k, v) :: (k2, w) :: t => (k < k2 && v != resetOf k) && regsWf ((k2, w) :: t)

/-- A register's stored value. -/
def Blk.reg (s : Blk) (a : Nat) : Word := getReg s.regs a

/-- A register's stored value as a number. -/
def Blk.regN (s : Blk) (a : Nat) : Nat := (s.reg a).toNat

/-- A field of a register. -/
def Blk.regF (s : Blk) (a hi lo : Nat) : Nat := fld (s.regN a) hi lo

/-- A register set. -/
def Blk.setReg (s : Blk) (a : Nat) (v : Word) : Blk := { s with regs := putReg s.regs a v }

/-- A register set from a number. -/
def Blk.setN (s : Blk) (a n : Nat) : Blk := s.setReg a (BitVec.ofNat 32 n)

/-- A field of a register set. -/
def Blk.setF (s : Blk) (a hi lo v : Nat) : Blk := s.setN a (putFld (s.regN a) hi lo v)

/-- A counting field increased by `k`, saturating. -/
def Blk.bump (s : Blk) (a hi lo k : Nat) : Blk := s.setF a hi lo (sat (hi + 1 - lo) (s.regF a hi lo + k))

/-- A 32-bit counter increased by `k`, modulo 2^32. -/
def Blk.count (s : Blk) (a k : Nat) : Blk := s.setN a (s.regN a + k)

/-- A field raised to `v` when it is below it: a longest or highest since reset. -/
def Blk.atLeast (s : Blk) (a hi lo v : Nat) : Blk := s.setF a hi lo (max (s.regF a hi lo) (sat (hi + 1 - lo) v))

/-! ### Codes -/

/-- What a code's table states: the page it latches on, whether it is a fault, and the EVT_RAW bit it sets, if any. -/
structure CodeInfo where
  page : Nat
  fault : Bool
  bit : Option Nat
deriving DecidableEq, Repr

/-- Power, time and thermal codes (16 R619, R622, R624; 17 R644, R649). -/
def codeInfo1 (c : Nat) : Option CodeInfo :=
  match c with
  | 0x1011 => some ⟨0x06, false, some 0⟩
  | 0x1012 => some ⟨0x06, true, some 1⟩
  | 0x1021 => some ⟨0x06, true, some 2⟩
  | 0x1023 => some ⟨0x06, false, some 3⟩
  | 0x1031 => some ⟨0x06, true, some 4⟩
  | 0x1041 => some ⟨0x07, true, some 0⟩
  | 0x1042 => some ⟨0x07, true, some 1⟩
  | 0x1043 => some ⟨0x07, false, some 2⟩
  | 0x1044 => some ⟨0x07, false, some 3⟩
  | 0x1051 => some ⟨0x59, false, some 0⟩
  | 0x1052 => some ⟨0x59, true, some 1⟩
  | _ => none

/-- Link and memory codes (14 R547, R550, R553; 15 R584, R586; 17 R644). -/
def codeInfo23 (c : Nat) : Option CodeInfo :=
  match c with
  | 0x2011 => some ⟨0x0A, true, some 0⟩
  | 0x2012 => some ⟨0x0A, false, some 1⟩
  | 0x2013 => some ⟨0x0A, true, some 2⟩
  | 0x2014 => some ⟨0x0A, false, some 3⟩
  | 0x2021 => some ⟨0x0A, false, some 4⟩
  | 0x2022 => some ⟨0x0A, true, some 5⟩
  | 0x2023 => some ⟨0x0A, true, some 5⟩
  | 0x2024 => some ⟨0x0A, false, some 6⟩
  | 0x2031 => some ⟨0x0A, false, some 7⟩
  | 0x2051 => some ⟨0x10, false, some 0⟩
  | 0x3011 => some ⟨0x11, false, some 0⟩
  | 0x3012 => some ⟨0x11, true, some 1⟩
  | 0x3061 => some ⟨0x11, true, some 2⟩
  | 0x3021 => some ⟨0x14, false, some 0⟩
  | 0x3022 => some ⟨0x14, true, some 1⟩
  | 0x3031 => some ⟨0x13, false, some 0⟩
  | 0x3032 => some ⟨0x13, true, some 1⟩
  | 0x3041 => some ⟨0x12, true, some 0⟩
  | 0x3042 => some ⟨0x12, true, some 1⟩
  | 0x3043 => some ⟨0x12, false, some 2⟩
  | 0x3051 => some ⟨0x12, false, some 3⟩
  | 0x3071 => some ⟨0x08, false, some 4⟩
  | 0x3072 => some ⟨0x08, true, some 5⟩
  | _ => none

/-- Sensor, locator, region and decode codes (03 R126, R134, R138, R141; 04 R173, R175, R178, R180, R183; 17 R644);
the codes of one decode engine name the page of engine 0 here. -/
def codeInfo45 (c : Nat) : Option CodeInfo :=
  match c with
  | 0x4011 => some ⟨0x1B, false, some 0⟩
  | 0x4012 => some ⟨0x1B, false, some 1⟩
  | 0x4013 => some ⟨0x1B, true, some 2⟩
  | 0x4022 => some ⟨0x18, false, some 0⟩
  | 0x4031 => some ⟨0x18, true, none⟩
  | 0x4032 => some ⟨0x19, true, none⟩
  | 0x4041 => some ⟨0x19, true, some 0⟩
  | 0x4042 => some ⟨0x18, true, some 2⟩
  | 0x4051 => some ⟨0x18, false, some 1⟩
  | 0x4061 => some ⟨0x1A, false, some 0⟩
  | 0x4062 => some ⟨0x1A, false, some 1⟩
  | 0x4063 => some ⟨0x1A, false, some 2⟩
  | 0x5011 => some ⟨0x20, true, some 0⟩
  | 0x5021 => some ⟨0x20, false, some 1⟩
  | 0x5022 => some ⟨0x32, true, some 0⟩
  | 0x5031 => some ⟨0x33, false, some 0⟩
  | 0x5041 => some ⟨0x04, false, some 6⟩
  | 0x5042 => some ⟨0x20, false, none⟩
  | 0x5043 => some ⟨0x20, false, none⟩
  | 0x5051 => some ⟨0x20, false, none⟩
  | _ => none

/-- Photodiode, sweep and illumination codes (07 R291, R294; 08 R320, R322; 10 R396; 11 R433, R436). -/
def codeInfo67 (c : Nat) : Option CodeInfo :=
  match c with
  | 0x6011 => some ⟨0x38, true, some 0⟩
  | 0x6012 => some ⟨0x38, false, some 1⟩
  | 0x6013 => some ⟨0x38, true, some 2⟩
  | 0x6021 => some ⟨0x38, true, some 3⟩
  | 0x6022 => some ⟨0x38, true, some 3⟩
  | 0x6031 => some ⟨0x38, false, some 4⟩
  | 0x6041 => some ⟨0x38, false, some 5⟩
  | 0x6042 => some ⟨0x38, false, some 6⟩
  | 0x6043 => some ⟨0x38, false, some 7⟩
  | 0x6051 => some ⟨0x38, true, some 8⟩
  | 0x6061 => some ⟨0x42, true, some 0⟩
  | 0x6062 => some ⟨0x42, false, some 1⟩
  | 0x6063 => some ⟨0x42, false, some 2⟩
  | 0x6064 => some ⟨0x42, false, some 3⟩
  | 0x6065 => some ⟨0x42, false, some 4⟩
  | 0x6066 => some ⟨0x42, false, some 5⟩
  | 0x6067 => some ⟨0x42, false, some 6⟩
  | 0x6071 => some ⟨0x04, true, none⟩
  | 0x6072 => some ⟨0x04, false, some 6⟩
  | 0x7011 => some ⟨0x48, true, some 0⟩
  | 0x7012 => some ⟨0x48, true, some 0⟩
  | 0x7013 => some ⟨0x48, false, some 1⟩
  | 0x7021 => some ⟨0x48, false, some 2⟩
  | 0x7022 => some ⟨0x48, false, some 2⟩
  | 0x7031 => some ⟨0x48, false, some 3⟩
  | 0x7041 => some ⟨0x48, false, some 4⟩
  | 0x7042 => some ⟨0x48, true, some 5⟩
  | 0x7043 => some ⟨0x48, true, some 5⟩
  | 0x7044 => some ⟨0x48, true, some 5⟩
  | 0x7051 => some ⟨0x48, true, some 6⟩
  | 0x7081 => some ⟨0x04, false, some 6⟩
  | _ => none

/-- Tally, chain and session codes (09 R359, R362; 13 R510, R512, R514). -/
def codeInfo89 (c : Nat) : Option CodeInfo :=
  match c with
  | 0x8021 => some ⟨0x50, false, some 1⟩
  | 0x8022 => some ⟨0x50, false, some 2⟩
  | 0x8023 => some ⟨0x50, true, none⟩
  | 0x8031 => some ⟨0x50, true, some 4⟩
  | 0x8032 => some ⟨0x50, true, some 4⟩
  | 0x8033 => some ⟨0x50, true, some 4⟩
  | 0x8034 => some ⟨0x50, true, some 4⟩
  | 0x8035 => some ⟨0x50, true, none⟩
  | 0x8041 => some ⟨0x50, false, some 5⟩
  | 0x8042 => some ⟨0x50, false, some 6⟩
  | 0x8051 => some ⟨0x50, true, none⟩
  | 0x9011 => some ⟨0x09, false, some 0⟩
  | 0x9012 => some ⟨0x09, true, some 1⟩
  | 0x9013 => some ⟨0x09, false, some 2⟩
  | 0x9014 => some ⟨0x09, false, some 2⟩
  | 0x9015 => some ⟨0x09, false, some 3⟩
  | 0x9032 => some ⟨0x02, true, none⟩
  | 0x9033 => some ⟨0x02, true, none⟩
  | 0x9034 => some ⟨0x02, false, some 0⟩
  | 0x9035 => some ⟨0x02, true, some 0⟩
  | 0x9038 => some ⟨0x02, false, some 1⟩
  | 0x9039 => some ⟨0x02, false, some 1⟩
  | 0x9041 => some ⟨0x02, true, some 2⟩
  | 0x9042 => some ⟨0x02, false, some 3⟩
  | 0x9043 => some ⟨0x02, true, none⟩
  | 0x9044 => some ⟨0x02, true, none⟩
  | _ => none

/-- Start, recovery, register, bundle, claim and job codes (17 R644, R647; 12 R479; 02; 06 R248; 10 R396). -/
def codeInfoAB (c : Nat) : Option CodeInfo :=
  match c with
  | 0xA011 => some ⟨0x01, true, none⟩
  | 0xA021 => some ⟨0x01, true, none⟩
  | 0xA022 => some ⟨0x01, false, none⟩
  | 0xA031 => some ⟨0x01, true, none⟩
  | 0xA061 => some ⟨0x01, true, none⟩
  | 0xA062 => some ⟨0x01, true, none⟩
  | 0xA071 => some ⟨0x01, false, none⟩
  | 0xA081 => some ⟨0x01, true, none⟩
  | 0xA084 => some ⟨0x01, false, none⟩
  | 0xA085 => some ⟨0x01, true, none⟩
  | 0xA091 => some ⟨0x01, true, none⟩
  | 0xA101 => some ⟨0x08, false, some 0⟩
  | 0xA102 => some ⟨0x08, true, some 1⟩
  | 0xA103 => some ⟨0x08, true, some 2⟩
  | 0xA104 => some ⟨0x08, false, some 3⟩
  | 0xA112 => some ⟨0x08, true, none⟩
  | 0xB001 => some ⟨0x03, true, none⟩
  | 0xB002 => some ⟨0x03, true, none⟩
  | 0xB003 => some ⟨0x03, true, none⟩
  | 0xB010 => some ⟨0x58, true, none⟩
  | 0xB011 => some ⟨0x58, true, none⟩
  | 0xB012 => some ⟨0x58, true, none⟩
  | 0xB020 => some ⟨0x03, false, none⟩
  | 0xB021 => some ⟨0x03, true, none⟩
  | 0xB022 => some ⟨0x03, true, none⟩
  | 0xB023 => some ⟨0x03, true, none⟩
  | 0xB024 => some ⟨0x03, true, none⟩
  | 0xB025 => some ⟨0x03, true, none⟩
  | 0xB026 => some ⟨0x03, true, none⟩
  | 0xB027 => some ⟨0x03, true, none⟩
  | 0xB028 => some ⟨0x03, true, none⟩
  | 0xB029 => some ⟨0x03, false, none⟩
  | 0xB031 => some ⟨0x03, true, none⟩
  | 0xB105 => some ⟨0x04, true, none⟩
  | 0xB11A => some ⟨0x04, true, none⟩
  | 0xB130 => some ⟨0x04, false, some 3⟩
  | 0xB131 => some ⟨0x04, false, some 4⟩
  | 0xB132 => some ⟨0x04, false, some 5⟩
  | 0xB141 => some ⟨0x04, false, none⟩
  | 0xB142 => some ⟨0x04, true, none⟩
  | 0xB151 => some ⟨0x04, true, none⟩
  | _ => none

/-- The table of codes by family, the top hexadecimal digit (17 R641). -/
def codeInfo (c : Nat) : Option CodeInfo :=
  match c / 0x1000 with
  | 1 => codeInfo1 c
  | 2 => codeInfo23 c
  | 3 => codeInfo23 c
  | 4 => codeInfo45 c
  | 5 => codeInfo45 c
  | 6 => codeInfo67 c
  | 7 => codeInfo67 c
  | 8 => codeInfo89 c
  | 9 => codeInfo89 c
  | 10 => codeInfoAB c
  | 11 => codeInfoAB c
  | _ => none

/-! ### Events and faults -/

/-- The link is UP or LIMP_UP, so it carries packets (14 R535). -/
def Blk.linkUp (s : Blk) : Bool := s.lnk.state = .up || s.lnk.state = .limpUp

/-- An event notice for a newly latched event (13 R496): held for EVENT_READ (at most 64) or queued for the link;
one that finds its store full or its route down is counted in EVT.LOST. -/
def Blk.notice (s : Blk) (page bit code : Nat) : Blk :=
  let n : Notice := { seq := s.evt.nextSeq, code := code, page := page, bit := bit, time := s.now }
  let s := { s with evt := { s.evt with nextSeq := (s.evt.nextSeq + 1) % 65536 } }
  if bitN (s.regN Reg.EVT_ROUTE) 0 then
    if s.evt.held.length < 64 then { s with evt := { s.evt with held := s.evt.held ++ [n] } }
    else s.bump Reg.EVT_LOST 15 0 1
  else if s.linkUp then { s with evt := { s.evt with toLink := s.evt.toLink ++ [n] } }
  else s.bump Reg.EVT_LOST 15 0 1

/-- An event of a page: its EVT_RAW and EVT_LATCH bits are set, and a newly latched enabled event is reported when
CONTROL.evt_packet is 1 (02 R89; 12 R448, R449). -/
def Blk.event (s : Blk) (page bit code : Nat) : Blk :=
  let latched := bitN (s.regN (Reg.HDR_EVT_LATCH page)) bit
  let s := s.setN (Reg.HDR_EVT_RAW page) (putBit (s.regN (Reg.HDR_EVT_RAW page)) bit true)
  let s := s.setN (Reg.HDR_EVT_LATCH page) (putBit (s.regN (Reg.HDR_EVT_LATCH page)) bit true)
  if !latched && bitN (s.regN (Reg.HDR_EVT_ENABLE page)) bit && bitN (s.regN (Reg.HDR_CONTROL page)) 1 then
    s.notice page bit code
  else s

/-- A fault latched in a page's FAULT register and in the fault log (12 R448, R450; 17 R642). -/
def Blk.latch (s : Blk) (page code : Nat) : Blk :=
  let n := sat 8 (s.regF (Reg.HDR_FAULT page) 23 16 + 1)
  let s := s.setN (Reg.HDR_FAULT page) (code % 65536 + n * 65536)
  let e : FlogEntry := { code := code, page := page, count := n, time := s.now, start := s.regN Reg.SYS_STARTS }
  let s := { s with sys := { s.sys with flog := (e :: s.sys.flog).take 64 } }
  s.bump Reg.SYS_FLOG_COUNT 31 0 1

/-- A code raised on a page: a fault latches, and its EVT_RAW bit is set. -/
def Blk.raiseAt (s : Blk) (page code : Nat) : Blk :=
  match codeInfo code with
  | none => s
  | some i =>
    let s := if i.fault then s.latch page code else s
    match i.bit with
    | some b => s.event page b code
    | none => s

/-- A code raised on the page its table names. -/
def Blk.raise (s : Blk) (code : Nat) : Blk :=
  match codeInfo code with
  | none => s
  | some i => s.raiseAt i.page code

/-- A page's FAULT cleared (12 R450). -/
def Blk.clearFault (s : Blk) (page : Nat) : Blk := s.setN (Reg.HDR_FAULT page) 0

/-- Bits of a page's EVT_LATCH cleared (12 R449); an occurrence in the same tick stays, since it is raised after. -/
def Blk.clearLatch (s : Blk) (page bits : Nat) : Blk :=
  s.setReg (Reg.HDR_EVT_LATCH page) (s.reg (Reg.HDR_EVT_LATCH page) &&& ~~~(BitVec.ofNat 32 bits))

/-! ### Pins -/

/-- A page reports on EVT_N: a bit is set in EVT_LATCH and EVT_ENABLE and CONTROL.evt_pin is 1 (12 R449). -/
def evtPinPage (l : List (Nat × Word)) (page : Nat) : Bool :=
  (getReg l (Reg.HDR_EVT_LATCH page) &&& getReg l (Reg.HDR_EVT_ENABLE page)) != 0 &&
  bitN (getReg l (Reg.HDR_CONTROL page)).toNat 0

/-- The pages that the file lists a CONTROL for: every other page has evt_pin 0. -/
def controlPages (l : List (Nat × Word)) : List Nat :=
  (l.filter (fun p => offOf p.1 == 0x00C)).map (fun p => pageOf p.1)

/-- EVT_N is low while any page reports on it (12 R449). -/
def evtLow (l : List (Nat × Word)) : Bool := (controlPages l).any (evtPinPage l)

/-- The level the engine drives on GP pin `i`, if it drives it (12 R475): function 1 the level bit, 2 the pulse of a
timer, 3 a copy of EVT_N, each with its open-drain choice; as an input or a hardware function it drives nothing. -/
def gpDrive (l : List (Nat × Word)) (timers : List TimerSt) (low : Bool) (i : Nat) : Option Bool :=
  let v := (getReg l (Reg.GPC_GP_CFG i)).toNat
  let d (b : Bool) : Option Bool := if bitN v 4 && b then none else some b
  match fld v 2 0 with
  | 1 => d (bitN v 3)
  | 2 => d ((timers[fld v 10 8]?.map (·.pulse)).getD false)
  | 3 => d (!low)
  | _ => none

/-- The light code that names a source of light (02 R47). -/
def LitSrc.light : LitSrc → Nat
  | .strobe => 1
  | .pat0 => 2
  | .pat1 => 3

/-- The conduction under way is a strobe pulse of a frame: it comes from the frame's light source and overlaps its
exposure by at least one tick (11 R408). One that began before the frame was taken counts from there, and one with no set end as
overlapping (DESIGN CHOICE, log 100). -/
def pulseOf (c : Conduct) (f : Frame) : Bool :=
  (f.light = c.src.light || c.cols.any (fun d => d.code != 0 && f.light = d.src.light)) &&
  max c.start4 (4 * f.expStart) + 4 ≤ (match c.end4 with | some e => min e f.expEnd4 | none => f.expEnd4)

/-- A frame marks SYNC_OUT under its own SNS.SYNC_CFG (03 R132, R105): during its exposure, during its strobe pulses, or for
the 1 µs pulse. -/
def Frame.marks (f : Frame) (cond : Option Conduct) (pulse : Bool) : Bool :=
  match fld f.cfg.syncCfg 1 0 with
  | 0 => f.started && f.zero.isNone
  | 1 => (match cond with | some c => pulseOf c f | none => false)
  | 2 => pulse && f.started
  | _ => false

/-- SYNC_OUT (03 R132): high while a frame marks it, inverted where that frame's settings ask for it; else low, inverted where
the register asks for it. -/
def syncLevel (cfg : Nat) (frames : List Frame) (cond : Option Conduct) (pulse : Bool) : Bool :=
  match frames.reverse.find? (fun f => f.marks cond pulse) with
  | some f => !bitN f.cfg.syncCfg 2
  | none => bitN cfg 2

/-- The place of a domain code (12 R448) in the list of domains. -/
def domIdx (code : Nat) : Nat := if code < 8 then code else code - 8

/-- A domain's state. -/
def Blk.dom (s : Blk) (code : Nat) : DomSt := s.doms.getD (domIdx code) {}

/-- The pins brought up to date: what every command ends with. While the domain that drives them is clamped, AON pad latches hold
EVT_N and the GP pins at their last level, SYNC_OUT is low, or high where it is inverted, and the lanes and FCKOP/N are not driven
(16 R592). -/
def Blk.settle (s : Blk) : Blk :=
  let kept := (s.dom 7).clamped
  let low := evtLow s.regs
  let pins : PinSt :=
    { evtLow := if kept then s.pins.evtLow else low
      gp := if kept then s.pins.gp else (List.range 8).map (gpDrive s.regs s.gpc.timers low)
      sync := if (s.dom 2).clamped then bitN (s.regN Reg.SNS_SYNC_CFG) 2
        else syncLevel (s.regN Reg.SNS_SYNC_CFG) s.sns.frames s.lit.cond s.sns.syncPulse
      lanes := !(s.dom 6).clamped
      fcko := !(s.dom 6).clamped && bitN (s.regN Reg.LNKCK_CK_CFG) 0 && s.lnk.ckForward && s.time.ringRuns
      cke := if (s.dom 5).clamped then s.pins.cke else s.mem.chans.map (fun c => c.ranks.map (fun k => !k.down))
      resetN := if (s.dom 5).clamped then s.pins.resetN else true }
  { s with pins := pins }

/-! ### Time -/

/-- The time at an AON count (16 R613): the timestamp captured, and the AON cycles since then in ticks. -/
def TimeSt.at (t : TimeSt) (aon : Nat) : Nat :=
  if t.lost then 0
  else t.capT + (roundHalfUp (((aon + 2 ^ 48 - t.capA) % 2 ^ 48 * t.period : Nat) : Int) (2 ^ 24)).toNat

/-- `dt` ring ticks pass: the timestamp counter counts them while the ring runs, and AON counts `dt` cycles of its own while
it does not (16 R611, R613); what EVT_RAW showed was of its tick; what the ports sent has left. -/
def Blk.elapse (s : Blk) (dt : Nat) : Blk :=
  let s := { s with wire := [] }
  if dt = 0 then s
  else
    let s := { s with regs := s.regs.filter (fun p => offOf p.1 != 0x010) }
    if s.time.ringRuns then { s with now := s.now + dt, time := { s.time with worked := s.time.worked + dt } }
    else
      let aon := (s.time.aon + dt) % 2 ^ 48
      { s with now := s.time.at aon, time := { s.time with aon := aon } }

/-- The next free value, and the counter advanced (log 5). -/
def Blk.takeFree (s : Blk) : BitVec 64 × Blk := (Config.freeValue s.free, { s with free := s.free + 1 })

/-- How a command ends: the engine with its pins up to date, the queue as it was. -/
def done (s : State) (b : Blk) : Host.Outcome State Fault Refusal := .next { s with blk := b.settle }

end Sys2Proof.Machine
end

