-- ==== Sys2Proof/Machine/Ops.lean ====
section
/-! DEFINITION. The named operations the meanings share: power domains (16 R590 to R599), jobs and their descriptor
fields (02 R46 to R49), sessions' roles (13 R506), output on the ports, and free values. -/
namespace Sys2Proof.Machine

/-! ### Domains -/

/-- A domain's state changed. -/
def Blk.updDom (s : Blk) (code : Nat) (f : DomSt → DomSt) : Blk := { s with doms := upd s.doms (domIdx code) f }

/-- A domain is ready. -/
def Blk.domReady (s : Blk) (code : Nat) : Bool := (s.dom code).ready

/-- A gated domain's switch closes (16 R593, R599); a powered one is only touched. -/
def Blk.wakeDom (s : Blk) (code : Nat) : Blk :=
  s.updDom code (fun d =>
    if d.powered then { d with touched := s.now } else { d with powered := true, ready := false, wakeAt := s.now, touched := s.now })

/-- The delay of R595 starts again for these domains. -/
def Blk.touch (s : Blk) (l : List Nat) : Blk := l.foldl (fun s d => s.updDom d (fun x => { x with touched := s.now })) s

/-- A domain's clamps engage and its switch opens (16 R593). -/
def Blk.gateDom (s : Blk) (code : Nat) : Blk :=
  s.updDom code (fun d => { d with powered := false, ready := false, clamped := true, gateAt := none })

/-- A domain's ready signal rises and its clamps are released (16 R593). -/
def Blk.readyDom (s : Blk) (code : Nat) : Blk :=
  s.updDom code (fun d =>
    if d.powered then { d with ready := true, clamped := false, touched := s.now, restartAt := none } else d)

/-- The bound within which a woken domain is ready, in ticks: LOC 2 ms, a digital domain 40 µs (16 R599). -/
def readyBound (code : Nat) : Nat := if code = 2 then 625000 else 12500

/-- The codes of every domain. -/
def domCodes : List Nat := [0, 1, 2, 3, 4, 5, 6, 7] ++ (List.range 18).map (· + 0x10)

/-- The engine is entering Rosemary or Off (16 R601). -/
def Blk.enteringSleep (s : Blk) : Bool := s.pwr.mode = .entering || s.pwr.mode = .enteringOff

/-- The engine is in Coppice. -/
def Blk.coppice (s : Blk) : Bool := s.sys.mode = .coppice

/-- A domain runs in Coppice (17 R630). -/
def Blk.runsInCoppice (s : Blk) (code : Nat) : Bool :=
  code = 0 || code = 1 || code = 2 || code = 4 || code = 7 || (code = 6 && s.linkUp) ||
  code = 0x10 + s.sys.coppiceEng

/-- The domain of an address, AON for a page that is not listed. -/
def domOf (a : Nat) : Nat := ((pageInfo (pageOf a)).map PageInfo.dom).getD 0

/-- A page is listed: in the index, and in Coppice its domain runs (12 R441 order 2, 17 R630). -/
def Blk.pageListed (s : Blk) (page : Nat) : Bool :=
  match pageInfo page with
  | none => false
  | some p => !s.coppice || s.runsInCoppice p.dom

/-- A bundle that is open or waiting, or a list of staged writes, touches a domain (12 R463). -/
def writesDom (code : Nat) (w : List (Nat × Word)) : Bool :=
  w.any (fun p => match pageInfo (pageOf p.1) with | some i => i.dom = code | none => false)

/-- Every session bundle that is open or waiting. -/
def Blk.bundles (s : Blk) : List Bundle := s.bnd.opened.filterMap id ++ s.bnd.waiting

/-- A bundle holds the domain powered: STATUS.gate_held (12 R463). -/
def Blk.bundleHolds (s : Blk) (code : Nat) : Bool := s.bundles.any (fun b => writesDom code b.writes)

/-! ### Jobs -/

/-- A field of a job's descriptor. -/
def Job.f (j : Job) (o n : Nat) : Nat := getLe j.desc o n

/-! The fields of R46 to R49, by name. -/
def Job.kind (j : Job) : Nat := j.f 0 1
def Job.cls (j : Job) : Nat := j.f 1 1
def Job.tag (j : Job) : Nat := j.f 4 4
def Job.campTag (j : Job) : Nat := j.f 8 4
def Job.frameCount (j : Job) : Nat := j.f 12 4
def Job.interval (j : Job) : Nat := j.f 16 4
def Job.armTimeout (j : Job) : Nat := j.f 20 4
def Job.pool (j : Job) : Nat := j.f 24 1
def Job.output (j : Job) : Nat := j.f 25 1
def Job.payloadCap (j : Job) : Nat := j.f 26 2
def Job.trigger (j : Job) : Nat := j.f 32 1
def Job.readout (j : Job) : Nat := j.f 33 1
def Job.light (j : Job) : Nat := j.f 34 1
def Job.grading (j : Job) : Nat := j.f 35 1
def Job.exposure (j : Job) : Nat := j.f 36 4
def Job.symbologies (j : Job) : Nat := j.f 40 4
def Job.maxSymbols (j : Job) : Nat := j.f 44 1
def Job.sizeClass (j : Job) : Nat := j.f 45 1
def Job.roiTiles (j : Job) : Nat := j.f 46 2
def Job.channels (j : Job) : Nat := j.f 32 1
def Job.filterSet (j : Job) : Nat := j.f 33 1
def Job.decoder (j : Job) : Nat := j.f 34 1
def Job.maxMarks (j : Job) : Nat := j.f 35 1
def Job.windowStart (j : Job) : Nat := j.f 36 8
def Job.windowEnd (j : Job) : Nat := j.f 44 8
def Job.pitch (j : Job) : Nat := j.f 52 4
def Job.trackLength (j : Job) : Nat := j.f 56 4
def Job.markCount (j : Job) : Nat := j.f 32 2
def Job.fit (j : Job) : Nat := j.f 34 1
def Job.order (j : Job) : Nat := j.f 35 1
def Job.writers (j : Job) : Nat := j.f 36 4
def Job.layer (j : Job) : Nat := j.f 40 2
def Job.plateFragment (j : Job) : Nat := j.f 42 2
def Job.closeTime (j : Job) : Nat := j.f 48 8

/-- The scope, latency, decode window and rank of a promise class (02 R51), in ticks, µs and rank. -/
structure ClassInfo where
  latency : Nat
  latencyUs : Nat
  window : Nat
  rank : Nat
deriving DecidableEq, Repr

/-- The table of R51. -/
def classInfo (c : Nat) : ClassInfo :=
  match c with
  | 1 => ⟨375000, 1200, 1000, 4⟩
  | 2 => ⟨1250000, 4000, 3800, 2⟩
  | 3 => ⟨15625000, 50000, 45000, 1⟩
  | 4 => ⟨93750, 300, 240, 5⟩
  | _ => ⟨625000, 2000, 1850, 3⟩

/-- The latency of a job's deliveries in ticks (02 R51). -/
def Job.latency (j : Job) : Nat := (classInfo j.cls).latency

/-- A job is live: every listed job is (02 R84). -/
def Blk.jobLive (s : Blk) : Bool := s.jobs.length != 0

/-- The live job with a host_tag. -/
def Blk.jobByTag (s : Blk) (tag : Nat) : Option Job := s.jobs.find? (fun j => j.tag = tag)

/-- The live job with an admission sequence number. -/
def Blk.jobBySeq (s : Blk) (seq : Nat) : Option Job := s.jobs.find? (fun j => j.seq = seq)

/-- A live job changed. -/
def Blk.updJob (s : Blk) (seq : Nat) (f : Job → Job) : Blk :=
  { s with jobs := s.jobs.map (fun j => if j.seq = seq then f j else j) }

/-- An exposure job is live. -/
def Blk.exposureLive (s : Blk) : Bool := s.jobs.any (fun j => j.kind = 1)
/-- A sweep job is live. -/
def Blk.sweepLive (s : Blk) : Bool := s.jobs.any (fun j => j.kind = 2)

/-! ### Sessions -/

/-- A session slot. -/
def Blk.slot (s : Blk) (i : Nat) : SesSlot := s.ses.slots.getD i {}

/-- A session slot changed. -/
def Blk.updSlot (s : Blk) (i : Nat) (f : SesSlot → SesSlot) : Blk :=
  { s with ses := { s.ses with slots := upd s.ses.slots i f } }

/-- The role of whoever makes an access: 0 without an open session (13 R506). -/
def Blk.role (s : Blk) (who : Who) : Nat :=
  match who with
  | none => 0
  | some i => if (s.slot i.val).st = .opened then (s.slot i.val).role else 0

/-! ### Ports -/

/-- Something leaves the engine on a port. -/
def Blk.send (s : Blk) (w : Wire) : Blk := { s with wire := s.wire ++ [w] }

/-- Several things leave the engine. -/
def Blk.sendAll (s : Blk) (l : List Wire) : Blk := { s with wire := s.wire ++ l }

/-- The SOP block of a packet: type, flags, length, lseq (14 R520, R523). -/
def sopBytes (ptype flags len lseq : Nat) : List Byte := le 1 0x78 ++ le 1 ptype ++ le 1 flags ++ le 2 len ++ le 2 lseq ++ le 1 0

/-- Data blocks of a packet (14 R523). -/
def dataBlocks (len : Nat) : Nat := ceilDiv (len + 4) 8

/-- A packet's bytes: SOP, payload, zeros up to the last 4 bytes, and the CRC over SOP bytes 1 to 7, payload and zeros (14
R523, R524). -/
def packetBytes (ptype flags lseq : Nat) (payload : List Byte) : List Byte :=
  let sop := sopBytes ptype flags payload.length lseq
  let body := payload ++ zeros (8 * dataBlocks payload.length - 4 - payload.length)
  sop ++ body ++ le 4 (crc32 (sop.drop 1 ++ body))

/-- A packet on the link (14 R523). -/
def Wire.packet (ptype flags lseq : Nat) (payload : List Byte) : Wire := .stream (packetBytes ptype flags lseq payload)

end Sys2Proof.Machine
end

