-- ==== Sys2Proof/Machine/Operands.lean ====
section
/-! DEFINITION. The operand forms of a register access: the address and its page, who makes it and what his role
grants, claims, locks and values, in the order of 12 R441 and R455; and of a claim, a timestamp pair and a
configuration field. -/
namespace Sys2Proof.Machine

/-- The GPC resources that take a claim, by the offset of their claim register: pins 0 to 7, timers 8 to 15, pools 16
to 31, LTEMP 32 (12 R467). -/
def claimReg (res : Nat) : Nat := Reg.GPC_CLAIM_GP 0 + 4 * res

/-- The owner code in a claim register (12 R467). -/
def Blk.owner (s : Blk) (res : Nat) : Nat := s.regF (claimReg res) 7 0

/-- The resource whose configuration an address sets: a pin's GPn_CFG, a timer's four registers (12 R472). -/
def configResource (a : Nat) : Option Nat :=
  if Reg.GPC_GP_CFG 0 ≤ a ∧ a < Reg.GPC_GP_CFG 8 then some ((a - Reg.GPC_GP_CFG 0) / 4)
  else if Reg.GPC_T_CTL 0 ≤ a ∧ a < Reg.GPC_T_CTL 8 then some (8 + (a - Reg.GPC_T_CTL 0) / 16)
  else none

/-- May a role read a page? ID and SYS without a session, every other page with one (13 R506, 12 R441). -/
def mayRead (role page : Nat) : Bool := page = 0 || page = 1 || role != 0

/-- May a role write a register? (13 R506): RO and RSV registers and unnamed offsets any session (the write is ignored);
RWS registers and TLYC.PARAM_DATA Seal; the selector registers and claims any session; ADM.CANCEL and SOFT_TRIG
Operator; the UST page, SES.IDLE_LIMIT, SES.CLOSE and SYS.START_CTL Service; every other register Operator or
Service. -/
def mayWrite (role a : Nat) : Bool :=
  let acc := accessOf a
  if role = 0 then false
  else if acc = .ro ∨ acc = .rsv then true
  else if acc = .rws then role = 3
  else if acc = .claim then true
  else if a = Reg.TLYC_PARAM_SEL ∨ a = Reg.TLYA_LOG_SEL ∨ a = Reg.ADM_HIST_SEL then true
  else if a = Reg.ADM_CANCEL ∨ a = Reg.ADM_SOFT_TRIG then role = 1
  else if pageOf a = 0x08 ∨ a = Reg.SES_IDLE_LIMIT ∨ a = Reg.SES_CLOSE ∨ a = Reg.SYS_START_CTL then role = 2
  else role = 1 || role = 2

/-- A register is staged in a bundle, open or waiting, of a session other than that of slot `me`; one whose session has closed is of
another session than whoever holds its slot now (12 R458, R461). -/
def Blk.lockedFrom (s : Blk) (me a : Nat) : Bool :=
  s.bundles.any (fun b => (b.slot != me || b.orphan) && b.writes.any (fun w => w.1 = a))

/-- The checks of 12 R441 on a read, in order: alignment and range, page, role. -/
def Blk.readCheck (s : Blk) (who : Who) (a : Nat) : Nat :=
  if a % 4 ≠ 0 then 0xB001
  else if !s.pageListed (pageOf a) then 0xB002
  else if !mayRead (s.role who) (pageOf a) then 0xB003
  else 0

/-- The checks of 12 R441 on a write, in order: alignment and range, page, role, claim, lock. -/
def Blk.writeCheck (s : Blk) (who : Who) (a : Nat) : Nat :=
  if a % 4 ≠ 0 then 0xB001
  else if !s.pageListed (pageOf a) then 0xB002
  else if !mayWrite (s.role who) a then 0xB003
  else if (match configResource a with | some r => s.owner r != s.role who | none => false) then 0xB012
  else if accessOf a = .rwb && s.lockedFrom ((who.map Fin.val).getD 4) a then 0xB031
  else 0

/-- The event bits of a page that are defined, as a mask: every other bit of EVT_LATCH and EVT_ENABLE is reserved. -/
def evtMask (page : Nat) : Nat :=
  match pageInfo page with
  | some p => 2 ^ p.evts - 1
  | none => 0

/-- The step words of a pattern program: the codes and fields 11 R410 lists are checked by stepWordOk (Illumination);
here, whether value `v` suits register `a` by its table's fields alone (12 R455), with the stricter checks that name
two fields of one register: LOC.REF_AREA (03 R135), PDA corner (07 R292), PDC input (07 R295), BND.CMD (12 R453). -/
def valueFits (a v : Nat) : Bool :=
  match regDef a with
  | none => true
  | some d =>
    if d.acc = .ro ∨ d.acc = .rsv then true
    else if offOf a = 0x014 ∨ offOf a = 0x018 then fieldsOk v [⟨31, 0, 0, evtMask (pageOf a)⟩] && v &&& evtMask (pageOf a) == v
    else fieldsOk v d.flds &&
      (if a = Reg.LOC_REF_AREA then fld v 7 0 ≤ fld v 15 8 && fld v 23 16 ≤ fld v 31 24
       else if d.off = 0x104 ∧ pageOf a = 0x38 then v = 0 || 10 ≤ v
       else if d.off = 0x040 ∧ 0x39 ≤ pageOf a ∧ pageOf a ≤ 0x40 then fld v 5 4 != 1
       else if a = Reg.BND_CMD then (fld v 3 0 = 2 && fld v 9 8 != 3) || fld v 3 0 = 1 || fld v 3 0 = 3
       else if a = Reg.TLYC_PARAM_SEL then fld v 1 0 = 0
       else true)

/-- The 64-bit value a _LO and _HI pair of registers holds. -/
def Blk.pair (s : Blk) (lo : Nat) : Nat := s.regN lo + s.regN (lo + 4) * 2 ^ 32

/-- A _LO and _HI pair of registers set. -/
def Blk.setPair (s : Blk) (lo v : Nat) : Blk := (s.setN lo (v % 2 ^ 32)).setN (lo + 4) (v / 2 ^ 32 % 2 ^ 32)

/-- Outcome of a single access recorded: a status, and the value of a read (12 R440). -/
def Blk.answer (s : Blk) (status value : Nat) : Blk :=
  { s with acc := { stalled := false, status := status, value := if status = 0 then value else 0 } }

/-- A refused access: its status is the fault, which latches on its page (12 R440, R479), and nothing else changes. -/
def Blk.refuse (s : Blk) (code : Nat) : Blk := (s.raise code).answer code 0

/-- A selector of a session slot: 0 PARAM_SEL, 1 LOG_SEL, 2 HIST_SEL (13 R506). -/
def Blk.selector (s : Blk) (who : Who) (k : Nat) : Nat :=
  match s.selectors[(who.map Fin.val).getD 4]? with
  | some (p, l, h) => if k = 0 then p else if k = 1 then l else h
  | none => 0

/-- A selector of the caller's slot set. -/
def Blk.setSelector (s : Blk) (who : Who) (k v : Nat) : Blk :=
  match who with
  | none => s
  | some i => { s with selectors := upd s.selectors i.val (fun (p, l, h) =>
      if k = 0 then (v, l, h) else if k = 1 then (p, v, h) else (p, l, v)) }

end Sys2Proof.Machine
end

