-- ==== Sys2Proof/Machine/BundleOps.lean ====
section
/-! DEFINITION. What ends a bundle (12 R455 to R465): tags, the callers' last words, an abort, and which domain and page
each of the engine's own bundles concerns. -/
namespace Sys2Proof.Machine

/-- The next tag of R457, and the count advanced: it skips 0. -/
def Blk.takeTag (s : Blk) : Nat × Blk :=
  let t := s.bnd.nextTag
  (t, { s with bnd := { s.bnd with nextTag := if t = 65535 then 1 else t + 1 } })

/-- A bundle removed from where it stands; the domains it held may gate again later (16 R595). -/
def Blk.dropBundle (s : Blk) (b : Bundle) : Blk :=
  let s := s.touch (b.writes.map (fun w => domOf w.1))
  { s with bnd := { s.bnd with
      opened := s.bnd.opened.map (fun o => match o with | some c => if c.id = b.id then none else some c | none => none)
      waiting := s.bnd.waiting.filter (fun c => c.id != b.id) } }

/-- BND.LAST of a slot: tag, committed or aborted, and which side of R460 won. -/
def Blk.lastWord (s : Blk) (slot tag how wonBy : Nat) : Blk :=
  { s with bnd := { s.bnd with callers := upd s.bnd.callers slot (fun c =>
      { c with last := tag + how * 2 ^ 16 + wonBy * 2 ^ 18 }) } }

/-- The fault of an aborted bundle latches on its page: 0xB142 of TLY.ROUTE on TLY, every other where its table says
(R456, R479). -/
def Blk.abortFault (s : Blk) (code addr : Nat) : Blk :=
  if code = 0xB142 && addr = Reg.TLY_ROUTE then s.raiseAt 0x50 code else s.raise code

/-- A session's bundle aborts (R453 to R465): it takes a tag, its caller sees fault, tag and offending address, and no
write applies. -/
def Blk.abortBundle (s : Blk) (b : Bundle) (code addr wonBy : Nat) : Blk :=
  let (t, s) := (s.dropBundle b).takeTag
  let s := s.lastWord b.slot t 2 wonBy
  let s := { s with bnd := { s.bnd with callers := upd s.bnd.callers b.slot (fun c =>
      { c with lastAbort := code + t * 2 ^ 16, abortAddr := addr }) } }
  ((s.bump Reg.BND_COUNTS 31 16 1).event 0x03 1 0x0000).abortFault code addr

/-- Every session bundle that writes a domain aborts (R464, R465). -/
def Blk.abortDomain (s : Blk) (code dom : Nat) : Blk :=
  (s.bundles.filter (fun b => writesDom dom b.writes)).foldl (fun s b => s.abortBundle b code 0 0) s

/-! ### The engine's own bundles (R462) -/

/-- The page an act of the engine's own writes. -/
def EngAct.page : EngAct → Nat
  | .reg a _ => pageOf a
  | .degrade _ => 0x1B
  | .locTrims _ => 0x1B
  | .pdTrim ch _ _ => 0x39 + ch
  | .litTrim _ _ => 0x04
  | .litRef _ _ => 0x04
  | .laneEq l _ => 0x0B + l
  | .zqLatch => 0x12
  | .dqs _ _ _ => 0x12
  | .remap _ => 0x14
  | .tallyParam => 0x51
  | .spare k _ => match k with
    | .engine => 0x32
    | .column => 0x1B
    | .lane => 0x0A
    | .adc => 0x38
    | .row => 0x14
    | .sram => 0x08
    | .key => 0x02
    | .sink => 0x49
    | .domain => 0x08

/-- The domain of that page. -/
def EngAct.dom (a : EngAct) : Nat := ((pageInfo a.page).map PageInfo.dom).getD 0

/-- Acts of the engine's own take the free ones of its 8 slots, in the order they were asked for (R452). -/
def Blk.engRefill (s : Blk) : Blk :=
  let n := 8 - s.bnd.eng.length
  { s with bnd := { s.bnd with eng := s.bnd.eng ++ s.bnd.engWait.take n, engWait := s.bnd.engWait.drop n } }

/-- One of the engine's own bundles stands waiting, or its act waits for a slot (R452, R462). -/
def Blk.engStage (s : Blk) (point : Nat) (a : EngAct) : Blk :=
  if (s.bnd.eng ++ s.bnd.engWait).any (fun e => e.act = a) then s
  else ({ s with bnd := { s.bnd with engWait := s.bnd.engWait ++ [{ point := point, act := a }] } } : Blk).engRefill

/-- Acts of the engine's own are taken out of its slots and of what waits for one. -/
def Blk.engDrop (s : Blk) (out : EngAct → Bool) : Blk :=
  { s with bnd := { s.bnd with eng := s.bnd.eng.filter (fun e => !out e.act), engWait := s.bnd.engWait.filter (fun e => !out e.act) } }

/-- The commit of an engine bundle is counted, and its tag stands in its page (R457). -/
def Blk.engTag (s : Blk) (a : EngAct) : Blk :=
  let (t, s) := (s.touch [a.dom]).takeTag
  ((s.setN (Reg.HDR_BUNDLE_TAG a.page) t).bump Reg.BND_COUNTS 15 0 1).event 0x03 0 0x0000

/-- The engine's own bundles for a domain abort with the fault a session's would have (R464, R465); an insertion is made again (17
R636). -/
def Blk.abortEng (s : Blk) (code dom : Nat) : Blk :=
  let hit := s.bnd.eng.filter (fun e => e.act.dom = dom)
  let s := (s.engDrop (fun a => a.dom = dom)).engRefill
  hit.foldl (fun s e =>
    let (_, s) := s.takeTag
    let s := ((s.bump Reg.BND_COUNTS 31 16 1).event 0x03 1 0x0000).raise code
    match e.act with
    | .spare _ _ => s.raise 0xA104
    | .remap _ => s.raise 0xA104
    | _ => s) s

/-- Whether a bundle, a session's or the engine's own, holds a domain powered (R463). -/
def Blk.gateHeld (s : Blk) (dom : Nat) : Bool := s.bundleHolds dom || s.bnd.eng.any (fun e => e.act.dom = dom)

end Sys2Proof.Machine
end

