-- ==== Sys2Proof/Machine/Crypto.lean ====
section
/-! DEFINITION. The cryptographic functions the spec names: SHA-256 and SHA-512 (FIPS 180-4), Ed25519 (RFC 8032) for
Tally's seals (09 R346, R349), AES-128 and AES-CMAC (RFC 4493) for sessions (13 R501). Constants that the standards
define by primes or by the field are computed here, not tabled. -/
namespace Sys2Proof.Machine

/-! ### SHA-2 -/

/-- The first 80 primes. -/
def primes : List Nat :=
  ((List.range 410).filter (fun n => 2 ≤ n && ((List.range n).drop 2).all (fun d => n % d != 0))).take 80

/-- The integer cube root of n < 2^240. -/
def icbrt (n : Nat) : Nat :=
  (List.range 80).foldl (fun r i => let t := r + 2 ^ (79 - i); if t * t * t ≤ n then t else r) 0

/-- The integer square root of n < 2^240. -/
def isqrtN (n : Nat) : Nat :=
  (List.range 120).foldl (fun r i => let t := r + 2 ^ (119 - i); if t * t ≤ n then t else r) 0

/-- The first 64 bits of the fractional parts of the cube roots of the first 80 primes (K of SHA-512). -/
def k512 : List Nat := primes.map (fun p => icbrt (p * 2 ^ 192) % 2 ^ 64)

/-- Their first 32 bits, for the first 64 primes (K of SHA-256). -/
def k256 : List Nat := (k512.take 64).map (· / 2 ^ 32)

/-- The first 64 bits of the fractional parts of the square roots of the first eight primes. -/
def h512 : List Nat := (primes.take 8).map (fun p => isqrtN (p * 2 ^ 128) % 2 ^ 64)

/-- Their first 32 bits. -/
def h256 : List Nat := h512.map (· / 2 ^ 32)

/-- Rotation right in w bits. -/
def rotr (w n x : Nat) : Nat := x / 2 ^ n + x % 2 ^ n * 2 ^ (w - n)

/-- The amounts of a SHA-2 function: word width, Σ0, Σ1, σ0, σ1, the last of the σ's being shifts. -/
structure ShaPar where
  w : Nat
  s0 : Nat × Nat × Nat
  s1 : Nat × Nat × Nat
  t0 : Nat × Nat × Nat
  t1 : Nat × Nat × Nat
deriving DecidableEq, Repr

def par256 : ShaPar := ⟨32, (2, 13, 22), (6, 11, 25), (7, 18, 3), (17, 19, 10)⟩
def par512 : ShaPar := ⟨64, (28, 34, 39), (14, 18, 41), (1, 8, 7), (19, 61, 6)⟩

/-- Exclusive or of three rotations. -/
def bigSigma (w : Nat) (r : Nat × Nat × Nat) (x : Nat) : Nat :=
  Nat.xor (Nat.xor (rotr w r.1 x) (rotr w r.2.1 x)) (rotr w r.2.2 x)

/-- Exclusive or of two rotations and a shift. -/
def smallSigma (w : Nat) (r : Nat × Nat × Nat) (x : Nat) : Nat :=
  Nat.xor (Nat.xor (rotr w r.1 x) (rotr w r.2.1 x)) (x / 2 ^ r.2.2)

/-- The message schedule, newest word first, extended by n words from at least 16. -/
def schedule (p : ShaPar) : Nat → List Nat → List Nat
  | 0, l => l
  | n + 1, l =>
    schedule p n ((smallSigma p.w p.t1 (l.getD 1 0) + l.getD 6 0 + smallSigma p.w p.t0 (l.getD 14 0) + l.getD 15 0) % 2 ^ p.w :: l)

/-- One round. -/
def shaRound (p : ShaPar) (v : List Nat) (kw : Nat × Nat) : List Nat :=
  match v with
  | [a, b, c, d, e, f, g, h] =>
    let m := 2 ^ p.w
    let ch := Nat.xor (Nat.land e f) (Nat.land (m - 1 - e) g)
    let maj := Nat.xor (Nat.xor (Nat.land a b) (Nat.land a c)) (Nat.land b c)
    let x := h + bigSigma p.w p.s1 e + ch + kw.1 + kw.2
    let y := bigSigma p.w p.s0 a + maj
    [(x + y) % m, a, b, c, (d + x) % m, e, f, g]
  | _ => v

/-- One block of 16 words. -/
def shaBlock (p : ShaPar) (k : List Nat) (h words : List Nat) : List Nat :=
  let w := (schedule p (k.length - 16) words.reverse).reverse
  ((k.zip w).foldl (shaRound p) h).zip h |>.map (fun (a, b) => (a + b) % 2 ^ p.w)

/-- A list cut into pieces of n (the last may be shorter), with fuel. -/
def chunks {α : Type} (n : Nat) : Nat → List α → List (List α)
  | 0, _ => []
  | fuel + 1, l => if l.isEmpty then [] else l.take n :: chunks n fuel (l.drop n)

/-- Padding: 0x80, zeros, and the length in bits. -/
def shaPad (w : Nat) (l : List Byte) : List Byte :=
  let block := w * 2
  let len := w / 4
  let z := (block - (l.length + 1 + len) % block) % block
  l ++ [0x80] ++ zeros z ++ be len (l.length * 8)

/-- A SHA-2 hash. -/
def sha2 (p : ShaPar) (k h0 : List Nat) (l : List Byte) : List Byte :=
  let m := shaPad p.w l
  let h := (chunks (p.w * 2) (m.length + 1) m).foldl (fun h b =>
    shaBlock p k h ((chunks (p.w / 8) 17 b).map unbe)) h0
  h.flatMap (be (p.w / 8))

/-- SHA-256. -/
def sha256 (l : List Byte) : List Byte := sha2 par256 k256 h256 l
/-- SHA-512. -/
def sha512 (l : List Byte) : List Byte := sha2 par512 k512 h512 l

/-! ### Ed25519 -/

/-- The field's prime and the group's order. -/
def edP : Nat := 2 ^ 255 - 19
def edL : Nat := 2 ^ 252 + 27742317777372353535851937790883648493

/-- b^e modulo p, by the bits of e. -/
def powMod (p b : Nat) : Nat → Nat → Nat → Nat
  | 0, _, acc => acc
  | fuel + 1, e, acc =>
    if e = 0 then acc else powMod p (b * b % p) fuel (e / 2) (if e % 2 = 1 then acc * b % p else acc)

/-- Inverse modulo edP. -/
def edInv (x : Nat) : Nat := powMod edP (x % edP) 256 (edP - 2) 1

/-- d of the curve: −121665 ÷ 121666. -/
def edD : Nat := (edP - 121665) * edInv 121666 % edP

/-- A point in extended coordinates X, Y, Z, T. -/
structure EdPt where
  x : Nat
  y : Nat
  z : Nat
  t : Nat
deriving DecidableEq, Repr

/-- Addition (RFC 8032, 5.1.4). -/
def EdPt.add (p q : EdPt) : EdPt :=
  let m (a b : Nat) : Nat := a * b % edP
  let sub (a b : Nat) : Nat := (a + edP - b % edP) % edP
  let a := m (sub p.y p.x) (sub q.y q.x)
  let b := m (p.y + p.x) (q.y + q.x)
  let c := m (m (2 * p.t) q.t) edD
  let d := m (2 * p.z) q.z
  let e := sub b a
  let f := sub d c
  let g := (d + c) % edP
  let h := (b + a) % edP
  ⟨m e f, m g h, m f g, m e h⟩

/-- The square root used to find x, of a value that is a square modulo edP. -/
def edSqrt (a : Nat) : Nat :=
  let r := powMod edP a 256 ((edP + 3) / 8) 1
  if r * r % edP = a % edP then r else r * powMod edP 2 256 ((edP - 1) / 4) 1 % edP

/-- The base point: y = 4/5, x even. -/
def edBase : EdPt :=
  let y := 4 * edInv 5 % edP
  let x := edSqrt ((y * y + edP - 1) * edInv (edD * y % edP * y + 1) % edP)
  let x := if x % 2 = 0 then x else edP - x
  ⟨x, y, 1, x * y % edP⟩

/-- A multiple of a point, by the bits of the scalar. -/
def edMul (p : EdPt) : Nat → Nat → EdPt → EdPt
  | 0, _, acc => acc
  | fuel + 1, k, acc => edMul (p.add p) fuel (k / 2) (if k % 2 = 1 then acc.add p else acc)

/-- A point as 32 bytes. -/
def EdPt.bytes (p : EdPt) : List Byte :=
  let zi := edInv p.z
  let x := p.x * zi % edP
  let y := p.y * zi % edP
  le 32 (y + x % 2 * 2 ^ 255)

/-- k·B as bytes. -/
def edScalarBase (k : Nat) : EdPt := edMul edBase 256 k ⟨0, 1, 1, 0⟩

/-- The secret scalar and the prefix of a seed. -/
def edExpand (seed : List Byte) : Nat × List Byte :=
  let h := sha512 seed
  let a := unle (h.take 32)
  (a % 2 ^ 254 / 8 * 8 + 2 ^ 254, h.drop 32)

/-- The public key of a seed. -/
def edPublic (seed : List Byte) : List Byte := (edScalarBase (edExpand seed).1).bytes

/-- The signature R ‖ S of a message (RFC 8032, 5.1.6). -/
def edSign (seed msg : List Byte) : List Byte :=
  let (a, pre) := edExpand seed
  let r := unle (sha512 (pre ++ msg)) % edL
  let rb := (edScalarBase r).bytes
  let k := unle (sha512 (rb ++ edPublic seed ++ msg)) % edL
  rb ++ le 32 ((r + k * a) % edL)

/-! ### AES-128 and CMAC -/

/-- Multiplication in GF(2^8), x^8 + x^4 + x^3 + x + 1. -/
def aesMul (a b : Nat) : Nat :=
  ((List.range 8).foldl (fun (acc : Nat × Nat) i =>
    let p := if bitN b i then Nat.xor acc.1 acc.2 else acc.1
    let d := acc.2 * 2
    (p, if 256 ≤ d then Nat.xor (d - 256) 0x1B else d)) (0, a)).1

/-- The inverse of an element, 0 for 0: a^254. -/
def aesInv (a : Nat) : Nat := (List.range 253).foldl (fun r _ => aesMul r a) a

/-- The S-box from its definition: the inverse and the affine map. -/
def sboxOf (a : Nat) : Nat :=
  let b := aesInv a
  let rot (n : Nat) : Nat := (b * 2 ^ n) % 256 + b / 2 ^ (8 - n)
  Nat.xor (Nat.xor (Nat.xor (Nat.xor (Nat.xor b (rot 1)) (rot 2)) (rot 3)) (rot 4)) 0x63

/-- The S-box. -/
def sbox : List Nat := (List.range 256).map sboxOf

/-- Exclusive or of two byte lists. -/
def xorL (a b : List Nat) : List Nat := (a.zip b).map (fun p => Nat.xor p.1 p.2)

/-- The next round key from the last. -/
def nextKey (k : List Nat) (rcon : Nat) : List Nat :=
  let w (i : Nat) : List Nat := (k.drop (4 * i)).take 4
  let l := w 3
  let g := [Nat.xor (sbox.getD (l.getD 1 0) 0) rcon, sbox.getD (l.getD 2 0) 0, sbox.getD (l.getD 3 0) 0, sbox.getD (l.getD 0 0) 0]
  let a := xorL (w 0) g
  let b := xorL (w 1) a
  let c := xorL (w 2) b
  a ++ b ++ c ++ xorL (w 3) c

/-- MixColumns on one column. -/
def mixCol (c : List Nat) : List Nat :=
  let g (i : Nat) : Nat := c.getD (i % 4) 0
  (List.range 4).map (fun i => Nat.xor (Nat.xor (aesMul (g i) 2) (aesMul (g (i + 1)) 3)) (Nat.xor (g (i + 2)) (g (i + 3))))

/-- SubBytes and ShiftRows. -/
def subShift (s : List Nat) : List Nat := (List.range 16).map (fun i => sbox.getD (s.getD ((i + 4 * (i % 4)) % 16) 0) 0)

/-- One block of AES-128. -/
def aes (key block : List Nat) : List Nat :=
  let r := (List.range 9).foldl (fun (a : List Nat × List Nat × Nat) _ =>
    let (s, k, rc) := a
    let k := nextKey k rc
    let t := subShift s
    (xorL (((List.range 4).map (fun i => mixCol ((t.drop (4 * i)).take 4))).flatten) k, k, aesMul rc 2))
    (xorL block key, key, 1)
  xorL (subShift r.1) (nextKey r.2.1 r.2.2)

/-- The inverse of the S-box. -/
def sboxInv (a : Nat) : Nat :=
  let rot (n : Nat) : Nat := (a * 2 ^ n) % 256 + a / 2 ^ (8 - n)
  aesInv (Nat.xor (Nat.xor (Nat.xor (rot 1) (rot 3)) (rot 6)) 0x05)

/-- InvMixColumns on one column. -/
def mixColInv (c : List Nat) : List Nat :=
  let g (i : Nat) : Nat := c.getD (i % 4) 0
  (List.range 4).map (fun i =>
    Nat.xor (Nat.xor (aesMul (g i) 14) (aesMul (g (i + 1)) 11)) (Nat.xor (aesMul (g (i + 2)) 13) (aesMul (g (i + 3)) 9)))

/-- InvShiftRows and InvSubBytes. -/
def subShiftInv (s : List Nat) : List Nat := (List.range 16).map (fun i => sboxInv (s.getD ((i + 16 - 4 * (i % 4)) % 16) 0))

/-- The eleven round keys, the last one first. -/
def roundKeys (key : List Nat) : List (List Nat) :=
  ((List.range 10).foldl (fun (a : List (List Nat) × Nat) _ => (nextKey (a.1.headD []) a.2 :: a.1, aesMul a.2 2)) ([key], 1)).1

/-- One block of AES-128 deciphered (FIPS 197, 5.3). -/
def aesDec (key block : List Nat) : List Nat :=
  match roundKeys key with
  | [] => block
  | k :: ks =>
    let mid := ks.dropLast.foldl (fun s k =>
      let t := xorL (subShiftInv s) k
      ((List.range 4).map (fun i => mixColInv ((t.drop (4 * i)).take 4))).flatten) (xorL block k)
    xorL (subShiftInv mid) key

/-- Doubling of a CMAC subkey. -/
def cmacDbl (l : List Nat) : List Nat :=
  let n := l.foldl (fun a b => a * 256 + b) 0
  let d := if n < 2 ^ 127 then n * 2 else Nat.xor (n * 2 - 2 ^ 128) 0x87
  (be 16 d).map BitVec.toNat

/-- AES-CMAC of a message (RFC 4493): 16 bytes. -/
def cmac (key : List Byte) (msg : List Byte) : List Byte :=
  let k := key.map BitVec.toNat
  let m := msg.map BitVec.toNat
  let k1 := cmacDbl (aes k (List.replicate 16 0))
  let n := if m.isEmpty then 1 else (m.length + 15) / 16
  let last := m.drop (16 * (n - 1))
  let fin := if last.length = 16 then xorL last k1
    else xorL (last ++ [0x80] ++ List.replicate (15 - last.length) 0) (cmacDbl k1)
  let c := (chunks 16 n (m.take (16 * (n - 1)))).foldl (fun c b => aes k (xorL c b)) (List.replicate 16 0)
  (aes k (xorL c fin)).map (BitVec.ofNat 8)

end Sys2Proof.Machine
end

