-- ==== Sys2Proof/Machine/Codes.lean ====
section
/-! DEFINITION. What the codes of the standard symbologies share (05 R190, R197): fields of 2^8 elements, Reed–Solomon decoding, and
the bytes transmitted for a string of characters, FNC1 and ECI. The standards are not part of the spec; what is taken from them
is PRESUMED (log 94). -/
namespace Sys2Proof.Machine

/-! ### Fields of 256 elements -/

/-- Multiplication modulo a field polynomial of degree 8. -/
def gmul (poly a b : Nat) : Nat :=
  (List.range 8).foldl (fun acc i =>
    let d := 2 * acc
    let d := if 256 ≤ d then Nat.xor d poly else d
    if bitN b (7 - i) then Nat.xor d a else d) 0

/-- α^k, α = 2. -/
def gpow (poly k : Nat) : Nat := (List.range (k % 255)).foldl (fun a _ => gmul poly a 2) 1

/-- The inverse: the 254th power. -/
def ginv (poly a : Nat) : Nat :=
  ((List.range 7).foldl (fun (p : Nat × Nat) _ => let q := gmul poly p.2 p.2; (gmul poly p.1 q, q)) (1, a)).1

/-- A polynomial's value, highest term first; and lowest term first. -/
def gevalHigh (poly : Nat) (c : List Nat) (x : Nat) : Nat := c.foldl (fun a k => Nat.xor (gmul poly a x) k) 0
def geval (poly : Nat) (c : List Nat) (x : Nat) : Nat := gevalHigh poly c.reverse x

/-! ### Reed–Solomon -/

/-- The syndromes of a word at n roots from α^first on. -/
def rsSyndromes (poly first n : Nat) (w : List Nat) : List Nat := (List.range n).map (fun i => gevalHigh poly w (gpow poly (first + i)))

/-- Berlekamp and Massey's iteration: the locator and the one before its last change, the length, the steps since, and the
discrepancy of that change. -/
structure Bm where
  c : List Nat := [1]
  b : List Nat := [1]
  l : Nat := 0
  m : Nat := 1
  d : Nat := 1

/-- One step over the syndromes. -/
def Bm.step (poly : Nat) (s : List Nat) (t : Bm) (n : Nat) : Bm :=
  let d := (List.range (t.l + 1)).foldl (fun d i => Nat.xor d (gmul poly (t.c.getD i 0) (s.getD (n - i) 0))) 0
  if d = 0 then { t with m := t.m + 1 }
  else
    let k := gmul poly d (ginv poly t.d)
    let sh := List.replicate t.m 0 ++ t.b.map (gmul poly k)
    let c := (List.range (max t.c.length sh.length)).map (fun i => Nat.xor (t.c.getD i 0) (sh.getD i 0))
    if 2 * t.l ≤ n then { c := c, b := t.c, l := n + 1 - t.l, m := 1, d := d } else { t with c := c, m := t.m + 1 }

/-- A word with up to `cap` errors corrected, and how many there were; none beyond. -/
def rsCorrect (poly first n cap : Nat) (w : List Nat) : Option (List Nat × Nat) :=
  let s := rsSyndromes poly first n w
  if s.all (· = 0) then some (w, 0)
  else
    let t := (List.range n).foldl (Bm.step poly s) {}
    let locs := (List.range w.length).filter (fun j => geval poly t.c (gpow poly (255 - j % 255)) = 0)
    if cap < t.l ∨ locs.length ≠ t.l then none
    else
      let om := (List.range n).map (fun i => (List.range (i + 1)).foldl (fun a k => Nat.xor a (gmul poly (t.c.getD k 0) (s.getD (i - k) 0))) 0)
      let der := (List.range (t.c.length - 1)).map (fun i => if i % 2 = 0 then t.c.getD (i + 1) 0 else 0)
      let w2 := locs.foldl (fun w j =>
        let x := gpow poly (255 - j % 255)
        let e := gmul poly (gmul poly (gpow poly (j * (256 - first))) (geval poly om x)) (ginv poly (geval poly der x))
        upd w (w.length - 1 - j) (fun v => Nat.xor v e)) w
      if (rsSyndromes poly first n w2).all (· = 0) then some (w2, t.l) else none

/-! ### Blocks -/

/-- A block of a symbol: the numbers of its codewords, first data and then check, how many are check codewords, and how many of those
are kept from correction. -/
structure CodeBlock where
  words : List Nat
  checks : Nat
  kept : Nat
deriving DecidableEq, Repr

/-- The codewords corrected block by block, with the errors of each block; none when one exceeds its capacity. -/
def correctBlocks (poly first : Nat) (blocks : List CodeBlock) (w : List Nat) : Option (List Nat × List Nat) :=
  blocks.foldl (fun acc b => acc.bind (fun (w, es) =>
    (rsCorrect poly first b.checks ((b.checks - b.kept) / 2) (b.words.map (fun i => w.getD i 0))).map (fun (v, e) =>
      ((b.words.zip v).foldl (fun w p => upd w p.1 (fun _ => p.2)) w, es ++ [e])))) (some (w, []))

/-! ### Transmission (05 R191, R195, R197) -/

/-- What a symbol's data decode to, piece by piece. -/
inductive Tok where
  | ch (c : Nat)
  | fnc1
  | eci (n : Nat)
deriving DecidableEq, Repr

/-- Six decimal digits. -/
def sixDigits (n : Nat) : List Nat := [5, 4, 3, 2, 1, 0].map (fun k => 48 + n / 10 ^ k % 10)

/-- The bytes transmitted and the offsets of those that stand for FNC1 as a separator: with an ECI present the protocol of escapes
applies, a backslash before six digits and every backslash of the data doubled. -/
def transmit (l : List Tok) : List Byte × List Nat :=
  let esc := l.any (fun t => match t with | .eci _ => true | _ => false)
  let (b, s) := l.foldl (fun (a : List Nat × List Nat) t => match t with
    | .ch c => (a.1 ++ (if esc && c = 0x5C then [0x5C, 0x5C] else [c]), a.2)
    | .fnc1 => (a.1 ++ [0x1D], a.2 ++ [a.1.length])
    | .eci n => (a.1 ++ 0x5C :: sixDigits n, a.2)) ([], [])
  (b.map (BitVec.ofNat 8), s)

/-- The first ECI designator. -/
def firstEci (l : List Tok) : Option Nat := l.findSome? (fun t => match t with | .eci n => some n | _ => none)

/-- What a standard symbol's codewords say. -/
structure Message where
  toks : List Tok := []
  /-- FNC1 in the first position; in the second (for QR Code with its application indicator at the head of the data) -/
  gs1 : Bool := false
  aim : Bool := false
  readerProg : Bool := false
  fnc2 : Bool := false
  fnc3 : Bool := false
  saPos : Nat := 0
  saTotal : Nat := 0
  saFile : Nat := 0
deriving DecidableEq, Repr

/-- A symbology identifier: its code character and its modifier digit. -/
def identifier (code modifier : Nat) : Nat := code + 256 * (48 + modifier)

end Sys2Proof.Machine
end

