-- ==== Sys2Proof/Machine/Code128.lean ====
section
/-! DEFINITION. Code 128 (05 R194): characters from the widths of bars and spaces, the check character, the code sets, and the GS1
element strings of R195. The table of characters is ISO/IEC 15417's, PRESUMED (log 94). -/
namespace Sys2Proof.Machine

/-! ### Characters -/

/-- The widths of bars and spaces of the characters 0 to 105, in modules, one digit each. -/
def c128Widths : List Nat :=
  [212222, 222122, 222221, 121223, 121322, 131222, 122213, 122312, 132212, 221213, 221312, 231212, 112232, 122132, 122231, 113222,
   123122, 123221, 223211, 221132, 221231, 213212, 223112, 312131, 311222, 321122, 321221, 312212, 322112, 322211, 212123, 212321,
   232121, 111323, 131123, 131321, 112313, 132113, 132311, 211313, 231113, 231311, 112133, 112331, 132131, 113123, 113321, 133121,
   313121, 211331, 231131, 213113, 213311] ++
  [213131, 311123, 311321, 331121, 312113, 312311, 332111, 314111, 221411, 431111, 111224, 111422, 121124, 121421, 141122, 141221,
   112214, 112412, 122114, 122411, 142112, 142211, 241211, 221114, 413111, 241112, 134111, 111242, 121142, 121241, 114212, 124112,
   124211, 411212, 421112, 421211, 212141, 214121, 412121, 111143, 111341, 131141, 114113, 114311, 411113, 411311, 113141, 114131,
   311141, 411131, 211412, 211214, 211232]

/-- The stop character's seven widths. -/
def c128Stop : Nat := 2331112

/-- Widths in modules from widths in any unit: each edge at the nearest module of `n`. -/
def inModules (n : Nat) (w : List Nat) : Nat :=
  let tot := w.foldl (· + ·) 0
  let edges := (w.foldl (fun (a : Nat × List Nat) x => (a.1 + x, a.2 ++ [(2 * n * (a.1 + x) + tot) / (2 * tot)])) (0, [])).2
  ((0 :: edges).zip edges).foldl (fun k p => 10 * k + (p.2 - p.1)) 0

/-- The characters of a row of widths: those before the stop character; none when one is no character. -/
def c128Chars : Nat → List Nat → Option (List Nat)
  | 0, _ => none
  | k + 1, l =>
    if l.length = 7 then (if inModules 13 l = c128Stop then some [] else none)
    else if l.length < 7 then none
    else (c128Widths.findIdx? (· = inModules 11 (l.take 6))).bind (fun c => (c128Chars k (l.drop 6)).map (fun r => c :: r))

/-- Start, data and check characters hold together: the check character is the sum of the others by their places, modulo 103. -/
def c128Check (l : List Nat) : Bool :=
  match l with
  | s :: r => 2 ≤ l.length && 103 ≤ s &&
    (s + (r.dropLast.zipIdx.map (fun (c, i) => (i + 1) * c)).foldl (· + ·) 0) % 103 = r.getLastD 0
  | [] => false

/-! ### Code sets -/

/-- The set in force, a shift for one character, and FNC4: for one character, or latched. -/
structure C128 where
  set : Nat
  shift : Bool := false
  once : Bool := false
  upper : Bool := false
  msg : Message := {}

/-- FNC4: one for a character, two in a row change the latch. -/
def C128.fnc4 (t : C128) : C128 := if t.once then { t with once := false, upper := !t.upper } else { t with once := true }

/-- A character of set A or B. -/
def C128.emit (t : C128) (c : Nat) : C128 :=
  { t with shift := false, once := false, msg := { t.msg with toks := t.msg.toks ++ [.ch (if t.once != t.upper then c + 128 else c)] } }

/-- A symbol character (0 set A, 1 set B, 2 set C); `i` is its place among the data. -/
def C128.step (t : C128) (p : Nat × Nat) : C128 :=
  let (c, i) := p
  let set := if t.shift then 1 - t.set else t.set
  if c = 102 then
    (if i = 0 then { t with msg := { t.msg with gs1 := true } }
     else if t.msg.toks.length = (if t.set = 2 then 2 else 1) ∧ i = 1 ∧ !t.msg.gs1 then { t with msg := { t.msg with aim := true } }
     else { t with msg := { t.msg with toks := t.msg.toks ++ [.fnc1] } })
  else if set = 2 then
    (if c < 100 then { t with msg := { t.msg with toks := t.msg.toks ++ [.ch (48 + c / 10), .ch (48 + c % 10)] } }
     else { t with set := if c = 100 then 1 else 0 })
  else if c < 64 then t.emit (32 + c)
  else if c < 96 then t.emit (if set = 0 then c - 64 else c + 32)
  else match c with
    | 96 => { t with msg := { t.msg with fnc3 := true } }
    | 97 => { t with msg := { t.msg with fnc2 := true } }
    | 98 => { t with shift := true }
    | 99 => { t with set := 2 }
    | 100 => if set = 0 then { t with set := 1 } else t.fnc4
    | _ => if set = 0 then t.fnc4 else { t with set := 0 }

/-- The message of start and data characters. -/
def c128Message (l : List Nat) : Message :=
  match l with
  | s :: r => (r.zipIdx.foldl C128.step { set := s - 103 }).msg
  | [] => {}

/-- Its symbology identifier: ]C0, with FNC1 in the first position ]C1, in the second ]C2. -/
def c128Identifier (m : Message) : Nat := identifier 0x43 (if m.gs1 then 1 else if m.aim then 2 else 0)

end Sys2Proof.Machine
end

