-- ==== Sys2Proof/Machine/DataMatrix.lean ====
section
/-! DEFINITION. Data Matrix ECC 200 (05 R191, R192): the sizes, the placement of codewords, error correction, and the encodations.
Sizes are the spec's; the rest is ISO/IEC 16022's and ISO/IEC 21471's, PRESUMED (log 94). -/
namespace Sys2Proof.Machine

/-! ### Sizes (R192) -/

/-- A size: rows and columns, data regions down and across, data and check codewords, interleaved blocks. -/
structure DmSize where
  rows : Nat
  cols : Nat
  down : Nat
  across : Nat
  data : Nat
  check : Nat
  blocks : Nat := 1

/-- The square sizes of bit 0. -/
def dmSquares : List DmSize :=
  [⟨10, 10, 1, 1, 3, 5, 1⟩, ⟨12, 12, 1, 1, 5, 7, 1⟩, ⟨14, 14, 1, 1, 8, 10, 1⟩, ⟨16, 16, 1, 1, 12, 12, 1⟩, ⟨18, 18, 1, 1, 18, 14, 1⟩,
   ⟨20, 20, 1, 1, 22, 18, 1⟩, ⟨22, 22, 1, 1, 30, 20, 1⟩, ⟨24, 24, 1, 1, 36, 24, 1⟩, ⟨26, 26, 1, 1, 44, 28, 1⟩, ⟨32, 32, 2, 2, 62, 36, 1⟩,
   ⟨36, 36, 2, 2, 86, 42, 1⟩, ⟨40, 40, 2, 2, 114, 48, 1⟩, ⟨44, 44, 2, 2, 144, 56, 1⟩, ⟨48, 48, 2, 2, 174, 68, 1⟩,
   ⟨52, 52, 2, 2, 204, 84, 2⟩, ⟨64, 64, 4, 4, 280, 112, 2⟩, ⟨72, 72, 4, 4, 368, 144, 4⟩, ⟨80, 80, 4, 4, 456, 192, 4⟩,
   ⟨88, 88, 4, 4, 576, 224, 4⟩, ⟨96, 96, 4, 4, 696, 272, 4⟩, ⟨104, 104, 4, 4, 816, 336, 6⟩, ⟨120, 120, 6, 6, 1050, 408, 6⟩,
   ⟨132, 132, 6, 6, 1304, 496, 8⟩, ⟨144, 144, 6, 6, 1558, 620, 10⟩]

/-- The rectangular sizes of bit 0, and those of bit 1. -/
def dmRectangles : List DmSize :=
  [⟨8, 18, 1, 1, 5, 7, 1⟩, ⟨8, 32, 1, 2, 10, 11, 1⟩, ⟨12, 26, 1, 1, 16, 14, 1⟩, ⟨12, 36, 1, 2, 22, 18, 1⟩, ⟨16, 36, 1, 2, 32, 24, 1⟩,
   ⟨16, 48, 1, 2, 49, 28, 1⟩]
def dmExtended : List DmSize :=
  [⟨8, 48, 1, 2, 18, 15, 1⟩, ⟨8, 64, 1, 4, 24, 18, 1⟩, ⟨8, 80, 1, 4, 32, 22, 1⟩, ⟨8, 96, 1, 4, 38, 28, 1⟩, ⟨8, 120, 1, 6, 49, 32, 1⟩,
   ⟨8, 144, 1, 6, 63, 36, 1⟩, ⟨12, 64, 1, 4, 43, 27, 1⟩, ⟨12, 88, 1, 4, 64, 36, 1⟩, ⟨16, 64, 1, 4, 62, 36, 1⟩, ⟨20, 36, 1, 2, 44, 28, 1⟩,
   ⟨20, 44, 1, 2, 56, 34, 1⟩, ⟨20, 64, 1, 4, 84, 42, 1⟩, ⟨22, 48, 1, 2, 72, 38, 1⟩, ⟨24, 48, 1, 2, 80, 41, 1⟩, ⟨24, 64, 1, 4, 108, 46, 1⟩,
   ⟨26, 40, 1, 2, 70, 38, 1⟩, ⟨26, 48, 1, 2, 90, 42, 1⟩, ⟨26, 64, 1, 4, 118, 50, 1⟩]

/-- A size bit 0, or bit 1, enables. -/
def dmBit0 (r c : Nat) : Bool := (dmSquares ++ dmRectangles).any (fun z => z.rows = r && z.cols = c)
def dmBit1 (r c : Nat) : Bool := dmExtended.any (fun z => z.rows = r && z.cols = c)

/-- The size of these rows and columns. -/
def dmSize? (r c : Nat) : Option DmSize := (dmSquares ++ dmRectangles ++ dmExtended).find? (fun z => z.rows = r && z.cols = c)

/-- The module of the symbol that stands at a place of the mapping matrix: the data regions without their borders. -/
def DmSize.module (z : DmSize) (r c : Nat) : Nat × Nat :=
  let h := (z.rows - 2 * z.down) / z.down
  let w := (z.cols - 2 * z.across) / z.across
  (r + 1 + 2 * (r / h), c + 1 + 2 * (c / w))

/-- The dark and light modules of the borders: the L of the left column and the lower row of each region, and the alternating
modules of its upper row and right column. -/
def DmSize.border (z : DmSize) (r c : Nat) : Option Bool :=
  let h := z.rows / z.down
  let w := z.cols / z.across
  if c % w = 0 ∨ r % h = h - 1 then some true
  else if r % h = 0 then some (c % 2 = 0)
  else if c % w = w - 1 then some (r % 2 = 1)
  else none

/-! ### Placement -/

/-- Modules given away so far, and the modules of each codeword, the last codeword first. -/
structure DmPlace where
  seen : Nat := 0
  out : List (List Nat) := []

/-- A codeword at modules of the mapping matrix, wrapped at its edges. -/
def DmPlace.put (p : DmPlace) (nr nc : Int) (l : List (Int × Int)) : DmPlace :=
  let cells := l.map (fun (r, c) =>
    let (r, c) := if r < 0 then (r + nr, c + 4 - (nr + 4) % 8) else (r, c)
    let (r, c) := if c < 0 then (r + 4 - (nc + 4) % 8, c + nc) else (r, c)
    (r * nc + c).toNat)
  { seen := cells.foldl (fun n i => n ||| 2 ^ i) p.seen, out := cells :: p.out }

/-- A codeword at its usual place. -/
def DmPlace.utah (p : DmPlace) (nr nc r c : Int) : DmPlace :=
  if bitN p.seen (r * nc + c).toNat then p
  else p.put nr nc [(r - 2, c - 2), (r - 2, c - 1), (r - 1, c - 2), (r - 1, c - 1), (r - 1, c), (r, c - 2), (r, c - 1), (r, c)]

/-- The codewords that lie around the corners. -/
def DmPlace.corners (p : DmPlace) (nr nc r c : Int) : DmPlace :=
  if r = nr ∧ c = 0 then
    p.put nr nc [(nr - 1, 0), (nr - 1, 1), (nr - 1, 2), (0, nc - 2), (0, nc - 1), (1, nc - 1), (2, nc - 1), (3, nc - 1)]
  else if r = nr - 2 ∧ c = 0 ∧ nc % 8 = 4 then
    p.put nr nc [(nr - 3, 0), (nr - 2, 0), (nr - 1, 0), (0, nc - 2), (0, nc - 1), (1, nc - 1), (2, nc - 1), (3, nc - 1)]
  else if r = nr - 2 ∧ c = 0 ∧ nc % 4 ≠ 0 then
    p.put nr nc [(nr - 3, 0), (nr - 2, 0), (nr - 1, 0), (0, nc - 4), (0, nc - 3), (0, nc - 2), (0, nc - 1), (1, nc - 1)]
  else if r = nr + 4 ∧ c = 2 ∧ nc % 8 = 0 then
    p.put nr nc [(nr - 1, 0), (nr - 1, nc - 1), (0, nc - 3), (0, nc - 2), (0, nc - 1), (1, nc - 3), (1, nc - 2), (1, nc - 1)]
  else p

/-- One diagonal, upwards to the right (`d` = −2) or downwards to the left (`d` = 2); where it stops. -/
def DmPlace.run (nr nc d : Int) : Nat → Int → Int → DmPlace → Int × Int × DmPlace
  | 0, r, c, p => (r, c, p)
  | k + 1, r, c, p =>
    let p := if 0 ≤ r ∧ r < nr ∧ 0 ≤ c ∧ c < nc then p.utah nr nc r c else p
    let r := r + d
    let c := c - d
    if (if d < 0 then 0 ≤ r ∧ c < nc else r < nr ∧ 0 ≤ c) then DmPlace.run nr nc d k r c p else (r, c, p)

/-- The diagonals from a place on. -/
def DmPlace.sweep (nr nc : Int) : Nat → Int → Int → DmPlace → DmPlace
  | 0, _, _, p => p
  | k + 1, r, c, p =>
    let n := (nr + nc).toNat
    let (r, c, p) := DmPlace.run nr nc (-2) n r c (p.corners nr nc r c)
    let (r, c, p) := DmPlace.run nr nc 2 n (r + 1) (c + 3) p
    if r + 3 < nr ∨ c + 1 < nc then DmPlace.sweep nr nc k (r + 3) (c + 1) p else p

/-- The modules of the symbol, as row × columns + column, that carry each codeword's bits, the most significant first. -/
def DmSize.cells (z : DmSize) : List (List Nat) :=
  let nr := z.rows - 2 * z.down
  let nc := z.cols - 2 * z.across
  let p := DmPlace.sweep nr nc (nr + nc) 4 0 {}
  (p.out.reverse.take (z.data + z.check)).map (fun l => l.map (fun i => let m := z.module (i / nc) (i % nc); m.1 * z.cols + m.2))

/-- The blocks of a size. In 144 × 144 the last two blocks hold one data codeword less, and the check codewords start with them. -/
def DmSize.codeBlocks (z : DmSize) : List CodeBlock :=
  (List.range z.blocks).map (fun b =>
    let first := if z.rows = 144 then (b + 2) % 10 else b
    { words := (List.range z.data).filter (fun i => i % z.blocks = b) ++
               (List.range (z.check / z.blocks)).map (fun k => z.data + k * z.blocks + first),
      checks := z.check / z.blocks, kept := 0 })

/-- The field polynomial, and the first root. -/
def dmPoly : Nat := 0x12D

/-! ### Encodations (R191) -/

/-- The encodations but for Base 256, which states its own length. -/
inductive DmMode where
  | ascii | c40 | text | x12 | edifact
deriving DecidableEq, Repr

/-- Where the decoding of the data codewords stands: the pieces so far, last first; the shift set of C40 and Text, and the upper
shift. -/
structure DmText where
  mode : DmMode := .ascii
  set : Nat := 0
  upper : Bool := false
  toks : List Tok := []

/-- A character of data, in the upper half after an upper shift. -/
def DmText.emit (t : DmText) (c : Nat) : DmText := { t with set := 0, upper := false, toks := .ch (if t.upper then c + 128 else c) :: t.toks }
def DmText.fnc (t : DmText) : DmText := { t with set := 0, toks := .fnc1 :: t.toks }

/-- A value of C40 or Text. -/
def DmText.value (t : DmText) (v : Nat) : Option DmText :=
  match t.set with
  | 0 => if v < 3 then some { t with set := v + 1 } else if v = 3 then some (t.emit 32) else if v < 14 then some (t.emit (44 + v))
         else some (t.emit (v + (if t.mode = .text then 83 else 51)))
  | 1 => if v < 32 then some (t.emit v) else none
  | 2 => if v < 15 then some (t.emit (33 + v)) else if v < 22 then some (t.emit (43 + v)) else if v < 27 then some (t.emit (69 + v))
         else if v = 27 then some t.fnc else if v = 30 then some { t with set := 0, upper := true } else none
  | _ => if 32 ≤ v then none else some (t.emit (if t.mode = .text ∧ 1 ≤ v ∧ v ≤ 26 then 64 + v else 96 + v))

/-- A value of X12. -/
def DmText.x12 (t : DmText) (v : Nat) : Option DmText :=
  if v = 0 then some (t.emit 13) else if v = 1 then some (t.emit 42) else if v = 2 then some (t.emit 62) else if v = 3 then some (t.emit 32)
  else if v < 14 then some (t.emit (44 + v)) else if v < 40 then some (t.emit (51 + v)) else none

/-- The three values of a pair of codewords. -/
def dmTriple (a b : Nat) : List Nat := let n := 256 * a + b - 1; [n / 1600, n / 40 % 40, n % 40]

/-- The values of EDIFACT: up to the unlatch, and whether it was met at all. -/
def DmText.edifact (t : DmText) : List Nat → DmText × Bool
  | [] => (t, false)
  | v :: l => if v = 31 then ({ t with mode := .ascii }, true) else DmText.edifact (t.emit (if v < 32 then v + 64 else v)) l

/-- A Base 256 codeword at its place in the symbol, counted from 1, without its randomising. -/
def dmPlain (place c : Nat) : Nat := (c + 512 - (149 * place % 255 + 1)) % 256

/-- Data codewords, `place` being the place of the first one in the symbol, counted from 1; none when one has no meaning. -/
def dmText : Nat → Nat → DmText → List Nat → Option (List Tok)
  | 0, _, t, _ => some t.toks.reverse
  | _ + 1, _, t, [] => some t.toks.reverse
  | k + 1, p, t, c :: l =>
    match t.mode with
    | .ascii =>
      if c = 0 then none
      else if c ≤ 128 then dmText k (p + 1) (t.emit (c - 1)) l
      else if c = 129 then some t.toks.reverse
      else if c ≤ 229 then dmText k (p + 1) ((t.emit (48 + (c - 130) / 10)).emit (48 + (c - 130) % 10)) l
      else match c with
        | 230 => dmText k (p + 1) { t with mode := .c40, set := 0 } l
        | 231 =>
          let n := dmPlain (p + 1) (l.getD 0 0)
          let m := dmPlain (p + 2) (l.getD 1 0)
          let (head, len) := if n = 0 then (1, l.length - 1) else if n < 250 then (1, n) else (2, 250 * (n - 249) + m)
          let body := ((l.drop head).take len).zipIdx.map (fun (c, i) => dmPlain (p + 1 + head + i) c)
          if l = [] ∨ (l.drop head).length < len then none
          else dmText k (p + 1 + head + len) { t with toks := (body.map Tok.ch).reverse ++ t.toks } (l.drop (head + len))
        | 232 => dmText k (p + 1) t.fnc l
        | 235 => dmText k (p + 1) { t with upper := true } l
        | 238 => dmText k (p + 1) { t with mode := .x12 } l
        | 239 => dmText k (p + 1) { t with mode := .text, set := 0 } l
        | 240 => dmText k (p + 1) { t with mode := .edifact } l
        | 241 =>
          let a := l.getD 0 0
          let b := l.getD 1 0
          let d := l.getD 2 0
          let eci (n : Nat) : DmText := { t with toks := .eci n :: t.toks }
          if a = 0 ∨ 207 < a ∨ l = [] then none
          else if a < 128 then dmText k (p + 2) (eci (a - 1)) (l.drop 1)
          else if a < 192 then dmText k (p + 3) (eci ((a - 128) * 254 + b - 1 + 127)) (l.drop 2)
          else dmText k (p + 4) (eci ((a - 192) * 64516 + (b - 1) * 254 + d - 1 + 16383)) (l.drop 3)
        | _ => none
    | .edifact =>
      match l with
      | b :: d :: l2 =>
        let n := 65536 * c + 256 * b + d
        let vs := [n / 262144, n / 4096 % 64, n / 64 % 64, n % 64]
        let (t2, out) := t.edifact vs
        if !out then dmText k (p + 3) t2 l2
        else
          let used := (vs.takeWhile (fun v => v != 31)).length
          -- the unlatch ends its codeword: 6, 12, 18 or 24 bits
          let w := if used = 0 then 1 else if used = 1 then 2 else 3
          dmText k (p + w) t2 ((c :: b :: d :: l2).drop w)
      | [b] =>
        if c / 4 = 31 then dmText k (p + 1) { t with mode := .ascii } [b]
        else dmText k p { t with mode := .ascii } [c, b]
      | [] => if c / 4 = 31 then some t.toks.reverse else dmText k p { t with mode := .ascii } [c]
    | _ =>
      if c = 254 then dmText k (p + 1) { t with mode := .ascii, set := 0 } l
      else match l with
        | [] => dmText k p { t with mode := .ascii, set := 0 } [c]
        | b :: l2 =>
          match (dmTriple c b).foldl (fun (t : Option DmText) v => t.bind (fun t => if t.mode = .x12 then t.x12 v else t.value v)) (some t) with
          | none => none
          | some t2 => dmText k (p + 2) t2 l2

/-- A codeword after which FNC1 stands in the second position: one letter or two digits. -/
def dmOneSign (c : Nat) : Bool := (66 ≤ c && c ≤ 91) || (98 ≤ c && c ≤ 123) || (130 ≤ c && c ≤ 229)

/-- Header and trailer of Macro 05 and Macro 06. -/
def dmMacro (c : Nat) (l : List Tok) : List Tok :=
  let head := [0x5B, 0x29, 0x3E, 0x1E, 0x30, if c = 236 then 0x35 else 0x36, 0x1D]
  head.map Tok.ch ++ l ++ [.ch 0x1E, .ch 4]

/-- The message of a symbol's data codewords; none when they have no meaning. -/
def dmMessage (w : List Nat) : Option Message :=
  let sa := w.headD 0 = 233
  let p := if sa then 4 else 0
  let l := w.drop p
  let base : Message := if sa then { saPos := w.getD 1 0 / 16 + 1, saTotal := 17 - w.getD 1 0 % 16, saFile := w.getD 2 0 + 256 * w.getD 3 0 } else {}
  let text (skip : Nat) (l : List Nat) : Option (List Tok) := dmText (w.length + 1) (p + skip + 1) {} l
  let c := l.headD 0
  if c = 232 then (text 1 (l.drop 1)).map (fun t => { base with gs1 := true, toks := t })
  else if dmOneSign c && l.getD 1 0 = 232 then
    (dmText 2 (p + 1) {} [c]).bind (fun h => (text 2 (l.drop 2)).map (fun t => { base with aim := true, toks := h ++ t }))
  else if c = 234 && !sa then (text 1 (l.drop 1)).map (fun t => { base with readerProg := true, toks := t })
  else if (c = 236 || c = 237) && !sa then (text 1 (l.drop 1)).map (fun t => { base with toks := dmMacro c t })
  else (text 0 l).map (fun t => { base with toks := t })

/-- Its symbology identifier: ]d1 to ]d6. -/
def dmIdentifier (m : Message) : Nat :=
  identifier 0x64 (1 + (if m.gs1 then 1 else if m.aim then 2 else 0) + (if (firstEci m.toks).isSome then 3 else 0))

end Sys2Proof.Machine
end

