-- ==== Sys2Proof/Machine/Admission.lean ====
section
/-! DEFINITION. Jobs and admission: descriptor checks (02 R50), the cost model (R56 to R62), capacities and shares (R63,
R64), the thirteen tests (R65 to R68), the ADMIT answer (R69, R70), the admission history (R90), loads (R85). -/
namespace Sys2Proof.Machine

/-! ### The descriptor check (R46 to R50) -/

/-- An offence at an offset when `bad` holds of a field of `n` bytes that was received whole. -/
def offence (len o n : Nat) (bad : Bool) : List Nat := if o + n ≤ len && bad then [o] else []

/-- Offences of the common part (R46). -/
def offencesCommon (j : Job) : List Nat :=
  let len := j.desc.length
  let exp := j.kind = 1
  offence len 0 1 (j.kind < 1 || 3 < j.kind) ++ offence len 1 1 (j.cls < 1 || 5 < j.cls) ++
  offence len 2 2 (j.f 2 2 != 0) ++ offence len 4 4 (j.tag = 0) ++
  offence len 12 4 (!exp && j.frameCount != 0) ++
  offence len 16 4 (if exp then j.interval = 0 && j.frameCount != 1 else j.interval != 0) ++
  offence len 24 1 (if j.kind = 3 then j.pool != 0 else 15 < j.pool) ++
  offence len 25 1 (
    (8 ≤ j.output) || (bitN j.output 0 && !exp) || (bitN j.output 1 && !exp) || (bitN j.output 2 && j.kind != 2) ||
    (bitN j.output 1 && exp && j.readout = 1)) ++
  offence len 26 2 (4096 < j.payloadCap) ++ offence len 28 4 (j.f 28 4 != 0)

/-- Offences of an exposure body (R47). -/
def offencesExposure (j : Job) : List Nat :=
  let len := j.desc.length
  offence len 32 1 (!(j.trigger ≤ 2 || (0x10 ≤ j.trigger && j.trigger ≤ 0x17))) ++
  offence len 33 1 (1 < j.readout) ++ offence len 34 1 (3 < j.light) ++ offence len 35 1 (1 < j.grading) ++
  offence len 36 4 (j.exposure < 50 || 5000000 < j.exposure) ++
  offence len 40 4 (j.symbologies = 0 || 256 ≤ j.symbologies || (bitN j.symbologies 5 && !bitN j.symbologies 4)) ++
  offence len 44 1 (j.maxSymbols < 1 || 64 < j.maxSymbols) ++
  offence len 45 1 (j.sizeClass < 1 || 7 < j.sizeClass) ++
  offence len 46 2 (j.roiTiles < 1 || 4096 < j.roiTiles) ++
  offence len 48 4 (2 ^ 24 ≤ j.f 48 4) ++ offence len 52 4 (2 ^ 24 ≤ j.f 52 4) ++
  offence len 56 4 (2 ^ 24 ≤ j.f 56 4 || j.f 56 4 ≤ j.f 48 4) ++
  offence len 60 4 (2 ^ 24 ≤ j.f 60 4 || j.f 60 4 ≤ j.f 52 4) ++
  offence len 64 64 (j.f 64 64 != 0)

/-- Offences of a sweep body (R48). -/
def offencesSweep (j : Job) : List Nat :=
  let len := j.desc.length
  offence len 32 1 (j.channels = 0) ++ offence len 33 1 (7 < j.filterSet) ++ offence len 34 1 (1 < j.decoder) ++
  offence len 35 1 (if j.decoder = 1 then j.maxMarks < 1 || 32 < j.maxMarks else j.decoder = 0 && j.maxMarks != 0) ++
  offence len 44 8 (j.windowEnd ≤ j.windowStart) ++
  offence len 52 4 (j.pitch < 500 || 50000 < j.pitch) ++
  offence len 56 4 (j.trackLength < 1 || 1000000 < j.trackLength) ++
  offence len 60 68 (j.f 60 68 != 0)

/-- The fields of mark entry `i` (R49). -/
def Job.markX (j : Job) (i : Nat) : Int := sgn 32 (j.f (128 + 16 * i) 4)
def Job.markY (j : Job) (i : Nat) : Int := sgn 32 (j.f (132 + 16 * i) 4)
def Job.markWriter (j : Job) (i : Nat) : Nat := j.f (136 + 16 * i) 1
def Job.markIndex (j : Job) (i : Nat) : Nat := j.f (137 + 16 * i) 1
def Job.markKind (j : Job) (i : Nat) : Nat := j.f (138 + 16 * i) 1

/-- Offences of mark entry `i`, a repeated entry at its writer byte (R50). -/
def offencesMark (j : Job) (i : Nat) : List Nat :=
  let len := j.desc.length
  let o := 128 + 16 * i
  offence len (o + 8) 1 (31 < j.markWriter i || !bitN j.writers (j.markWriter i)) ++
  offence len (o + 9) 1 (if j.markKind i = 1 then 7 < j.markIndex i else 127 < j.markIndex i) ++
  offence len (o + 10) 1 (1 < j.markKind i) ++
  offence len (o + 11) 5 (j.f (o + 11) 5 != 0) ++
  offence len (o + 8) 3 ((List.range i).any (fun k =>
    j.markWriter k = j.markWriter i && j.markIndex k = j.markIndex i && j.markKind k = j.markKind i))

/-- Offences of a campaign body and its mark list (R49, 10 R385). -/
def offencesCampaign (j : Job) : List Nat :=
  let len := j.desc.length
  offence len 32 2 (j.markCount < 1 || 256 < j.markCount) ++ offence len 34 1 (1 < j.fit) ++
  offence len 35 1 (if j.fit = 1 then j.order < 1 || 5 < j.order else j.fit = 0 && j.order != 0) ++
  offence len 36 4 (j.fit = 0 && 2 < popcount 32 j.writers) ++
  offence len 40 2 (4096 ≤ j.layer) ++ offence len 44 4 (j.f 44 4 != 0) ++ offence len 56 72 (j.f 56 72 != 0) ++
  (if 34 ≤ len && 1 ≤ j.markCount && j.markCount ≤ 256 then
     (List.range (min j.markCount ((len - 128) / 16 + 1))).flatMap (offencesMark j) else [])

/-- The length a descriptor must have; none when its kind or mark_count leaves it open (R50). -/
def expectedLength (j : Job) : Option Nat :=
  if j.desc.length = 0 then some 128
  else if j.kind = 1 ∨ j.kind = 2 then some 128
  else if j.kind = 3 then
    if j.desc.length < 34 then some 144
    else if 1 ≤ j.markCount ∧ j.markCount ≤ 256 then some (128 + 16 * j.markCount) else none
  else none

/-- The offset of the lowest offence of a descriptor, if it has one (R50). -/
def descOffence (j : Job) : Option Nat :=
  let len := j.desc.length
  let l := offencesCommon j ++
    (if j.kind = 1 then offencesExposure j else if j.kind = 2 then offencesSweep j
     else if j.kind = 3 then offencesCampaign j else []) ++
    (match expectedLength j with
     | some e => if len = e then [] else [min len e]
     | none => [])
  l.foldl (fun m o => match m with | none => some o | some k => some (min k o)) none

/-! ### Costs (R56 to R62) -/

/-- One column of the table of R56, by size_class. -/
def costRow (s : Nat) : List Nat :=
  match s with
  | 0 => [18, 24, 38, 52, 96, 190, 420]
  | 1 => [20, 26, 34, 46, 62, 140, 330]
  | 2 => [22, 30, 44, 60, 120, 240, 480]
  | 3 => [14, 17, 20, 23, 29, 35, 41]
  | _ => [16, 16, 16, 16, 16, 16, 16]

/-- Symbol cost of symbology index `s` (R88) at size class `k`, in 1/16 µs; 0 for k = 8. -/
def symCost (s k : Nat) : Nat := (costRow s).getD (k - 1) 0 * 16

/-- A cost with grading: times 7/5, rounded up to 1/16 µs (R57); Blaze-D is not graded. -/
def gradedCost (s k grading : Nat) : Nat :=
  if grading = 1 ∧ s < 4 then ceilDiv (symCost s k * 7) 5 else symCost s k

/-- The symbology indices an exposure job enables (R47, R88). -/
def Job.symIndices (j : Job) : List Nat :=
  (if bitN j.symbologies 0 || bitN j.symbologies 1 then [0] else []) ++
  (if bitN j.symbologies 2 || bitN j.symbologies 3 then [1] else []) ++
  (if bitN j.symbologies 6 then [2] else []) ++ (if bitN j.symbologies 4 then [3] else []) ++
  (if bitN j.symbologies 7 then [4] else [])

/-- The symbol cost of an exposure job, in 1/16 µs (R58). -/
def Job.symbolCost (j : Job) : Nat :=
  (j.symIndices.map (fun s => gradedCost s j.sizeClass j.grading)).foldl max 0

/-- The profile sample count of a sweep job (R59). -/
def Job.sampleCount (j : Job) : Nat := ceilDiv (1000 * j.trackLength) j.pitch * popcount 8 j.channels

/-- The engine time of one delivery, in 1/16 µs (R58, R59). -/
def Job.engineTime (j : Job) : Nat :=
  if j.kind = 1 then j.maxSymbols * j.symbolCost
  else if j.kind = 2 then 16 * (4 * j.maxMarks + ceilDiv j.sampleCount 2000)
  else 0

/-- DRAM traffic M of one delivery, in bytes (R60). -/
def Job.dramBytes (j : Job) : Nat :=
  if j.kind = 1 then 786432 + 960 * j.roiTiles + 256 * j.maxSymbols + (if j.readout = 1 then 37748736 else 0)
  else if j.kind = 2 then 4 * j.sampleCount + 256 * j.maxMarks
  else 69632

/-- Link traffic L of one delivery, in bytes, when its pool is routed to the link (R60). -/
def Job.linkBytes (j : Job) : Nat :=
  if j.kind = 1 then j.maxSymbols * (129 + j.payloadCap) + 64 + (if bitN j.output 0 then 393216 else 0) +
    (if bitN j.output 1 then 320 * j.roiTiles else 0) + (if j.readout = 1 then 18874368 else 0)
  else if j.kind = 2 then j.maxMarks * (129 + j.payloadCap) + 64 + (if bitN j.output 2 then 2 * j.sampleCount else 0)
  else 34816

/-- A single-frame exposure job (R61). -/
def Job.single (j : Job) : Bool := j.frameCount = 1

/-- F of R60: the frames a job can have in the store at once. -/
def Job.framesHeld (j : Job) : Nat := if j.single then 1 else ceilDiv j.latency j.interval + 1

/-- The result-store bytes Q a job reserves (R60). -/
def Job.storeBytes (j : Job) : Nat :=
  if j.kind = 1 then (j.maxSymbols * (64 + j.payloadCap) + 64) * j.framesHeld
  else if j.kind = 2 then j.maxMarks * (64 + j.payloadCap) + 64
  else 0

/-- Sensor occupancy in units of 20 ns (R60). -/
def Job.occupancy20 (j : Job) : Nat := max (if j.readout = 1 then 208350 else 50000) (j.exposure + 10000)

/-- The accounting window W in half ticks (R61): D µs are 625 × D half ticks. -/
def Job.window2 (j : Job) : Nat :=
  let d := (classInfo j.cls).window * 625
  if j.kind = 1 then (if j.single then d else min (2 * j.interval) d)
  else if j.kind = 2 then 2 * (j.windowEnd - j.windowStart) + d
  else d

/-! ### Exact sums -/

/-- A non-negative fraction. -/
structure Frac where
  num : Nat
  den : Nat
deriving DecidableEq, Repr

/-- Sum of two fractions. -/
def Frac.add (a b : Frac) : Frac := ⟨a.num * b.den + b.num * a.den, a.den * b.den⟩

/-- Sum of a list. -/
def fracSum (l : List Frac) : Frac := l.foldl Frac.add ⟨0, 1⟩

/-- a ≤ b. -/
def Frac.le (a b : Frac) : Bool := a.num * b.den ≤ b.num * a.den

/-- A load in units of 0.01 %, rounded up, saturating at 0xFFFE (R68 to R70). -/
def Frac.pct (a : Frac) : Nat :=
  if a.num = 0 then 0 else if a.den = 0 then 0xFFFE else min 0xFFFE (ceilDiv (a.num * 10000) a.den)

/-! ### Capacities and loads (R62 to R64) -/

/-- The number of active decode engines N (DECC.ACTIVE). -/
def Blk.nEngines (s : Blk) : Nat := popcount 18 (s.regN Reg.DECC_ACTIVE)

/-- Active transmit lanes of the link. -/
def Blk.txLanes (s : Blk) : Nat := (s.lnk.lanes.filter (fun l => l.tx = .active)).length

/-- ADM.MEM_CAP (R64): 0.75 × 2 × 16 × the trained rate. -/
def Blk.memCap (s : Blk) : Nat := 24 * s.regF Reg.MEM_CONFIG 31 16

/-- ADM.LINK_CAP (R64, 14 R522). -/
def Blk.linkCap (s : Blk) : Nat :=
  if s.lnk.state = .up then 11390 * s.txLanes else if s.lnk.state = .limpUp then 2847 else 0

/-- Planning pace, Q2.14 (R54). -/
def Blk.pacePlan (s : Blk) : Nat := s.regF Reg.ADM_PACE_PLAN 15 0
/-- Measured pace, Q2.14 (R54). -/
def Blk.paceMeasured (s : Blk) : Nat := s.regF Reg.ADM_PACE_PLAN 31 16

/-- The admitted engine share in percent (R63). -/
def admittedShare (shares : Nat) : Nat := 90 - fld shares 15 8 - fld shares 7 0
/-- The admitted DRAM share in percent (R63). -/
def admittedMemShare (shares : Nat) : Nat := 80 - fld shares 31 24 - fld shares 23 16

/-- The engine load of a list of jobs at a pace (R62). -/
def Blk.engineLoad (s : Blk) (jobs : List Job) (pace : Nat) : Frac :=
  let sum := fracSum (jobs.map (fun j => ⟨j.engineTime * 625, j.window2⟩))
  ⟨sum.num * 16384, sum.den * (16 * s.nEngines * pace)⟩

/-- The DRAM load of a list of jobs against ADM.MEM_CAP (R62). -/
def Blk.dramLoad (s : Blk) (jobs : List Job) : Frac :=
  let sum := fracSum (jobs.map (fun j => ⟨8 * j.dramBytes * 625, j.window2⟩))
  ⟨sum.num, sum.den * s.memCap⟩

/-- The link traffic a job is priced with: 0 when its pool is routed to the chain (14 R522); a campaign by the
route of its packets (10 R395). -/
def Blk.linkPriced (s : Blk) (j : Job) : Nat :=
  if j.kind = 3 then (if bitN (s.regN Reg.ADM_CAL_CTL) 8 then 0 else j.linkBytes)
  else if bitN (s.regN Reg.ADM_POOL_ROUTE) j.pool then 0 else j.linkBytes

/-- The link load of a list of jobs against ADM.LINK_CAP (R62). -/
def Blk.linkLoad (s : Blk) (jobs : List Job) : Frac :=
  let sum := fracSum (jobs.map (fun j => ⟨8 * s.linkPriced j * 625, j.window2⟩))
  ⟨sum.num, sum.den * s.linkCap⟩

/-- Σ of sensor occupancy ÷ interval over the repeating exposure jobs (R65 test 8). -/
def occupancySum (jobs : List Job) : Frac :=
  fracSum ((jobs.filter (fun j => j.kind = 1 && !j.single)).map (fun j => ⟨j.occupancy20 * 25, 4 * j.interval⟩))

/-- Bytes that live jobs reserve in a pool (06 R239). -/
def Blk.poolReserved (s : Blk) (p : Nat) : Nat :=
  ((s.jobs.filter (fun j => j.kind != 3 && j.pool = p)).map Job.storeBytes).foldl (· + ·) 0

/-! ### The tests (R65 to R67) -/

/-- Tests 1 to 4, in order: fault, test and field offset of the first that fails. -/
def Blk.tests1to4 (s : Blk) (role : Nat) (j : Job) : Option (Nat × Nat × Nat) :=
  match descOffence j with
  | some o => some (0xB101, 1, o)
  | none =>
    if s.jobs.any (fun k => k.tag = j.tag) then some (0xB102, 2, 0xFFFF)
    else if 128 ≤ s.jobs.length then some (0xB104, 3, 0xFFFF)
    else if j.kind ≠ 3 ∧ s.owner (16 + j.pool) ≠ role then some (0xB010, 4, 0xFFFF)
    else none

/-- Test 5: the class scope (R51, R53), and in Coppice 17 R630. -/
def Blk.test5 (s : Blk) (j : Job) : Option (Nat × Nat × Nat) :=
  let bad :=
    if j.kind = 1 then
      !(j.cls ≤ 3) || (j.readout = 1 && j.cls != 3) || (j.cls = 1 && (16 < j.maxSymbols || 4 < j.sizeClass))
    else if j.kind = 2 then
      let w := j.windowEnd - j.windowStart
      !(j.cls = 3 || j.cls = 4) || (j.cls = 4 && (w < 3125 || 15625000 < w)) || (j.cls = 3 && 312500000 < w)
    else j.cls != 5
  if s.coppice then
    if j.kind ≠ 1 ∨ j.cls ≠ 3 ∨ j.readout = 1 ∨ j.output % 4 ≠ 0 ∨ (!j.single ∧ j.interval < 10416875) then
      some (0xA082, 5, 0xFFFF)
    else none
  else if bad then some (0xB103, 5, 0xFFFF) else none

/-- The writers a job can read (R65 test 6): those of Blaze marks, so none without a Blaze symbology or a line decoder; which ones
a job that reads marks could meet is a free value (log 23). -/
def Job.canRead (j : Job) : Nat :=
  if (j.kind = 1 && bitN j.symbologies 7) || (j.kind = 2 && j.decoder = 1) then (Config.readableWriters j.desc).toNat else 0

/-- A campaign that a job can name in campaign_tag: live, and with every writer the job can read (R65 test 6). -/
def Job.servedBy (j k : Job) : Bool := k.kind = 3 && k.tag = j.campTag && Nat.land j.canRead k.writers = j.canRead

/-- Tests 6 to 8: campaign reference and slots, shortfall, sensor. -/
def Blk.tests6to8 (s : Blk) (j : Job) : Option (Nat × Nat × Nat) :=
  if j.campTag ≠ 0 ∧ !(s.jobs.any j.servedBy) then some (0xB117, 6, 0xFFFF)
  else if j.kind = 3 ∧ 2 ≤ (s.jobs.filter (fun k => k.kind = 3)).length then some (0xB116, 6, 0xFFFF)
  else if 2 ≤ s.regF Reg.ADM_SHORTFALL 1 0 then some (0xB118, 7, 0xFFFF)
  else if j.kind = 1 ∧ (!(occupancySum (s.jobs ++ [j])).le ⟨1, 1⟩ ∨
      (!j.single ∧ 4 * j.interval < j.occupancy20 * 25)) then some (0xB119, 8, 0xFFFF)
  else none

/-- The coverage margin c of 08 R302, in ticks. -/
def coverage (gap : Nat) : Nat := 2 * gap + 313

/-- Test 9: the window test of R67 for a sweep, then the latency test of R66. -/
def Blk.test9 (s : Blk) (j : Job) : Option (Nat × Nat × Nat) :=
  let p := s.pacePlan
  let n := s.nEngines
  let d := (classInfo j.cls).window
  let ok :=
    if j.kind = 1 then (j.engineTime + j.symbolCost * n) * 16384 ≤ d * 16 * n * p
    else if j.kind = 2 then (4 * j.maxMarks + 8 * n) * 16384 ≤ d * n * p
    else (150 + 2 * j.markCount + (if j.fit = 0 then 400 else 40 * j.order)) * 16384 ≤ d * p
  if j.kind = 2 ∧ j.windowStart ≤ s.now + coverage (s.regF Reg.RSM_POS_GAP 11 0) then some (0xB106, 9, 0xFFFF)
  else if !ok then some (0xB112, 9, 0xFFFF)
  else none

/-- Tests 10 to 13: engine, DRAM (not in Coppice), link and pool. -/
def Blk.tests10to13 (s : Blk) (j : Job) : Option (Nat × Nat × Nat) :=
  let js := s.jobs ++ [j]
  let sh := s.regN Reg.ADM_SHARES
  if !(s.engineLoad js s.pacePlan).le ⟨admittedShare sh, 100⟩ then some (0xB111, 10, 0xFFFF)
  else if !s.coppice ∧ !(s.dramLoad js).le ⟨admittedMemShare sh, 100⟩ then some (0xB113, 11, 0xFFFF)
  else if !(s.linkLoad js).le ⟨75, 100⟩ then some (0xB114, 12, 0xFFFF)
  else if j.kind ≠ 3 ∧ 65536 < s.poolReserved j.pool + j.storeBytes then some (0xB115, 13, 0xFFFF)
  else none

/-- The verdict on a job: none — accepted; or the fault, the failing test and the field offset (R65). -/
def Blk.judge (s : Blk) (role : Nat) (j : Job) : Option (Nat × Nat × Nat) :=
  match s.tests1to4 role j with
  | some r => some r
  | none => match s.test5 j with
    | some r => some r
    | none => match s.tests6to8 j with
      | some r => some r
      | none => match s.test9 j with
        | some r => some r
        | none => s.tests10to13 j

/-- Bytes left in the pool after the job, in units of 64 bytes; 0 when it does not fit; 0xFFFF for a campaign (R69). -/
def Blk.poolFree (s : Blk) (j : Job) : Nat :=
  if j.kind = 3 then 0xFFFF else (65536 - (s.poolReserved j.pool + j.storeBytes)) / 64

/-- The ADMIT payload (R69, R70). -/
def Blk.admitPayload (s : Blk) (j : Job) (v : Option (Nat × Nat × Nat)) : List Byte :=
  let js := s.jobs ++ [j]
  let reached (t : Nat) : Bool := match v with | none => true | some (_, f, _) => t ≤ f
  let fld2 (t n : Nat) : List Byte := le 2 (if reached t then n else 0xFFFF)
  le 4 j.tag ++ le 4 j.seq ++ le 1 (if v.isNone then 1 else 2) ++ le 1 j.cls ++
  le 2 ((v.map (·.1)).getD 0) ++ le 2 ((v.map (·.2.2)).getD 0xFFFF) ++ le 1 ((v.map (·.2.1)).getD 0) ++ le 1 0 ++
  fld2 10 (s.engineLoad js s.pacePlan).pct ++ fld2 11 (s.dramLoad js).pct ++ fld2 12 (s.linkLoad js).pct ++
  fld2 13 (s.poolFree j) ++ le 2 s.pacePlan ++ le 2 0 ++ le 4 (s.now % 2 ^ 32)

/-- The next admission sequence number (01 R29). -/
def nextAdmSeq (n : Nat) : Nat := if n ≥ 0xFFFFFFFF then 1 else n + 1

/-- A job reaches the admission controller: it is judged, numbered, answered and entered in the history; accepted, it
is live, and an exposure job wakes LOC (R65, R90, 01 R29, 03 R107). The answer is the ADMIT payload. -/
def Blk.admitJob (s : Blk) (role : Nat) (desc : List Byte) : List Byte × Blk :=
  let seq := nextAdmSeq (s.regN Reg.ADM_SEQ)
  let j : Job := { seq := seq, desc := desc, acceptedAt := s.now, armAt := s.now }
  let v := s.judge role j
  let out := s.admitPayload j v
  let h : HistEntry :=
    { tag := j.tag, seq := seq, verdict := if v.isNone then 1 else 2, state := if v.isNone then 0 else 4,
      fault := (v.map (·.1)).getD 0, time := s.now % 2 ^ 32 }
  let s := { s.setN Reg.ADM_SEQ seq with hist := (h :: s.hist).take 64 }
  match v with
  | some _ => (out, (s.bump Reg.ADM_COUNTS 15 0 1).event 0x04 0 0x0000)
  | none =>
    let s := { s with jobs := s.jobs ++ [j] }
    (out, if j.kind = 1 then s.wakeDom 2 else s)

end Sys2Proof.Machine
end

