-- ==== Sys2Proof/Machine/Engines.lean ====
section
/-! DEFINITION. Decode engines as placement sees them (04 R156 to R168): roles, gauges, result slots, the accounting of
speculative work (02 R71), and the squash (R160, R161). -/
namespace Sys2Proof.Machine

/-- Engines marked suspect, or cleared (17 R634). -/
def Blk.suspects (s : Blk) (add : List Nat) (clear : List Nat) : Blk :=
  let l := s.ust.suspect.filter (fun e => !clear.contains e)
  { s with ust := { s.ust with suspect := l ++ add.filter (fun e => !l.contains e) } }

/-- Engine `e` is active (DECC.ACTIVE). -/
def Blk.engActive (s : Blk) (e : Nat) : Bool := bitN (s.regN Reg.DECC_ACTIVE) e

/-- VDD_CORE at the die in mV (17 R648; 18 R658): the engine measures it and no command brings it (log 12). -/
def Blk.vcore (s : Blk) : Nat := (Config.reading Reg.THM_VCORE s.now).toNat % 65536

/-- The gauge of an engine as last sampled, Q2.14. -/
def Blk.gaugeOf (s : Blk) (e : Nat) : Nat := s.dec.gauge.getD e 16384

/-- A frame by its job and frame number. -/
def Blk.frame (s : Blk) (jobSeq unit : Nat) : Option Frame :=
  s.sns.frames.find? (fun f => f.jobSeq = jobSeq && f.unit = unit)

/-- A frame changed. -/
def Blk.updFrame (s : Blk) (jobSeq unit : Nat) (g : Frame → Frame) : Blk :=
  { s with sns := { s.sns with frames := s.sns.frames.map (fun f => if f.jobSeq = jobSeq && f.unit = unit then g f else f) } }

/-- A cluster of a frame changed. -/
def Frame.updCluster (f : Frame) (id : Nat) (g : Cluster → Cluster) : Frame :=
  { f with clusters := f.clusters.map (fun c => if c.id = id then g c else c) }

/-- Every speculative result that stands in a slot of engine `e` (R164). -/
def Blk.slotsHeld (s : Blk) (e : Nat) : Nat :=
  (s.sns.frames.map (fun f => (f.clusters.map (fun c =>
    (match c.prim with | some o => if o.inSlot && o.eng = e then 1 else 0 | none => 0) +
    (match c.sec with | some o => if o.inSlot && o.eng = e then 1 else 0 | none => 0))).foldl (· + ·) 0)).foldl (· + ·) 0

/-- The task running on engine `e`. -/
def Blk.taskOn (s : Blk) (e : Nat) : Option Task := s.dec.running.find? (fun t => t.eng = e)

/-- Engine `e` is free for an admitted task (R164). -/
def Blk.freeAdmitted (s : Blk) (e : Nat) : Bool := s.engActive e && (s.taskOn e).isNone && s.domReady (0x10 + e)

/-- Engine `e` is free for a speculative task (R164). -/
def Blk.freeSpec (s : Blk) (e : Nat) : Bool := s.freeAdmitted e && s.slotsHeld e < 2

/-- The engine with the highest gauge, ties to the lowest index (R165). -/
def Blk.fastest (s : Blk) (l : List Nat) : Option Nat :=
  l.foldl (fun m e => match m with | none => some e | some k => if s.gaugeOf k < s.gaugeOf e then some e else some k) none

/-- The engine with the lowest gauge, ties to the lowest index (R165), which ADM.PACE_NOW shows of two as well (DESIGN CHOICE, log 100). -/
def Blk.slowest (s : Blk) (l : List Nat) : Option Nat :=
  l.foldl (fun m e => match m with | none => some e | some k => if s.gaugeOf e < s.gaugeOf k then some e else some k) none

/-- The accounting window of a tick (02 R71). -/
def windowOf (t : Nat) : Nat := t / 312500

/-- The account of the window of the present tick: where it is not yet the one kept, that one closes and this one opens with the
engines active now, whichever command of the tick comes first (02 R71, R85; 10 R395). -/
def Blk.rollWindow (s : Blk) : Blk :=
  let w := windowOf s.now
  if w = s.dec.win then s
  else
    let next : Bool := w = s.dec.win + 1
    let kept (n : Nat) : Nat := if next then n else 0
    let s := s.setF Reg.ADM_CAL_STATE 31 16 (kept (sat 16 s.cal.slotsRun))
    { s with dec := { s.dec with win := w, winN := s.nEngines, specTicks := 0, calTicks := 0, specBytes := 0, calBytes := 0,
                                 lastN := if next then s.dec.winN else s.nEngines,
                                 lastSpec := kept s.dec.specTicks, lastCal := kept s.dec.calTicks },
             cal := { s.cal with slotsRun := 0 } }

/-- Engine ticks of the present window that speculative work (or, for shadow decodes, calibration work) has used:
what has ended, and what still runs since it started in this window (02 R71). -/
def Blk.specUsed (s : Blk) (shadow : Bool) : Nat :=
  (if shadow then s.rollWindow.dec.calTicks else s.rollWindow.dec.specTicks) +
  ((s.dec.running.filter (fun t => !t.admitted && t.shadow = shadow && windowOf t.startedAt = windowOf s.now)).map
    (fun t => s.now - t.startedAt)).foldl (· + ·) 0

/-- A share in percent of the window's engine time N × 312 500 ticks is not used up (02 R71). -/
def Blk.shareLeft (s : Blk) (used share : Nat) : Bool := used * 100 < share * s.rollWindow.dec.winN * 312500

/-- A share in percent of the window's DRAM bandwidth, ADM.MEM_CAP over 1 ms, is not used up (02 R71). -/
def Blk.memShareLeft (s : Blk) (bytes share : Nat) : Bool := bytes * 800 < share * s.memCap * 1000

/-- Engine ticks of work that started at a tick are booked whole to the window of that tick, to the calibration (true) or the
speculation account (02 R71); of windows before the last no register shows anything. -/
def Blk.book (s : Blk) (cal : Bool) (start ticks : Nat) : Blk :=
  let s := s.rollWindow
  if windowOf start = windowOf s.now then
    if cal then { s with dec := { s.dec with calTicks := s.dec.calTicks + ticks } }
    else { s with dec := { s.dec with specTicks := s.dec.specTicks + ticks } }
  else if windowOf start + 1 = windowOf s.now then
    if cal then { s with dec := { s.dec with lastCal := s.dec.lastCal + ticks } }
    else { s with dec := { s.dec with lastSpec := s.dec.lastSpec + ticks } }
  else s

/-- Ticks leave the speculation account of the window in which they were booked (R159, R163). -/
def Blk.unbook (s : Blk) (from_ to_ : Nat) : Blk :=
  let s := s.rollWindow
  if windowOf from_ = windowOf s.now then { s with dec := { s.dec with specTicks := s.dec.specTicks - (to_ - from_) } }
  else if windowOf from_ + 1 = windowOf s.now then { s with dec := { s.dec with lastSpec := s.dec.lastSpec - (to_ - from_) } }
  else s

/-- Ticks of the last window that speculative (or calibration) tasks have used, booked or still running (02 R71, R85). -/
def Blk.lastUsed (s : Blk) (shadow : Bool) : Nat :=
  (if shadow then s.rollWindow.dec.lastCal else s.rollWindow.dec.lastSpec) +
  ((s.dec.running.filter (fun t => !t.admitted && t.shadow = shadow && windowOf t.startedAt + 1 = windowOf s.now)).map
    (fun t => s.now - t.startedAt)).foldl (· + ·) 0

/-- A task ends or stops: its engine is free, its busy ticks are counted, and speculative ticks are booked to the
window in which it started (02 R71). -/
def Blk.stopTask (s : Blk) (t : Task) : Blk :=
  let ran := s.now - t.startedAt
  let s := ({ s with dec := { s.dec with running := s.dec.running.filter (fun u => u.eng != t.eng) } } : Blk).touch [0x10 + t.eng]
  let s := s.count (Reg.DEC_BUSY t.eng) ran
  if t.admitted then s else s.book t.shadow t.startedAt ran

/-- A running task is squashed, counted on its engine and under a cause register of the CRU page (R160, R176). The ticks of an
admitted task that a forfeit squashes are charged to the speculation budget, as R41 says of all squashed work (log 87). -/
def Blk.squashTask (s : Blk) (cause : Nat) (t : Task) : Blk :=
  let ran := s.now - t.startedAt
  let s := s.stopTask t
  let s := if t.admitted then s.book false t.startedAt ran else s
  (s.count (Reg.DEC_SQUASHED t.eng) 1).count cause 1

/-- Running tasks that meet a condition are squashed. -/
def Blk.squashWhere (s : Blk) (cause : Nat) (p : Task → Bool) : Blk :=
  (s.dec.running.filter p).foldl (fun b t => b.squashTask cause t) s

/-- A speculative result in a slot is given up: it counts as a squash on its engine (R161). -/
def Blk.dropSlot (s : Blk) (cause : Nat) (o : Option Outcome) : Blk :=
  match o with
  | some o => if o.inSlot then (s.count (Reg.DEC_SQUASHED o.eng) 1).count cause 1 else s
  | none => s

/-- An outcome that survives a squash of speculative work: only a promoted one. -/
def keepPromoted (o : Option Outcome) : Option Outcome :=
  match o with
  | some o => if o.inSlot then none else some o
  | none => none

/-- Every speculative task and unpromoted result of a cluster is squashed (R160, first cause). -/
def Blk.squashCluster (s : Blk) (cause jobSeq unit : Nat) (c : Cluster) : Blk :=
  let s := s.squashWhere cause (fun t => t.jobSeq = jobSeq && t.unit = unit && t.cand = c.id && !t.shadow)
  let s := (s.dropSlot cause c.prim).dropSlot cause c.sec
  s.updFrame jobSeq unit (fun f => f.updCluster c.id (fun d =>
    { d with prim := keepPromoted d.prim, sec := keepPromoted d.sec, secTried := false }))

/-- Every task of a frame is squashed, running, waiting or finished in a slot, shadow decodes of it included (R160:
the frame or the delivery is forfeited). -/
def Blk.squashFrame (s : Blk) (jobSeq unit : Nat) : Blk :=
  let s := s.squashWhere Reg.CRU_SQ_OTHER (fun t => t.jobSeq = jobSeq && t.unit = unit)
  let s := { s with dec := { s.dec with queue := s.dec.queue.filter (fun t => !(t.jobSeq = jobSeq && t.unit = unit)) } }
  match s.frame jobSeq unit with
  | none => s
  | some f =>
    let s := f.clusters.foldl (fun b c => (b.dropSlot Reg.CRU_SQ_OTHER c.prim).dropSlot Reg.CRU_SQ_OTHER c.sec) s
    s.updFrame jobSeq unit (fun f => { f with clusters := f.clusters.map (fun c =>
      { c with prim := keepPromoted c.prim, sec := keepPromoted c.sec }) })

end Sys2Proof.Machine
end

