-- ==== Sys2Proof/Machine/Grading.lean ====
section
/-! DEFINITION. Quality parameters and grades (05 R198 to R202; 10 R374): what a decode task measures of a symbol, the thresholds, and
the scaling to reflectance. Methods and thresholds are those of ISO/IEC 15415 and ISO/IEC TR 29158, PRESUMED (log 96). -/
namespace Sys2Proof.Machine

/-! ### Thresholds -/

/-- A grade by the least values of the grades 4 to 1. -/
def gradeUp (l : List Int) (v : Int) : Nat := (l.filter (fun t => t ≤ v)).length
/-- A grade by the greatest values of the grades 4 to 1. -/
def gradeDown (l : List Int) (v : Int) : Nat := (l.filter (fun t => v ≤ t)).length

/-- Symbol contrast, modulation and cell modulation, fixed pattern damage, axial and grid nonuniformity, unused error correction, cell
contrast, and minimum reflectance, all in 0.1 %. -/
def gradeContrast : Int → Nat := gradeUp [700, 550, 400, 200]
def gradeMod : Int → Nat := gradeUp [500, 400, 300, 200]
def gradeDamage : Int → Nat := gradeDown [0, 90, 130, 170]
def gradeAxial : Int → Nat := gradeDown [60, 80, 100, 120]
def gradeGrid : Int → Nat := gradeDown [380, 500, 630, 750]
def gradeUec : Int → Nat := gradeUp [620, 500, 370, 250]
def gradeCellContrast : Int → Nat := gradeUp [300, 250, 200, 150]
def gradeMinRefl (v : Int) : Nat := if 50 ≤ v then 4 else 0

/-! ### Measurements -/

/-- The unused error correction of a block of which errors and erasures take up `used` checks, two for an error and one for an
erasure, in 0.1 %. -/
def uecOf (b : CodeBlock) (used : Nat) : Int :=
  let cap : Int := b.checks - b.kept
  if cap ≤ 0 then (if used = 0 then 1000 else 0) else max 0 ((cap - used) * 1000 / cap)

/-- A grade over codewords: at each grade level the codewords below it count as errors, the level can then be no better than the
unused error correction that is left, and the best level stands. -/
def overlay (blocks : List CodeBlock) (grades : List Nat) : Nat :=
  let at_ (k : Nat) : Nat := (blocks.map (fun b => min k (gradeUec (uecOf b (2 * (b.words.filter (fun i => grades.getD i 0 < k)).length))))).foldl min 4
  ([4, 3, 2, 1].map at_).foldl max 0

/-- The mean of a list, and its least and greatest. -/
def meanInt (l : List Int) : Int := l.foldl (· + ·) 0 / max 1 (l.length : Int)
def leastInt (l : List Int) : Int := l.foldl min (l.headD 0)
def greatestInt (l : List Int) : Int := l.foldl max (l.headD 0)

/-- A share of a whole in 0.1 %, the whole no less than 1. -/
def perMille (a b : Int) : Int := 1000 * a / max 1 b

/-- The measurements of a symbol: its levels in 1/16 DN, its codewords as modules with the sides they belong to (light or dark), its
blocks with the checks that the errors of each take up, its fixed patterns' modules, and its nonuniformities and print growth. -/
def gradeIn (lv : List Int) (dark : Nat → Bool) (words : List (List (Nat × Bool))) (blocks : List CodeBlock) (used : List Nat)
    (fixed : List (Nat × Bool)) (axial gnu growH growV : Int) : GradeIn :=
  let hi := greatestInt lv
  let lo := leastInt lv
  let sc := max 1 (hi - lo)
  let idx := List.range lv.length
  let light := meanInt ((idx.filter (fun i => !dark i)).map (fun i => lv.getD i 0))
  let shade := meanInt ((idx.filter dark).map (fun i => lv.getD i 0))
  let mod (i : Nat) : Int := ((2 * lv.getD i 0 - hi - lo).natAbs : Int) * 1000 / sc
  let margin (p : Nat × Bool) : Int := if dark p.1 = p.2 then mod p.1 else 0
  let cell (p : Nat × Bool) : Int :=
    let v := 2 * lv.getD p.1 0 - light - shade
    if dark p.1 = p.2 then perMille (v.natAbs : Int) (light - shade).natAbs else 0
  let all := words.flatten
  let grade (f : Nat × Bool → Int) : Nat := overlay blocks (words.map (fun w => gradeMod (leastInt (w.map f))))
  let wrong := (fixed.filter (fun p => dark p.1 != p.2)).length
  let unused := leastInt ((blocks.zip used).map (fun p => uecOf p.1 p.2))
  { contrast := hi - lo, light := light - 256,
    vals := [leastInt (all.map (fun p => mod p.1)), leastInt (all.map margin), perMille wrong fixed.length, axial, gnu, unused, growH, growV,
             perMille (light - shade) (light - 256), leastInt (all.map cell)],
    mods := [grade (fun p => mod p.1), grade margin, grade cell] }

/-! ### Grades -/

/-- The parameters of 06 R233 in its order and their grades, decode first; and whether mean light lies inside its window. -/
structure Grades where
  params : List Int
  grades : List Nat
  lightIn : Bool
deriving DecidableEq, Repr

/-- A level above the black level in 1/16 DN as reflectance in 0.1 %: × patch_refl ÷ L, L in 1/4 DN (10 R374). -/
def reflectance (patchRefl l4 : Nat) (v : Int) : Int := v * patchRefl / max 1 (4 * l4 : Int)

/-- The grades of a decoded symbol. Mean light is held against 70 % to 86 % of the greatest code. -/
def Reading.grades (r : Reading) (patchRefl l4 : Nat) : Grades :=
  let g := r.grade
  let v (i : Nat) : Int := g.vals.getD i 0
  let sc := reflectance patchRefl l4 g.contrast
  let ml := reflectance patchRefl l4 g.light
  { params := [sc, v 0, v 1, v 2, v 3, v 4, v 5, v 6, v 7, v 8, v 9, ml, ml],
    grades := [4, gradeContrast sc, g.mods.getD 0 0, g.mods.getD 1 0, gradeDamage (v 2), gradeAxial (v 3), gradeGrid (v 4), gradeUec (v 5),
               gradeCellContrast (v 8), g.mods.getD 2 0, gradeMinRefl ml],
    lightIn := 7 * 16 * 1023 ≤ 10 * (g.light + 256) && 100 * (g.light + 256) ≤ 86 * 16 * 1023 }

end Sys2Proof.Machine
end

