-- ==== Sys2Proof/Machine/Results.lean ====
section
/-! DEFINITION. Result records and the result store: record layouts (06 R224 to R237), pools (R239 to R243), the commit
of a group or a forfeit record, and the end of a job (02 R84, R90). -/
namespace Sys2Proof.Machine

/-! ### The result record (R225 to R234) -/

/-- The largest side, or symbol-character count, a size class allows (02 R56). -/
def sizeLimit (kind : SymKind) (k : Nat) : Nat :=
  let sides := [12, 16, 24, 32, 64, 104, 177]
  let chars := [8, 16, 24, 32, 48, 64, 80]
  (if kind = .code128 then chars else sides).getD (k - 1) 0

/-- The size R188 compares: the longer side, or the symbol characters. -/
def findingSize (f : Reading) : Nat := if f.kind = .code128 then f.cols else max f.rows f.cols

/-- The kind of symbol stands in the symbologies enabled (05 R185, R186); `e` is the job's field and DECC.SYM_ENABLE. -/
def kindEnabled (f : Reading) (e : Nat) : Bool :=
  match f.kind with
  | .dataMatrix => (bitN e 0 && dmBit0 f.rows f.cols) || (bitN e 1 && dmBit1 f.rows f.cols)
  | .qr => bitN e 2
  | .microQr => bitN e 3
  | .code128 => bitN e 4
  | .dotCode => bitN e 6
  | .blazeD => bitN e 7
  | .nothing => true
  | .unsupported => true

/-- The hypothesis families' codes of R225 and the kinds their decoders run on (04 R148). -/
def familyRuns (family : Nat) (k : SymKind) : Bool :=
  match k with
  | .dataMatrix => family = 1
  | .qr => family = 2
  | .microQr => family = 2
  | .dotCode => family = 3
  | .blazeD => family = 3
  | .code128 => family = 4
  | .nothing => false
  | .unsupported => true

/-! ### Blaze-D (05 R205 to R209) -/

/-- Multiplication in GF(16), x⁴ + x + 1 (05 R207). -/
def gfMul (a b : Nat) : Nat :=
  ((List.range 4).foldl (fun (acc : Nat × Nat) i =>
    let p := if bitN b i then Nat.xor acc.1 acc.2 else acc.1
    let d := acc.2 * 2
    (p, if 16 ≤ d then Nat.xor (d - 16) 3 else d)) (0, a)).1

/-- The check symbols of ten data symbols (05 R207). -/
def blazeChecks (c : List Nat) : List Nat :=
  let r := c.foldl (fun (r : Nat × Nat × Nat × Nat × Nat) ck =>
    let f := Nat.xor ck r.1
    (Nat.xor r.2.1 (gfMul f 0xB), Nat.xor r.2.2.1 (gfMul f 4), Nat.xor r.2.2.2.1 (gfMul f 6),
     Nat.xor r.2.2.2.2 (gfMul f 2), f)) (0, 0, 0, 0, 0)
  let five := [r.1, r.2.1, r.2.2.1, r.2.2.2.1, r.2.2.2.2]
  five ++ [(c ++ five).foldl Nat.xor 0]

/-- A codeword of the code of R207. -/
def blazeCodeword (c : List Nat) : Bool := c.length = 16 && blazeChecks (c.take 10) == c.drop 10

/-- The pair's bit, or an erasure: the levels of its two cells must differ by at least 25 % of the contrast (R208). -/
def pairBit (contrast a b : Int) : Option Bool :=
  let need := if contrast < 0 then -contrast else contrast
  let d := a - b
  let m := if d < 0 then -d else d
  if 4 * m < need then none else some (if 0 ≤ contrast then 0 < d else d < 0)

/-- The 64 pairs of the 128 cells. -/
def cellPairs (contrast : Int) : List Int → List (Option Bool)
  | a :: b :: t => pairBit contrast a b :: cellPairs contrast t
  | _ => []

/-- Four pairs make a symbol; a pair without a bit makes it an erasure (R207, R208). -/
def pairSymbols : List (Option Bool) → List (Option Nat)
  | some a :: some b :: some c :: some d :: t => some (b2n a * 8 + b2n b * 4 + b2n c * 2 + b2n d) :: pairSymbols t
  | _ :: _ :: _ :: _ :: t => none :: pairSymbols t
  | _ => []

/-- Symbols at positions set to values. -/
def patchSyms (c : List Nat) (l : List (Nat × Nat)) : List Nat := l.foldl (fun c p => c.set p.1 (Nat.xor (c.getD p.1 0) p.2)) c

/-- Every way to change the symbols at `pos` by any values. -/
def changes : List Nat → List (List (Nat × Nat))
  | [] => [[]]
  | p :: t => (changes t).flatMap (fun l => (List.range 16).map (fun v => (p, v) :: l))

/-- The codeword that agrees with `c` outside the positions `pos`, if there is one. With at most six positions of a
code of distance 7 it is unique; it is found from the symbols outside (R207, R209). -/
def fillAt (c : List Nat) (pos : List Nat) : Option (List Nat) :=
  ((changes pos).map (patchSyms c)).find? blazeCodeword

/-- Subsets of k positions below n, increasing. -/
def subsets : Nat → Nat → List (List Nat)
  | 0, _ => [[]]
  | _ + 1, 0 => []
  | k + 1, n + 1 => subsets (k + 1) n ++ (subsets k n).map (· ++ [n])

/-- Correction of e errors and f erasures with 2e + f ≤ 4 (R209): the codeword, e and f. -/
def blazeCorrect (syms : List (Option Nat)) : Option (List Nat × Nat × Nat) :=
  let er := (List.range 16).filter (fun i => (syms.getD i none).isNone)
  let c := syms.map (fun o => o.getD 0)
  let f := er.length
  if syms.length ≠ 16 ∨ 4 < f then none
  else
    let tryE (e : Nat) : Option (List Nat × Nat × Nat) :=
      if 4 < 2 * e + f then none
      else ((subsets e 16).filter (fun l => l.all (fun i => !er.contains i))).findSome? (fun l =>
        (fillAt c (er ++ l)).map (fun w => (w, e, f)))
    match tryE 0 with
    | some r => some r
    | none => match tryE 1 with
      | some r => some r
      | none => tryE 2

/-- The 40 data bits of a codeword as a number (R206): layer 12, writer 5, mark_index 7, plate_fragment 16. -/
def blazeData (w : List Nat) : Nat := (w.take 10).foldl (fun n c => n * 16 + c) 0
def blazeLayer (w : List Nat) : Nat := fld (blazeData w) 39 28
def blazeWriter (w : List Nat) : Nat := fld (blazeData w) 27 23
def blazeIndex (w : List Nat) : Nat := fld (blazeData w) 22 16
def blazeFragment (w : List Nat) : Nat := fld (blazeData w) 15 0

/-- An option the engine does not support (05 R189): a mirror-image DotCode or Blaze-D, a light-on-dark Blaze-D. -/
def unreadable (f : Reading) : Bool :=
  (f.mirror && (f.kind = .dotCode || f.kind = .blazeD)) || (f.lightOnDark && f.kind = .blazeD)

/-- The status a task ends with (R227; 05 R185 to R190, R208, R209). A mirror or light-on-dark mark of family D whose symbology is not
enabled ends as not enabled: the rules order the check of R185 before sampling and state no other order of the two (log 97). -/
def outcomeStatus (family enabled sizeClass : Nat) (f : Reading) : Nat :=
  if f.kind = .nothing ∨ !familyRuns family f.kind then 0x10
  else if f.kind = .unsupported then 0x15
  else if !kindEnabled f enabled then 0x14
  else if unreadable f then 0x15
  else if f.kind ≠ .blazeD ∧ sizeLimit f.kind sizeClass < findingSize f then 0x13
  else if f.ecFails then 0x11
  else if f.checkFails then 0x12
  else 0x00

/-! ### GS1 parsing (05 R195) -/

/-- The total length of an element string by its two-digit prefix (05 R195). -/
def gs1Fixed (p : Nat) : Option Nat :=
  if p = 0 then some 20 else if 1 ≤ p ∧ p ≤ 3 then some 16 else if p = 4 then some 18
  else if 11 ≤ p ∧ p ≤ 19 then some 8 else if p = 20 then some 4 else if 31 ≤ p ∧ p ≤ 36 then some 10
  else if p = 41 then some 16 else none

/-- The digits of bytes; none when one is no digit. -/
def digits (l : List Byte) : Option (List Nat) :=
  l.mapM (fun b => if 48 ≤ b.toNat ∧ b.toNat ≤ 57 then some (b.toNat - 48) else none)

/-- The modulo-10 check digit holds: weights 3 and 1 from the right, the check digit weighing 1. -/
def mod10Ok (d : List Nat) : Bool :=
  ((d.reverse.zipIdx.map (fun (x, i) => if i % 2 = 0 then x else 3 * x)).foldl (· + ·) 0) % 10 = 0

/-- The digits of the Application Identifier at the head of the data: those of 00, 01 and 02 the rule itself states, the others are the
GS1 table's (R195). -/
def gs1Ai (l : List Byte) : Option Nat :=
  match digits (l.take 2) with
  | some [0, d] => if d ≤ 2 then some 2 else Config.gs1Ai l
  | _ => Config.gs1Ai l

/-- The length of the element string at the head of the data, which its separator or the end of the data follows after `run` bytes; or
none when parsing stops there (R195). -/
def gs1Element (run : Nat) (l : List Byte) : Option Nat :=
  match gs1Ai l with
  | none => none
  | some ai =>
    match digits (l.take 2) with
    | none => none
    | some d =>
      let p := d.getD 0 0 * 10 + d.getD 1 0
      match gs1Fixed p with
      | some n =>
        let body := l.take n
        if run < n ∨ body.length < n then none
        else if p ≤ 2 then (match digits (body.drop 2) with
          | some ds => if mod10Ok ds then some n else none
          | none => none)
        else some n
      | none => if run < ai then none else some run

/-- Parses element strings; the offset at which parsing stops, or none when it is complete (R195). `seps` are the offsets at which a
later FNC1 stands. It stops at the start of the element string that does not hold (log 97). -/
def gs1Parse (seps : List Nat) : Nat → Nat → List Byte → Option Nat
  | 0, o, _ => some o
  | fuel + 1, o, l =>
    match l with
    | [] => none
    | _ :: t =>
      if seps.contains o then gs1Parse seps fuel (o + 1) t
      else
        let run := (((seps.filter (fun p => o < p)).foldl min (o + l.length)) - o)
        match gs1Element run l with
        | none => some o
        | some n => gs1Parse seps fuel (o + n) (l.drop n)

/-- GS1 parsing is run: Code 128, bit 5 enabled, FNC1 in the first position (R195). -/
def gs1Runs (enabled : Nat) (f : Reading) : Bool := f.kind = .code128 && bitN enabled 5 && f.fnc1First

/-- The offset at which GS1 parsing of a finding's data stopped. -/
def gs1Stop (enabled : Nat) (f : Reading) : Option Nat :=
  if gs1Runs enabled f then gs1Parse f.seps (f.data.length + 1) 0 f.data else none

/-- The symbology code (05 R184). -/
def symCode (enabled : Nat) (f : Reading) : Nat :=
  match f.kind with
  | .dataMatrix => 1
  | .qr => 2
  | .microQr => 3
  | .code128 => if gs1Runs enabled f then 5 else 4
  | .dotCode => 6
  | .blazeD => 7
  | _ => 0

/-! ### Blocks of the payload (R230 to R234) -/

/-- Symbologies with structured append (05 R191, R193, R196). -/
def appends (f : Reading) : Bool := f.kind = .dataMatrix || f.kind = .qr || f.kind = .dotCode

/-- The symbol block (R231). -/
def symbolBlock (enabled : Nat) (f : Reading) : List Byte :=
  let qr := f.kind = .qr || f.kind = .microQr
  let sa (v : Nat) : Nat := if appends f then v else 0
  le 1 (sa f.saPos) ++ le 1 (sa f.saTotal) ++ le 2 (sa f.saFile) ++ le 4 (f.eci.getD 0xFFFFFFFF) ++
  le 2 ((gs1Stop enabled f).getD 0xFFFF) ++ le 1 (if qr then f.ecLevel else 0xFF) ++
  le 1 (if qr || f.kind = .dotCode then f.mask else 0xFF)

/-- The Blaze block of a Blaze-D (R232). -/
def blazeBlock (layer writer index fragment check : Nat) : List Byte :=
  le 2 layer ++ le 1 writer ++ le 1 index ++ le 2 fragment ++ le 1 check ++ le 1 0

/-- The grading block (R233): thirteen parameters, then the two words of grades. A parameter that is not computed for the
symbology reads 0, and its grade 0xF: for DotCode, fixed pattern damage and the values of ISO/IEC TR 29158 (05 R199, R202). -/
def gradingBlock (dot : Bool) (g : Grades) : List Byte :=
  let p (i : Nat) : Int := if dot && (i = 3 || 9 ≤ i) then 0 else g.params.getD i 0
  let n (i : Nat) : Nat := if dot && (i = 4 || 8 ≤ i) then 0xF else min 4 (g.grades.getD i 0)
  let signed (i : Nat) : Nat := twos 16 (clampI (-32768) 32767 (p i))
  let count (i : Nat) : Nat := (clampI 0 65535 (p i)).toNat
  ((List.range 13).map (fun i => le 2 (if i = 7 || i = 8 then signed i else count i))).flatten ++
  le 4 ((List.range 8).foldl (fun k i => k + n i * 16 ^ i) 0) ++ le 2 (n 8 + n 9 * 16 + n 10 * 256 + 0xF000)

/-- The diagnostics block (R234): erasures are known once the symbol is sampled, errors once they are corrected. -/
def diagBlock (f : Reading) (stage : Nat) : List Byte :=
  le 1 stage ++ le 1 f.finders ++ le 2 (if stage < 3 then 0 else f.erasures) ++ le 2 (if stage < 4 then 0xFFFF else f.errors) ++ le 2 0

/-- The payload of R230: blocks in order, each whole or left out, then the data, cut at the cap; and whether any block
was left out or the data cut. -/
def buildPayload (cap : Nat) (blocks : List (List Byte)) (data : List Byte) : List Byte × Bool :=
  let (p, t) := blocks.foldl (fun (acc : List Byte × Bool) b =>
    if acc.1.length + b.length ≤ cap then (acc.1 ++ b, acc.2) else (acc.1, true)) ([], false)
  let d := data.take (cap - p.length)
  (p ++ d, t || d.length < data.length)

/-- Is the symbol graded (05 R199, R200)? -/
def gradable (f : Reading) : Bool := f.kind = .dataMatrix || f.kind = .qr || f.kind = .microQr || f.kind = .dotCode

/-- The overall grade: the lowest of the grades marked graded, where computed (05 R199). -/
def overallGrade (dot : Bool) (g : Grades) : Nat := ((if dot then upd g.grades 4 (fun _ => 4) else g.grades).take 8).foldl min 4

/-- The last stage a primary task completed (R234): a symbol that the checks before sampling turn away has been fitted; a mark
recognised from its lattice too (05 R188, R189). -/
def failStage (status : Nat) (f : Reading) : Nat :=
  if status = 0x13 ∨ status = 0x14 ∨ unreadable f then 2 else if status = 0x10 then min f.stage 1 else f.stage

/-- The centre of a candidate's region, as image coordinates (R229): its bounding rectangle of member tiles grown by one
tile and clipped (04 R146). -/
def regionBox (tiles : List Nat) : Nat × Nat × Nat × Nat :=
  let cs := tiles.map (· % 256)
  let rs := tiles.map (· / 256)
  (cs.foldl min 255 - 1, min 255 (cs.foldl max 0 + 1), rs.foldl min 191 - 1, min 191 (rs.foldl max 0 + 1))

/-- Centre x and y of a region. -/
def regionCentre (tiles : List Nat) : Nat × Nat :=
  let (c0, c1, r0, r1) := regionBox tiles
  ((c0 + c1 + 1) * 8 * 4096, (r0 + r1 + 1) * 8 * 4096)

/-- The header of a result record (R225) from its parts. -/
structure RecHead where
  symbology : Nat := 0
  status : Nat := 0
  wonBy : Nat := 1
  tag : Nat
  admSeq : Nat
  unitSeq : Nat
  zero : Nat
  index : Nat
  family : Nat
  dataLen : Nat := 0
  fault : Nat := 0
  x : Nat := 0
  y : Nat := 0
  angle : Nat := 0
  pitch : Nat := 0
  rows : Nat := 0
  cols : Nat := 0
  grade : Nat := 0xF
  ecc : Nat := 0
  flags : Nat := 0
  tallySeq : Nat := 0xFFFFFFFF
  symId : Nat := 0
  ready : Nat := 0
deriving DecidableEq, Repr

/-- The bytes of a result record with its payload; pool_seq is filled in at the store (R225, R241). -/
def RecHead.bytes (h : RecHead) (payload : List Byte) : List Byte :=
  le 1 1 ++ le 1 h.symbology ++ le 1 h.status ++ le 1 h.wonBy ++ le 4 h.tag ++ le 4 h.admSeq ++ le 4 h.unitSeq ++
  le 8 h.zero ++ le 1 h.index ++ le 1 h.family ++ le 2 payload.length ++ le 2 h.dataLen ++ le 2 h.fault ++ le 4 h.x ++
  le 4 h.y ++ le 2 h.angle ++ le 2 h.pitch ++ le 1 h.rows ++ le 1 h.cols ++ le 1 h.grade ++ le 1 h.ecc ++ le 4 h.flags ++
  le 4 h.tallySeq ++ le 2 h.symId ++ le 2 0 ++ le 4 (min h.ready 0xFFFFFFFF) ++ payload

/-- What a decoded candidate's record shows of its symbol: header fields, the flags from bit 3 up, and the payload. `l4` is the patch
reading that scales its grades (10 R374). -/
def decodedRecord (j : Job) (f : Frame) (enabled l4 : Nat) (g : Reading) (head : RecHead) (base : Nat) : List Byte :=
  let dot := decide (g.kind = SymKind.dotCode)
  let blz := decide (g.kind = SymKind.blazeD)
  let graded := j.grading = 1 && gradable g
  let q := g.grades f.cfg.patchRefl l4
  let (w, e, r) := g.blaze.getD ([], g.errors, g.erasures)
  let blocks := if blz then [blazeBlock (blazeLayer w) (blazeWriter w) (blazeIndex w) (blazeFragment w) 0]
    else [symbolBlock enabled g] ++ (if graded then [gradingBlock dot q] else [])
  let data := if blz then [] else g.data
  let (p, t) := buildPayload j.payloadCap blocks data
  let flags := base + b2n t * 2 ^ 3 + b2n g.readerProg * 2 ^ 4 + b2n g.fnc2 * 2 ^ 5 + b2n g.fnc3 * 2 ^ 6 +
    b2n (gs1Stop enabled g).isSome * 2 ^ 7 + b2n (g.saTotal != 0 && appends g) * 2 ^ 8 + b2n g.eci.isSome * 2 ^ 9 +
    b2n (graded && (if dot then g.dot else g.pitch) < 5 * 256) * 2 ^ 10 + b2n (graded && !f.patchOk) * 2 ^ 11 + b2n (graded && q.lightIn && !dot) * 2 ^ 12 +
    b2n g.mirror * 2 ^ 13 + b2n g.lightOnDark * 2 ^ 14 + b2n (graded && 44 ≤ p.length) * 2 ^ 17
  { head with
    symbology := symCode enabled g, status := 0, dataLen := data.length, x := g.x, y := g.y, angle := g.angle,
    pitch := g.pitch, rows := if blz then 12 else if g.kind = SymKind.code128 then 1 else g.rows,
    cols := if blz then 12 else g.cols, grade := if graded then overallGrade dot q else 0xF,
    ecc := min e 15 + min r 15 * 16, flags := flags, symId := if blz then 0 else g.symId }.bytes p

/-- The result record of a listed candidate (R225 to R234). `enabled` is what the frame enables, `old` the patch reading in force when
the frame has none of its own (10 R374). -/
def frameRecord (j : Job) (f : Frame) (zeroT enabled old : Nat) (c : Cluster) : List Byte :=
  let won := if c.secWon then c.sec else c.prim
  let o : Option Outcome := won.orElse (fun _ => c.prim)
  let (cx, cy) := regionCentre c.tiles
  let noMeas := c.tallySeq = 0xFFFFFFFF
  let base : Nat := b2n c.clipped + b2n c.untried * 2 + b2n noMeas * 4 + b2n f.changed * 2 ^ 16 + f.sectors % 256 * 2 ^ 24
  let head : RecHead :=
    { tag := j.tag, admSeq := j.seq, unitSeq := f.unit, zero := zeroT, index := c.index.getD 0,
      family := (o.map Outcome.family).getD 0, fault := c.tallyFault, tallySeq := c.tallySeq,
      ready := (o.map Outcome.endedAt).getD zeroT - zeroT }
  match o with
  | none => { head with status := 0x10, x := cx, y := cy, flags := base }.bytes (buildPayload j.payloadCap [zeros 4 ++ le 2 0xFFFF ++ zeros 2] []).1
  | some o =>
    if o.status ≠ 0 then
      let (p, t) := buildPayload j.payloadCap [diagBlock o.f (failStage o.status o.f)] []
      { head with status := o.status, x := cx, y := cy, pitch := o.f.pitch, flags := base + b2n t * 8 }.bytes p
    else decodedRecord j f enabled (f.patch.getD old) o.f head base

/-! ### Pools (R239 to R243) -/

/-- A pool of the store. -/
def Blk.pool (s : Blk) (p : Nat) : PoolSt := s.store.pools.getD p {}

/-- A pool changed. -/
def Blk.updPool (s : Blk) (p : Nat) (g : PoolSt → PoolSt) : Blk :=
  { s with store := { s.store with pools := upd s.store.pools p g } }

/-- Bytes a pool's records hold. -/
def PoolSt.held (p : PoolSt) : Nat := (p.recs.map (fun r => r.bytes.length)).foldl (· + ·) 0

/-- Bytes that the groups of one job hold in a pool: a group counts whole until its last record is released (R239). -/
def PoolSt.heldBy (p : PoolSt) (jobSeq : Nat) : Nat :=
  ((((p.recs.filter (fun r => r.jobSeq = jobSeq)).map (fun r => (r.unitSeq, r.groupBytes))).eraseDups).map Prod.snd).foldl
    (· + ·) 0

/-- `b` with two bytes at offset `o` set. -/
def setLe2 (b : List Byte) (o v : Nat) : List Byte := b.take o ++ le 2 v ++ b.drop (o + 2)

/-- One record of a group of `size` bytes stored with the pool's next pool_seq (R241). -/
def Blk.storeRec (s : Blk) (p jobSeq unitSeq size : Nat) (b : List Byte) : Blk :=
  let n := (s.pool p).nextSeq
  let s := s.updPool p (fun q =>
    { q with nextSeq := (n + 1) % 65536,
             recs := q.recs ++ [{ seq := n, jobSeq := jobSeq, unitSeq := unitSeq, bytes := setLe2 b 58 n,
                                  order := s.store.nextOrder, groupBytes := size }] })
  { s with store := { s.store with nextOrder := s.store.nextOrder + 1 } }

/-- The records of one group, or the forfeit record in its place, stored in the job's pool when its reservation has room;
otherwise the group is lost (R239, R240). The count of lost groups starts anew with the next group stored (R235). -/
def Blk.storeGroup (s : Blk) (j : Job) (unitSeq : Nat) (recs : List (List Byte)) : Blk :=
  let size := (recs.map List.length).foldl (· + ·) 0
  if (s.pool j.pool).heldBy j.seq + size ≤ j.storeBytes then
    let c := recs.foldl (fun b r => b.storeRec j.pool j.seq unitSeq size r) s
    if (recs.headD []).headD 0 = 2 then c.updJob j.seq (fun j => { j with lost := 0 }) else c
  else
    ((((s.raise 0xB141).bump Reg.ADM_POOL_LOST 15 0 1).setF Reg.ADM_POOL_LOST 19 16 j.pool).updJob j.seq
      (fun j => { j with lost := min (j.lost + 1) 65535 }))

/-- Records of a pool up to and including one pool_seq released; nothing when it is not held (R245). -/
def releaseUpTo (seq : Nat) (l : List Rec) : List Rec :=
  match l.findIdx? (fun r => r.seq = seq) with
  | some i => l.drop (i + 1)
  | none => l

/-- One record released (R239). -/
def Blk.releaseRec (s : Blk) (p seq : Nat) : Blk :=
  s.updPool p (fun q => { q with recs := q.recs.filter (fun r => r.seq != seq) })

/-- The forfeit record of R237; `kind` 1 frame, 2 sweep, 3 campaign. -/
def forfeitBytes (kind wonBy : Nat) (j : Job) (unitSeq zeroT fault now deadline : Nat) (contested : Bool) : List Byte :=
  le 1 3 ++ le 1 kind ++ le 1 0 ++ le 1 wonBy ++ le 4 j.tag ++ le 4 j.seq ++ le 4 unitSeq ++ le 8 zeroT ++ zeros 6 ++
  le 2 fault ++ le 8 now ++ le 8 deadline ++ le 4 (b2n contested) ++ zeros 6 ++ le 2 0 ++ zeros 4

/-- The group record of R235. -/
structure GroupHead where
  kind : Nat
  changed : Bool := false
  tag : Nat
  admSeq : Nat
  unitSeq : Nat
  zero : Nat
  records : Nat
  listed : Nat
  unlisted : Nat
  decoded : Nat
  lost : Nat
  commit : Nat
  deadline : Nat
  flags : Nat
  tiles : Nat := 0
  clipped : Nat := 0
deriving DecidableEq, Repr

/-- The bytes of a group record. -/
def GroupHead.bytes (h : GroupHead) : List Byte :=
  le 1 2 ++ le 1 h.kind ++ le 1 (b2n h.changed) ++ le 1 1 ++ le 4 h.tag ++ le 4 h.admSeq ++ le 4 h.unitSeq ++ le 8 h.zero ++
  le 1 h.records ++ le 1 (min h.listed 255) ++ le 1 (min h.unlisted 255) ++ le 1 h.decoded ++ le 2 h.lost ++ le 2 0 ++
  le 8 h.commit ++ le 8 h.deadline ++ le 4 h.flags ++ le 2 h.tiles ++ le 2 h.clipped ++ le 2 0 ++ le 2 0 ++ zeros 4

/-- The timer's race with its event passes the element within the same 20 ns, about six ticks (02 R78). -/
def contested (now due : Nat) : Bool := now ≤ due + 6 && due ≤ now + 6

/-- The contested flag of a forfeit that its timer has won (02 R78): the commit's request stood before the element when the group
was ready; when the group could become ready at any moment, whether its request came within the same 20 ns is a free value. -/
def lostRace (ready soon : Bool) (now due jobSeq unit : Nat) : Bool :=
  contested now due && (ready || (soon && Config.lateRequest jobSeq unit))

/-! ### The end of a job (02 R84, R90) -/

/-- The history entry of a job that stops being live takes its end state (R90). -/
def endState (e : JobEnd) : Nat :=
  match e with
  | .live => 1
  | .lastDelivery => 1
  | .cancelled => 2
  | .armTimeout => 3

/-- A job stops being live: its loads and its Q no longer count, and its history entry is updated (R84, R90). -/
def Blk.endJob (s : Blk) (seq : Nat) : Blk :=
  match s.jobBySeq seq with
  | none => s
  | some j =>
    { s.touch (if j.kind = 1 then [2, 4] ++ (List.range 18).map (· + 0x10) else if j.kind = 2 then [3] else []) with
      jobs := s.jobs.filter (fun k => k.seq != seq)
      hist := s.hist.map (fun h => if h.seq = seq ∧ h.verdict = 1 ∧ h.state = 0 then { h with state := endState j.stopped } else h)
      dec := { s.dec with spent := s.dec.spent.filter (fun e => e.1.1 != seq) } }

/-- The frames of a job whose delivery has not ended. -/
def Blk.framesOwed (s : Blk) (seq : Nat) : Nat := (s.sns.frames.filter (fun f => f.jobSeq = seq && !f.isOver)).length

/-- An exposure job that owes nothing more and takes no further trigger stops being live (R84). -/
def Blk.maybeEndExposure (s : Blk) (seq : Nat) : Blk :=
  match s.jobBySeq seq with
  | none => s
  | some j =>
    let last := j.frameCount != 0 && j.frameCount ≤ j.taken
    if j.kind = 1 && s.framesOwed seq = 0 && (last || j.stopped != .live) then
      (if last && j.stopped = .live then s.updJob seq (fun j => { j with stopped := .lastDelivery }) else s).endJob seq
    else s

/-- A forfeit counted and its event shown (02 R77, R85, R89). -/
def Blk.countForfeit (s : Blk) : Blk := (s.bump Reg.ADM_COUNTS 31 16 1).event 0x04 1 0x0000

/-- A frame's delivery ends with a forfeit record in place of its group; all its work is squashed (02 R30, R80, R160;
06 R238; 03 R127). -/
def Blk.forfeitFrame (s : Blk) (jobSeq unit fault wonBy : Nat) (contest : Bool) : Blk :=
  match s.jobBySeq jobSeq, s.frame jobSeq unit with
  | some j, some f =>
    if f.isOver then s else
    let s := s.squashFrame jobSeq unit
    let s := s.updFrame jobSeq unit (fun f => { f with isOver := true })
    let s := s.storeGroup j unit [forfeitBytes 1 wonBy j unit (f.zero.getD 0) fault s.now f.deadline contest]
    let s := { s with mem := { s.mem with held := s.mem.held.filter (fun h => h != (jobSeq, unit)) } }
    s.countForfeit.maybeEndExposure jobSeq
  | _, _ => s

/-- A campaign's forfeit record goes into the correction store (06 R238). -/
def Blk.storeCorr (s : Blk) (j : Job) (b : List Byte) : Blk :=
  { s with store := { s.store with corr := s.store.corr ++ [{ tag := j.tag, jobSeq := j.seq, bytes := b }] } }

end Sys2Proof.Machine
end

