-- ==== Sys2Proof/Machine/Photodiode.lean ====
section
/-! DEFINITION. The photodiode chain (07): decimator, trim, rank filter, DC block, FIR with its banks and cross-fades,
the resampler's kernel, settle lengths and suppression, freezing, and the commands that act on it alone. -/
namespace Sys2Proof.Machine

/-! ### Settings and settle lengths (R251, R263, R275, R281 to R284) -/

/-- π times 10^49, cut. -/
def piNum : Nat := 31415926535897932384626433832795028841971693993751

/-- The amplifier's settling time t_a, in ns, by gain (R251). -/
def settleNs (gain : Nat) : Nat := [100, 120, 160, 220, 320, 600, 1000, 1800].getD gain 0

/-- N_ana, N_cic and N_dcb of R282, in chain samples. -/
def nAna (gain d : Nat) : Nat := ceilDiv (settleNs gain) (4 * d)
def nCic (d : Nat) : Nat := if d = 1 then 0 else ceilDiv (4 * d - 3) d
def nDcb (corner k : Nat) : Nat := if corner = 0 then 0 else ceilDiv (8317766 * 2 ^ 32) (1000000 * k)

/-- The coefficient k of R263: 2π f_c D ÷ 250 MHz × 2^32, rounded half up. -/
def presetK (corner d : Nat) : Nat :=
  (2 * (2 * piNum * corner * d * 2 ^ 32) + 10 ^ 49 * 250000000) / (2 * (10 ^ 49 * 250000000))

/-- D and L of a preset's codes (R293). -/
def decOf (code : Nat) : Nat := 2 ^ code
def rankOf (code : Nat) : Nat := 2 * code + 1

/-- Preset `n` as its registers stand (R292, R293). -/
def Blk.presetReg (s : Blk) (n : Nat) : Preset :=
  let c := s.regN (Reg.PDA_PRESET_CFG n)
  let d := decOf (fld c 2 0)
  let corner := s.regF (Reg.PDA_PRESET_CORNER n) 16 0
  { n := n, d := d, l := rankOf (fld c 6 4), corner := corner, k := presetK corner d, mode := fld c 9 8, pin := fld c 14 12 }

/-- A photodiode channel. -/
def Blk.pdch (s : Blk) (ch : Nat) : PdCh := s.pd.chans.getD ch { adc := ch }

/-- A channel changed. -/
def Blk.updPd (s : Blk) (ch : Nat) (f : PdCh → PdCh) : Blk := { s with pd := { s.pd with chans := upd s.pd.chans ch f } }

/-- A channel runs: it is enabled, a working ADC serves it, and its domain is ready. -/
def Blk.chRuns (s : Blk) (ch : Nat) : Bool :=
  ch < 8 && bitN (s.regN (Reg.PDC_CFG ch)) 16 && !(s.pdch ch).lost && !(s.pdch ch).adcBad && s.domReady 3

/-- PDC.SETTLE: N of a switch or a gain change (R282, R284). -/
def settleN (gain : Nat) (p : Preset) : Nat :=
  nAna gain p.d + nCic p.d + (p.l - 1) + nDcb p.corner p.k + 31

/-- PDC.SETTLE_UNFREEZE (R282, R284). -/
def settleUnfreeze (p : Preset) : Nat := nDcb p.corner p.k + 31

/-- PDC.GROUP_DELAY: G in Q8.8 (R275). -/
def groupDelay (p : Preset) : Nat := 512 * (p.d - 1) / p.d + 128 * (p.l - 1)

/-- A disturbing event of `n` chain samples (R283). The spec gives no length above PDC.SUPPRESS's 24 bits, which a corner
below 20 Hz at D = 1 asks for: the count then saturates (DESIGN CHOICE, log 89). -/
def Blk.disturb (s : Blk) (ch n : Nat) : Blk :=
  let s := s.setN (Reg.PDC_SUPPRESS ch) (max (s.regN (Reg.PDC_SUPPRESS ch)) (sat 24 n))
  (s.updPd ch (fun c => { c with suppressing := true })).count (Reg.PDC_DISTURBED ch) 1

/-- First ADC sample taken at or after tick `t`, and the first chain sample that ends on one (R256, R259, R283). -/
def firstN (epoch t : Nat) : Nat := ceilDiv (4 * t - 4 * epoch) 5
def firstJ (epoch d t : Nat) : Nat := ceilDiv (firstN epoch t + 1) d - 1

/-- A channel's samples begin anew, from the first ADC sample at or after now. A channel that starts in a cross-fade takes no
part in it (R269). -/
def Blk.restartCh (s : Blk) (ch : Nat) : Blk :=
  s.updPd ch (fun c => { c with nextN := firstN s.pd.epoch s.now, nextJ := firstJ s.pd.epoch c.preset.d s.now, fade := none })

/-- The cause of a freeze under a preset: its mode, and its pin where the mode has one (R264). -/
def Preset.cause (p : Preset) : Nat × Nat := (p.mode, if p.mode = 3 then p.pin else 0)

/-- A freeze of a channel ends, and its cause counts no more until it is asserted anew (R265). -/
def Blk.endFreeze (s : Blk) (ch : Nat) : Blk :=
  s.updPd ch (fun c => { c with frozen := false, ended := if c.ended.contains c.preset.cause then c.ended else c.preset.cause :: c.ended })

/-- A cause is asserted anew, or no longer: what ended under it counts again (R265). -/
def PdCh.renew (c : PdCh) (cause : Nat × Nat) : PdCh := { c with ended := c.ended.filter (fun k => k != cause) }

/-- A channel switch or a gain change: it ends a freeze and disturbs the channel (R265, R281). -/
def Blk.switchCh (s : Blk) (ch : Nat) : Blk :=
  let s := s.endFreeze ch
  s.disturb ch (settleN (s.regF (Reg.PDC_CFG ch) 2 0) (s.pdch ch).preset)

/-! ### Freezing (R264, R265) -/

/-- The DC block of a channel is frozen from its next chain sample. -/
def Blk.freeze (s : Blk) (ch : Nat) : Blk := s.updPd ch (fun c => { c with frozen := true })

/-- It is unfrozen, which disturbs the channel. -/
def Blk.unfreeze (s : Blk) (ch : Nat) : Blk :=
  if (s.pdch ch).frozen then (s.updPd ch (fun c => { c with frozen := false })).disturb ch (settleUnfreeze (s.pdch ch).preset)
  else s

/-- A calibration measurement of a channel is given up, and the input that was set is reconnected (10 R375, R376): its
channel stops, or a commit of PDC.CFG has disconnected the injector. The channel stays due. -/
def Blk.dropMeas (s : Blk) (ch : Nat) : Blk :=
  match s.pd.calNow.find? (fun m => m.ch = ch) with
  | none => s
  | some m =>
    let due := s.pd.calDue ++ (if s.pd.calDue.any (fun q => q.1 = ch) then [] else [(ch, 0)])
    let s : Blk := { s with pd := { s.pd with calNow := s.pd.calNow.filter (fun m => m.ch != ch), calDue := due } }
    if s.regF (Reg.PDC_CFG ch) 5 4 = 1 then (s.setF (Reg.PDC_CFG ch) 5 4 m.input).switchCh ch else s

/-- Open windows on a channel; among them those it serves, a shut third one apart (08 R309). -/
def Blk.windowsOpen (s : Blk) (ch : Nat) : Nat :=
  (s.swp.sweeps.filter (fun w => w.opened && !w.closed && w.chans.any (fun c => c.ch = ch))).length
def Blk.windowsOn (s : Blk) (ch : Nat) : Nat :=
  (s.swp.sweeps.filter (fun w => w.opened && !w.closed && w.chans.any (fun c => c.ch = ch && !c.shut))).length

/-- The cause of a freeze mode stands, and no switch or gain change has ended its freeze (R264, R265). -/
def Blk.freezeCause (s : Blk) (ch : Nat) (p : Preset) : Bool :=
  !(s.pdch ch).ended.contains p.cause && match p.mode with
  | 1 => s.windowsOpen ch != 0
  | 2 => bitN (s.regN Reg.PDA_FREEZE) ch
  | 3 => s.gpc.level.getD p.pin false
  | _ => false

/-- PDA.FREEZE committed: under freeze_mode 2 a bit set anew freezes, a bit cleared unfreezes. -/
def Blk.onFreeze (s : Blk) (old new : Nat) : Blk :=
  (List.range 8).foldl (fun s ch =>
    let s := if bitN old ch != bitN new ch then s.updPd ch (fun c => c.renew (2, 0)) else s
    if (s.pdch ch).preset.mode ≠ 2 then s
    else if !bitN old ch && bitN new ch then s.freeze ch
    else if bitN old ch && !bitN new ch then s.unfreeze ch
    else s) s

/-- The freeze pin of freeze_mode 3 changes level. -/
def Blk.onFreezePin (s : Blk) (pin : Nat) (level : Bool) : Blk :=
  let old := s.gpc.level.getD pin false
  let s := { s with gpc := { s.gpc with level := upd s.gpc.level pin (fun _ => level) } }
  (List.range 8).foldl (fun s ch =>
    let p := (s.pdch ch).preset
    let s := if old = level then s else s.updPd ch (fun c => c.renew (3, pin))
    if p.mode ≠ 3 ∨ p.pin ≠ pin ∨ old = level then s
    else if level then s.freeze ch else s.unfreeze ch) s

/-! ### Presets and channel settings (R281, R288) -/

/-- A preset applied to a channel (R288): a change of D, L or corner is a channel switch; a change of the freeze's cause freezes or
unfreezes by the new one. -/
def Blk.applyPreset (s : Blk) (ch : Nat) (new : Preset) : Blk :=
  let old := (s.pdch ch).preset
  let switch := old.d ≠ new.d ∨ old.l ≠ new.l ∨ old.corner ≠ new.corner
  let s := if switch ∧ (s.pdch ch).frozen then s.endFreeze ch else s
  let s := s.updPd ch (fun c => { c with preset := new })
  let s := if old.d ≠ new.d then s.updPd ch (fun c => { c with nextJ := firstJ s.pd.epoch new.d s.now }) else s
  if switch then s.switchCh ch
  else if old.cause = new.cause then s
  else if s.freezeCause ch new then s.freeze ch
  else s.unfreeze ch

/-- A committed PDC.CFG (R253, R265, R281): a gain or input change and the enabling of the channel disturb it; a channel
that stops leaves a cross-fade (R269); the commit ends a bias shutdown. -/
def Blk.onPdcCfg (s : Blk) (ch old new : Nat) : Blk :=
  let s := s.updPd ch (fun c => { c with biasOff := false })
  let wasOn := bitN old 16
  let isOn := bitN new 16
  let s := s.dropMeas ch
  let s := if wasOn && !isOn then s.updPd ch (fun c => { c with fade := none }) else s
  let s := if !wasOn && isOn then s.restartCh ch else s
  if (!wasOn && isOn) || fld old 5 4 != fld new 5 4 || fld old 2 0 != fld new 2 0 then s.switchCh ch else s

/-! ### The FIR banks (R267 to R273) -/

/-- A bank change starts: hard at once, with a disturbance of every running channel; or a cross-fade (R268, R271). -/
def Blk.startBank (s : Blk) (target hard : Bool) : Blk :=
  let run := (List.range 8).filter s.chRuns
  if hard then
    let s := { s with pd := { s.pd with fir := { s.pd.fir with active := target } } }
    run.foldl (fun s ch => s.disturb ch 31) (s.bump Reg.FIR_CHANGES 31 16 1)
  else
    let s := { s with pd := { s.pd with fir := { s.pd.fir with fade := some (target, s.regF Reg.FIR_FADE_LEN 12 0) } } }
    run.foldl (fun s ch => s.updPd ch (fun c => { c with fade := some 0 })) s

/-- A committed FIR.BANK_REQ (R268). -/
def Blk.bankReq (s : Blk) (v : Nat) : Blk :=
  let target := bitN v 0
  let hard := bitN v 1
  match s.pd.fir.fade with
  | some _ => { s with pd := { s.pd with fir := { s.pd.fir with pending := some (target, hard) } } }
  | none => if target = s.pd.fir.active then s else s.startBank target hard

/-- Every channel that was running at the start of the fade has completed it or stopped (R269). -/
def Blk.fadeOver (s : Blk) (len : Nat) : Bool :=
  (List.range 8).all (fun ch => match (s.pdch ch).fade with
    | some m => len ≤ m || !s.chRuns ch
    | none => true)

/-- The end of a cross-fade, and the pending request after it (R269, R270). -/
def fadeEnd (s : Blk) : Blk :=
  match s.pd.fir.fade with
  | none => s
  | some (t, len) =>
    if !s.fadeOver len then s
    else
      let pend := s.pd.fir.pending
      let fir : FirSt := { active := t }
      let chans := s.pd.chans.map (fun c => { c with fade := none })
      let s := { s with pd := { s.pd with fir := fir, chans := chans } }
      let s := s.bump Reg.FIR_CHANGES 15 0 1
      match pend with
      | some (t2, hard) => if t2 = t then s else s.startBank t2 hard
      | none => s

/-- A coefficient write (R272): the fault, or 0 and the bank changed. -/
def Blk.coefWrite (s : Blk) (bank : Bool) (tap v : Nat) : Nat × Blk :=
  if s.pd.fir.fade.isSome then (0x6021, s.bump Reg.FIR_REFUSED 15 0 1)
  else if bank = s.pd.fir.active then (0x6022, s.bump Reg.FIR_REFUSED 15 0 1)
  else (0, s.setN (if bank then Reg.FIR_COEF_B tap else Reg.FIR_COEF_A tap) v)

/-- FIR.BANK_STATE (R297). -/
def Blk.bankState (s : Blk) : Nat :=
  let f := s.pd.fir
  b2n f.active + 2 * b2n f.fade.isSome + 4 * b2n f.pending.isSome +
  (match f.pending with | some (t, h) => 8 * b2n t + 16 * b2n h | none => 0)

/-- FIR.FADE_POS: the lowest m reached by any running channel in the fade (R297). -/
def Blk.fadePos (s : Blk) : Nat :=
  match s.pd.fir.fade with
  | none => 0
  | some (_, len) =>
    ((List.range 8).filterMap (fun ch => if s.chRuns ch then (s.pdch ch).fade else none)).foldl min len

/-! ### One chain sample (R258 to R266) -/

/-- Clamp to 18 bits, and whether it clamped (R260). -/
def sat18 (x : Int) : Int × Bool := (clampI (-131072) 131071 x, x < -131072 || 131071 < x)

/-- One ADC code through the four integrators, modulo 2^34 (R258). -/
def integrate (l : List Nat) (code : Int) : List Nat :=
  (l.foldl (fun (acc : Nat × List Nat) i => let v := (i + acc.1) % 2 ^ 34; (v, acc.2 ++ [v])) (twos 34 code, [])).2

/-- The four combs: the result S and the new comb state (R258). -/
def comb (l : List Nat) (x : Nat) : Int × List Nat :=
  let r := l.foldl (fun (acc : Nat × List Nat) i => ((acc.1 + 2 ^ 34 - i) % 2 ^ 34, acc.2 ++ [acc.1])) (x, [])
  (sgn 34 r.1, r.2)

/-- The decimator's output in Q14.4 (R259). -/
def cicOut (d : Nat) (sum : Int) : Int := roundHalfUp (16 * sum) (d ^ 4)

/-- The exact median of an odd number of values (R261). -/
def median (l : List Int) : Int := (l.mergeSort (fun a b => a ≤ b)).getD (l.length / 2) 0

/-- A bank's output for a delay line, newest first (R266). -/
def Blk.firOut (s : Blk) (bank : Bool) (x : List Int) : Int × Bool :=
  let acc := (x.zipIdx.map (fun (v, i) =>
    sgn 18 (s.regN (if bank then Reg.FIR_COEF_B i else Reg.FIR_COEF_A i)) * v)).foldl (· + ·) 0
  sat18 ((acc + 65536) / 131072)

/-- The FIR's output for a channel, its cross-fade included, and how many clamps it made (R266, R269). -/
def Blk.firStage (s : Blk) (c : PdCh) (x : List Int) : Int × Nat :=
  let f := s.pd.fir
  match f.fade, c.fade with
  | some (t, len), some m =>
    let (yo, co) := s.firOut f.active x
    let (yn, cn) := s.firOut t x
    if len ≤ m then (yn, b2n cn)
    else (yo + ((yn - yo) * (m + 1 : Nat) * 2 + len) / (2 * len), b2n co + b2n cn)
  | some (t, _), none => let (y, k) := s.firOut t x; (y, b2n k)
  | none, _ => let (y, k) := s.firOut f.active x; (y, b2n k)

/-- Newest ADC sample of chain sample j, in 1/1024 tick (R256, R259). -/
def sampleTime (epoch d j : Nat) : Int := 1024 * epoch + 1280 * (d * (j + 1) - 1 : Nat)

/-- The attributed time of a chain sample taken at `t`, in 1/1024 tick, with δ in 1/256 (R275). -/
def attributed (p : Preset) (phase : Nat) (t : Int) : Int :=
  t - ((2 * (p.d - 1) + (p.l - 1) / 2 * p.d) * 1280 + phase * p.d * 5 : Nat)

/-- The window of ADC samples that feed one decimator output (R258, R285). -/
def cicSpan (d : Nat) : Nat := 4 * d - 3

/-- A decimator output taken into a measurement (10 R376): after the wait, K outputs without charge; after the wait again, K
with it. -/
def PdMeas.take (m : PdMeas) (y : Int) : PdMeas :=
  { m with seen := m.seen + 1,
           sum0 := if m.wait ≤ m.seen && m.seen < m.wait + m.k then m.sum0 + y else m.sum0,
           sum1 := if 2 * m.wait + m.k ≤ m.seen && m.seen < 2 * (m.wait + m.k) then m.sum1 + y else m.sum1 }

/-- A decimator output of a channel, whose newest ADC sample was taken at `t`, reaches its measurement. -/
def Blk.measure (s : Blk) (ch : Nat) (t y : Int) : Blk :=
  let f (m : PdMeas) : PdMeas := if m.ch = ch ∧ (1024 * m.since : Int) ≤ t then m.take y else m
  { s with pd := { s.pd with calNow := s.pd.calNow.map f } }

/-- A chain sample of a channel from the ADC codes since the one before, oldest first: the samples that leave the delay line
for the resampler, when its newest ADC sample was taken, when those that clipped were, and whether a stage clamped (R257 to R266,
R274, R275, R283, R285). A code that the command does not carry reads 0 (log 89). -/
def Blk.chainStep (s : Blk) (ch : Nat) (codes : List Int) : (List Smp × Int × List Int × Bool) × Blk :=
  let c := s.pdch ch
  let p := c.preset
  let d := p.d
  let n := d * (c.nextJ + 1) - c.nextN
  let cs := (List.range n).map (fun i => clampI (-8192) 8191 (codes.getD i 0))
  let clips := cs.map (fun x => x = -8192 || x = 8191)
  let nclip := (clips.filter id).length
  let clipAt := (clips.zipIdx.filter (·.1)).map (fun p => (1024 * s.pd.epoch + 1280 * (c.nextN + p.2 : Nat) : Int))
  let clipped := (clips.reverse ++ c.clipped).take 61
  let integ := cs.foldl integrate c.integ
  let (sum, combs) := comb c.combs (integ.getD 3 0)
  let y := cicOut d sum
  let o := sgn 18 (s.regN (Reg.PDC_TRIM_OFS ch))
  let (z, k1) := sat18 (((y - o) * (s.regF (Reg.PDC_TRIM_GAIN ch) 15 0 : Int) + 16384) / 32768)
  let rank := (z :: c.rank).take 9
  let rankSat := (((clipped.take (cicSpan d)).any id || k1) :: c.rankSat).take 9
  let x := median (rank.take p.l)
  let (w, k2) := if p.corner = 0 then (x, false) else sat18 (x - (c.base + 2 ^ 31) / 2 ^ 32)
  let base := if p.corner = 0 || c.frozen then c.base else c.base + p.k * (x * 2 ^ 32 - c.base) / 2 ^ 32
  let fir := (w :: c.fir).take 32
  let firSat := (((rankSat.take p.l).any id || k2) :: c.firSat).take 32
  let (v, k3) := s.firStage c fir
  let clamps := b2n k1 + b2n k2 + k3
  let t := sampleTime s.pd.epoch d c.nextJ
  -- the suppression count runs down; with none left the samples are valid again
  let left := s.regN (Reg.PDC_SUPPRESS ch)
  let sup := c.suppressing && left != 0
  let smp : Smp :=
    { j := c.nextJ, tau := attributed p c.phase t, t := t, y := v, sup := sup, sat := firSat.any id || k3 != 0 }
  let line := smp :: c.line
  let out := (line.drop (c.phase / 256)).reverse.map (fun m => { m with arr := t })
  let s := (s.updPd ch (fun c =>
    { c with integ := integ, combs := combs, nextJ := c.nextJ + 1, nextN := d * (c.nextJ + 1), rank := rank, base := base,
             fir := fir, clipped := clipped, rankSat := rankSat, firSat := firSat, suppressing := sup,
             line := line.take (c.phase / 256), fade := c.fade.map (· + 1) })).measure ch t y
  let s := s.setN (Reg.PDC_SUPPRESS ch) (left - 1)
  let adcs := if c.adc = 8 then [ch, 8] else [ch]
  let s := adcs.foldl (fun s a => (s.setN (Reg.PDC_LAST a) (twos 14 (cs.getLastD 0))).bump (Reg.PDC_CLIPS a) 31 0 nclip) s
  let s := s.bump (Reg.PDC_STAGE_SAT ch) 15 0 clamps
  ((out, t, clipAt, clamps != 0), s)

/-! ### The kernel (R277) -/

/-- sin x for x and the result in units of 2^−96, |x| ≤ π, by its series. -/
def sinSeries (x : Int) : Int :=
  let x2 : Int := x * x / 2 ^ 96
  ((List.range 24).foldl (fun (a : Int × Int) k =>
    (a.1 + a.2, -(a.2 * x2 / 2 ^ 96) / ((2 * k + 2) * (2 * k + 3) : Nat))) (0, x)).1

/-- sin(πn ÷ 2048), for |n| ≤ 2048. -/
def sinQ (n : Int) : Int := sinSeries (n * (piNum * 2 ^ 96 : Nat) / (2048 * 10 ^ 49 : Nat))

/-- The raw tap up to a factor that the phase's taps share: at phase φ ≠ 0, sin(πa) is the same for every tap but for its
sign, so Λ(a) goes with (−1)^i sin(πa ÷ 8) ÷ a². -/
def rawTap (phase i : Nat) : Int :=
  let n : Int := 256 * ((i : Int) - 7) - phase
  let w := sinQ n * 2 ^ 40 / (n * n)
  if i % 2 = 0 then w else -w

/-- The 16 taps of a phase, signed Q2.17, adjusted to sum to 131 072 (R277). -/
def kernel (phase : Nat) : List Int :=
  if phase = 0 then (List.range 16).map (fun i => if i = 7 then 131072 else 0)
  else
    let raw := (List.range 16).map (rawTap phase)
    let total := (raw.foldl (· + ·) 0).toNat
    let taps := raw.map (fun w => roundHalfUp (131072 * w) total)
    let centre := if phase ≤ 128 then 7 else 8
    upd taps centre (fun w => w + (131072 - taps.foldl (· + ·) 0))

/-- The profile sample from 16 inputs at a phase, in Q14.2, and whether it clamped (R278). -/
def resample (phase : Nat) (x : List Int) : Int × Bool :=
  let acc := ((kernel phase).zip x).foldl (fun a p => a + p.1 * p.2) 0
  let v := (acc + 262144) / 524288
  (clampI (-32767) 32767 v, v < -32767 || 32767 < v)

/-! ### Commands -/

/-- FADE_END (R269, R270). -/
def execFadeEnd (dt : Nat) (s : State) : Host.Outcome State Fault Refusal := done s (fadeEnd (s.blk.elapse dt))

/-- Bias overcurrent: the output goes to 0 V until the next commit of PDC.CFG (R253). -/
def pdBiasFault (ch : Nat) (s : Blk) : Blk :=
  if ch < 8 then (s.updPd ch (fun c => { c with biasOff := true })).raise 0x6051 else s

/-- PD_BIAS_FAULT (R253). -/
def execPdBiasFault (dt ch : Nat) (s : State) : Host.Outcome State Fault Refusal := done s (pdBiasFault ch (s.blk.elapse dt))

/-- A channel's suppression count has reached zero: its samples are valid again (R283). -/
def suppressEnd (ch : Nat) (s : Blk) : Blk :=
  if s.regN (Reg.PDC_SUPPRESS ch) = 0 then s.updPd ch (fun c => { c with suppressing := false }) else s

/-- SUPPRESS_END (R283). -/
def execSuppressEnd (dt ch : Nat) (s : State) : Host.Outcome State Fault Refusal := done s (suppressEnd ch (s.blk.elapse dt))

/-- FREEZE_PIN_EDGE (R264). -/
def execFreezePinEdge (dt pin : Nat) (level : Bool) (s : State) : Host.Outcome State Fault Refusal :=
  done s ((s.blk.elapse dt).onFreezePin pin level)

end Sys2Proof.Machine
end

