-- ==== Sys2Proof/Machine/Numbers.lean ====
section
/-! DEFINITION. The number systems the spec computes in: exact fractions (07, 08, 10), integer square roots (08 R305),
exponentials and logarithms to far more places than any result keeps, and IEEE 754 binary64 (09 R339, 10 R388). -/
namespace Sys2Proof.Machine

/-! ### Fractions -/

/-- A fraction; `d` is never 0. -/
structure Q where
  n : Int
  d : Nat
deriving DecidableEq, Repr

/-- The fraction of an integer. -/
def Q.ofInt (i : Int) : Q := ⟨i, 1⟩
def Q.add (a b : Q) : Q := ⟨a.n * b.d + b.n * a.d, a.d * b.d⟩
def Q.neg (a : Q) : Q := ⟨-a.n, a.d⟩
def Q.sub (a b : Q) : Q := a.add b.neg
def Q.mul (a b : Q) : Q := ⟨a.n * b.n, a.d * b.d⟩
/-- Quotient, 0 when the divisor is 0. -/
def Q.div (a b : Q) : Q :=
  if b.n = 0 then ⟨0, 1⟩ else if 0 < b.n then ⟨a.n * b.d, a.d * b.n.toNat⟩ else ⟨-(a.n * b.d), a.d * (-b.n).toNat⟩
def Q.abs (a : Q) : Q := ⟨a.n.natAbs, a.d⟩
/-- a < b and a ≤ b. -/
def Q.lt (a b : Q) : Bool := a.n * b.d < b.n * a.d
def Q.le (a b : Q) : Bool := a.n * b.d ≤ b.n * a.d
/-- Lowest terms. -/
def Q.norm (a : Q) : Q :=
  let g := Nat.gcd a.n.natAbs a.d
  if g = 0 then a else ⟨a.n / g, a.d / g⟩
/-- The sum of a list, in lowest terms at each step. -/
def Q.sum (l : List Q) : Q := l.foldl (fun a b => (a.add b).norm) ⟨0, 1⟩
/-- Rounded half up, down, up, and half away from zero. -/
def Q.rhu (a : Q) : Int := roundHalfUp a.n a.d
def Q.floor (a : Q) : Int := a.n / a.d
def Q.ceil (a : Q) : Int := -(-a.n / a.d)
def Q.rhaz (a : Q) : Int := if 0 ≤ a.n then a.rhu else -(a.neg.rhu)

/-- Twice the median of some values. -/
def median2 (l : List Int) : Int :=
  let m := l.mergeSort (fun a b => a ≤ b)
  if l.length % 2 = 1 then 2 * m.getD (l.length / 2) 0 else m.getD (l.length / 2) 0 + m.getD (l.length / 2 - 1) 0

/-- The integer square root of n < 4^64, rounded down (08 R305). -/
def isqrt (n : Nat) : Nat :=
  (List.range 64).foldl (fun r i => let t := r + 2 ^ (63 - i); if t * t ≤ n then t else r) 0

/-- The integer square root rounded up. -/
def isqrtUp (n : Nat) : Nat := let r := isqrt n; if r * r = n then r else r + 1

/-- exp(−x) for x ≥ 0, in units of 2^−160: exp(−x ÷ 2^k)^(2^k) with x ÷ 2^k < 1 by its series. -/
def expNeg (x : Q) : Nat :=
  if Q.le ⟨100, 1⟩ x then 0
  else
    let u : Nat := 2 ^ 200
    let y : Int := x.n * u / (x.d * 128)
    let e := ((List.range 60).foldl (fun (a : Int × Int) k => (a.1 + a.2, -(a.2 * y / u) / (k + 1 : Nat))) (0, (u : Int))).1
    let sq (v : Int) : Int := v * v / u
    ((sq (sq (sq (sq (sq (sq (sq e))))))).toNat) / 2 ^ 40

/-- Natural logarithm of a positive fraction, in units of 2^−160, by halving to [1, 2) and the series of artanh. -/
def lnQ (num den : Nat) : Int :=
  let u : Nat := 2 ^ 200
  let v : Nat := num * u / den
  let k : Int := (Nat.log2 v : Int) - 200
  let m : Int := if 0 ≤ k then (v / 2 ^ k.toNat : Nat) else (v * 2 ^ (-k).toNat : Nat)
  let ath (z : Int) : Int :=
    ((List.range 130).foldl (fun (a : Int × Int) i => (a.1 + a.2 / (2 * i + 1 : Nat), a.2 * (z * z / u) / u)) (0, z)).1
  let ln2 := 2 * ath ((u : Int) / 3)
  (2 * ath ((m - u) * u / (m + u)) + k * ln2) / 2 ^ 40

/-! ### binary64 -/

/-- A binary64 value: finite, m × 2^e in lowest terms with |m| < 2^53, the zero of negative sign, or not finite. -/
inductive F64 where
  | fin (m : Int) (e : Int)
  | nzero
  | inf (neg : Bool)
  | nan
deriving DecidableEq, Repr

/-- Greatest e with 2^e ≤ n ÷ d, for n, d > 0. -/
def ilog (n d : Nat) : Int :=
  let g : Int := (Nat.log2 n : Int) - Nat.log2 d
  -- 2^g ≤ n ÷ d may fail by one
  if (if 0 ≤ g then d * 2 ^ g.toNat ≤ n else d ≤ n * 2 ^ (-g).toNat) then g else g - 1

/-- A fraction n ÷ d of naturals rounded to nearest, ties to even. -/
def rneDiv (n d : Nat) : Nat :=
  let q := n / d
  let r := n % d
  if 2 * r < d then q else if d < 2 * r then q + 1 else q + q % 2

/-- Factors of two moved from a mantissa to its exponent. -/
def stripTwos : Nat → Nat → Int → Nat × Int
  | 0, m, e => (m, e)
  | k + 1, m, e => if m % 2 = 0 ∧ m ≠ 0 then stripTwos k (m / 2) (e + 1) else (m, e)

/-- A fraction rounded to binary64, nearest, ties to even, with gradual underflow and overflow to infinity. -/
def F64.ofQ (q : Q) : F64 :=
  if q.n = 0 then .fin 0 0
  else
    let n := q.n.natAbs
    let e : Int := max (ilog n q.d - 52) (-1074)
    let m := if 0 ≤ e then rneDiv n (q.d * 2 ^ e.toNat) else rneDiv (n * 2 ^ (-e).toNat) q.d
    let (m, e) := if m = 2 ^ 53 then (2 ^ 52, e + 1) else (m, e)
    if 971 < e then .inf (q.n < 0)
    else
      let (m, e) := stripTwos 60 m e
      .fin (if q.n < 0 then -(m : Int) else m) (if m = 0 then 0 else e)

/-- The exact value of a finite binary64. -/
def F64.q (x : F64) : Q :=
  match x with
  | .fin m e => if 0 ≤ e then ⟨m * 2 ^ e.toNat, 1⟩ else ⟨m, 2 ^ (-e).toNat⟩
  | _ => ⟨0, 1⟩

/-- Is it finite, not a number, a zero, of negative sign? -/
def F64.finite (x : F64) : Bool := match x with | .fin _ _ => true | .nzero => true | _ => false
def F64.isNan (x : F64) : Bool := match x with | .nan => true | _ => false
def F64.isZero (x : F64) : Bool := match x with | .fin m _ => m = 0 | .nzero => true | _ => false
def F64.isNeg (x : F64) : Bool := match x with | .fin m _ => m < 0 | .nzero => true | .inf neg => neg | .nan => false

/-- A zero of a sign; a result that is zero or has rounded to it takes the sign. -/
def F64.zero (neg : Bool) : F64 := if neg then .nzero else .fin 0 0
def F64.signed (neg : Bool) (x : F64) : F64 := if x.isZero then F64.zero neg else x

/-- From 64 bits. -/
def F64.ofBits (b : Nat) : F64 :=
  let neg := bitN b 63
  let e := fld b 62 52
  let f := fld b 51 0
  let sg (m : Nat) : Int := if neg then -(m : Int) else m
  if e = 2047 then (if f = 0 then .inf neg else .nan)
  else if e = 0 ∧ f = 0 then F64.zero neg
  else if e = 0 then (let (m, x) := stripTwos 60 f (-1074); .fin (sg m) x)
  else (let (m, x) := stripTwos 60 (2 ^ 52 + f) ((e : Int) - 1075); .fin (sg m) x)

/-- To 64 bits; a not-a-number is the quiet one. -/
def F64.bits (x : F64) : Nat :=
  match x with
  | .nan => 0x7FF8000000000000
  | .nzero => 2 ^ 63
  | .inf neg => 0x7FF0000000000000 + b2n neg * 2 ^ 63
  | .fin m e =>
    if m = 0 then 0
    else
      let k := m.natAbs
      let up := 52 - Nat.log2 k
      -- normal when the exponent of the 53-bit mantissa is at least −1074
      let ex : Int := e - up
      let r := if -1074 ≤ ex then (k * 2 ^ up - 2 ^ 52) + ((ex + 1075).toNat) * 2 ^ 52 else k * 2 ^ (e + 1074).toNat
      r + b2n (m < 0) * 2 ^ 63

/-- The value of the other sign. -/
def F64.neg (a : F64) : F64 :=
  match a with
  | .fin m e => if m = 0 then .nzero else .fin (-m) e
  | .nzero => .fin 0 0
  | .inf neg => .inf (!neg)
  | .nan => .nan

/-- The operations of IEEE 754, rounded to nearest, ties to even: of finite values the exact result rounded, with the sign of a zero; of
infinities what their arithmetic gives. -/
def F64.add (a b : F64) : F64 :=
  match a, b with
  | .nan, _ => .nan
  | _, .nan => .nan
  | .inf m, .inf n => if m = n then a else .nan
  | .inf _, _ => a
  | _, .inf _ => b
  | _, _ => F64.signed (a.isNeg && b.isNeg) (F64.ofQ (a.q.add b.q))
def F64.sub (a b : F64) : F64 := a.add b.neg
def F64.mul (a b : F64) : F64 :=
  let neg := a.isNeg != b.isNeg
  if a.isNan || b.isNan then .nan
  else if a.finite && b.finite then F64.signed neg (F64.ofQ (a.q.mul b.q))
  else if a.isZero || b.isZero then .nan
  else .inf neg
def F64.div (a b : F64) : F64 :=
  let neg := a.isNeg != b.isNeg
  if a.isNan || b.isNan then .nan
  else if a.finite then
    (if !b.finite then F64.zero neg
     else if b.isZero then (if a.isZero then .nan else .inf neg)
     else F64.signed neg (F64.ofQ (a.q.div b.q)))
  else if b.finite then .inf neg
  else .nan

/-- Less than: false of what is not a number. -/
def F64.lt (a b : F64) : Bool :=
  match a, b with
  | .nan, _ => false
  | _, .nan => false
  | .inf m, .inf n => m && !n
  | .inf m, _ => m
  | _, .inf n => !n
  | _, _ => a.q.lt b.q
/-- An integer. -/
def F64.ofInt (i : Int) : F64 := F64.ofQ (Q.ofInt i)

/-- Square root, rounded to nearest: of the value scaled to an even power of two with 130 bits, and the remainder as a
sticky bit. -/
def F64.sqrt (x : F64) : F64 :=
  match x with
  | .fin m e =>
    if m ≤ 0 then (if m = 0 then x else .nan)
    else
      let (m, e) := if e % 2 = 0 then (m.toNat, e) else (2 * m.toNat, e - 1)
      let k := (124 - Nat.log2 m) / 2
      let n := m * 4 ^ k
      let r := isqrt n
      -- r carries at least 61 bits; a remainder is kept as one more bit
      let r2 := 2 * r + b2n (r * r != n)
      let h := e / 2 - k - 1
      if 0 ≤ h then F64.ofQ ⟨(r2 * 2 ^ h.toNat : Nat), 1⟩ else F64.ofQ ⟨(r2 : Nat), 2 ^ (-h).toNat⟩
  | .nzero => .nzero
  | .inf false => x
  | _ => .nan

end Sys2Proof.Machine
end

