-- ==== Sys2Proof/Machine/Pixels.lean ====
section
/-! DEFINITION. Pixels (03 R92 to R95, R112 to R114; 04 R153, R154, R683): codes from charges, the factory map of defects, the
tile formulas and the tolerances the locator keeps to, and the layout of a transferred tile. -/
namespace Sys2Proof.Machine

/-! ### Codes (R92, R93, R95) -/

/-- The gain of SNS.SENSOR_CFG: 1, 2 or 4 (R130). -/
def gainOf (sensorCfg : Nat) : Nat := 2 ^ fld sensorCfg 1 0

/-- The charge at which a pixel saturates, in e⁻ (R92). -/
def satCharge (sensorCfg : Nat) : Nat := 10000 / gainOf sensorCfg

/-- The code of a charge in 10-bit region readout: 10, 5 or 2.5 e⁻ per DN above a black level of 16 DN, and never outside 0 to
1 023 (R92, R93); rounded half up (log 84). -/
def code10 (sensorCfg q : Nat) (noise : Int) : Nat :=
  (clampI 0 1023 (16 + roundHalfUp (((min q (satCharge sensorCfg) : Nat) + noise) * gainOf sensorCfg) 10)).toNat

/-- The code in 12-bit full-frame readout: 2.5, 1.25 or 0.625 e⁻ per DN above 64 DN, never outside 0 to 4 095. -/
def code12 (sensorCfg q : Nat) (noise : Int) : Nat :=
  (clampI 0 4095 (64 + roundHalfUp (((min q (satCharge sensorCfg) : Nat) + noise) * gainOf sensorCfg * 2) 5)).toNat

/-- The 16 codes of a tile in binned readout: each the 10-bit code of the charge of 4 × 4 pixels together (R95). -/
def binTile (sensorCfg : Nat) (px : List Nat) : List Nat :=
  (List.range 16).map (fun b =>
    code10 sensorCfg (((List.range 16).map (fun k => px.getD (64 * (b / 4) + 16 * (k / 4) + 4 * (b % 4) + k % 4) 0)).foldl (· + ·) 0) 0)

/-- The black level, which a missing tile reads everywhere (R92; 04 R153). -/
def blackCodes : List Nat := List.replicate 256 16

/-! ### Defective pixels (R94) -/

/-- The columns within the tile of a tile's mapped pixels, as places in its row-major order. -/
def defectsIn (defects : List Nat) (tile : Nat) : List Nat :=
  (defects.filter (fun d => d / 4096 / 16 = tile / 256 && d % 4096 / 16 = tile % 256)).map (fun d => 16 * (d / 4096 % 16) + d % 16)

/-- A mapped pixel is replaced by the rounded mean of its left and right neighbours in its row, by the one neighbour at the
first and last column. `left` and `right` read the tiles beside. -/
def fixTile (tile : Nat) (bad : List Nat) (px left right : List Nat) : List Nat :=
  bad.foldl (fun out k =>
    let y := k / 16
    let l := if k % 16 = 0 then left.getD (16 * y + 15) 16 else px.getD (k - 1) 16
    let r := if k % 16 = 15 then right.getD (16 * y) 16 else px.getD (k + 1) 16
    let v := if tile % 256 = 0 ∧ k % 16 = 0 then r else if tile % 256 = 255 ∧ k % 16 = 15 then l else (l + r + 1) / 2
    upd out k (fun _ => v)) px

/-- What is listed for a tile. -/
def ofTile {α : Type} (l : List (Nat × α)) (t : Nat) : Option α := (l.find? (fun p => p.1 = t)).map (·.2)

/-- The raw codes of a tile under a conversion: `none` for a tile that holds no charge and no noise. -/
def rawTile (conv : Nat → Int → Nat) (img : List (Nat × List Nat)) (noise : List (Nat × List Int)) (t : Nat) : Option (List Nat) :=
  match ofTile img t, ofTile noise t with
  | none, none => none
  | q, n => some ((List.range 256).map (fun k => conv ((q.getD []).getD k 0) ((n.getD []).getD k 0)))

/-- The codes of a tile as digitised, mapped pixels replaced where defect_fix asks for it (R94). `none` — all black. -/
def digitised (conv : Nat → Int → Nat) (sensorCfg : Nat) (defects : List Nat) (img : List (Nat × List Nat))
    (noise : List (Nat × List Int)) (t : Nat) : Option (List Nat) :=
  let bad := if bitN sensorCfg 4 then defectsIn defects t else []
  if bad.isEmpty then rawTile conv img noise t
  else
    let black := List.replicate 256 (conv 0 0)
    let at_ (u : Nat) : List Nat := (rawTile conv img noise u).getD black
    some (fixTile t bad (at_ t) (at_ (t - 1)) (at_ (t + 1)))

/-! ### The layout of a tile (04 R154) -/

/-- 256 codes as 320 bytes: pixel k in bits [10k + 9:10k]. -/
def packTile (codes : List Nat) : List Byte := le 320 (codes.foldr (fun c n => c % 1024 + 1024 * n) 0)

/-- The 256 codes of 320 bytes. -/
def unpackTile (bytes : List Byte) : List Nat :=
  let n := unle bytes
  (List.range 256).map (fun k => n / 2 ^ (10 * k) % 1024)

/-- A tile of the black level. -/
def blackTile : List Byte := packTile blackCodes

/-! ### The formulas of a tile (R112, R113) -/

/-- Pixel values of a tile in tenths of a DN on the 10-bit scale, from their charges; a masked pixel has none (R94, R113). -/
def tileValues (sensorCfg : Nat) (masked : List Nat) (px : List Nat) : List (Option Int) :=
  (List.range 256).map (fun k =>
    if masked.contains k then none else some (160 + (min (px.getD k 0) (satCharge sensorCfg) * gainOf sensorCfg : Nat) : Int))

/-- The differences of a tile: horizontal, vertical, and the products of the two at one pixel. -/
structure Diffs where
  gx : List Int
  gy : List Int
  gxy : List Int

/-- The difference of two values that both count. -/
def diffOf (a b : Option Int) : Option Int :=
  match a, b with
  | some x, some y => some (y - x)
  | _, _ => none

/-- The differences between neighbouring pixels inside a tile (R113). -/
def diffsOf (p : List (Option Int)) : Diffs :=
  let v (i j : Nat) : Option Int := p.getD (16 * j + i) none
  let dx (i j : Nat) : Option Int := if i < 15 then diffOf (v i j) (v (i + 1) j) else none
  let dy (i j : Nat) : Option Int := if j < 15 then diffOf (v i j) (v i (j + 1)) else none
  let px := (List.range 256).map (fun k => (k % 16, k / 16))
  { gx := px.filterMap (fun k => dx k.1 k.2), gy := px.filterMap (fun k => dy k.1 k.2),
    gxy := px.filterMap (fun k => match dx k.1 k.2, dy k.1 k.2 with | some a, some b => some (a * b) | _, _ => none) }

/-- The mean of |d| over a list of differences, in DN. -/
def meanAbs (l : List Int) : Q := if l.isEmpty then ⟨0, 1⟩ else ⟨((l.map Int.natAbs).foldl (· + ·) 0 : Nat), 10 * l.length⟩

/-- The gradient g: the mean of (|gx| + |gy|) ÷ 2. -/
def Diffs.gradient (d : Diffs) : Q := ((meanAbs d.gx).add (meanAbs d.gy)).mul ⟨1, 2⟩

/-- edge_energy: min(255, floor(32 × log₂(1 + g) + 0.5)), as half of the floor of log₂(2 × (1 + g)^64). -/
def edgeEnergy (g : Q) : Nat :=
  let n := g.n.toNat + g.d
  min 255 ((ilog (2 * n ^ 64) (g.d ^ 64)).toNat / 2)

/-- The sums Sxx + Syy, Sxx − Syy and 2 Sxy. -/
def Diffs.sums (d : Diffs) : Int × Int × Int :=
  let sq (l : List Int) : Int := (l.map (fun x => x * x)).foldl (· + ·) 0
  let x := sq d.gx
  let y := sq d.gy
  (x + y, x - y, 2 * d.gxy.foldl (· + ·) 0)

/-- tan 11.25° and tan 33.75° in units of 10^−20. -/
def tan1 : Nat := 19891236737965800691
def tan3 : Nat := 66817863791929891999

/-- orientation: the bin of half the angle of (Sxx − Syy, 2 Sxy), in steps of 11.25° modulo 180°; 0 when there is no
gradient. -/
def orientBin (c s : Int) : Nat :=
  let u := 10 ^ 20
  let a := c.natAbs
  let b := s.natAbs
  let n := b2n (tan1 * a < u * b) + b2n (tan3 * a < u * b) + b2n (u * a < tan3 * b) + b2n (u * a < tan1 * b)
  if 0 ≤ c then (if 0 ≤ s then n else (16 - n) % 16) else if 0 ≤ s then 8 - n else 8 + n

/-- coherence: min(15, floor(15 × √((Sxx − Syy)² + 4 Sxy²) ÷ (Sxx + Syy) + 0.5)); 0 when there is no gradient. -/
def coherenceOf (t c s : Int) : Nat :=
  if t ≤ 0 then 0
  else ((List.range 16).filter (fun (k : Nat) => k = 0 || decide (((2 * (k : Int) - 1) * t) ^ 2 ≤ 900 * (c * c + s * s)))).length - 1

/-- Sum and number of some values. -/
def sumCount (l : List Int) : Int × Nat := (l.foldl (· + ·) 0, l.length)

/-- The mean code: floor(mean in DN ÷ 4). -/
def meanCode (p : List Int) : Nat :=
  let (sum, n) := sumCount p
  if n = 0 then 0 else (sum / (40 * n : Nat)).toNat

/-- The contrast code: floor((mean of pixels above the tile mean − mean of the others) ÷ 4); none when no pixel lies above. -/
def contrastCode (p : List Int) : Option Nat :=
  let (sum, n) := sumCount p
  let (hi, h) := sumCount (p.filter (fun v => sum < v * n))
  let (lo, l) := sumCount (p.filter (fun v => v * n ≤ sum))
  if h = 0 ∨ l = 0 then none else some ((hi * l - lo * h) / (40 * h * l : Nat)).toNat

/-- At least one pixel reached a level (R112). -/
def reaches (level : Nat) (p : List Int) : Bool := p.any (fun v => (10 * level : Nat) ≤ v)

/-! ### The tolerances (R114) -/

/-- A reading held to within `tol` of its formula. -/
def within (f tol r : Nat) : Nat := max (f - tol) (min (f + tol) r)

/-- An orientation held to within one bin. -/
def withinBin (f r : Nat) : Nat :=
  if r % 16 = f ∨ r % 16 = (f + 1) % 16 ∨ r % 16 = (f + 15) % 16 then r % 16 else f

/-! ### The guaranteed responses (R115) -/

/-- A tile and its neighbours. -/
def nineTiles (tile : Nat) : List Nat :=
  ([(0 : Nat), 1, 2].flatMap (fun r => [(0 : Nat), 1, 2].map (fun c => (tile / 256 + r, tile % 256 + c)))).filterMap (fun p =>
    if 1 ≤ p.1 && p.1 ≤ 192 && 1 ≤ p.2 && p.2 ≤ 256 then some (256 * (p.1 - 1) + p.2 - 1) else none)

/-- The values of a tile in tenths of a DN; one without charge is at the black level. -/
def tileTenths (sensorCfg : Nat) (img : List (Nat × List Nat)) (tile : Nat) : List Int :=
  match ofTile img tile with
  | some px => (tileValues sensorCfg [] px).filterMap id
  | none => List.replicate 256 160

/-- A tile and its neighbours are a uniform area: their values vary by up to 3 DN rms about their mean. -/
def uniformArea (sensorCfg : Nat) (img : List (Nat × List Nat)) (tile : Nat) : Bool :=
  (nineTiles tile).all (fun t => (ofTile img t).isNone) ||
  (let (sum, n) := sumCount ((nineTiles tile).flatMap (tileTenths sensorCfg img))
   let (sq, _) := sumCount (((nineTiles tile).flatMap (tileTenths sensorCfg img)).map (fun v => v * v))
   decide (sq * n - sum * sum ≤ 900 * (n * n : Nat)))

/-- A module of a QR finder is dark: the outer ring and the 3 × 3 centre. -/
def finderDark (i j : Nat) : Bool := i = 0 || i = 6 || j = 0 || j = 6 || (2 ≤ i && i ≤ 4 && 2 ≤ j && j ≤ 4)

/-- Every dark value lies at least 80 DN below every light one. -/
def apart80 (l : List (Bool × Int)) : Bool :=
  let dark := (l.filter (fun p => p.1)).map (fun p => p.2)
  let light := (l.filter (fun p => !p.1)).map (fun p => p.2)
  match dark.max?, light.min? with
  | some d, some b => decide (d + 800 ≤ b)
  | _, _ => false

/-- A finder of `m` pixels a module, its sides along the rows and columns, has its upper left corner at a pixel: the middle row of
modules tells most places apart, then every pixel counts. -/
def finderAt (v : Nat → Nat → Int) (m x y : Nat) : Bool :=
  apart80 ((List.range 7).map (fun i => (finderDark i 3, v (x + m * i + m / 2) (y + 3 * m + m / 2)))) &&
  apart80 ((List.range (49 * m * m)).map (fun k =>
    let i := k % (7 * m)
    let j := k / (7 * m)
    (finderDark (i / m) (j / m), v (x + i) (y + j))))

/-- A tile holds the centre of such a finder, of 2 to 6 pixels a module. -/
def holdsFinder (sensorCfg : Nat) (img : List (Nat × List Nat)) (tile : Nat) : Bool :=
  let block : Array (Array Int) := ((List.range 25).map (fun k =>
    if 2 ≤ tile / 256 + k / 5 && 2 ≤ tile % 256 + k % 5 then
      (tileTenths sensorCfg img (256 * (tile / 256 + k / 5 - 2) + (tile % 256 + k % 5 - 2))).toArray
    else (List.replicate 256 160).toArray)).toArray
  -- pixels of the 5 × 5 tiles about the tile, which begins at 32
  let v (x y : Nat) : Int := (block.getD (5 * (y / 16) + x / 16) #[]).getD (16 * (y % 16) + x % 16) 160
  [2, 3, 4, 5, 6].any (fun m =>
    -- twice the centre is twice the corner and 7 m
    let corners := (List.range 48).filter (fun x => 64 ≤ 2 * x + 7 * m && 2 * x + 7 * m < 96)
    corners.any (fun y => corners.any (fun x => finderAt v m x y)))

/-- The part of `rest` that hangs together with `front`, side by side, and what is left. -/
def flood : Nat → List Nat → List Nat → List Nat → List Nat × List Nat
  | 0, rest, _, acc => (acc, rest)
  | n + 1, rest, front, acc =>
    let next := rest.filter (fun p => front.any (fun q =>
      (p / 16 = q / 16 && absDiff p q = 1) || (p % 16 = q % 16 && absDiff p q = 16)))
    if next.isEmpty then (acc, rest) else flood n (rest.filter (fun p => !next.contains p)) next (acc ++ next)

/-- The connected parts of a set of pixels of a tile. -/
def spots : Nat → List Nat → List (List Nat)
  | 0, _ => []
  | _ + 1, [] => []
  | n + 1, p :: rest => let (c, r) := flood 256 rest [p] [p]; c :: spots n r

/-- A whole round dot in a tile, of 4 to 14 pixels: twice its centre, and its diameter. -/
def wholeDot (c : List Nat) : Option (Nat × Nat × Nat) :=
  let xs := c.map (· % 16)
  let ys := c.map (· / 16)
  match xs.min?, xs.max?, ys.min?, ys.max? with
  | some x0, some x1, some y0, some y1 =>
    let w := x1 + 1 - x0
    let h := y1 + 1 - y0
    if 1 ≤ x0 && x1 ≤ 14 && 1 ≤ y0 && y1 ≤ 14 && 4 ≤ w && w ≤ 14 && absDiff w h ≤ 1 &&
       60 * (w * h) ≤ 100 * c.length && 100 * c.length ≤ 95 * (w * h) then some (x0 + x1 + 1, y0 + y1 + 1, w)
    else none
  | _, _, _, _ => none

/-- A tile holds 4 whole dots of a field: 1.5 to 3 diameters lie between each and its nearest. -/
def holdsDots (sensorCfg : Nat) (img : List (Nat × List Nat)) (tile : Nat) : Bool :=
  let v := tileTenths sensorCfg img tile
  match v.min?, v.max? with
  | some lo, some hi =>
    let parts (dark : Bool) : List (Nat × Nat × Nat) :=
      (spots 256 ((List.range 256).filter (fun k => (decide (2 * v.getD k 160 < lo + hi)) == dark))).filterMap wholeDot
    let field (l : List (Nat × Nat × Nat)) : Bool := 4 ≤ l.length && l.zipIdx.all (fun (p, i) =>
      let d2 := (l.zipIdx.filter (fun q => q.2 != i)).map (fun q => absDiff p.1 q.1.1 ^ 2 + absDiff p.2.1 q.1.2.1 ^ 2)
      -- centres and distances are doubled: 1.5 to 3 diameters are 3 to 6 of them
      d2.min?.any (fun n => (3 * p.2.2) ^ 2 ≤ n && n ≤ (6 * p.2.2) ^ 2))
    decide (lo + 800 ≤ hi) && (field (parts true) || field (parts false))
  | _, _ => false

/-- The scores of a tile held to what R115 guarantees: at most 31 on a uniform area; at least 128 where a QR finder along the rows and
columns has its centre, and where 4 whole dots lie. The other guarantees bind no tile by itself (log 85). -/
def heldScores (sensorCfg : Nat) (img : List (Nat × List Nat)) (tile : Nat) (uniform : Bool) (t : TileIn) : TileIn :=
  if uniform then { t with l := min 31 t.l, q := min 31 t.q, d := min 31 t.d }
  else { t with q := if holdsFinder sensorCfg img tile then max 128 t.q else t.q,
                d := if holdsDots sensorCfg img tile then max 128 t.d else t.d }

/-- What the locator reads of a tile: from 1 DN to 200 DN of gradient and without a saturated pixel, its fields keep to the
formulas within the tolerances of R114; elsewhere the spec bounds none of them (log 85), but that orientation and coherence of a tile
without a gradient are 0 (R113), and that edge_energy is at most 48 on a uniform area (R115) where R114 lets it be. -/
def heldTile (sensorCfg level : Nat) (masked px : List Nat) (uniform : Bool) (t : TileIn) : TileIn :=
  let p := tileValues sensorCfg masked px
  let vals := p.filterMap id
  let d := diffsOf p
  let g := d.gradient
  let (tot, c, s) := d.sums
  let t := if tot = 0 then { t with orient := 0, coh := 0 } else t
  if reaches level vals || Q.lt g ⟨1, 1⟩ || Q.lt ⟨200, 1⟩ g then { t with edge := if uniform then min 48 t.edge else t.edge }
  else
    let coh := coherenceOf tot c s
    let m := meanCode vals
    { t with edge := within (edgeEnergy g) 4 (if uniform then min 48 t.edge else t.edge),
             orient := if 6 ≤ coh then withinBin (orientBin c s) t.orient else t.orient,
             coh := within coh 2 t.coh,
             mean := max (16 * (m - 1)) (min (16 * (m + 1) + 15) t.mean),
             contrast := match contrastCode vals with | some k => within k 2 t.contrast | none => t.contrast }

/-- The sat flag of a tile (R112): a pixel reached LOC.LEVELS.sat_level. -/
def tileSat (sensorCfg level : Nat) (masked px : List Nat) : Bool := reaches level ((tileValues sensorCfg masked px).filterMap id)

end Sys2Proof.Machine
end

