-- ==== Sys2Proof/Machine/Staring.lean ====
section
/-! DEFINITION. Tally's measurement of a staring candidate from its pixels (09 R332, R333, R336): where its windows lie, edge
points and fitted lines, dot centroids, the measured point and angle, and the residuals. Windows are placed in units of 2^−20
pixel; what is measured is exact. What the rules leave to the engine here is chosen in log 91. -/
namespace Sys2Proof.Machine

/-! ### Angles and placement -/

/-- sin and cos of k ÷ 2^17 turn, in units of 2^−96. -/
def sinTurn (k : Int) : Int := let r := (k + 65536) % 131072 - 65536; sinSeries (r * (piNum * 2 ^ 96 : Nat) / (65536 * 10 ^ 49 : Nat))
def cosTurn (k : Int) : Int := sinTurn (k + 32768)

/-- Cosine and sine of an angle in 1/256 turn, in units of 2^−16. -/
def dirOf (angle : Nat) : Int × Int :=
  (roundHalfUp (cosTurn (512 * angle)) (2 ^ 80), roundHalfUp (sinTurn (512 * angle)) (2 ^ 80))

/-- The angle of a direction in 1/65 536 turn, rounded half up (01 R11); 0 for no direction. -/
def angleOf (x y : Int) : Nat :=
  let (base, x, y) :=
    if 0 < x ∧ 0 ≤ y then (0, x, y)
    else if x ≤ 0 ∧ 0 < y then (16384, y, -x)
    else if x < 0 ∧ y ≤ 0 then (32768, -x, -y)
    else (49152, -y, x)
  let reaches (n : Nat) : Bool := x * sinTurn (2 * n - 1) ≤ y * cosTurn (2 * n - 1)
  if x = 0 ∧ y = 0 then 0
  else (base + (List.range 15).foldl (fun n i => if reaches (n + 2 ^ (14 - i)) then n + 2 ^ (14 - i) else n) 0) % 65536

/-- The coarse pose of R169: the centre and the pitch in 1/16 pixel, the angle in 1/256 turn. -/
structure Pose where
  x : Nat
  y : Nat
  angle : Nat
  pitch : Nat
  mirror : Bool := false
deriving DecidableEq, Repr

/-- The place of mark coordinates (h, k), in half pitches from the centre along u and v; v runs the other way in a mirror image. -/
def Pose.at (p : Pose) (h k : Int) : Int × Int :=
  let (c, s) := dirOf p.angle
  let k := if p.mirror then -k else k
  ((p.x * 65536 : Nat) + p.pitch * (h * c - k * s) / 2, (p.y * 65536 : Nat) + p.pitch * (h * s + k * c) / 2)

/-! ### Pixels of a region -/

/-- A pixel of a region's tiles; none outside the region. -/
def pixelAt (tiles : List (Nat × List Nat)) (x y : Int) : Option Nat :=
  if x < 0 ∨ y < 0 ∨ 4096 ≤ x ∨ 3072 ≤ y then none
  else (ofTile tiles (256 * (y / 16).toNat + (x / 16).toNat)).map (fun l => l.getD (16 * (y % 16) + x % 16).toNat 16)

/-- The pixels whose centres lie within r × p ÷ 320 of 1/16 pixel from a place, with their values; none when one lies outside the
region. -/
def disc (tiles : List (Nat × List Nat)) (pitch r : Nat) (c : Int × Int) : Option (List (Int × Int × Nat)) :=
  let rad : Int := r * pitch * 2 ^ 20
  let span (z : Int) : List Int := let lo := (z - rad / 320) / 2 ^ 20 - 1; (List.range ((rad / 320) * 2 / 2 ^ 20 + 4).toNat).map (fun (i : Nat) => lo + (i : Int))
  let d (i z : Int) : Int := 320 * (i * 2 ^ 20 + 2 ^ 19 - z)
  let inside := (span c.2).flatMap (fun j => (span c.1).filterMap (fun i =>
    if d i c.1 ^ 2 + d j c.2 ^ 2 ≤ rad ^ 2 then some (i, j) else none))
  inside.mapM (fun p => (pixelAt tiles p.1 p.2).map (fun v => (p.1, p.2, v)))

/-! ### What a measurement finds -/

/-- How a measurement ends without a point: its status (R344), and whether a pixel of a feature window reached sat_level (R343). -/
abbrev Unmeasured := Nat × Bool

/-- Whether a window that a part of a measurement has read was saturated. -/
def satIn {α : Type} (f : α → Bool) (r : Except Unmeasured α) : Bool :=
  match r with
  | .error e => e.2
  | .ok a => f a

/-- A measurement on the staring path: the measured point and direction in the image, features, squared residuals of the fitted
geometry in pixels², a pixel at sat_level, dot contrast (in half DN, a sum over the features), background (number of pixels and
sum of squared deviations in half DN) and the sum of the dots' diameters in 1/256 pixel. -/
structure Staring where
  pt : Q × Q
  dir : Q × Q
  features : Nat
  res : List Q
  sat : Bool
  contrast : Nat := 0
  back : Nat × Nat := (0, 0)
  diameters : Nat := 0
deriving DecidableEq, Repr

/-- Mean of some points, sum and difference of two. -/
def meanPt (l : List (Q × Q)) : Q × Q :=
  let inv : Q := ⟨1, max 1 l.length⟩
  (((Q.sum (l.map (·.1))).mul inv).norm, ((Q.sum (l.map (·.2))).mul inv).norm)
def subPt (a b : Q × Q) : Q × Q := ((a.1.sub b.1).norm, (a.2.sub b.2).norm)

/-- A direction's angle. -/
def dirAngle (d : Q × Q) : Nat := angleOf (d.1.n * d.2.d) (d.2.n * d.1.d)

/-! ### Dots (R333) -/

/-- A dot on its way: its mark coordinates, twice the background's median, the background pixels, the window at the coarse
estimate, and the polarity. -/
structure DotWin where
  h : Int
  k : Int
  b2 : Int
  back : List Nat
  win : List (Int × Int × Nat)
  sign : Int
deriving DecidableEq, Repr

/-- Twice a pixel's distance from the background on the dot's side. -/
def DotWin.depth (d : DotWin) (v : Nat) : Int := d.sign * (d.b2 - 2 * v)

/-- The largest of them in the window. -/
def DotWin.peak (d : DotWin) : Int := (d.win.map (fun p => d.depth p.2.2)).foldl max 0

/-- The window of a dot at (h, k), its background taken around the empty cells at the places of `cells`. -/
def dotWin (tiles : List (Nat × List Nat)) (p : Pose) (h k : Int) (cells : List (Int × Int)) : Option DotWin :=
  match (cells.mapM (fun c => disc tiles p.pitch 5 (p.at c.1 c.2))).map List.flatten, disc tiles p.pitch 9 (p.at h k) with
  | some bg, some win =>
    let back : List Nat := bg.map (·.2.2)
    let b2 := median2 (back.map (fun v => (v : Int)))
    let sum : Nat := (win.map (fun q => q.2.2)).foldl (· + ·) 0
    some { h := h, k := k, b2 := b2, back := back, win := win, sign := if (2 * (sum : Int)) < b2 * (win.length : Int) then 1 else -1 }
  | _, _ => none

/-- Σ w × position ÷ Σ w of a window in pixels, with w = max(0, depth − 0.2 c); `sum` is the sum of the peaks of n dots. -/
def centroid (d : DotWin) (sum n : Nat) (win : List (Int × Int × Nat)) : Option (Q × Q) :=
  let ws : List (Int × Int × Int) := win.map (fun q => (q.1, q.2.1, max 0 (5 * (n : Int) * d.depth q.2.2 - (sum : Int))))
  let tot : Int := (ws.map (·.2.2)).foldl (· + ·) 0
  let mom (f : Int × Int × Int → Int) : Q := Q.norm ⟨(ws.map (fun q => q.2.2 * (2 * f q + 1))).foldl (· + ·) 0, 2 * tot.toNat⟩
  if tot ≤ 0 then none else some (mom (·.1), mom (·.2.1))

/-- A pixel of a window reaches sat_level. -/
def satWindow (level : Nat) (win : List (Int × Int × Nat)) : Bool := win.any (fun q => level ≤ q.2.2)

/-- A dot's centre, at the coarse estimate and once more with the window there, and whether that window is saturated. -/
def dotAt (tiles : List (Nat × List Nat)) (p : Pose) (level sum n : Nat) (d : DotWin) : Except Unmeasured ((Q × Q) × Bool) :=
  match centroid d sum n d.win with
  | none => .error (0x01, false)
  | some c =>
    match disc tiles p.pitch 9 ((c.1.mul ⟨2 ^ 20, 1⟩).rhu, (c.2.mul ⟨2 ^ 20, 1⟩).rhu) with
    | none => .error (0x02, false)
    | some win =>
      match centroid d sum n win with
      | none => .error (0x01, satWindow level win)
      | some c => .ok (c, satWindow level win)

/-- The first error among some results, or all of them. -/
def gather {α : Type} : List (Except Unmeasured α) → Except Nat (List α)
  | [] => .ok []
  | .error e :: _ => .error e.1
  | .ok a :: t => (gather t).map (fun l => a :: l)

/-- Least squares of a coordinate over (1, h, k): the constant and both slopes; none when the places do not span the plane. -/
def planeFit (l : List (Int × Int × Q)) : Option (Q × Q × Q) :=
  let n : Int := l.length
  let s (f : Int × Int × Q → Int) : Int := (l.map f).foldl (· + ·) 0
  let q (f : Int × Int × Q → Int) : Q := Q.sum (l.map (fun p => p.2.2.mul (Q.ofInt (f p))))
  let h := s (·.1)
  let k := s (·.2.1)
  let hh := s (fun p => p.1 * p.1)
  let hk := s (fun p => p.1 * p.2.1)
  let kk := s (fun p => p.2.1 * p.2.1)
  let b0 := q (fun _ => 1)
  let b1 := q (·.1)
  let b2 := q (·.2.1)
  let det := n * (hh * kk - hk * hk) - h * (h * kk - hk * k) + k * (h * hk - hh * k)
  let c (a b d : Int) : Q := ((((b0.mul (Q.ofInt a)).add (b1.mul (Q.ofInt b))).add (b2.mul (Q.ofInt d))).div (Q.ofInt det)).norm
  if det = 0 then none
  else some (c (hh * kk - hk * hk) (hk * k - h * kk) (h * hk - hh * k),
             c (hk * k - h * kk) (n * kk - k * k) (h * k - n * hk),
             c (h * hk - hh * k) (h * k - n * hk) (n * hh - h * h))

/-- Squared residuals of dots about the plane that fits them, and the direction of u. -/
def dotFit (l : List (Int × Int × Q × Q)) : List Q × (Q × Q) :=
  match planeFit (l.map (fun p => (p.1, p.2.1, p.2.2.1))), planeFit (l.map (fun p => (p.1, p.2.1, p.2.2.2))) with
  | some fx, some fy =>
    let at_ (f : Q × Q × Q) (h k : Int) : Q := (f.1.add (f.2.1.mul (Q.ofInt h))).add (f.2.2.mul (Q.ofInt k))
    (l.map (fun p =>
      let dx := (p.2.2.1.sub (at_ fx p.1 p.2.1)).norm
      let dy := (p.2.2.2.sub (at_ fy p.1 p.2.1)).norm
      ((dx.mul dx).add (dy.mul dy)).norm), (fx.2.1, fy.2.1))
  | _, _ => ([], (⟨0, 1⟩, ⟨0, 1⟩))

/-- A dot's diameter in 1/256 pixel, from the area of its window that lies beyond half its peak: 2 √(area ÷ π). -/
def DotWin.diameter (d : DotWin) : Nat :=
  isqrt ((d.win.filter (fun q => d.peak ≤ 2 * d.depth q.2.2 && 0 < d.peak)).length * 4 * 65536 * 10 ^ 49 / piNum)

/-- Dots measured together: what each is centred at, and the figures they share. -/
def measureDots (tiles : List (Nat × List Nat)) (p : Pose) (level : Nat) (dots : List (Int × Int × List (Int × Int))) :
    Except Unmeasured (List (Int × Int × Q × Q) × Staring) :=
  let found := dots.map (fun d => dotWin tiles p d.1 d.2.1 d.2.2)
  let first := found.any (fun o => o.any (fun d => satWindow level d.win))
  match found.mapM id with
  | none => .error (0x02, first)
  | some ws =>
    let sum := ((ws.map DotWin.peak).foldl (· + ·) 0).toNat
    let ends := ws.map (fun d => (dotAt tiles p level sum ws.length d).map (fun c => ((d.h, d.k, c.1), c.2)))
    let full := first || ends.any (satIn (·.2))
    match (gather ends).map (fun l => l.map (·.1)) with
    | .error e => .error (e, full)
    | .ok [] => .error (0x01, full)
    | .ok cs =>
      let (res, dir) := dotFit cs
      let dev := (ws.map (fun d => (d.back.map (fun v => (d.b2 - 2 * v) * (d.b2 - 2 * v))).foldl (· + ·) 0)).foldl (· + ·) 0
      .ok (cs, { pt := meanPt (cs.map (·.2.2)), dir := dir, features := cs.length, res := res, contrast := sum,
                 sat := full,
                 back := ((ws.map (fun d => d.back.length)).foldl (· + ·) 0, dev.toNat),
                 diameters := (ws.map DotWin.diameter).foldl (· + ·) 0 })

/-- Blaze-D's finder dots, in half pitches from (6, 6) (05 R204): the two of each double finder with the empty cells of its block,
and the single one with the empty cells nearest to it. -/
def blazeDots : List (Int × Int × List (Int × Int)) :=
  let tl := [(-9, -11), (-11, -9)]
  let tr := [(9, -11), (11, -9)]
  let bl := [(-11, 9), (-9, 11)]
  [(-11, -11, tl), (-9, -9, tl), (11, -11, tr), (9, -9, tr), (-11, 11, bl), (-9, 9, bl), (10, 10, [(11, -9), (-9, 11)])]

/-- Blaze-D (R332): the mean of its four finder centres. -/
def measureBlazeD (tiles : List (Nat × List Nat)) (p : Pose) (level : Nat) : Except Unmeasured Staring :=
  match measureDots tiles p level blazeDots with
  | .error e => .error e
  | .ok (cs, m) =>
    let pts := cs.map (·.2.2)
    let c (i : Nat) : Q × Q := pts.getD i m.pt
    .ok { m with pt := meanPt [meanPt [c 0, c 1], meanPt [c 2, c 3], meanPt [c 4, c 5], c 6] }

/-- The cells of a lattice of c columns and r rows that hold a dot: by the mean of the pixels within 0.25 p of their centres, those on
the side of the mid level that has fewer; none when such a pixel lies outside the region. -/
def dotCells (tiles : List (Nat × List Nat)) (p : Pose) (c r : Nat) : Option (List (Int × Int)) :=
  let cells : List (Int × Int) := (List.range r).flatMap (fun (i : Nat) => (List.range c).map (fun (j : Nat) =>
    (2 * (j : Int) + 1 - (c : Int), 2 * (i : Int) + 1 - (r : Int))))
  (cells.mapM (fun q => (disc tiles p.pitch 5 (p.at q.1 q.2)).map (fun l =>
    (q, (l.map (·.2.2)).foldl (· + ·) 0 * 1024 / max 1 l.length)))).map (fun l =>
      let lo := (l.map (·.2)).foldl min (1024 * 1024)
      let hi := (l.map (·.2)).foldl max 0
      let (dark, light) := l.partition (fun q => 2 * q.2 < lo + hi)
      (if dark.length < light.length then dark else light).map (·.1))

/-- DotCode (R332): the mean of its dots, each against the four cells beside it. -/
def measureDotCode (tiles : List (Nat × List Nat)) (p : Pose) (level c r : Nat) : Except Unmeasured Staring :=
  match dotCells tiles p c r with
  | none => .error (0x02, false)
  | some dots =>
    (measureDots tiles p level (dots.map (fun d => (d.1, d.2, [(d.1 - 2, d.2), (d.1 + 2, d.2), (d.1, d.2 - 2), (d.1, d.2 + 2)])))).map (·.2)

/-! ### Edges (R333) -/

/-- A pixel of a scan: along a column of pixels when `up`, else along a row. -/
def scanPixel (tiles : List (Nat × List Nat)) (up : Bool) (line m : Int) : Option Nat :=
  if up then pixelAt tiles line m else pixelAt tiles m line

/-- Twice the median of three values. -/
def mid3 (a b c : Nat) : Int := 2 * (max (min a b) (min (max a b) c) : Nat)

/-- The edge point between pixels m and m + 1 of a scan, in pixels, where linear interpolation crosses the mid level; none where
it does not, or where the medians beyond differ by less than 40 DN (05 R187). -/
def edgeBetween (px : Int → Option Nat) (m : Int) : Option Q :=
  match [m - 3, m - 2, m - 1, m, m + 1, m + 2, m + 3, m + 4].mapM px with
  | some [a, b, c, v, w, d, e, f] =>
    let lo := mid3 a b c
    let hi := mid3 d e f
    -- four times the mid level less each neighbour's value
    let x : Int := lo + hi - 4 * v
    let y : Int := lo + hi - 4 * w
    if (hi - lo).natAbs < 80 ∨ v = w ∨ 0 < x * y then none
    else some (((Q.ofInt (2 * m + 1)).mul ⟨1, 2⟩).add ((Q.ofInt x).div (Q.ofInt (x - y)))).norm
  | _ => none

/-- A scan across an edge expected at a place, within one pitch of it and nearest first: whether its first window lies in the region,
the edge point if there is one, and a pixel at `level`. -/
def scanEdge (px : Int → Option Nat) (pitch level : Nat) (at_ : Int) : Bool × Option Q × Bool :=
  let m0 : Int := (at_ + 2 ^ 19) / 2 ^ 20 - 1
  let ms := (List.range (ceilDiv pitch 16 + 1)).flatMap (fun (i : Nat) => if i = 0 then [m0] else [m0 + (i : Int), m0 - (i : Int)])
  let ok := ([-3, -2, -1, 0, 1, 2, 3, 4].mapM (fun (i : Int) => px (m0 + i))).isSome
  let full (m : Int) : Bool := [-3, -2, -1, 0, 1, 2, 3, 4].any (fun (i : Int) => (px (m + i)).any (fun v => level ≤ v))
  match ms.findSome? (fun m => (edgeBetween px m).map (fun q => (m, q))) with
  | none => (ok, none, full m0)
  | some (m, q) => (ok, some q, full m)

/-- A fitted line a x + b y = c, the squared distances of its points, and a pixel at sat_level. -/
structure EdgeLine where
  a : Q
  b : Q
  c : Q
  res : List Q
  sat : Bool
deriving DecidableEq, Repr

/-- The scans of the edge expected from place u to place v run along columns of pixels. -/
def scansUp (u v : Int × Int) : Bool := (v.2 - u.2).natAbs ≤ (v.1 - u.1).natAbs

/-- A scan on each pixel column or row that crosses the edge expected from place u to place v. -/
def edgeScans (tiles : List (Nat × List Nat)) (pitch level : Nat) (u v : Int × Int) : List (Int × Bool × Option Q × Bool) :=
  let up := scansUp u v
  let (t0, z0, t1, z1) := if up then (u.1, u.2, v.1, v.2) else (u.2, u.1, v.2, v.1)
  let lo := (min t0 t1 + 2 ^ 19) / 2 ^ 20
  let hi := (max t0 t1 - 2 ^ 19) / 2 ^ 20
  (List.range (hi + 1 - lo).toNat).map (fun (i : Nat) =>
    let k : Int := lo + (i : Int)
    let t := k * 2 ^ 20 + 2 ^ 19
    (k, scanEdge (scanPixel tiles up k) pitch level (z0 + (z1 - z0) * (t - t0) / (t1 - t0))))

/-- The edge points of some scans; or that a window left the region. -/
def edgePoints (scans : List (Int × Bool × Option Q × Bool)) : Except Unmeasured (List (Int × Q)) :=
  if scans.any (fun s => !s.2.1) then .error (0x02, scans.any (·.2.2.2))
  else .ok (scans.filterMap (fun s => s.2.2.1.map (fun q => (s.1, q))))

/-- The edge expected from place u to place v: a line fitted to its edge points by least squares. -/
def edgeLine (tiles : List (Nat × List Nat)) (pitch level : Nat) (u v : Int × Int) : Except Unmeasured EdgeLine :=
  let up := scansUp u v
  let scans := edgeScans tiles pitch level u v
  let sat := scans.any (fun s => s.2.2.2)
  match edgePoints scans with
  | .error e => .error e
  | .ok pts =>
    match planeFit1 pts with
    | none => .error (0x01, sat)
    | some (a, b) =>
      let one := (Q.ofInt 1).add (b.mul b)
      let res := pts.map (fun p =>
        let d := (p.2.sub (a.add (b.mul ⟨2 * p.1 + 1, 2⟩))).norm
        ((d.mul d).div one).norm)
      .ok (if up then { a := b.neg, b := ⟨1, 1⟩, c := a, res := res, sat := sat }
           else { a := ⟨1, 1⟩, b := b.neg, c := a, res := res, sat := sat })
where
  /-- constant and slope over the pixel centres -/
  planeFit1 (l : List (Int × Q)) : Option (Q × Q) :=
    let n : Int := l.length
    let s1 := (l.map (fun p => 2 * p.1 + 1)).foldl (· + ·) 0
    let s2 := (l.map (fun p => (2 * p.1 + 1) * (2 * p.1 + 1))).foldl (· + ·) 0
    let b0 := Q.sum (l.map (·.2))
    let b1 := Q.sum (l.map (fun p => p.2.mul (Q.ofInt (2 * p.1 + 1))))
    let det := n * s2 - s1 * s1
    if det = 0 then none
    else some ((((b0.mul (Q.ofInt s2)).sub (b1.mul (Q.ofInt s1))).div (Q.ofInt det)).norm,
               (((b1.mul (Q.ofInt n)).sub (b0.mul (Q.ofInt s1))).mul ⟨2, 1⟩ |>.div (Q.ofInt det)).norm)

/-- The point where two lines meet. -/
def EdgeLine.meet (l m : EdgeLine) : Option (Q × Q) :=
  let det := ((l.a.mul m.b).sub (m.a.mul l.b)).norm
  if det.n = 0 then none
  else some ((((l.c.mul m.b).sub (m.c.mul l.b)).div det).norm, (((l.a.mul m.c).sub (m.a.mul l.c)).div det).norm)

/-- The line through two points. -/
def lineThrough (p q : Q × Q) : EdgeLine :=
  let a := (q.2.sub p.2).norm
  let b := (p.1.sub q.1).norm
  { a := a, b := b, c := ((a.mul p.1).add (b.mul p.2)).norm, res := [], sat := false }

/-- The normal of a line on the side towards which another runs; and a sum of directions. -/
def EdgeLine.normal (l axis : EdgeLine) : Q × Q :=
  if Q.lt ((l.a.mul axis.b.neg).add (l.b.mul axis.a)) ⟨0, 1⟩ then (l.a.neg, l.b.neg) else (l.a, l.b)
def addPt (a b : Q × Q) : Q × Q := ((a.1.add b.1).norm, (a.2.add b.2).norm)

/-- A quadrilateral with its outer edges expected around (h0, k0) to (h1, k1): the intersection of its diagonals, the direction from
its left side to its right one, and its edges' residuals. -/
def measureQuad (tiles : List (Nat × List Nat)) (p : Pose) (level : Nat) (h0 k0 h1 k1 : Int) : Except Unmeasured Staring :=
  let side (a b c d : Int) : Except Unmeasured EdgeLine := edgeLine tiles p.pitch level (p.at a b) (p.at c d)
  let sides := [side h0 k0 h1 k0, side h1 k0 h1 k1, side h0 k1 h1 k1, side h0 k0 h0 k1]
  let sat := sides.any (satIn (·.sat))
  match gather sides with
  | .ok [t, r, b, l] =>
    match t.meet l, t.meet r, b.meet r, b.meet l with
    | some tl, some tr, some br, some bl =>
      (match (lineThrough tl br).meet (lineThrough tr bl) with
       | some c => .ok { pt := c, dir := subPt (meanPt [tr, br]) (meanPt [tl, bl]), features := 1,
                         res := t.res ++ r.res ++ b.res ++ l.res, sat := sat }
       | none => .error (0x01, sat))
    | _, _, _, _ => .error (0x01, sat)
  | .ok _ => .error (0x01, sat)
  | .error e => .error (e, sat)

/-- Data Matrix of c columns and r rows (R332): its four outer edges. -/
def measureMatrix (tiles : List (Nat × List Nat)) (p : Pose) (level c r : Nat) : Except Unmeasured Staring :=
  (measureQuad tiles p level (-(c : Int)) (-(r : Int)) c r).map (fun m => { m with features := 4 })

/-- QR Code with n modules a side (R332): its three finders; the midpoint of the two that lie opposite each other. -/
def measureQr (tiles : List (Nat × List Nat)) (p : Pose) (level n : Nat) : Except Unmeasured Staring :=
  let e : Int := n
  let finders := [measureQuad tiles p level (-e) (-e) (14 - e) (14 - e), measureQuad tiles p level (e - 14) (-e) e (14 - e),
                  measureQuad tiles p level (-e) (e - 14) (14 - e) e]
  let sat := finders.any (satIn (·.sat))
  match gather finders with
  | .ok [a, b, c] => .ok { pt := meanPt [b.pt, c.pt], dir := subPt b.pt a.pt, features := 3, res := a.res ++ b.res ++ c.res, sat := sat }
  | .ok _ => .error (0x01, sat)
  | .error e => .error (e, sat)

/-- Micro QR with n modules a side (R332): its finder. -/
def measureMicroQr (tiles : List (Nat × List Nat)) (p : Pose) (level n : Nat) : Except Unmeasured Staring :=
  let e : Int := n
  measureQuad tiles p level (-e) (-e) (14 - e) (14 - e)

/-- The end of a bar expected from place u to place v across it: the mean of its edge points. -/
def barEnd (tiles : List (Nat × List Nat)) (pitch level : Nat) (u v : Int × Int) : Except Unmeasured ((Q × Q) × Bool) :=
  let scans := edgeScans tiles pitch level u v
  let sat := scans.any (fun s => s.2.2.2)
  match edgePoints scans with
  | .error e => .error e
  | .ok [] => .error (0x01, sat)
  | .ok pts =>
    let place (q : Int × Q) : Q × Q := let t : Q := ⟨2 * q.1 + 1, 2⟩; if scansUp u v then (t, q.2) else (q.2, t)
    .ok (meanPt (pts.map place), sat)

/-- Code 128 of c modules X in length and r in height (R332): its first and last edges, and the midpoint between them at the middle of
the bar height, which runs through the middles of its first and its last bar, two modules wide each, between their ends. -/
def measureBars (tiles : List (Nat × List Nat)) (p : Pose) (level c r : Nat) : Except Unmeasured Staring :=
  let h : Int := c
  let k : Int := r
  let edges := [edgeLine tiles p.pitch level (p.at (-h) (-k)) (p.at (-h) k), edgeLine tiles p.pitch level (p.at h (-k)) (p.at h k)]
  let barEnds := [(1 - h, -k), (1 - h, k), (h - 3, -k), (h - 3, k)].map (fun (q : Int × Int) =>
    barEnd tiles p.pitch level (p.at q.1 q.2) (p.at (q.1 + 2) q.2))
  let sat := edges.any (satIn (·.sat)) || barEnds.any (satIn (·.2))
  match gather edges, gather barEnds with
  | .ok [a, b], .ok [w, x, y, z] =>
    let axis := lineThrough (meanPt [w.1, x.1]) (meanPt [y.1, z.1])
    (match a.meet axis, b.meet axis with
     | some x, some y => .ok { pt := meanPt [x, y], dir := addPt (a.normal axis) (b.normal axis), features := 2, res := a.res ++ b.res, sat := sat }
     | _, _ => .error (0x01, sat))
  | .error e, _ => .error (e, sat)
  | _, .error e => .error (e, sat)
  | _, _ => .error (0x01, sat)

/-- A residual exceeds a quarter of the pitch (R344). -/
def Staring.strained (m : Staring) (pitch : Nat) : Bool := m.res.any (fun q => Q.lt ⟨pitch * pitch, 1⟩ (q.mul ⟨4096, 1⟩))

/-- A measurement in the coarse pose, or in its mirror image where that alone is measured without strain (05 R187): the pose does not
say which it is. -/
def mirrored (f : Pose → Except Unmeasured Staring) (p : Pose) : Except Unmeasured Staring :=
  let clean (r : Except Unmeasured Staring) : Bool := match r with | .ok m => !m.strained p.pitch | .error _ => false
  if !clean (f p) && clean (f { p with mirror := true }) then f { p with mirror := true } else f p

/-- The measurement of a symbology by its code of 05 R184, in an extent of c by r modules or cells. -/
def measureImage (symbology : Nat) (tiles : List (Nat × List Nat)) (p : Pose) (level c r : Nat) : Except Unmeasured Staring :=
  match symbology with
  | 1 => measureMatrix tiles p level c r
  | 2 => mirrored (fun p => measureQr tiles p level c) p
  | 3 => mirrored (fun p => measureMicroQr tiles p level c) p
  | 6 => measureDotCode tiles p level c r
  | 7 => measureBlazeD tiles p level
  | _ => measureBars tiles p level c r

/-! ### Quality (R336) -/

/-- Twice the rms of residuals with these squares, over the square root of n features, in units of 1 ÷ `scale`, rounded up (R336). -/
def expanded (res : List Q) (n scale : Nat) : Nat :=
  let q := (Q.sum res).mul ⟨4 * scale * scale, max 1 (res.length * n)⟩
  min 0xFFFF (isqrtUp q.ceil.toNat)

/-- The signal-to-noise ratio of its dots is below 30 dB, an amplitude ratio of √1 000, or their mean diameter below 6 pixels. -/
def Staring.weak (m : Staring) : Bool :=
  m.diameters < 6 * 256 * m.features || m.contrast ^ 2 * m.back.1 < 1000 * m.features ^ 2 * m.back.2

end Sys2Proof.Machine
end

