-- ==== Sys2Proof/Machine/MemOps.lean ====
section
/-! DEFINITION. External memory's shared operations (15): accesses and the page predictor (R569), disturbance counting
(R574, R575), the refresh debt (R570 to R573), row copies (R578), and the DQS delay (R581). -/
namespace Sys2Proof.Machine

/-! ### Channels, ranks, banks -/

/-- A channel. -/
def Blk.memCh (s : Blk) (ch : Nat) : MemCh := s.mem.chans.getD ch {}

/-- A channel changed. -/
def Blk.updMem (s : Blk) (ch : Nat) (f : MemCh → MemCh) : Blk :=
  { s with mem := { s.mem with chans := upd s.mem.chans ch f } }

/-- A rank. -/
def MemCh.rank (c : MemCh) (r : Nat) : RankSt := c.ranks.getD r {}

/-- A rank changed. -/
def MemCh.updRank (c : MemCh) (r : Nat) (f : RankSt → RankSt) : MemCh := { c with ranks := upd c.ranks r f }

/-- A bank. -/
def RankSt.bank (k : RankSt) (b : Nat) : BankSt := k.banks.getD b {}

/-- A bank changed. -/
def RankSt.updBank (k : RankSt) (b : Nat) (f : BankSt → BankSt) : RankSt := { k with banks := upd k.banks b f }

/-- Rows per bank (R554). -/
def Blk.rowsPerBank (s : Blk) : Nat := if bitN (s.regN Reg.MEM_CONFIG) 2 then 131072 else 65536

/-- The row exists in this engine's memory. -/
def Blk.rowExists (s : Blk) (ch rank bank row : Nat) : Bool :=
  ch < 2 && rank < (s.memCh ch).ranks.length && bank < 8 && row < s.rowsPerBank

/-- A field of channel A or B in a register that shows both. -/
def Blk.bumpCh (s : Blk) (a ch k : Nat) : Blk := s.bump a (16 * ch + 15) (16 * ch) k

/-! ### Real-time writes (03 R98; 04 R154; 15 R566) -/

/-- A real-time master has some bytes of a stream to write, in pieces of these lengths. -/
def Blk.owe (s : Blk) (k : Stream) (l : List Nat) : Blk :=
  { s with mem := { s.mem with owed := s.mem.owed ++ l.map (fun n => { of_ := k, bytes := n }) } }

/-- What is still owed after some bytes of a stream have been written, the oldest of it first. -/
def paid (k : Stream) : Nat → List Owed → List Owed
  | _, [] => []
  | n, o :: t =>
    if o.of_ ≠ k then o :: paid k n t
    else if o.bytes ≤ n then paid k (n - o.bytes) t
    else { o with bytes := o.bytes - n } :: t

/-- Bytes owed of a stream. -/
def Blk.owedOf (s : Blk) (k : Stream) : Nat := ((s.mem.owed.filter (fun o => o.of_ = k)).map (·.bytes)).foldl (· + ·) 0

/-- Tiles of the staging store that have not drained to the memory yet (04 R154, R174). -/
def Blk.staged (s : Blk) : Nat := (s.mem.owed.filter (fun o => o.of_.kind = .tile)).length

/-- The master that writes some data (R563). -/
def MemData.master (d : MemData) : MemWho :=
  match d with
  | .mapRow => .sensor
  | .band => .sensor
  | .tile => .roi
  | .profile => .capture
  | .fit => .calibration

/-- A real-time master (R566). -/
def realTime (w : MemWho) : Bool := w = .sensor || w = .roi || w = .capture

/-- The stream whose data a real-time master writes next: that of the oldest bytes it owes. -/
def Blk.nextStream (s : Blk) (w : MemWho) : Option Stream := (s.mem.owed.find? (fun o => o.of_.kind.master = w && o.bytes != 0)).map (·.of_)

/-! ### Placement (R559, R564) -/

/-- The row that holds the check bytes of a data row lies in bank (b + 4) mod 8 (R559); it is taken to be the last of its group of
8 (log 34). -/
def checkRow (row : Nat) : Nat := row / 8 * 8 + 7

/-- A row of check bytes (R559; log 34). -/
def isCheck (row : Nat) : Bool := row % 8 = 7

/-- Spare rows per bank and rank (R564). -/
def MemCh.sparesPerBank (c : MemCh) : Nat := if c.ranks.length = 1 then 8 else 4

/-- The n-th data row from the top of a bank of so many rows: its spare rows (R564). -/
def topRow (rows n : Nat) : Nat := let k := rows * 7 / 8 - 1 - n; k / 7 * 8 + k % 7

/-- A spare row of its bank. -/
def Blk.isSpare (s : Blk) (ch row : Nat) : Bool := (List.range (s.memCh ch).sparesPerBank).any (fun n => topRow s.rowsPerBank n = row)

/-- The rows of a stream, in the order of its units. -/
def Blk.streamRows (s : Blk) (k : Stream) : List RowHeld := s.mem.rows.filter (fun r => r.of_ = k)

/-- The channel on which a stream goes on: that of a unit not yet full, else the other one than its last unit's; before its first unit
either (R564). -/
def Blk.nextCh (s : Blk) (k : Stream) : Option Nat :=
  (s.streamRows k).getLast?.map (fun r => if r.fill < 2048 then r.at_.ch else 1 - r.at_.ch)

/-- A real-time chunk waits for a channel. -/
def Blk.rtWaits (s : Blk) (ch : Nat) : Bool :=
  s.mem.owed.any (fun o => o.bytes != 0 && (match s.nextCh o.of_ with | some c => c = ch | none => true))

/-- The place of a bank in the rotation of R564: the banks of rank 0, then of rank 1. -/
def bankPlace (rank bank : Nat) : Nat := 8 * rank + bank

/-- The next place of the rotation that is not busy. -/
def nextPlace (places : Nat) (busy : List Nat) : Nat → Nat → Nat
  | 0, i => (i + 1) % places
  | n + 1, i => let j := (i + 1) % places; if busy.contains j then nextPlace places busy n j else j

/-- A stream's next unit may lie in a row (R559, R564): a data row that is no spare and holds nothing, on the channel whose turn it is,
in the next bank of the rotation; a bank that was open for the channel's last chunk may be skipped, for the unit may have been allocated
while that chunk ran (log 105). -/
def Blk.mayPlace (s : Blk) (k : Stream) (a : RowAt) : Bool :=
  let rows := s.streamRows k
  let c := s.memCh a.ch
  let places := 8 * c.ranks.length
  let (r, b) := c.chunkAt
  let busy := [bankPlace r b, bankPlace r ((b + 4) % 8)]
  match rows.getLast? with
  | some u =>
    if u.fill < 2048 then u.at_ = a
    else
      !isCheck a.row && !s.isSpare a.ch a.row && !(s.mem.rows.any (fun x => x.at_ = a)) && a.ch = 1 - u.at_.ch &&
      (match (rows.filter (fun x => x.at_.ch = a.ch)).getLast? with
       | some v =>
         let i := bankPlace v.at_.rank v.at_.bank
         let j := bankPlace a.rank a.bank
         j = nextPlace places [] 0 i || j = nextPlace places busy 2 i
       | none => true)
  | none => !isCheck a.row && !s.isSpare a.ch a.row && !(s.mem.rows.any (fun x => x.at_ = a))

/-- Some bytes of a stream are written into a row: into its open unit, or as its next one. -/
def Blk.fillRow (s : Blk) (k : Stream) (a : RowAt) (n : Nat) : Blk :=
  let rows := s.mem.rows
  let rows := if rows.any (fun x => x.of_ = k && x.at_ = a) then rows.map (fun x => if x.of_ = k && x.at_ = a then { x with fill := x.fill + n } else x)
    else rows ++ [{ at_ := a, of_ := k, part := (s.streamRows k).length, fill := n }]
  { s with mem := { s.mem with rows := rows } }

/-- The bytes that a stream's open unit has room for. -/
def Blk.roomIn (s : Blk) (k : Stream) : Nat :=
  match (s.streamRows k).getLast? with
  | some u => if u.fill < 2048 then 2048 - u.fill else 2048
  | none => 2048

/-- A row that holds data: a unit of a stream, or check bytes of one (R576). -/
def Blk.holdsData (s : Blk) (a : RowAt) : Bool :=
  s.mem.rows.any (fun r => r.at_ = a ||
    (r.at_.ch = a.ch && r.at_.rank = a.rank && (r.at_.bank + 4) % 8 = a.bank && checkRow r.at_.row = a.row))

/-! ### Refresh (R570 to R573) -/

/-- The interval in force, in ticks (R570). -/
def mr4Interval (code : Nat) : Nat := if code % 8 ≤ 3 then 1220 else if code % 8 = 4 then 610 else 305

/-- The ceiling of the debt (R570). -/
def mr4Ceiling (code : Nat) : Nat := if code % 8 ≤ 3 then 8 else if code % 8 = 4 then 4 else 2

/-- The interval of a rank. -/
def RankSt.interval (k : RankSt) : Nat := mr4Interval k.mr4

/-- The ceiling of a rank. -/
def RankSt.ceiling (k : RankSt) : Int := (mr4Ceiling k.mr4 : Nat)

/-- MEMF.MAX_DEBT follows a debt (R588). -/
def Blk.noteDebt (s : Blk) (d : Int) : Blk := s.atLeast Reg.MEMF_MAX_DEBT 4 0 d.toNat

/-- A catch-up runs on a rank: the debt comes down to half its ceiling (R573). -/
def Blk.runCatchUp (s : Blk) (ch r : Nat) : Blk :=
  let s := s.updMem ch (fun c => c.updRank r (fun k => { k with debt := k.ceiling / 2, catchUp := none, insertDue := false }))
  s.bump Reg.MEMF_REF_COUNTS 23 12 1

/-! ### Disturbance (R574, R575) -/

/-- A table after an activation of a row (R574), and the row's entry. -/
def distCount (row : Nat) (l : List (Nat × Nat)) : List (Nat × Nat) × Nat :=
  match l.find? (fun p => p.1 = row) with
  | some p => (l.map (fun q => if q.1 = row then (row, q.2 + 1) else q), p.2 + 1)
  | none =>
    if l.length < 64 then (l ++ [(row, 1)], 1)
    else ((l.map (fun q => (q.1, q.2 - 1))).filter (fun q => q.2 != 0), 0)

/-- A row is activated: its bank's table counts it, and at MEMF.DIST_LIMIT its neighbours wait for their refresh. -/
def Blk.activate (s : Blk) (ch rank bank row : Nat) : Blk :=
  let (t, n) := distCount row ((s.memCh ch).rank rank |>.bank bank).dist
  let s := s.updMem ch (fun c => c.updRank rank (fun k =>
    { k.updBank bank (fun b => { b with dist := t }) with distMax := max k.distMax n }))
  if s.regF Reg.MEMF_DIST_LIMIT 15 0 ≤ n ∧ !((s.memCh ch).neighbours.contains (rank, bank, row)) then
    s.updMem ch (fun c => { c with neighbours := c.neighbours ++ [(rank, bank, row)] })
  else s

/-- The row that serves a row's address: the spare it was remapped to, or itself (R575, R578). -/
def Blk.servingRow (s : Blk) (ch rank bank row : Nat) : Nat :=
  (((s.memCh ch).remapped.find? (fun p => p.1 = (rank, bank, row))).map (·.2)).getD row

/-- The neighbours of a row are activated and precharged, in each case the row that serves its address; the row's entry is cleared, and
the refresh is counted (R575). -/
def Blk.refreshNeighbours (s : Blk) (ch : Nat) (n : Nat × Nat × Nat) : Blk :=
  let (rank, bank, row) := n
  let s := s.updMem ch (fun c =>
    { c.updRank rank (fun k => k.updBank bank (fun b => { b with dist := b.dist.filter (fun p => p.1 != row) })) with
      neighbours := c.neighbours.filter (fun m => m != n) })
  let rows := (if 2 ≤ row then [row - 2] else []) ++ (if 1 ≤ row then [row - 1] else []) ++ [row + 1, row + 2]
  let s := (rows.filter (s.rowExists ch rank bank)).foldl (fun s r => s.activate ch rank bank (s.servingRow ch rank bank r)) s
  (s.bump Reg.MEMF_DIST_COUNTS 15 0 1).updMem ch (fun c => c.updRank rank (fun k => k.updBank bank (fun b => { b with isOpen := false })))

/-! ### Accesses (R566, R569, R582) -/

/-- An access to a row, or to the spare that serves it: the predictor, the open row, the activation it needs, and the rank's leaving
power-down; a chunk closes its rows (R569). -/
def Blk.access (s : Blk) (ch rank bank row : Nat) (chunk : Bool) : Blk :=
  let row := s.servingRow ch rank bank row
  let b := ((s.memCh ch).rank rank).bank bank
  let hit := b.row = some row
  let p := if hit then min 3 (b.pred + 1) else b.pred - 1
  let stay := !chunk && bitN (s.regN Reg.MEM_PRED_CFG) 8 && 2 ≤ p
  let s := if b.isOpen && hit then s else s.activate ch rank bank row
  let s := { s with mem := { s.mem with hits := s.mem.hits + b2n hit, misses := s.mem.misses + b2n (!hit) } }
  s.updMem ch (fun c => c.updRank rank (fun k =>
    { k.updBank bank (fun b => { b with pred := p, row := some row, isOpen := stay, touched := s.now }) with
      touched := s.now, down := false }))

/-- An access to a data row and to its check row, which can be open together (R559). -/
def Blk.accessBoth (s : Blk) (a : RowAt) (chunk : Bool) : Blk :=
  (s.access a.ch a.rank a.bank a.row chunk).access a.ch a.rank ((a.bank + 4) % 8) (checkRow a.row) chunk

/-- Raw bytes move: data and their check bytes, a real-time master's or not. -/
def Blk.moveRaw (s : Blk) (n : Nat) (rt : Bool) : Blk :=
  { s with mem := { s.mem with moved := s.mem.moved + n, rtMoved := s.mem.rtMoved + (if rt then n else 0) } }

/-- Raw bytes of a payload: a ninth of them are check bytes (R559). -/
def rawBytes (n : Nat) : Nat := ceilDiv (n * 9) 8

/-- How long raw bytes take on a channel of 16 bits, in ticks (R573's example). -/
def Blk.busTicks (s : Blk) (raw : Nat) : Nat := ceilDiv (raw * 3125) (20 * max 1 (s.regF Reg.MEM_CONFIG 31 16))

/-! ### Rows offered for a remap (R578, R579) -/

/-- A row as the unit of a recovery. -/
def rowUnit (ch rank bank row : Nat) : Nat := ch + 2 * (rank + 2 * (bank + 8 * row))

/-- Channel, rank, bank and row of a unit. -/
def unitRow (u : Nat) : Nat × Nat × Nat × Nat := (u % 2, u / 2 % 2, u / 4 % 8, u / 32)

/-- The bank of a unit has no spare row left. -/
def Blk.bankSpent (s : Blk) (u : Nat) : Bool :=
  let (ch, rank, bank, _) := unitRow u
  let c := s.memCh ch
  c.sparesPerBank ≤ ((c.rank rank).bank bank).sparesUsed +
    (c.copies.filter (fun k => !k.retire && k.rank = rank && k.bank = bank)).length

/-- The copy of a row begins, into a spare or, to retire it, into the archive ring (R578, R579). -/
def Blk.startCopy (s : Blk) (u : Nat) (retire : Bool) : Blk :=
  let (ch, rank, bank, row) := unitRow u
  s.updMem ch (fun c =>
    if c.copies.any (fun k => k.rank = rank && k.bank = bank && k.row = row) then c
    else { c with copies := c.copies ++
            [{ rank := rank, bank := bank, row := row, uncorr := c.uncorr.contains (rank, bank, row), retire := retire }] })

/-- A row is written in full: its errors start anew (R578). -/
def Blk.rowWritten (s : Blk) (ch rank bank row : Nat) : Blk :=
  s.updMem ch (fun c => { c with errors := c.errors.filter (fun e => e.1 != (rank, bank, row)) })

/-- A row is written: a copy of it that has not taken its place restarts (R578). -/
def Blk.copyRestart (s : Blk) (ch rank bank row : Nat) : Blk :=
  s.updMem ch (fun c =>
    { c with copies := c.copies.map (fun k => if k.rank = rank && k.bank = bank && k.row = row then { k with done := false } else k) })

/-! ### Words as they are read (R560, R577) -/

/-- What the (72, 64) code makes of a word: clean, corrected, or uncorrectable. -/
inductive EccSees where
  | clean | fixed | bad
deriving DecidableEq, Repr

/-- One wrong bit is corrected and two are uncorrectable (R560); what the code makes of more is a free value (log 105). -/
def eccOf (bits : List Nat) : EccSees :=
  match (bits.filter (· < 72)).eraseDups.length with
  | 0 => .clean
  | 1 => .fixed
  | 2 => .bad
  | _ => match (Config.eccMany bits).toNat % 3 with | 0 => .clean | 1 => .fixed | _ => .bad

/-- The words of a read that the code sees so, each once. -/
def wordsSeen (l : List WordErr) (e : EccSees) : List Nat :=
  ((l.filter (fun w => w.word < 256)).map (·.word)).eraseDups.filter (fun n =>
    match l.find? (fun w => w.word = n) with | some w => eccOf w.bits = e | none => false)

/-- The wrong bits of a word. -/
def wrongBits (l : List WordErr) (n : Nat) : List Nat := ((l.find? (fun w => w.word = n)).map (·.bits)).getD []

/-! ### Data that cannot be corrected (R577) -/

/-- A campaign changed. -/
def Blk.updCampaign (s : Blk) (jobSeq : Nat) (f : Campaign → Campaign) : Blk :=
  { s with cal := { s.cal with units := s.cal.units.map (fun o => o.map (fun c => if c.jobSeq = jobSeq then f c else c)) } }

/-- The wrong bits of a word of 64, as a mask. -/
def flipMask (bits : List Nat) : Nat := ((bits.filter (· < 64)).eraseDups.map (2 ^ ·)).foldl (· + ·) 0

/-- The wrong bits of a word of some data; 0 for one that is right. -/
def badMask (bad : List BadWord) (kind : MemData) (n : Nat) : Nat :=
  match bad.find? (fun b => b.kind = kind && b.word = n) with
  | some b => flipMask b.bits
  | none => 0

/-- A word of some data could not be corrected. -/
def isBad (bad : List BadWord) (kind : MemData) (n : Nat) : Bool := bad.any (fun b => b.kind = kind && b.word = n)

/-- One more uncorrectable word. -/
def addBad (b : BadWord) (l : List BadWord) : List BadWord := l.filter (fun x => x.kind != b.kind || x.word != b.word) ++ [b]

/-- The profile words of a channel as its readers get them: the two of an uncorrectable word carry the unmeasured mark (R577; 07 R285). -/
def SwCh.heard (c : SwCh) : List Nat :=
  if c.bad.isEmpty then c.words
  else c.words.zipIdx.map (fun p => if isBad c.bad .profile (p.2 / 2) then putBit (putFld p.1 15 0 0x8000) 17 true else p.1)

/-- The profile words of a channel as the link sends them: as they are read (R577). -/
def SwCh.asRead (c : SwCh) : List Nat :=
  if c.bad.isEmpty then c.words
  else c.words.zipIdx.map (fun p => p.1 ^^^ (badMask c.bad .profile (p.2 / 2) / 2 ^ (32 * (p.2 % 2)) % 2 ^ 32))

/-- A transferred tile reads as the black level: a word of it could not be corrected (R577; 04 R153). It is found by its place in the
order of transfer, 40 words a tile. -/
def Frame.spoilt (f : Frame) (t : Nat) : Bool :=
  f.bad.any (fun b => b.kind = .tile && ((f.tiles.getD (b.word / 40) (49152, [])).1 = t))

/-- A pixel row of a tile of the archive ring reads as the black level: a word of that row of 4 096 codes could not be corrected. -/
def Frame.spoiltRow (f : Frame) (y : Nat) : Bool := f.bad.any (fun b => b.kind = .band && b.word / 768 = y)

/-- A tile reads as the black level, in full or in part. -/
def Frame.spoils (f : Frame) (full : Bool) (t : Nat) : Bool :=
  if f.bad.isEmpty then false
  else if full then (List.range 16).any (fun y => f.spoiltRow (16 * (t / 256) + y)) else f.spoilt t

/-- The bytes of a frame's bulk output that are sent as read (R577). -/
def Frame.bulkBad (f : Frame) (output : Nat) : Nat :=
  8 * (f.bad.filter (fun b => (b.kind = .mapRow && bitN output 0) || (b.kind = .tile && bitN output 1))).length

/-- An uncorrectable word reaches the data it belongs to: it stands in its frame, in its profile, or in a fit
store, whose fit is rerun (10 R384). -/
def Blk.dataBad (s : Blk) (a : RowAt) (w : Nat) (bits : List Nat) : Blk :=
  match s.mem.rows.find? (fun r => r.at_ = a) with
  | none => s
  | some r =>
    let b : BadWord := { kind := r.of_.kind, word := 256 * r.part + w, bits := bits }
    match r.of_.kind with
    | .fit => s.updCampaign r.of_.jobSeq (fun c => { c with storeBad := true })
    | .profile =>
      { s with swp := { s.swp with sweeps := s.swp.sweeps.map (fun v =>
          if v.jobSeq = r.of_.jobSeq && v.unit = r.of_.unit then
            { v with chans := v.chans.map (fun c => if c.ch = r.of_.sub then { c with bad := addBad b c.bad } else c) }
          else v) } }
    | _ =>
      { s with sns := { s.sns with frames := s.sns.frames.map (fun f =>
          if f.jobSeq = r.of_.jobSeq && f.unit = r.of_.unit then { f with bad := addBad b f.bad } else f) } }

/-! ### The DQS delay (R581) -/

/-- Write DQ training of a rank runs again: its write DQ delay is that of its oscillator now, and its sweeps find new VREF codes, of which
the spec states no value: free values, shown for rank 0 (R580 step 6, R587; log 105). -/
def Blk.retrainDq (s : Blk) (ch rank d : Nat) : Blk :=
  let s := s.updMem ch (fun c => c.updRank rank (fun k => { k with dqsDelay := d }))
  if rank = 0 then
    let (v, s) := s.takeFree
    (s.setF Reg.MEMT_VREF (8 * ch + 5) (8 * ch) v.toNat).setF Reg.MEMT_VREF (8 * ch + 21) (8 * ch + 16) (v.toNat / 64)
  else s

/-- The DQS-to-DQ delay of an oscillator count, in ps: half the run time of 512 tCK over the count, as JESD209-4 defines
the oscillator (log 35); none for a count of 0. -/
def dqsDelayOf (rate count : Nat) : Option Nat := if rate * count = 0 then none else some (512000000 / (rate * count))

end Sys2Proof.Machine
end

