-- ==== Sys2Proof/Machine/Sweeps.lean ====
section
/-! DEFINITION. Sweep jobs and the position stream (08): accepted samples, interpolation and along-track position,
profile samples, and the line decoder's reading of Blaze-L (05 R212 to R218). -/
namespace Sys2Proof.Machine

/-! ### Sweeps -/

/-- A sweep by its job and unit number. -/
def Blk.sweep (s : Blk) (jobSeq : Nat) : Option Sweep := s.swp.sweeps.find? (fun w => w.jobSeq = jobSeq)

/-- The job a sweep runs for, as submitted. -/
def Sweep.job (w : Sweep) : Job := { seq := w.jobSeq, desc := w.desc, acceptedAt := 0 }

/-- A sweep changed. -/
def Blk.updSweep (s : Blk) (jobSeq : Nat) (f : Sweep → Sweep) : Blk :=
  { s with swp := { s.swp with sweeps := s.swp.sweeps.map (fun w => if w.jobSeq = jobSeq then f w else w) } }

/-- A code raised once per sweep (R300, R304, R308, R309; 07 R280, R289). What is raised for a sweep job before its boundary is
kept until then. -/
def Blk.once (s : Blk) (jobSeq code : Nat) : Blk :=
  match s.sweep jobSeq with
  | none =>
    if s.swp.early.contains (jobSeq, code) then s
    else ({ s with swp := { s.swp with early := s.swp.early ++ [(jobSeq, code)] } } : Blk).raise code
  | some w =>
    if w.raised.contains code then s
    else (s.updSweep jobSeq (fun w => { w with raised := code :: w.raised })).raise code

/-- A channel's part of a sweep changed. -/
def Sweep.updCh (w : Sweep) (ch : Nat) (f : SwCh → SwCh) : Sweep :=
  { w with chans := w.chans.map (fun c => if c.ch = ch then f c else c) }

/-- RSM.POS_GAP and RSM.POS_LATE for a sweep job: as they stood at its boundary, and until then as they stand (01 R36). -/
def Blk.gapOf (s : Blk) (j : Job) : Nat := match s.sweep j.seq with | some w => w.posGap | none => s.regF Reg.RSM_POS_GAP 11 0
def Blk.lateOf (s : Blk) (j : Job) : Nat := match s.sweep j.seq with | some w => w.posLate | none => s.regF Reg.RSM_POS_LATE 14 0

/-- c of R302 for a sweep job. -/
def Blk.coverOf (s : Blk) (j : Job) : Nat := coverage (s.gapOf j)

/-- The coverage span of a sweep job, in ticks (R302). -/
def Blk.span (s : Blk) (j : Job) : Int × Int := ((j.windowStart : Int) - s.coverOf j, j.windowEnd + s.coverOf j)

/-- When every profile sample of a sweep job is computed or marked (R319). -/
def Blk.profileBy (s : Blk) (j : Job) : Nat := j.windowEnd + s.coverOf j + s.lateOf j + 1000

/-- The live sweep jobs. -/
def Blk.sweepJobs (s : Blk) : List Job := s.jobs.filter (fun j => j.kind = 2)

/-- The tick of a sweep job's boundary (R306). -/
def Blk.sweepDue (s : Blk) (j : Job) : Nat := max j.acceptedAt (j.windowStart - s.regF Reg.RSM_SWEEP_LEAD 21 0)

/-- M of R308. -/
def Job.profileLen (j : Job) : Nat := ceilDiv (1000 * j.trackLength) j.pitch

/-- A channel's safe point (07 R290): outside every window, and at least PDC.SETTLE chain samples before the next one that names
it. -/
def Blk.adcSafe (s : Blk) (ch : Nat) : Bool :=
  let p := (s.pdch ch).preset
  let ticks := ceilDiv (settleN (s.regF (Reg.PDC_CFG ch) 2 0) p * p.d * 5) 4
  s.windowsOpen ch = 0 && s.sweepJobs.all (fun j =>
    !bitN j.channels ch || (match s.sweep j.seq with | some w => w.opened | none => false) || s.now + ticks ≤ j.windowStart)

/-- Channels without an ADC become unavailable at their safe point (07 R290). -/
def Blk.loseAdcs (s : Blk) : Blk :=
  (List.range 8).foldl (fun s ch =>
    if (s.pdch ch).lostOwed && s.adcSafe ch then
      (s.updPd ch (fun c => { c with lost := true, lostOwed := false })).raise 0x6013
    else s) s

/-! ### Positions (R303, R304) -/

/-- What a position's evaluation found: the decision, a late limit missed, and the starts of spacings beyond POS_GAP. -/
structure PosRes where
  dec : PosDec
  late : Bool := false
  gaps : List Int := []
deriving DecidableEq, Repr

/-- The cubic Lagrange value at τ of four samples, in 1/256 nm, rounded half up (R303); times in 1/1024 tick. -/
def lagrange (tau : Int) (p : List (Int × Int)) : Int :=
  let terms := p.map (fun a =>
    p.foldl (fun (q : Q) b => if b.1 = a.1 then q else (q.mul (Q.div ⟨tau - b.1, 1⟩ ⟨a.1 - b.1, 1⟩))) ⟨a.2 * 256, 1⟩)
  (Q.sum terms).rhu

/-- First tick at or after τ + POS_LATE (R304). -/
def lateLimit (late : Nat) (tau : Int) : Int := -(-(tau + 1024 * late) / 1024)

/-- The position at τ for a sweep with this POS_GAP and POS_LATE (R303, R304). -/
def Blk.posAt (s : Blk) (gap late : Nat) (tau : Int) : PosRes :=
  let before := s.swp.pos.samples.filter (fun p => 1024 * p.time ≤ tau)
  let after := s.swp.pos.samples.filter (fun p => tau < 1024 * p.time)
  let lim := lateLimit late tau
  match after, before.reverse with
  | t2 :: t3 :: _, t1 :: t0 :: _ =>
    let four := [t0, t1, t2, t3]
    let gaps := ((four.zip four.tail).filter (fun (a, b) => (gap : Int) < b.time - a.time)).map (fun (a, _) => a.time)
    let late := lim < t2.arrival || lim < t3.arrival
    if gaps.isEmpty && !late then
      { dec := .known (lagrange tau (four.map (fun p => (1024 * p.time, p.x))))
          (lagrange tau (four.map (fun p => (1024 * p.time, p.y)))) }
    else { dec := .invalid, late := late, gaps := gaps }
  | t2 :: t3 :: _, _ => { dec := .invalid, late := lim < t2.arrival || lim < t3.arrival }
  | _, _ => if lim < s.now then { dec := .invalid, late := true } else { dec := .undecided }

/-- One evaluation's effects: a late position counted, a spacing counted once, and their events once per sweep. -/
def Blk.notePos (s : Blk) (jobSeq : Nat) (r : PosRes) : Blk :=
  let s := if r.late then (s.bump Reg.RSM_POS_LATE_COUNT 31 0 1).once jobSeq 0x6063 else s
  if r.gaps.isEmpty then s
  else
    let new := r.gaps.filter (fun g => !s.swp.pos.gapsSeen.contains g)
    let s := { s with swp := { s.swp with pos := { s.swp.pos with gapsSeen := s.swp.pos.gapsSeen ++ new } } }
    (s.bump Reg.RSM_POS_GAPS 31 0 new.length).once jobSeq 0x6064

/-- Every undecided chain sample of a sweep's channel evaluated. -/
def Blk.decideCh (s : Blk) (w : Sweep) (c : SwCh) : Blk :=
  let r := c.smps.map (fun m => if m.pos = .undecided then (m, s.posAt w.posGap w.posLate m.tau) else (m, { dec := m.pos }))
  let s := r.foldl (fun s (m, p) => if m.pos = .undecided then s.notePos w.jobSeq p else s) s
  s.updSweep w.jobSeq (fun w => w.updCh c.ch (fun c => { c with smps := r.map (fun (m, p) => { m with pos := p.dec }) }))

/-- The reference point of a sweep: the earliest accepted sample at or after window_start whose position is valid; none
while that is not decided (R305). -/
def Blk.findRef (s : Blk) (w : Sweep) (start : Nat) : List PosSample → Option (Int × Int × Int)
  | [] => none
  | p :: t =>
    if p.time < start then s.findRef w start t
    else match (s.posAt w.posGap w.posLate (1024 * p.time)).dec with
      | .known x y => some (p.time, x, y)
      | .invalid => s.findRef w start t
      | .undecided => none

/-! ### Along-track position (R305) -/

/-- A sample's attributed time lies at or before a tick. -/
def Smp.upTo (m : Smp) (tick : Nat) : Bool := decide (m.tau ≤ 1024 * (tick : Int))

/-- |a − b| in 1/256 nm, by the integer square root. -/
def chord (a b : Int × Int) : Int :=
  isqrt ((a.1 - b.1).natAbs ^ 2 + (a.2 - b.2).natAbs ^ 2)

/-- s of samples that follow, from a point and its s. -/
def forwardS : Int × Int → Int → List Smp → List (Option Int)
  | _, _, [] => []
  | p, acc, m :: t =>
    match m.pos with
    | .known x y => let a := acc + chord (x, y) p; some a :: forwardS (x, y) a t
    | _ => none :: forwardS p acc t

/-- s of samples that precede, the latest of them first. -/
def backwardS : Int × Int → Int → List Smp → List (Option Int)
  | _, _, [] => []
  | p, acc, m :: t =>
    match m.pos with
    | .known x y => let a := acc - chord (x, y) p; some a :: backwardS (x, y) a t
    | _ => none :: backwardS p acc t

/-- s of every sample, in their order (R305). -/
def alongTrack (ref : Int × Int × Int) (l : List Smp) : List (Option Int) :=
  let pre := l.takeWhile (fun m => m.tau < 1024 * ref.1)
  let post := l.dropWhile (fun m => m.tau < 1024 * ref.1)
  let f := forwardS ref.2 0 post
  let (p0, a0) := match post, f with
    | m :: _, some a :: _ => (match m.pos with | .known x y => ((x, y), a) | _ => (ref.2, 0))
    | _, _ => (ref.2, (0 : Int))
  (backwardS p0 a0 pre.reverse).reverse ++ f

/-! ### Profile samples (07 R276 to R285; R308) -/

/-- What the next profile sample of a channel comes to. -/
inductive NextWord where
  /-- it is not settled yet -/
  | wait
  /-- it is marked unmeasured -/
  | unmeasured (v : Nat)
  /-- its inputs are there, the last of them since `arr`: the word it computes to, or the word of an overspeed sample -/
  | ready (v late : Nat) (arr : Int) (clamp : Bool)
deriving DecidableEq, Repr

/-- Mark bits of R285. -/
def wordBits (sup unm ovs sat conf : Bool) : Nat :=
  b2n sup * 2 ^ 16 + b2n unm * 2 ^ 17 + b2n ovs * 2 ^ 18 + b2n sat * 2 ^ 19 + b2n conf * 2 ^ 20

/-- A word without a value, from those of its inputs that are known. -/
def noValue (ins : List Smp) (unm ovs conf : Bool) : Nat :=
  0x8000 + wordBits (ins.any (·.sup)) unm ovs (ins.any (·.sat)) conf

/-- The bracket j of s_m: s(τ_j) ≤ s_m < s(τ_j+1), both valid. -/
def bracket (sm : Int) (ss : List (Option Int)) : Option Nat :=
  (List.range (ss.length - 1)).find? (fun i =>
    match ss.getD i none, ss.getD (i + 1) none with
    | some a, some b => a ≤ sm && sm < b
    | _, _ => false)

/-- Sixteen inputs with valid positions, strictly increasing (07 R279). -/
def increasing : List (Option Int) → Bool
  | some a :: some b :: t => a < b && increasing (some b :: t)
  | [some _] => true
  | _ => false

/-- Chain samples without a gap between them (07 R290). -/
def unbroken : List Smp → Bool
  | a :: b :: t => b.j = a.j + 1 && unbroken (b :: t)
  | _ => true

/-- The profile sample m from the decided samples and their s; `full` says that nothing more will come. -/
def nextWord (we pitch : Nat) (c : SwCh) (full : Bool) (l : List Smp) (ss : List (Option Int)) : NextWord :=
  let m := c.words.length
  let sm : Int := m * pitch * 256
  let inWin := (l.zip ss).takeWhile (fun p => p.1.upTo we)
  let beyond := full || inWin.length < l.length
  let lim := (inWin.filterMap (·.2)).getLast?
  let unm (ins : List Smp) : NextWord := .unmeasured (noValue ins true false c.conflict)
  if c.shut then unm []
  else if beyond && (match lim with | some e => e < sm | none => true) then unm []
  else if !beyond && (match lim with | some e => e ≤ sm | none => true) then .wait
  else match bracket sm ss with
    | none => if full || (match lim with | some e => sm < e | none => false) then unm [] else .wait
    | some j =>
      let a := (ss.getD j none).getD 0
      let b := (ss.getD (j + 1) none).getD 0
      let f16 := (sm - a) * 65536 / (b - a)
      let ph := ((f16 + 128) / 256).toNat
      let (k, ph) := if ph = 256 then (j + 1, 0) else (j, ph)
      let ins := (l.take (k + 9)).drop (k - 7)
      if k < 7 then unm ins
      else if l.length ≤ k + 8 then (if full then unm ins else .wait)
      else if !increasing ((ss.drop (k - 7)).take 16) || !unbroken ins then unm ins
      else
        let (v, k2) := resample ph (ins.map (·.y))
        let sup := ins.any (·.sup)
        .ready ((if sup then 0x8000 else twos 16 v) + wordBits sup false false (k2 || ins.any (·.sat)) c.conflict)
          (noValue ins false true c.conflict) (((ins.map (·.arr)).getLastD 0)) k2

/-- Nothing more comes for a channel of a closed sweep: nine samples lie beyond the window, or the channel does not run,
or the bound of R319 has passed. -/
def Blk.chFull (s : Blk) (j : Job) (w : Sweep) (c : SwCh) : Bool :=
  w.closed && (9 ≤ (c.smps.filter (fun m => !m.upTo j.windowEnd)).length || !s.chRuns c.ch || c.shut ||
    s.profileBy j ≤ s.now)

/-- A sweep's part of a channel, as the resampler works on it: its job, the part, whether nothing more will come, the decided
samples and their s, and how many samples it clamped. -/
structure Feed where
  job : Job
  c : SwCh
  full : Bool
  smps : List Smp
  ss : List (Option Int)
  clamps : Nat := 0
deriving DecidableEq, Repr

/-- The next profile sample of a part; none while an overspeed one waits for its mark (07 R280). -/
def Feed.next (f : Feed) : NextWord :=
  if f.job.profileLen ≤ f.c.words.length || f.c.late.isSome then .wait
  else nextWord f.job.windowEnd f.job.pitch f.c f.full f.smps f.ss

/-- A word added to a part. -/
def Feed.put (f : Feed) (v : Nat) (clamp : Bool) : Feed :=
  { f with c := { f.c with words := f.c.words ++ [v] }, clamps := f.clamps + b2n clamp }

/-- The part whose next profile sample comes first, by the arrival of its last input. -/
def firstFeed (fs : List Feed) : Option (Nat × NextWord × Int) :=
  (fs.zipIdx.filterMap (fun (f, i) => match f.next with
    | .wait => none
    | .unmeasured v => some (i, NextWord.unmeasured v, 0)
    | .ready v late arr k => some (i, .ready v late arr k, arr))).foldl (fun (m : Option (Nat × NextWord × Int)) x =>
      match m with
      | none => some x
      | some y => if x.2.2 < y.2.2 then some x else some y) none

/-- Profile samples computed or marked as far as they can be, up to `fuel` of them: the parts of one channel share its 50 ns a
sample, and one that would start more than 3.2 µs after its last input is overspeed (07 R280; R309). -/
def resampleAll : Nat → Int → List Feed → Int × List Feed
  | 0, busy, fs => (busy, fs)
  | fuel + 1, busy, fs =>
    match firstFeed fs with
    | none => (busy, fs)
    | some (_, .wait, _) => (busy, fs)
    | some (i, .unmeasured v, _) => resampleAll fuel busy (upd fs i (·.put v false))
    | some (i, .ready v late arr k, _) =>
      let start := max arr busy
      if 1024000 < start - arr then resampleAll fuel busy (upd fs i (fun f => { f with c := { f.c with late := some late } }))
      else resampleAll fuel (start + 16000) (upd fs i (·.put v k))

/-- Profile words of a sweep's channel leave for the external memory (07 R287). -/
def Blk.capture (s : Blk) (w : Sweep) (ch n : Nat) : Blk :=
  if n = 0 then s else s.owe { kind := .profile, jobSeq := w.jobSeq, unit := w.unit, sub := ch } [4 * n]

/-- The part of a channel that a sweep brings to the resampler; none before its reference point is known. -/
def Blk.feedOf (s : Blk) (ch : Nat) (w : Sweep) : Option Feed :=
  match s.jobBySeq w.jobSeq, w.chans.find? (fun c => c.ch = ch) with
  | some j, some c =>
    let pref := c.smps.takeWhile (fun m => m.pos != .undecided)
    let bound := s.profileBy j ≤ s.now
    let full := s.chFull j w c && (pref.length = c.smps.length || bound)
    let ss := match w.ref with
      | some r => alongTrack r pref
      | none => pref.map (fun _ => none)
    if w.isOver || (w.ref.isNone && !full && !c.shut) then none
    else some { job := j, c := c, full := full, smps := pref, ss := ss }
  | _, _ => none

/-- The path of a sweep runs beyond track_length within its window (R308). -/
def Feed.long (f : Feed) : Bool :=
  ((f.smps.zip f.ss).takeWhile (fun p => p.1.upTo f.job.windowEnd)).any (fun p =>
    match p.2 with | some v => (256000 * f.job.trackLength : Int) < v | none => false)

/-- The words of one part are stored and counted, and what they raise is raised (R308; 07 R287, R291). -/
def Blk.feedDone (s : Blk) (old new : Feed) : Blk :=
  let words := new.c.words.drop old.c.words.length
  let s := (s.count Reg.RSM_OUT_COUNT words.length).count Reg.RSM_UNMEASURED (words.filter (bitN · 17)).length
  let s := (s.bump (Reg.PDC_STAGE_SAT new.c.ch) 31 16 new.clamps)
  let s := match s.sweep new.job.seq with | some w => s.capture w new.c.ch words.length | none => s
  let s := if new.clamps != 0 && !old.c.satSeen then s.raise 0x6043 else s
  let c := { new.c with satSeen := old.c.satSeen || new.clamps != 0 }
  let s := s.updSweep new.job.seq (fun w => w.updCh c.ch (fun _ => c))
  if new.long then s.once new.job.seq 0x6062 else s

/-- The profiles of one channel carried on, for every sweep it serves. -/
def Blk.carryCh (s : Blk) (ch : Nat) : Blk :=
  let fs := s.swp.sweeps.filterMap (s.feedOf ch)
  if fs.isEmpty then s
  else
    let fuel := (fs.map (fun f => f.job.profileLen + 1)).foldl (· + ·) 0
    let (busy, gs) := resampleAll fuel (s.pdch ch).busy fs
    (fs.zip gs).foldl (fun s (f, g) => s.feedDone f g) (s.updPd ch (fun c => { c with busy := busy }))

/-- The positions of a live sweep decided, and its reference point found. -/
def Blk.decideSweep (s : Blk) (jobSeq : Nat) : Blk :=
  match s.sweep jobSeq, s.jobBySeq jobSeq with
  | some w, some j =>
    if w.isOver then s
    else
      let s := w.chans.foldl (fun s c => s.decideCh w c) s
      s.updSweep jobSeq (fun w => if w.ref.isSome then w else { w with ref := s.findRef w j.windowStart s.swp.pos.samples })
  | _, _ => s

/-- Every sweep carried on: positions decided, reference points found, profiles produced. -/
def Blk.carrySweeps (s : Blk) : Blk :=
  (List.range 8).foldl Blk.carryCh ((s.swp.sweeps.map (·.jobSeq)).foldl Blk.decideSweep s)

/-- Every profile sample of a sweep has been computed or marked (R318). -/
def Sweep.profiled (w : Sweep) (j : Job) : Bool := w.chans.all (fun c => j.profileLen ≤ c.words.length)

/-! ### The position stream (R299 to R302) -/

/-- The earliest attributed time whose position is still open for a sweep job, in 1/1024 tick. -/
def Blk.openTau (s : Blk) (j : Job) : Int :=
  match s.sweep j.seq with
  | none => (j.windowStart : Int) * 1024 - 1024 * s.coverOf j
  | some w =>
    let of (c : SwCh) : Int :=
      match c.smps.find? (fun m => m.pos = .undecided) with
      | some m => m.tau
      | none =>
        let d := s.pdch c.ch
        match d.line.getLast? with
        | some m => m.tau
        | none => attributed d.preset d.phase (sampleTime s.pd.epoch d.preset.d d.nextJ)
    (w.chans.map of).foldl min ((j.windowEnd : Int) * 1024 + 1024 * s.coverOf j)

/-- The time from which a sweep job still needs samples: the second latest before that. -/
def Blk.needsFrom (s : Blk) (j : Job) : Int :=
  match (s.swp.pos.samples.filter (fun p => 1024 * p.time ≤ s.openTau j)).reverse with
  | _ :: p :: _ => p.time
  | [p] => p.time
  | [] => (s.span j).1

/-- Accepted samples a live sweep still needs: from the second latest before the earliest chain sample whose position is
open, in the sweep's span (R300). -/
def Blk.samplesNeeded (s : Blk) : List PosSample :=
  let l := s.sweepJobs.map (fun j => (s.needsFrom j, (s.span j).2))
  s.swp.pos.samples.filter (fun p => l.any (fun q => q.1 ≤ p.time && p.time ≤ q.2))

/-- RSM.POS_FILL: samples held. -/
def Blk.posFill (s : Blk) : Nat := min 8191 s.samplesNeeded.length

/-- Samples that no live sweep's span contains, nor that of one whose marks Tally has still to measure, are dropped. -/
def Blk.prunePos (s : Blk) : Blk :=
  let jobs := s.sweepJobs ++ s.swp.sweeps.map Sweep.job
  let keep := s.swp.pos.samples.filter (fun p => jobs.any (fun j => (s.span j).1 ≤ p.time && p.time ≤ (s.span j).2))
  let pos : PosSt := { s.swp.pos with samples := keep, gapsSeen := if keep.isEmpty then [] else s.swp.pos.gapsSeen }
  { s with swp := { s.swp with pos := pos, early := s.swp.early.filter (fun p => s.sweepJobs.any (fun j => j.seq = p.1)) } }

/-- Sweeps whose coverage span meets an interval, and those whose span holds a time. -/
def Blk.sweepsOver (s : Blk) (lo hi : Int) : List Nat :=
  (s.sweepJobs.filter (fun j => (s.span j).1 ≤ hi && lo ≤ (s.span j).2)).map (·.seq)
def Blk.sweepsAt (s : Blk) (t : Int) : List Nat := s.sweepsOver t t

/-- A code raised once for each of some sweeps. -/
def Blk.onceEach (s : Blk) (code : Nat) (l : List Nat) : Blk := l.foldl (fun s q => s.once q code) s

/-- One sample of a packet (R300). -/
def Blk.acceptPos (s : Blk) (time x y : Int) : Blk :=
  if (match s.swp.pos.lastTime with | some l => decide (time ≤ l) | none => false) then s.bump Reg.RSM_POS_DISCARD 15 0 1
  else if (s.sweepsAt time).isEmpty then s
  else if 4096 ≤ s.samplesNeeded.length then (s.bump Reg.RSM_POS_DISCARD 31 16 1).onceEach 0x6065 (s.sweepsAt time)
  else
    let p : PosSample := { time := time, x := x, y := y, arrival := s.now }
    let pos : PosSt := { s.swp.pos with samples := s.swp.pos.samples ++ [p], lastTime := some time }
    ({ s with swp := { s.swp with pos := pos } }.count Reg.RSM_POS_COUNT 1).setPair Reg.RSM_POS_LAST_LO (twos 64 time)

/-- RSM.POS_AGE for a newest sample time (R321). -/
def posAge (now : Nat) (t : Int) : Nat :=
  sat 24 ((now : Int) - t).natAbs + (if (now : Int) < t then 2 ^ 31 else 0)

/-- A POS payload (R299, R300): a malformed one is discarded and counted with the link's discarded packets (log 20). A gap in
pos_seq touches the sweeps whose span meets the time from the last accepted sample to the packet's newest (log 43). -/
def Blk.posPacket (s : Blk) (b : List Byte) : Blk :=
  let n := getLe b 4 2
  if n < 1 ∨ 64 < n ∨ b.length ≠ 8 + 16 * n then s.bump Reg.LNK_RX_DISCARD 15 0 1
  else
    let ofs := sgn 32 (s.regN Reg.RSM_TIME_OFS)
    let smp (i : Nat) : Int × Int × Int :=
      ((getLe b (16 + 16 * i) 8 : Int) + ofs, sgn 32 (getLe b (8 + 16 * i) 4), sgn 32 (getLe b (12 + 16 * i) 4))
    let l := (List.range n).map smp
    let seq := getLe b 0 4
    let newest := l.foldl (fun m t => max m t.1) (l.headD (0, 0, 0)).1
    let oldest := l.foldl (fun m t => min m t.1) (s.swp.pos.lastTime.getD newest)
    let s := if (match s.swp.pos.lastSeq with | some q => seq != (q + 1) % 2 ^ 32 | none => false) then
        (s.bump Reg.RSM_POS_SEQ_GAP 31 0 1).onceEach 0x6066 (s.sweepsOver oldest newest)
      else s
    let s := { s with swp := { s.swp with pos := { s.swp.pos with lastSeq := some seq } } }
    let s := (s.setN Reg.RSM_POS_AGE (posAge s.now newest)).prunePos
    (l.foldl (fun s t => s.acceptPos t.1 t.2.1 t.2.2) s).carrySweeps

/-! ### The line decoder (R310 to R315; 05 R213 to R218) -/

/-- A profile word's value, unless it is a gap or lies outside the profile. -/
def profileValue (words : List Nat) (m : Int) : Option Int :=
  if m < 0 then none
  else match words[m.toNat]? with
    | none => none
    | some w => if bitN w 16 || bitN w 17 || bitN w 18 || bitN w 20 then none else some (sgn 16 w)

/-- The index of the profile sample nearest a point of the track, in nm. -/
def nearest (pitch : Nat) (x : Q) : Int := (x.div ⟨pitch, 1⟩).rhu

/-- The centre of position k of a lattice (R313). -/
def latticeAt (a b : Q) (k : Nat) : Q := a.add (b.mul ⟨2 * k + 1, 2⟩)

/-- The value at a position centre. -/
def valueAt (words : List Nat) (pitch : Nat) (a b : Q) (k : Nat) : Option Int :=
  profileValue words (nearest pitch (latticeAt a b k))

/-- The integers from lo to hi. -/
def idxRange (lo hi : Int) : List Int := (List.range (hi + 1 - lo).toNat).map (fun (i : Nat) => lo + (i : Int))

/-- The sample indices that the 56 positions of a lattice span. -/
def markSpan (pitch : Nat) (a b : Q) : List Int :=
  let e := a.add (b.mul ⟨56, 1⟩)
  let lo := if a.le e then a else e
  let hi := if a.le e then e else a
  let m0 := (lo.div ⟨pitch, 1⟩).ceil
  let m1 := (hi.div ⟨pitch, 1⟩).floor
  idxRange m0 m1

/-- A position of a lattice reaches a gap (R314). -/
def reachesGap (words : List Nat) (pitch : Nat) (a b : Q) : Bool :=
  (markSpan pitch a b).any (fun m => (profileValue words m).isNone)

/-- A word of the span is saturated (09 R343). -/
def spanSaturated (words : List Nat) (pitch : Nat) (a b : Q) : Bool :=
  (markSpan pitch a b).any (fun m => match words[m.toNat]? with | some w => bitN w 19 | none => false)

/-- Dot level and background level (R312). -/
def markLevels (words : List Nat) (pitch : Nat) (a b : Q) : Option (Q × Q) :=
  match ([0, 1, 2].mapM (valueAt words pitch a b)), ([52, 53, 54].mapM (valueAt words pitch a b)) with
  | some d, some g => some (⟨d.foldl (· + ·) 0, 3⟩, ⟨g.foldl (· + ·) 0, 3⟩)
  | _, _ => none

/-- How far a value lies beyond the mid level on the dot's side. -/
def beyondMid (bright : Bool) (mid : Q) (v : Int) : Q := let d := (Q.ofInt v).sub mid; if bright then d else d.neg

/-- Indices that follow from m in steps while their values lie beyond the mid level. -/
def runFrom (words : List Nat) (bright : Bool) (mid : Q) (step : Int) : Nat → Int → List Int
  | 0, _ => []
  | fuel + 1, m =>
    match profileValue words m with
    | some v => if Q.lt ⟨0, 1⟩ (beyondMid bright mid v) then m :: runFrom words bright mid step fuel (m + step) else []
    | none => []

/-- The contiguous samples beyond the mid level around the strongest one within half a position of a centre (R312). -/
def dotRun (words : List Nat) (pitch : Nat) (bright : Bool) (mid : Q) (c half : Q) : List Int :=
  let m0 := ((c.sub half).div ⟨pitch, 1⟩).ceil
  let m1 := ((c.add half).div ⟨pitch, 1⟩).floor
  let cand := idxRange m0 m1
  let best := cand.foldl (fun (acc : Option (Int × Q)) m =>
    match profileValue words m with
    | none => acc
    | some v =>
      let e := beyondMid bright mid v
      if !(Q.lt ⟨0, 1⟩ e) then acc
      else match acc with
        | none => some (m, e)
        | some (_, f) => if Q.lt f e then some (m, e) else acc) none
  match best with
  | none => []
  | some (m, _) =>
    let n := words.length + 1
    (runFrom words bright mid (-1) n (m - 1)).reverse ++ runFrom words bright mid 1 n m

/-- The centroid of a dot (R312). -/
def dotCentre (words : List Nat) (pitch : Nat) (bright : Bool) (mid : Q) (c half : Q) : Option Q :=
  let l := (dotRun words pitch bright mid c half).filterMap (fun m =>
    (profileValue words m).map (fun v => (m, beyondMid bright mid v)))
  if l.isEmpty then none
  else
    let num := Q.sum (l.map (fun (m, e) => e.mul ⟨m * pitch, 1⟩))
    let den := Q.sum (l.map (fun p => p.2))
    some (num.div den).norm

/-- Least squares of a and b over centres at positions (R313). -/
def latticeFit (l : List (Nat × Q)) : Q × Q :=
  let n : Q := ⟨l.length, 1⟩
  let x (k : Nat) : Q := ⟨2 * k + 1, 2⟩
  let sx := Q.sum (l.map (fun p => x p.1))
  let sc := Q.sum (l.map (fun p => p.2))
  let sxx := Q.sum (l.map (fun p => (x p.1).mul (x p.1)))
  let sxc := Q.sum (l.map (fun p => (x p.1).mul p.2))
  let b := (((n.mul sxc).sub (sx.mul sc)).div ((n.mul sxx).sub (sx.mul sx))).norm
  (((sc.sub (b.mul sx)).div n).norm, b)

/-- The check value of the first 20 bits (05 R215). -/
def blazeCrc (bits20 : Nat) : Nat :=
  (List.range 20).foldl (fun c i =>
    let fb := b2n (bitN bits20 (19 - i)) != c / 8
    let c := c * 2 % 16
    if fb then Nat.xor c 3 else c) 0

/-- A candidate on its way through the decoder. -/
structure Cand where
  ch : Nat
  bright : Bool
  a : Q
  b : Q
  phat : Q
  est : Q
  contrast : Q
deriving DecidableEq, Repr

/-- A dot of the search: the indices of its first and last sample beyond the level, its centre and its extent, in nm. -/
structure Dot where
  lo : Nat
  hi : Nat
  centre : Q
  width : Q
deriving DecidableEq, Repr

/-- How far a dot reaches from its outermost sample, whose value lies `e` beyond the level, towards a neighbour that lies `out` beyond
it or not at all: linear between the two, half a sample at a gap. -/
def dotRim (e : Int) (out : Option Int) : Q := match out with | some o => ⟨e, (e - o).toNat⟩ | none => ⟨1, 2⟩

/-- The dot of a run of samples beyond the level, with the neighbours on its two sides. -/
def dotOf (pitch : Nat) (before after : Option Int) : List (Nat × Int) → Option Dot
  | [] => none
  | (m, e) :: t =>
    let run := (m, e) :: t
    let last := t.getLastD (m, e)
    some { lo := m, hi := last.1,
           centre := (Q.mul ⟨pitch, 1⟩ ((Q.mk (run.foldl (fun a p => a + p.1 * p.2) 0) 1).div ⟨run.foldl (fun a p => a + p.2) 0, 1⟩)).norm,
           width := Q.mul ⟨pitch, 1⟩ ((Q.add ⟨(last.1 : Int) - m, 1⟩ (dotRim e before)).add (dotRim last.2 after)) }

/-- The dots among samples that follow from index `m`, each by how far it lies beyond the level, none for a gap: the run under way,
and the neighbour before it. -/
def dotsFrom (pitch : Nat) : Nat → Option Int → List (Nat × Int) → List (Option Int) → List Dot
  | _, before, run, [] => (dotOf pitch before none run).toList
  | m, before, run, x :: t =>
    match x with
    | some e =>
      if 0 < e then dotsFrom pitch (m + 1) before (run ++ [(m, e)]) t
      else (dotOf pitch before x run).toList ++ dotsFrom pitch (m + 1) x [] t
    | none => (dotOf pitch before x run).toList ++ dotsFrom pitch (m + 1) x [] t

/-- The dots of a profile in one polarity, beyond a search level. -/
def findDots (words : List Nat) (pitch : Nat) (bright : Bool) (level : Int) : List Dot :=
  dotsFrom pitch 0 none [] ((List.range words.length).map (fun (m : Nat) =>
    (profileValue words m).map (fun v => if bright then v - level else level - v)))

/-- A start group along a profile: its polarity, whether its mark is read against its write direction, and the centres of its three
dots in increasing s (R311). -/
structure Anchor where
  bright : Bool
  reverse : Bool
  c1 : Q
  c2 : Q
  c3 : Q
deriving DecidableEq, Repr

/-- A dot stands within half a pitch of a place. -/
def dotNear (dots : List Dot) (ph x : Q) : Bool := dots.any (fun d => Q.lt (((d.centre.sub x).abs).mul ⟨2, 1⟩) ph)

/-- The start groups that three neighbouring dots make (R311): their spacing is uniform and in its range, no gap lies between them,
and an empty position follows or precedes them. R219 gives a dot 0.35 to 0.60 of a position: one that measures less than 0.325 of the
spacing stands two positions from its neighbour, and more than 0.65 is no dot but what lies between dots; where a quiet zone leaves both sides empty, the side of the mark is the one whose next pair
holds its dot (R213). Both are the model's (DESIGN CHOICE, log 90). -/
def anchorsOf (words : List Nat) (bright : Bool) (dots : List Dot) (d1 d2 d3 : Dot) : List Anchor :=
  let ph := (d3.centre.sub d1.centre).div ⟨2, 1⟩
  let uniform (d : Q) : Bool := Q.le ((d.sub ph).abs.mul ⟨10, 1⟩) ph
  let whole := (idxRange d1.lo d3.hi).all (fun m => (profileValue words m).isSome)
  let sized (d : Dot) : Bool := Q.le (ph.mul ⟨13, 40⟩) d.width && Q.le d.width (ph.mul ⟨26, 40⟩)
  let at_ (k : Int) : Bool := dotNear dots ph (if 0 < k then d3.centre.add (ph.mul ⟨k, 1⟩) else d1.centre.add (ph.mul ⟨k, 1⟩))
  let fwd := !at_ 1
  let rev := !at_ (-1)
  let after := at_ 2 || at_ 3
  let before := at_ (-2) || at_ (-3)
  if !(Q.le ⟨27000, 1⟩ ph && Q.le ph ⟨275000, 1⟩ && uniform (d2.centre.sub d1.centre) && uniform (d3.centre.sub d2.centre) && whole &&
      sized d1 && sized d2 && sized d3) then []
  else
    let a (r : Bool) : Anchor := { bright := bright, reverse := r, c1 := d1.centre, c2 := d2.centre, c3 := d3.centre }
    (if fwd && !(rev && before && !after) then [a false] else []) ++ (if rev && !(fwd && after && !before) then [a true] else [])

/-- The start groups along a profile in one polarity, in order of increasing s. -/
def anchorsFrom (words : List Nat) (bright : Bool) (dots : List Dot) : List Dot → List Anchor
  | d1 :: d2 :: d3 :: t => anchorsOf words bright dots d1 d2 d3 ++ anchorsFrom words bright dots (d2 :: d3 :: t)
  | _ => []

/-- The start groups along a profile, in both polarities (R310, R311). The rules give no level for the search: it comes with the command
(log 90). -/
def findAnchors (words : List Nat) (pitch : Nat) (level : Int) : List Anchor :=
  [true, false].flatMap (fun bright => let dots := findDots words pitch bright level
    anchorsFrom words bright dots dots)

/-- The candidate of a start group (R311, R312). -/
def candOf (words : List Nat) (pitch ch : Nat) (x : Anchor) : Cand :=
  let ph := (x.c3.sub x.c1).div ⟨2, 1⟩
  let b := if x.reverse then ph.neg else ph
  let first := if x.reverse then x.c3 else x.c1
  let a := first.sub (b.div ⟨2, 1⟩)
  let con := match markLevels words pitch a b with
    | some (d, g) => if x.bright then d.sub g else g.sub d
    | none => ⟨0, 1⟩
  { ch := ch, bright := x.bright, a := a, b := b, phat := ph, est := first.add (b.mul ⟨55, 2⟩), contrast := con }

/-- The candidates of one channel of a sweep. -/
def candsOf (pitch : Nat) (levels : List Int) (c : SwCh) : List Cand :=
  (findAnchors c.heard pitch (levels.getD c.ch 0)).map (candOf c.heard pitch c.ch)

/-- Candidates of different channels that lie less than p̂ ÷ 2 apart are one, read where the contrast is largest, ties to
the lowest channel (R315): the ones kept, and how many merged. -/
def mergeCands (l : List Cand) : List Cand × Nat :=
  let sorted := l.mergeSort (fun x y => y.contrast.lt x.contrast || (!(x.contrast.lt y.contrast) && x.ch ≤ y.ch))
  sorted.foldl (fun (acc : List Cand × Nat) c =>
    if acc.1.any (fun k => k.ch != c.ch && Q.lt (((k.est.sub c.est).abs).mul ⟨2, 1⟩) k.phat) then (acc.1, acc.2 + 1)
    else (acc.1 ++ [c], acc.2)) ([], 0)

/-- A fitted or estimated lattice as it is kept: 1/2^16 nm. -/
def keepQ (q : Q) : Int := (q.mul ⟨65536, 1⟩).rhu

/-- The outcome of a candidate (R312 to R314; 05 R216 to R218): its mark, and the point it is ordered by. -/
def decodeMark (words : List Nat) (pitch : Nat) (c : Cand) : Mark × Q :=
  let mk (status fault bits : Nat) (a b mp : Q) : Mark × Q :=
    ({ index := 0, ch := c.ch, status := status, fault := fault, a := keepQ a, b := keepQ b, bright := c.bright,
       x := mp.rhu, pitch := (b.abs.div ⟨10, 1⟩).rhu.toNat, bits := bits }, mp)
  if reachesGap words pitch c.a c.b then mk 0x10 0x6061 0 c.a c.b c.est
  else match markLevels words pitch c.a c.b with
    | none => mk 0x10 0 0 c.a c.b c.est
    | some (d, g) =>
      let con := if c.bright then d.sub g else g.sub d
      let mid := (d.add g).div ⟨2, 1⟩
      if !(Q.lt ⟨0, 1⟩ con) then mk 0x10 0 0 c.a c.b c.est  -- no lattice stands out (DESIGN CHOICE, log 100)
      else
        let v (k : Nat) : Int := (valueAt words pitch c.a c.b k).getD 0
        let dot (k : Nat) : Bool := Q.lt ⟨0, 1⟩ (beyondMid c.bright mid (v k))
        let groups := dot 0 && dot 1 && dot 2 && !dot 3 && !dot 52 && !dot 53 && !dot 54 && dot 55
        let bit (n : Nat) : Bool := if c.bright then v (5 + 2 * n) < v (4 + 2 * n) else v (4 + 2 * n) < v (5 + 2 * n)
        let pairs := (List.range 24).all (fun n => Q.le con ⟨4 * (v (4 + 2 * n) - v (5 + 2 * n)).natAbs, 1⟩)
        let bits := (List.range 24).foldl (fun acc n => acc * 2 + b2n (bit n)) 0
        let ks := [0, 1, 2] ++ (List.range 24).map (fun n => if bit n then 4 + 2 * n else 5 + 2 * n) ++ [55]
        match ks.mapM (fun k => (dotCentre words pitch c.bright mid (latticeAt c.a c.b k) (c.b.abs.div ⟨2, 1⟩)).map (fun x => (k, x))) with
        | none => if Q.lt (c.b.abs) ⟨8 * pitch, 1⟩ then mk 0x16 0 0 c.a c.b c.est else mk 0x12 0 0 c.a c.b c.est
        | some l =>
          let (a, b) := latticeFit l
          let mp := a.add (b.mul ⟨28, 1⟩)
          if reachesGap words pitch a b then mk 0x10 0x6061 0 a b mp
          else if Q.lt b.abs ⟨8 * pitch, 1⟩ then mk 0x16 0 0 a b mp
          else if !(groups && pairs) || blazeCrc (bits / 16) != bits % 16 then mk 0x12 0 0 a b mp
          else mk 0x00 0 bits a b mp

/-- The candidates of a sweep, ordered by measurement point and cut at max_marks (R315): the listed marks with their
indices, how many are unlisted, and how many merged. -/
def readMarks (w : Sweep) (j : Job) (levels : List Int) : List Mark × Nat × Nat :=
  let (kept, merged) := mergeCands (w.chans.flatMap (candsOf j.pitch levels))
  let outs := kept.map (fun c => decodeMark (((w.chans.find? (fun d => d.ch = c.ch)).map (·.heard)).getD []) j.pitch c)
  let sorted := outs.mergeSort (fun x y => x.2.lt y.2 || (!(y.2.lt x.2) && x.1.ch ≤ y.1.ch))
  let listed := ((sorted.take j.maxMarks).map (·.1)).zipIdx.map (fun (m, i) => { m with index := i })
  (listed, outs.length - listed.length, merged)

/-! ### Commands -/

/-- A POS packet arrives; the stream has no path while the link is down (R299). -/
def posPacketIn (payload : List Byte) (s : Blk) : Blk := if s.linkUp then s.posPacket payload else s

/-- Chain samples that reach the resampler are kept by every sweep of their channel whose boundary they do not precede (R306),
until nine lie beyond the window. -/
def Blk.keepSmps (s : Blk) (ch : Nat) (l : List Smp) : Blk :=
  (s.swp.sweeps.map (·.jobSeq)).foldl (fun s q =>
    match s.sweep q, s.jobBySeq q with
    | some w, some j =>
      let since : Int := max ((1024 * w.boundary : Nat) : Int) ((s.span j).1 * 1024)
      let keep (k : List Smp) (m : Smp) : List Smp :=
        if m.tau < since || 9 ≤ (k.filter (fun m => !m.upTo j.windowEnd)).length then k else k ++ [m]
      if w.isOver then s else s.updSweep q (fun w => w.updCh ch (fun c => { c with smps := l.foldl keep c.smps }))
    | _, _ => s) s

/-- ADC samples clipped at the times `clips`, or a clamp of the chain at `t`: 0x6041 or 0x6043 once for each sweep and channel in
whose window one falls (07 R291). -/
def Blk.noteClips (s : Blk) (ch : Nat) (t : Int) (clips : List Int) (sat : Bool) : Blk :=
  (s.swp.sweeps.map (·.jobSeq)).foldl (fun s q =>
    match s.sweep q, s.jobBySeq q with
    | some w, some j =>
      (match w.chans.find? (fun c => c.ch = ch) with
       | none => s
       | some c =>
         let inWin (t : Int) := decide ((1024 * j.windowStart : Int) ≤ t) && decide (t ≤ 1024 * (j.windowEnd : Int))
         let clip := clips.any inWin
         let sat := sat && inWin t
         let s := if clip && !c.clipSeen then s.raise 0x6041 else s
         let s := if sat && !c.satSeen then s.raise 0x6043 else s
         s.updSweep q (fun w => w.updCh ch (fun c => { c with clipSeen := c.clipSeen || clip, satSeen := c.satSeen || sat })))
    | _, _ => s) s

/-- A chain sample (R259): when its newest ADC sample has been taken and the channel runs, it passes the chain, and the
resampler computes the profile samples it completes. -/
def chainSample (ch : Nat) (codes : List Int) (s : Blk) : Blk :=
  let c := s.pdch ch
  if s.chRuns ch && sampleTime s.pd.epoch c.preset.d c.nextJ ≤ 1024 * s.now then
    let ((l, t, clips, sat), s) := s.chainStep ch codes
    ((s.noteClips ch t clips sat).keepSmps ch l).carrySweeps
  else s

/-- CHAIN_SAMPLE (R259). -/
def execChainSample (dt ch : Nat) (codes : List Int) (s : State) : Host.Outcome State Fault Refusal :=
  done s (chainSample ch codes (s.blk.elapse dt))

/-- The head profile sample of a channel is overspeed: it is marked, and 0x6042 raised once per sweep (07 R280). -/
def rsmOverspeed (ch seq : Nat) (s : Blk) : Blk :=
  match s.sweep seq with
  | none => s
  | some w =>
    match w.chans.find? (fun c => c.ch = ch) with
    | none => s
    | some c =>
      match c.late with
      | none => s
      | some v =>
        let s := s.updSweep seq (fun w => w.updCh ch (fun c => { c with late := none, words := c.words ++ [v] }))
        ((((s.count Reg.RSM_OUT_COUNT 1).count Reg.RSM_OVERSPEED 1).capture w ch 1).once seq 0x6042).carrySweeps

/-- RSM_OVERSPEED (07 R280). -/
def execRsmOverspeed (dt ch seq : Nat) (s : State) : Host.Outcome State Fault Refusal :=
  done s (rsmOverspeed ch seq (s.blk.elapse dt))

/-- The late limit of chain sample j's position has expired before its samples were accepted (R304). -/
def posLate (seq ch j : Nat) (s : Blk) : Blk :=
  match s.sweep seq with
  | none => s
  | some w =>
    match (w.chans.find? (fun c => c.ch = ch)).bind (fun c => c.smps.find? (fun m => m.j = j)) with
    | none => s
    | some m =>
      if m.pos = .undecided ∧ lateLimit w.posLate m.tau ≤ s.now then
        let s := s.updSweep seq (fun w => w.updCh ch (fun c =>
          { c with smps := c.smps.map (fun k => if k.j = j then { k with pos := .invalid } else k) }))
        (s.notePos seq { dec := .invalid, late := true }).carrySweeps
      else s

/-- POS_LATE (R304). -/
def execPosLate (dt seq ch j : Nat) (s : State) : Host.Outcome State Fault Refusal := done s (posLate seq ch j (s.blk.elapse dt))

end Sys2Proof.Machine
end

