-- ==== Sys2Proof/Machine/Tally.lean ====
section
/-! DEFINITION. Tally (09): candidates, measurement and the camera model, records, the chain and its blocks, seals, the
seal state, the audit counter and log. -/
namespace Sys2Proof.Machine

/-! ### Parameter blocks and identity (R337 to R341) -/

/-- The algorithm version of stepping C2 (R338). -/
def algVersion : Nat := 0x00020001

/-- The length of a parameter block (R337). -/
def paramLen : Nat := 8872

/-- The factory block (R341). -/
def factoryBlock : List Byte :=
  let d (i : Int) : List Byte := le 8 (F64.ofInt i).bits
  le 2 1 ++ le 2 0 ++ le 4 Config.factoryRev.toNat ++ d 2048 ++ d 1536 ++ d 1 ++ zeros 40 ++
  d 3200 ++ zeros 24 ++ d 3200 ++ zeros 24 ++ le 16 Config.factoryGrid.toNat ++ zeros 8 ++ zeros 8712

/-- The active block. -/
def Blk.activeBlock (s : Blk) : List Byte := s.tly.active.getD factoryBlock
/-- The staged block; before the first unseal it is the active one. -/
def Blk.stagedBlock (s : Blk) : List Byte := s.tly.staged.getD s.activeBlock

/-- SHA-256 of the algorithm version and a block (R338). -/
def identityOf (block : List Byte) : List Byte := sha256 (le 4 algVersion ++ block)

/-- Tally's seed and public key (R323, R346). -/
def tallySeedBytes : List Byte := be 32 Config.tallySeed.toNat
def tallyPublic : List Byte := edPublic tallySeedBytes

/-- A binary64 field of a block. -/
def paramF (b : List Byte) (o : Nat) : F64 := F64.ofBits (getLe b o 8)

/-- The undistorted coordinates xu, yu and w at an image point (R339). -/
def undistort (b : List Byte) (xi yi : F64) : F64 × F64 × F64 :=
  let p := paramF b
  let cx := p 8
  let cy := p 16
  let f := p 24
  let k1 := p 32
  let k2 := p 40
  let k3 := p 48
  let p1 := p 56
  let p2 := p 64
  let h31 := p 120
  let h32 := p 128
  let one := F64.ofInt 1
  let two := F64.ofInt 2
  let xn := (xi.sub cx).div f
  let yn := (yi.sub cy).div f
  let r2 := (xn.mul xn).add (yn.mul yn)
  let rad := one.add (r2.mul (k1.add (r2.mul (k2.add (r2.mul k3)))))
  let xu := ((xn.mul rad).add (((two.mul p1).mul xn).mul yn)).add (p2.mul (r2.add ((two.mul xn).mul xn)))
  let yu := ((yn.mul rad).add (p1.mul (r2.add ((two.mul yn).mul yn)))).add (((two.mul p2).mul xn).mul yn)
  (xu, yu, ((h31.mul xu).add (h32.mul yu)).add one)

/-- A residual node of the grid (R337). -/
def gridNode (b : List Byte) (a c : Nat) (y : Bool) : F64 := F64.ofInt (sgn 32 (getLe b (160 + 8 * (33 * c + a) + 4 * b2n y) 4))

/-- A grid coordinate clamped to 0 to 32, and whether it was outside. -/
def clampGrid (g : F64) : F64 × Bool :=
  if g.lt (F64.ofInt 0) then (F64.ofInt 0, true)
  else if (F64.ofInt 32).lt g then (F64.ofInt 32, true)
  else (g, false)

/-- The field point of an image point in Q12.12: X and Y in nm where they are finite, and outside_model (R339). -/
def cameraModel (b : List Byte) (ix iy : Nat) : Option (Int × Int) × Bool :=
  let p := paramF b
  let img (v : Nat) : F64 := F64.ofQ ⟨v, 4096⟩
  let (xu, yu, w) := undistort b (img ix) (img iy)
  let px := (((p 72).mul xu).add ((p 80).mul yu) |>.add (p 88)).div w
  let py := (((p 96).mul xu).add ((p 104).mul yu) |>.add (p 112)).div w
  let i32 (o : Nat) : F64 := F64.ofInt (sgn 32 (getLe b o 4))
  let (gx, ox) := clampGrid ((px.sub (i32 136)).div (i32 144))
  let (gy, oy) := clampGrid ((py.sub (i32 140)).div (i32 148))
  let a := min gx.q.floor.toNat 31
  let c := min gy.q.floor.toNat 31
  let fx := gx.sub (F64.ofInt a)
  let fy := gy.sub (F64.ofInt c)
  let one := F64.ofInt 1
  let d (y : Bool) : F64 :=
    (((((one.sub fx).mul (one.sub fy)).mul (gridNode b a c y)).add ((fx.mul (one.sub fy)).mul (gridNode b (a + 1) c y))).add
      (((one.sub fx).mul fy).mul (gridNode b a (c + 1) y))).add ((fx.mul fy).mul (gridNode b (a + 1) (c + 1) y))
  let ex := px.add (d false)
  let ey := py.add (d true)
  let fits (v : Int) : Bool := -(2 ^ 31) ≤ v && v < 2 ^ 31
  (if ex.finite && ey.finite && fits ex.q.rhaz && fits ey.q.rhaz then some (ex.q.rhaz, ey.q.rhaz) else none, ox || oy)

/-- A staged block passes the checks of R340. -/
def paramOk (b : List Byte) : Bool :=
  ((List.range 16).all (fun i => (paramF b (8 + 8 * i)).finite)) && (F64.ofInt 0).lt (paramF b 24) &&
  getLe b 0 2 = 1 && getLe b 2 2 = 0 && getLe b 152 8 = 0 &&
  0 < sgn 32 (getLe b 144 4) && 0 < sgn 32 (getLe b 148 4) &&
  [(0, 0), (4096, 0), (0, 3072), (4096, 3072)].all (fun (x, y) =>
    (F64.ofInt 0).lt (undistort b (F64.ofInt x) (F64.ofInt y)).2.2)

/-! ### The chain and its blocks (R345 to R349) -/

/-- The chain value in force: a segment begins with SHA-256(A ‖ LE32(s)) (R346). -/
def Blk.chainValue (s : Blk) : List Byte := s.tly.chain.getD (sha256 (tallyPublic ++ le 4 s.tly.segment))

/-- The first 160 bytes of a block seal (R349). -/
def sealBody (s : Blk) (cause : Nat) : List Byte :=
  let b := s.tly.block
  le 1 0x80 ++ le 1 1 ++ le 2 b.count ++ le 4 s.tly.segment ++ le 8 b.first ++ le 4 s.tly.blockNo ++ le 3 s.tly.counter ++
  le 1 cause ++ le 8 s.now ++ b.hPrev ++ s.chainValue ++ le 4 algVersion ++ zeros 4 ++ identityOf s.activeBlock ++ zeros 24

/-- The open block closes, if there is one (R348). -/
def Blk.closeBlock (s : Blk) (cause : Nat) : Blk :=
  let b := s.tly.block
  if b.count = 0 then s
  else
    let k : TlySeal := { first := b.first, last := b.first + b.count - 1, bytes := sealBody s cause, seg := s.tly.segment }
    { s with tly := { s.tly with toSign := s.tly.toSign ++ [k], block := {}, blockNo := s.tly.blockNo + 1 } }

/-- A record appended to the chain, its block and the measurement store; an epoch record stands first in a new block
(R345, R346, R348). -/
def Blk.appendRaw (s : Blk) (num : Nat) (epoch : Bool) (b : List Byte) : Blk :=
  let s := if epoch then s.closeBlock 0x03 else s
  let h := s.chainValue
  let blk := s.tly.block
  let blk : TlyBlock := if blk.count = 0 then { count := 1, first := num, since := s.now, hPrev := h } else { blk with count := blk.count + 1 }
  let item : MeasItem := { isSeal := false, num := num, bytes := b, seg := s.tly.segment }
  let s := { s with tly := { s.tly with chain := some (sha256 (h ++ b)), block := blk, store := s.tly.store ++ [item] } }
  if 256 ≤ blk.count then s.closeBlock 0x01 else s

/-- The bytes of an epoch record of an event at `time`, after which the counter is `counter` (R345). -/
def Blk.epochBytes (s : Blk) (time counter kind num logEntry detail : Nat) : List Byte :=
  le 4 num ++ le 1 kind ++ le 3 counter ++ le 8 time ++ le 4 s.tly.segment ++ le 4 algVersion ++
  identityOf s.activeBlock ++ le 4 logEntry ++ le 4 detail

/-- Records held. -/
def Blk.recordsHeld (s : Blk) : Nat := (s.tly.store.filter (fun m => !m.isSeal)).length

/-- Epoch records at the head of the queue are appended while the measurement store has a slot for them (R350; log 92). -/
def flushEpochs : Nat → Blk → Blk
  | 0, s => s
  | n + 1, s =>
    match s.tly.taken with
    | .epoch num b :: t =>
      if 4096 ≤ s.recordsHeld then s else flushEpochs n (({ s with tly := { s.tly with taken := t } }).appendRaw num true b)
    | _ => s

/-- Every epoch record that can be appended is. -/
def Blk.flushed (s : Blk) : Blk := flushEpochs (s.tly.taken.length + 1) s

/-- The segment's first record, when it is still owed, with the tick and the counter of the segment's start (R345, R346). -/
def Blk.startSegment (s : Blk) : Blk :=
  match s.tly.startOwed with
  | none => s
  | some (t, c) =>
    let first : TlyItem := .epoch 0 (s.epochBytes t c 0x20 0 0xFFFFFFFF 0)
    ({ s with tly := { s.tly with startOwed := none, nextSeq := 1, taken := first :: s.tly.taken } } : Blk).flushed

/-- An epoch record takes the next seq, and is appended once every candidate taken before it has been (R345, R346). -/
def Blk.epoch (s : Blk) (kind logEntry detail : Nat) : Blk :=
  let s := s.startSegment
  let num := s.tly.nextSeq
  let b := s.epochBytes s.now s.tly.counter kind num logEntry detail
  ({ s with tly := { s.tly with nextSeq := num + 1, taken := s.tly.taken ++ [.epoch num b] } } : Blk).flushed

/-- A new segment (R347): the records that no block covers are never signed; candidates still waiting are dropped. -/
def Blk.newSegment (s : Blk) : Blk :=
  let t := s.tly
  let tly : TlySt := { t with segment := t.segment + 1, startOwed := some (s.now, t.counter), nextSeq := 0, taken := [], chain := none,
                              block := {}, blockNo := 0, toSign := [], signed := 0 }
  { s with tly := tly }.startSegment.raise 0x8022

/-! ### The audit log (R357, R358) -/

/-- Entry 0, written at manufacture. -/
def entryZero : List Byte :=
  le 4 0 ++ le 3 0 ++ le 1 0 ++ le 8 Config.manufactureTime.toNat ++ le 4 0 ++ le 4 0xFFFFFFFF ++ identityOf factoryBlock ++ zeros 8

/-- The log entry of an age, 0 the newest. -/
def Blk.logEntry (s : Blk) (age : Nat) : List Byte :=
  match s.tly.log[age]? with
  | some e => e
  | none => if age + 1 = s.tly.entries then entryZero else zeros 64

/-- An audit-log entry of a type for the epoch record that comes with it (R358). -/
def Blk.logEvent (s : Blk) (type : Nat) : Blk :=
  let e := le 4 s.tly.entries ++ le 3 s.tly.counter ++ le 1 type ++ le 8 s.now ++ le 4 s.tly.segment ++
    le 4 (if s.tly.startOwed.isSome then 1 else s.tly.nextSeq) ++ identityOf s.activeBlock ++ (sha256 (s.logEntry 0)).take 8
  { s with tly := { s.tly with log := (e :: s.tly.log).take 256, entries := s.tly.entries + 1 } }

/-- A logged event and its epoch record. -/
def Blk.logged (s : Blk) (kind : Nat) : Blk := (s.logEvent kind).epoch kind s.tly.entries 0

/-! ### Candidates (R330, R355) -/

/-- The fault with which Tally refuses a candidate whose boundary saw audit counter `audit`, or 0 (R330, R355). -/
def Blk.candFault (s : Blk) (audit : Nat) : Nat :=
  if !s.tly.supplied || s.tly.selftestFailed then 0x8013
  else if s.tly.sealSt != .closed || s.tly.unsealing || audit != s.tly.counter then 0x8012
  else if 4096 ≤ s.recordsHeld + s.tly.taken.length then 0x8011
  else 0

/-- A candidate reaches Tally (R330): the sequence number it gets, or 0xFFFF_FFFF and the fault. -/
def Blk.notifyTally (s : Blk) (audit : Nat) (c : TlyCand) : Nat × Nat × Blk :=
  let f := s.candFault audit
  if f != 0 then (0xFFFFFFFF, f, (s.bump Reg.TLY_REFUSED_CAND 15 0 1).event 0x50 0 f)
  else
    let s := s.startSegment
    let num := s.tly.nextSeq
    let tly : TlySt := { s.tly with nextSeq := num + 1, taken := s.tly.taken ++ [.cand { c with seq := num }] }
    (num % 2 ^ 32, 0, { s with tly := tly })

/-! ### Measurement (R332 to R336, R342 to R344) -/

/-- What a measurement comes to. -/
structure Measured where
  status : Nat
  features : Nat := 0
  fx : Int := 0
  fy : Int := 0
  ix : Nat := 0
  iy : Nat := 0
  angle : Nat := 0
  unc : Nat := 0
  outside : Bool := false
  below : Bool := false
  origin : Bool := false
  reversed : Bool := false
  saturated : Bool := false
deriving DecidableEq, Repr

/-- The field point of an image point, and outside_model; one that R339's arithmetic gives no 32-bit value for is a free value. -/
def Blk.fieldPoint (s : Blk) (ix iy : Nat) : (Int × Int) × Bool × Blk :=
  match cameraModel s.activeBlock ix iy with
  | (some p, out) => (p, out, s)
  | (none, out) => let (f, s) := s.takeFree; ((sgn 32 (f.toNat % 2 ^ 32), sgn 32 (f.toNat / 2 ^ 32)), out, s)

/-- A measurement of a staring candidate from the pixels of its region, its windows placed by the coarse pose and by the extent
that the search finds (R331 to R333, R336, R339, R344). -/
def Blk.measureStaring (s : Blk) (c : TlyCand) (m : TallyMeas) : Measured × Blk :=
  let p : Pose := { x := c.x.toNat, y := c.y, angle := c.angle, pitch := c.pitch }
  let other := c.symbology != 7
  match measureImage c.symbology c.tiles p c.level m.cols m.rows with
  | .error (st, sat) => ({ status := st, below := other, saturated := sat }, s)
  | .ok r =>
    let base : Measured := { status := 0, features := r.features, below := other || r.weak, saturated := r.sat }
    if r.strained c.pitch then ({ base with status := 0x03 }, s)
    else
      let at_ (q : Q) : Nat := ((q.mul ⟨4096, 1⟩).rhu).toNat
      let ix := at_ r.pt.1
      let iy := at_ r.pt.2
      let (v, out, s) := s.fieldPoint ix iy
      ({ base with fx := v.1, fy := v.2, ix := ix, iy := iy, angle := dirAngle r.dir,
                   unc := expanded r.res r.features 4096, outside := out }, s)

/-- An edge between neighbouring samples m and m + 1, in nm: linear interpolation to the mid level (R334). -/
def edgeAt (words : List Nat) (pitch : Nat) (mid : Q) (m : Int) : Option Q :=
  match profileValue words m, profileValue words (m + 1) with
  | some a, some b =>
    some (((Q.ofInt m).add ((mid.sub (Q.ofInt a)).div (Q.ofInt (b - a)))).mul ⟨pitch, 1⟩)
  | _, _ => none

/-- A dot's two edges, or the status that ends the measurement (R334, R344). -/
def dotEdges (words : List Nat) (pitch : Nat) (bright : Bool) (mid : Q) (c half : Q) : Nat ⊕ (Q × Q) :=
  let run := dotRun words pitch bright mid c half
  match run.head?, run.getLast? with
  | some m0, some m1 =>
    (match edgeAt words pitch mid (m0 - 1), edgeAt words pitch mid m1 with
     | some x, some y => .inr (x, y)
     | _, _ => if m0 = 0 || m1 + 1 = words.length then .inl 0x02 else .inl 0x04)
  | _, _ => .inl 0x01

/-- The edges of dots by their positions, up to the first that fails. -/
def dotsEdges (words : List Nat) (pitch : Nat) (bright : Bool) (mid a b : Q) : List Nat → List (Nat × Q × Q) → Nat ⊕ List (Nat × Q × Q)
  | [], acc => .inr acc
  | k :: t, acc =>
    match dotEdges words pitch bright mid (latticeAt a b k) (b.abs.div ⟨2, 1⟩) with
    | .inl st => .inl st
    | .inr x => dotsEdges words pitch bright mid a b t (acc ++ [(k, x)])

/-- The attributed time at which s equals a point, in 1/1024 tick, by linear interpolation between the bracketing chain
samples (08 R316). -/
def tauAt (sm : Q) : List (Int × Int) → Option Int
  | (t0, a) :: (t1, b) :: rest =>
    if Q.le (Q.ofInt a) sm && Q.lt sm (Q.ofInt b) then
      some ((Q.ofInt t0).add (((sm.sub (Q.ofInt a)).mul (Q.ofInt (t1 - t0))).div (Q.ofInt (b - a)))).rhu
    else tauAt sm ((t1, b) :: rest)
  | _ => none

/-- Positions of the dots of a mark on Tally's own levels (05 R212, R213): of each pair, the position further beyond the mid level. -/
def dotPositions (words : List Nat) (pitch : Nat) (bright : Bool) (a b : Q) : List Nat :=
  let v (k : Nat) : Int := (valueAt words pitch a b k).getD 0
  [0, 1, 2] ++ (List.range 24).map (fun n =>
    if (if bright then v (5 + 2 * n) < v (4 + 2 * n) else v (4 + 2 * n) < v (5 + 2 * n)) then 4 + 2 * n else 5 + 2 * n) ++ [55]

/-- The residuals of 56 edges about a lattice and one dot width: half the mean distance of the two edges to either side of each
lattice point. -/
def edgeResiduals (a b : Q) (l : List (Nat × Q × Q)) : List Q :=
  let half := (((Q.sum (l.map (fun e => e.2.2.sub e.2.1))).div ⟨2 * max 1 l.length, 1⟩)).norm
  l.flatMap (fun e => let c := latticeAt a b e.1; [(e.2.1.sub (c.sub half)).norm, (e.2.2.sub (c.add half)).norm])

/-- The chain samples of a sweep's channel with a valid s: attributed time, s. -/
def Sweep.path (w : Sweep) (c : SwCh) : List (Int × Int) :=
  match w.ref with
  | some r => ((c.smps.map (·.tau)).zip (alongTrack r (c.smps.takeWhile (fun k => k.pos != .undecided)))).filterMap
      (fun (t, v) => v.map (fun v => (t, v)))
  | none => []

/-- Tally's own measurement of a Blaze-L mark on its profile: its own levels at the lattice that the coarse pose gives, its own
edges, its own fit, and the gap test on both lattices (R334, R336, R344; 08 R316). -/
def Blk.measureSweep (s : Blk) (w : Sweep) (j : Job) (k : TlyCand) : Measured :=
  let c := (w.chans.find? (fun c => c.ch = k.ch)).getD { ch := k.ch }
  let step : Q := ⟨10 * k.pitch, 1⟩
  let b : Q := if k.reversed then step.neg else step
  let a : Q := (Q.ofInt k.x).sub (b.mul ⟨28, 1⟩)
  let base : Measured :=
    { status := 0, below := 2000 < j.pitch, reversed := k.reversed, saturated := spanSaturated c.heard j.pitch a b,
      origin := match w.ref with | some r => r.1 != (j.windowStart : Int) | none => false }
  if reachesGap c.heard j.pitch a b then { base with status := 0x04 }
  else match markLevels c.heard j.pitch a b with
    | none => { base with status := 0x01 }
    | some (d, g) =>
      let mid := (d.add g).div ⟨2, 1⟩
      let bright := g.lt d
      match dotsEdges c.heard j.pitch bright mid a b (dotPositions c.heard j.pitch bright a b) [] with
      | .inl st => { base with status := st }
      | .inr l =>
        let (a2, b2) := latticeFit (l.map (fun e => (e.1, (e.2.1.add e.2.2).div ⟨2, 1⟩)))
        let res := edgeResiduals a2 b2 l
        if reachesGap c.heard j.pitch a2 b2 then { base with status := 0x04, features := 56 }
        else if res.any (fun r => b2.abs.lt (r.abs.mul ⟨4, 1⟩)) then { base with status := 0x03, features := 56 }
        else
          let mp := a2.add (b2.mul ⟨28, 1⟩)
          match (tauAt (mp.mul ⟨256, 1⟩) (w.path c)).map (fun t => (s.posAt w.posGap w.posLate t).dec) with
          | some (.known x y) =>
            { base with features := 56, fx := Q.rhaz ⟨x, 256⟩, fy := Q.rhaz ⟨y, 256⟩, ix := twos 32 mp.rhu,
                        iy := min 0xFFFFFFFF ((b2.abs.div ⟨10, 1⟩).rhu).toNat,
                        unc := expanded (res.map (fun r => r.mul r)) 56 1, reversed := b2.n < 0 }
          | _ => { base with status := 0x04 }

/-- The flags byte of a record (R343). -/
def Measured.flags (m : Measured) (clipped tamper : Bool) : Nat :=
  b2n m.outside + 2 * b2n clipped + 4 * b2n tamper + 8 * b2n m.below + 16 * b2n m.origin + 32 * b2n m.reversed +
  64 * b2n m.saturated

/-- A measurement record (R342). -/
def Blk.recordBytes (s : Blk) (c : TlyCand) (m : Measured) : List Byte :=
  let ok := m.status = 0
  let f (n v : Nat) : List Byte := le n (if ok then v else 0)
  le 4 c.seq ++ le 1 (if c.sweep then 2 else 1) ++ le 1 c.symbology ++ le 1 m.status ++ le 1 (sat 8 m.features) ++ le 8 s.now ++
  le 8 c.start ++ le 4 c.tag ++ le 4 c.unit ++ le 1 c.index ++ le 1 c.writer ++ le 2 c.layer ++ le 2 c.fragment ++
  le 1 c.markIndex ++ le 1 (m.flags c.clipped s.tly.tampOpen) ++ f 4 (twos 32 m.fx) ++ f 4 (twos 32 m.fy) ++ f 4 m.ix ++
  f 4 m.iy ++ f 2 m.angle ++ f 2 m.unc ++ le 3 s.tly.counter ++ zeros 1

/-- The candidate at the head of Tally's queue gets its record (R335); the candidate and the measurement. -/
def Blk.tallyAppend (s : Blk) (m : TallyMeas) : Option (TlyCand × Measured) × Blk :=
  match s.tly.taken with
  | .cand c :: t =>
    let s := { s with tly := { s.tly with taken := t } }
    let (r, s) :=
      if c.sweep then
        match s.sweep c.jobSeq with
        | some w => (s.measureSweep w w.job c, s)
        | none => ({ status := 0x04 }, s)
      else s.measureStaring c m
    (some (c, r), (s.appendRaw c.seq false (s.recordBytes c r)).flushed)
  | _ => (none, s)

/-! ### Commands -/

/-- The open block is 10 ms old (R348). After a loss of VDD_TLY none closes or is signed any more (R347). -/
def blockCloseAge (s : Blk) : Blk :=
  if s.tly.supplied && s.tly.block.count != 0 && s.tly.block.since + 3125000 ≤ s.now then s.closeBlock 0x02 else s

/-- BLOCK_CLOSE_AGE (R348). -/
def execBlockCloseAge (dt : Nat) (s : State) : Host.Outcome State Fault Refusal := done s (blockCloseAge (s.blk.elapse dt))

/-- A seal placed after the last record of its block: behind what belongs to earlier segments, and to its own up to that record. -/
def placeSeal (k : TlySeal) (b : List Byte) (l : List MeasItem) : List MeasItem :=
  let before (m : MeasItem) : Bool := m.seg < k.seg || (m.seg = k.seg && m.num ≤ k.last)
  l.takeWhile before ++ [{ isSeal := true, num := k.first, bytes := b, seg := k.seg }] ++ l.dropWhile before

/-- The oldest closed block is signed and its seal stored, once one of the 32 slots is free (R348 to R350). -/
def blockSigned (s : Blk) : Blk :=
  match s.tly.toSign with
  | [] => s
  | k :: t =>
    if !s.tly.supplied || 32 ≤ (s.tly.store.filter (fun m => m.isSeal)).length then s
    else
      let b := k.bytes ++ edSign tallySeedBytes k.bytes
      { s with tly := { s.tly with toSign := t, store := placeSeal k b s.tly.store, signed := s.tly.signed + 1 } }

/-- BLOCK_SIGNED (R348). -/
def execBlockSigned (dt : Nat) (s : State) : Host.Outcome State Fault Refusal := done s (blockSigned (s.blk.elapse dt))

/-- A qualified change of TAMP_N is recorded (R352). -/
def Blk.recordTamper (s : Blk) (isOpen : Bool) : Blk :=
  (s.logged (if isOpen then 0x24 else 0x25)).raise (if isOpen then 0x8041 else 0x8042)

/-- Changes of TAMP_N are not recorded now: the ring stands still (R345), or a seal command that has won runs on (R356). -/
def Blk.tamperHeld (s : Blk) : Bool := !s.time.ringRuns || s.tly.unsealing || s.tly.sealSt == .resealing

/-- The changes that wait are recorded, in order, once nothing holds them. -/
def Blk.tamperOwed (s : Blk) : Blk :=
  if s.tamperHeld then s
  else s.tly.tampOwed.foldl (fun s o => s.recordTamper o) { s with tly := { s.tly with tampOwed := [] } }

/-- A TAMP_N level has held for 10 ms (R352); its record stands behind those that wait. -/
def tamperChange (isOpen : Bool) (s : Blk) : Blk :=
  if isOpen = s.tly.tampOpen ∨ !s.tly.supplied then s
  else Blk.tamperOwed { s with tly := { s.tly with tampOpen := isOpen, tampOwed := s.tly.tampOwed ++ [isOpen] } }

/-- TAMPER_CHANGE (R352). -/
def execTamperChange (dt : Nat) (isOpen : Bool) (s : State) : Host.Outcome State Fault Refusal :=
  done s (tamperChange isOpen (s.blk.elapse dt))

/-- A seal command refused (R354): the fault is shown, and busy stays while an earlier command still runs (R361). -/
def Blk.sealRefused (s : Blk) (code : Nat) : Blk :=
  ((s.bump Reg.TLYA_REFUSED 15 0 1).setF Reg.TLY_SEAL_RESULT 31 16 code).raise code

/-- SEAL_CMD 0x01 (R353, R354). -/
def Blk.unseal (s : Blk) : Nat × Blk :=
  let code :=
    if s.tly.sealSt != .closed || s.tly.unsealing || s.regF Reg.TLY_SEAL_ARG 23 0 != s.tly.counter then 0x8031
    else if s.tly.tampOpen then 0x8032
    else if s.tly.counter = 0xFFFFFE then 0x8034
    else 0
  if code != 0 then (code, s.sealRefused code)
  else
    let s := s.closeBlock 0x03
    let tly : TlySt := { s.tly with counter := s.tly.counter + 1, unsealing := true, staged := some s.activeBlock }
    (0, ({ s with tly := tly }).setN Reg.TLY_SEAL_RESULT 1)

/-- SEAL_CMD 0x02 (R353, R354). -/
def Blk.reseal (s : Blk) : Nat × Blk :=
  let code :=
    if s.tly.sealSt != .unsealed || s.regF Reg.TLY_SEAL_ARG 23 0 != s.tly.counter then 0x8031
    else if s.tly.tampOpen then 0x8032
    else if !paramOk s.stagedBlock then 0x8033
    else 0
  if code != 0 then (code, s.sealRefused code)
  else (0, ({ s with tly := { s.tly with sealSt := .resealing } }).setN Reg.TLY_SEAL_RESULT 1)

/-- A value written to TLY.SEAL_CMD by a Seal-role session (R353); any other code is a wrong command for every state. -/
def Blk.sealCmd (s : Blk) (v : Nat) : Nat × Blk :=
  if v = 1 then s.unseal else if v = 2 then s.reseal else (0x8031, s.sealRefused 0x8031)

/-- The unseal completes (R353); a change of TAMP_N that it held off follows (R356). -/
def unsealComplete (s : Blk) : Blk :=
  if !s.tly.unsealing then s
  else
    let s := { s with tly := { s.tly with unsealing := false, sealSt := .unsealed } }
    (((s.logged 0x22).setF Reg.TLY_SEAL_RESULT 0 0 0).event 0x50 3 0x0000).tamperOwed

/-- UNSEAL_COMPLETE (R353). -/
def execUnsealComplete (dt : Nat) (s : State) : Host.Outcome State Fault Refusal := done s (unsealComplete (s.blk.elapse dt))

/-- A candidate that Tally took waits for its record. -/
def Blk.candWaits (s : Blk) : Bool := s.tly.taken.any (fun i => match i with | .cand _ => true | .epoch _ _ => false)

/-- The reseal completes (R353), once the candidates taken before the unseal have their records, which keep the old identity
(R355). -/
def resealComplete (s : Blk) : Blk :=
  if s.tly.sealSt != .resealing || s.candWaits then s
  else
    let s := s.closeBlock 0x03
    let tly : TlySt := { s.tly with sealSt := .closed, active := some s.stagedBlock, counter := s.tly.counter + 1 }
    let s := { s with tly := tly }
    ((((s.logged 0x23).setF Reg.TLY_SEAL_RESULT 0 0 0).event 0x50 3 0x0000).engTag .tallyParam).tamperOwed

/-- RESEAL_COMPLETE (R355). -/
def execResealComplete (dt : Nat) (s : State) : Host.Outcome State Fault Refusal := done s (resealComplete (s.blk.elapse dt))

/-- A word of a block replaced. -/
def setWord (b : List Byte) (o v : Nat) : List Byte := b.take o ++ le 4 v ++ b.drop (o + 4)

/-- The caller's PARAM_SEL after an access to PARAM_DATA (R363). -/
def nextParamSel (sel : Nat) : Nat :=
  let o := fld sel 13 0 + 4
  putFld sel 13 0 (if paramLen ≤ o then 0 else o)

/-- A write of TLYC.PARAM_DATA from a Seal-role session (R356, R363). -/
def Blk.paramWrite (s : Blk) (who : Who) (v : Nat) : Nat × Blk :=
  let sel := s.selector who 0
  if s.tly.sealSt != .unsealed then (0x8035, s.raise 0x8035)
  else
    let s := { s with tly := { s.tly with staged := some (setWord s.stagedBlock (fld sel 13 0) v) } }
    (0, s.setSelector who 0 (nextParamSel sel))

/-- A read of TLYC.PARAM_DATA: the selected word, and the caller's offset advanced (R363). -/
def Blk.paramRead (s : Blk) (who : Who) : Nat × Blk :=
  let sel := s.selector who 0
  (getLe (if bitN sel 16 then s.stagedBlock else s.activeBlock) (fld sel 13 0) 4, s.setSelector who 0 (nextParamSel sel))

/-- Tally's logic restarts (R328): the segment goes on when its store passes the check, or a new one begins (R347). -/
def Blk.tallyRestart (s : Blk) (storeOk : Bool) (detail : Nat) : Blk :=
  if storeOk then (s.epoch 0x21 0xFFFFFFFF detail).raise 0x8021
  else (s.raise 0x8023).newSegment

/-- Tally's watchdog restarts its logic (R328). -/
def tallyWatchdog (storeOk : Bool) (s : Blk) : Blk := if s.tly.supplied then s.tallyRestart storeOk 2 else s

/-- TLY.STATE (R361). -/
def Blk.tlyState (s : Blk) : Nat :=
  (match s.tly.sealSt with | .closed => 0 | .unsealed => 1 | .resealing => 2) + 4 * b2n s.tly.tampOpen +
  8 * b2n s.tly.selftestFailed + 16 * b2n (4096 ≤ s.recordsHeld + s.tly.taken.length)

end Sys2Proof.Machine
end

