-- ==== Sys2Proof/Machine/Fits.lean ====
section
/-! DEFINITION. The arithmetic of a registration campaign's fit (10 R383 to R393): residuals, the delta grid, the polynomial
by normal equations and Cholesky in binary64, and the writer sections of the correction packet. -/
namespace Sys2Proof.Machine

/-- The field frame of R386 and sigma of R387, in nm. -/
structure FieldFrame where
  x0 : Int
  y0 : Int
  step : Nat
  sigma : Nat
deriving DecidableEq, Repr

/-- The frame as the ADM page's registers stand. -/
def Blk.fieldFrame (s : Blk) : FieldFrame :=
  { x0 := sgn 32 (s.regN Reg.ADM_CAL_FIELD_X0), y0 := sgn 32 (s.regN Reg.ADM_CAL_FIELD_Y0),
    step := s.regF Reg.ADM_CAL_FIELD_STEP 23 0, sigma := s.regF Reg.ADM_CAL_FIT 23 0 }

/-- A used entry on one axis: its nominal position and its residual (R383). -/
structure Resid where
  x : Int
  y : Int
  r : Int
deriving DecidableEq, Repr

/-- An entry gives evidence on an axis (R383). -/
def Job.axisEntry (j : Job) (i : Nat) (yAxis : Bool) : Bool := j.markKind i = 0 || (if yAxis then 4 ≤ j.markIndex i else j.markIndex i ≤ 3)

/-- The residuals of a writer on one axis. -/
def residuals (j : Job) (c : Campaign) (writer : Nat) (yAxis : Bool) : List Resid :=
  c.entries.zipIdx.filterMap (fun (e, i) =>
    match e with
    | some e =>
      if e.used && j.markWriter i = writer && j.axisEntry i yAxis then
        some { x := j.markX i, y := j.markY i, r := if yAxis then e.y - j.markY i else e.x - j.markX i }
      else none
    | none => none)

/-- rms and largest absolute error of some errors, in nm, rounded half up and saturating (R390). -/
def errorFigures (l : List Q) : Nat × Nat :=
  if l.isEmpty then (0, 0)
  else
    let m := (Q.sum (l.map (fun e => e.mul e))).mul ⟨4, l.length⟩
    let worst := l.foldl (fun (a : Q) e => if a.lt e.abs then e.abs else a) ⟨0, 1⟩
    (sat 16 ((isqrt m.floor.toNat + 1) / 2), sat 16 worst.rhu.toNat)

/-! ### The delta grid (R387) -/

/-- Σ w and Σ w r of a node, in units of 2^−160. -/
def nodeSums (f : FieldFrame) (l : List Resid) (x y : Int) : Nat × Int :=
  l.foldl (fun (acc : Nat × Int) e =>
    let w := expNeg ⟨((x - e.x) ^ 2 + (y - e.y) ^ 2), 2 * f.sigma ^ 2⟩
    (acc.1 + w, acc.2 + w * e.r)) (0, 0)

/-- A node's stored value in units of 4 nm, whether it was clamped, and whether Σ w ≥ 1. -/
def nodeValue (f : FieldFrame) (l : List Resid) (a b : Nat) : Int × Bool × Bool :=
  let (w, wr) := nodeSums f l (f.x0 + a * f.step) (f.y0 + b * f.step)
  let v := Q.rhaz ⟨-(20 * wr), 4 * (2 ^ 160 + 20 * w)⟩
  (clampI (-32767) 32767 v, v < -32767 || 32767 < v, 2 ^ 160 ≤ w)

/-- The 4 225 nodes of one axis, node (a, b) at index 65 b + a. -/
def gridNodes (f : FieldFrame) (l : List Resid) : List (Int × Bool × Bool) :=
  (List.range 65).flatMap (fun b => (List.range 65).map (fun a => nodeValue f l a b))

/-- A coordinate in cells, clamped to the grid. -/
def gridCoord (x x0 : Int) (step : Nat) : Q :=
  if x < x0 then ⟨0, 1⟩ else if x0 + 64 * step < x then ⟨64, 1⟩ else ⟨x - x0, max 1 step⟩

/-- The stored correction at a point, in nm: bilinear between nodes (R387). -/
def gridAt (f : FieldFrame) (v : List Int) (x y : Int) : Q :=
  let gx := gridCoord x f.x0 f.step
  let gy := gridCoord y f.y0 f.step
  let a := min gx.floor.toNat 63
  let b := min gy.floor.toNat 63
  let fx := gx.sub ⟨a, 1⟩
  let fy := gy.sub ⟨b, 1⟩
  let node (a b : Nat) : Q := ⟨4 * v.getD (65 * b + a) 0, 1⟩
  let one : Q := ⟨1, 1⟩
  let w := (one.sub fx).mul (one.sub fy) |>.mul (node a b)
  let w := w.add ((fx.mul (one.sub fy)).mul (node (a + 1) b))
  let w := w.add (((one.sub fx).mul fy).mul (node a (b + 1)))
  w.add ((fx.mul fy).mul (node (a + 1) (b + 1)))

/-! ### The polynomial (R388) -/

/-- Terms of order n: exponents of u and v in the order of R388. -/
def polyTerms (n : Nat) : List (Nat × Nat) :=
  (List.range (n + 1)).flatMap (fun d => (List.range (d + 1)).map (fun j => (d - j, j)))

/-- A power in binary64. -/
def F64.pow (x : F64) : Nat → F64
  | 0 => F64.ofInt 1
  | n + 1 => (x.pow n).mul x

/-- The normalised coordinates u and v (R386). -/
def normUV (f : FieldFrame) (x y : Int) : F64 × F64 :=
  let h : F64 := F64.ofInt (32 * f.step)
  ((F64.ofInt (x - f.x0 - 32 * f.step)).div h, (F64.ofInt (y - f.y0 - 32 * f.step)).div h)

/-- The terms' values at a point. -/
def termValues (f : FieldFrame) (terms : List (Nat × Nat)) (x y : Int) : List F64 :=
  let (u, v) := normUV f x y
  terms.map (fun t => (u.pow t.1).mul (v.pow t.2))

/-- Sum in binary64, from the first on. -/
def F64.sum (l : List F64) : F64 := l.foldl F64.add (F64.ofInt 0)

/-- One row of the Cholesky factor, from the rows above it and the row of the matrix: the row up to its diagonal, and the
pivot. -/
def cholRow (above : List (List F64)) (row : List F64) : List F64 × F64 :=
  let k := above.length
  let left := above.foldl (fun (acc : List F64) (r : List F64) =>
    let i := acc.length
    let d := F64.sum ((acc.zip r).map (fun p => p.1.mul p.2))
    acc ++ [((row.getD i (F64.ofInt 0)).sub d).div (r.getD i (F64.ofInt 1))]) []
  let p := (row.getD k (F64.ofInt 0)).sub (F64.sum (left.map (fun x => x.mul x)))
  (left ++ [p.sqrt], p)

/-- The Cholesky factor of a matrix by rows, or none at a pivot below 10^−12 of the largest diagonal term (R389). -/
def cholesky (a : List (List F64)) : Option (List (List F64)) :=
  let big := (a.zipIdx.map (fun (r, i) => (r.getD i (F64.ofInt 0)).q)).foldl (fun (m : Q) x => if m.lt x then x else m) ⟨0, 1⟩
  a.foldl (fun (acc : Option (List (List F64))) row =>
    match acc with
    | none => none
    | some l =>
      let (r, p) := cholRow l row
      if !p.finite || Q.lt (p.q.mul ⟨10 ^ 12, 1⟩) big || p.q.n ≤ 0 then none else some (l ++ [r])) (some [])

/-- L y = b. -/
def forwardSub (l : List (List F64)) (b : List F64) : List F64 :=
  (l.zip b).foldl (fun (y : List F64) (p : List F64 × F64) =>
    let d := F64.sum ((y.zip p.1).map (fun q => q.1.mul q.2))
    y ++ [(p.2.sub d).div (p.1.getD y.length (F64.ofInt 1))]) []

/-- Lᵀ x = y. -/
def backwardSub (l : List (List F64)) (y : List F64) : List F64 :=
  let n := l.length
  (List.range n).foldl (fun (x : List F64) k =>
    let i := n - 1 - k
    -- x holds the solution from i + 1 on
    let d := F64.sum (x.zipIdx.map (fun (v, m) => ((l.getD (i + 1 + m) []).getD i (F64.ofInt 0)).mul v))
    (((y.getD i (F64.ofInt 0)).sub d).div ((l.getD i []).getD i (F64.ofInt 1))) :: x) []

/-- The correction coefficients of one axis: the negated fitted ones; or none when the fit cannot be made. -/
def polyFit (f : FieldFrame) (n : Nat) (l : List Resid) : Option (List F64) :=
  let terms := polyTerms n
  if l.length < terms.length then none
  else
    let rows := l.map (fun e => (termValues f terms e.x e.y, F64.ofInt e.r))
    let k := terms.length
    let col (i : Nat) (t : List F64) : F64 := t.getD i (F64.ofInt 0)
    let a := (List.range k).map (fun i => (List.range k).map (fun m => F64.sum (rows.map (fun r => (col i r.1).mul (col m r.1)))))
    let b := (List.range k).map (fun i => F64.sum (rows.map (fun r => (col i r.1).mul r.2)))
    (cholesky a).map (fun c => (backwardSub c (forwardSub c b)).map F64.neg)

/-- The correction of stored coefficients at a point, in nm. -/
def polyAt (f : FieldFrame) (n : Nat) (c : List F64) (x y : Int) : Q :=
  let h : Q := ⟨32 * f.step, 1⟩
  let u := (Q.ofInt (x - f.x0 - 32 * f.step)).div h
  let v := (Q.ofInt (y - f.y0 - 32 * f.step)).div h
  let pw (q : Q) (k : Nat) : Q := ⟨q.n ^ k, q.d ^ k⟩
  Q.sum ((c.zip (polyTerms n)).map (fun (a, t) => (a.q.mul (pw u t.1)).mul (pw v t.2)))

/-! ### The packet (R389, R391 to R393) -/

/-- What a fit makes of one axis: status, whether a value was clamped, body bytes, errors, and the nodes with Σ w ≥ 1. -/
structure AxisFit where
  status : Nat
  clamped : Bool
  body : List Byte
  errors : List Q
  cover : List Bool
deriving DecidableEq, Repr

/-- The fit of one axis. -/
def fitAxis (f : FieldFrame) (j : Job) (l : List Resid) : AxisFit :=
  if j.fit = 0 then
    let nodes := gridNodes f l
    let v := nodes.map (·.1)
    { status := if l.isEmpty then 3 else if l.length = 1 then 1 else 0, clamped := nodes.any (·.2.1),
      body := v.flatMap (fun x => le 2 (twos 16 x)), errors := l.map (fun e => (Q.ofInt e.r).add (gridAt f v e.x e.y)),
      cover := nodes.map (·.2.2) }
  else
    let k := (polyTerms j.order).length
    match polyFit f j.order l with
    | some c =>
      { status := if l.length = k then 1 else 0, clamped := false, body := c.flatMap (fun x => le 8 x.bits),
        errors := l.map (fun e => (Q.ofInt e.r).add (polyAt f j.order c e.x e.y)), cover := [] }
    | none =>
      { status := if l.isEmpty then 3 else 2, clamped := false, body := zeros (8 * k), errors := l.map (fun e => Q.ofInt e.r), cover := [] }

/-- A writer's section (R393). -/
def writerSection (f : FieldFrame) (j : Job) (c : Campaign) (w : Nat) : List Byte :=
  let lx := residuals j c w false
  let ly := residuals j c w true
  let x := fitAxis f j lx
  let y := fitAxis f j ly
  let (rx, mx) := errorFigures x.errors
  let (ry, my) := errorFigures y.errors
  let cover := ((x.cover.zip y.cover).filter (fun p => p.1 || p.2)).length
  le 1 w ++ le 1 (x.status + 4 * y.status + 16 * b2n (x.clamped || y.clamped)) ++ le 2 lx.length ++ le 2 ly.length ++
  le 2 rx ++ le 2 ry ++ le 2 mx ++ le 2 my ++ le 2 cover ++ x.body ++ y.body

/-- The entry table (R392), padded to a multiple of 8 bytes. -/
def entryTable (c : Campaign) : List Byte :=
  let first := c.firstSeq.getD 0
  let t := c.entries.flatMap (fun e => le 2 (match e with
    | some e => (e.seq + 2 ^ 32 - first) % 2 ^ 32 % 32768 + b2n e.used * 32768
    | none => 0x7FFF))
  t ++ zeros ((8 - t.length % 8) % 8)

/-- Entries settled, and those of them used. -/
def Campaign.settled (c : Campaign) : Nat := (c.entries.filter Option.isSome).length
def Campaign.used (c : Campaign) : Nat :=
  (c.entries.filter (fun e => match e with | some e => e.used | none => false)).length

/-- The correction packet (R391). -/
def corrPacket (s : Blk) (j : Job) (c : Campaign) : List Byte :=
  let f := s.fieldFrame
  let head := le 1 0x10 ++ le 1 1 ++ le 1 j.fit ++ le 1 j.order ++ le 4 j.tag ++ le 4 j.seq ++ le 4 j.writers ++
    le 8 (c.start.getD 0) ++ le 8 s.now ++ le 8 c.deadline ++ le 4 c.segment ++ le 4 (c.firstSeq.getD 0) ++ le 4 c.lastSeq ++
    le 2 j.markCount ++ le 2 c.settled ++ le 2 c.used ++ le 1 (b2n c.byClose) ++ le 1 1 ++ le 4 (twos 32 f.x0) ++
    le 4 (twos 32 f.y0) ++ le 4 f.step ++ le 4 (if j.fit = 0 then f.sigma else 0) ++ le 2 j.layer ++ le 2 j.plateFragment ++
    c.identity.take 16
  head ++ entryTable c ++ ((List.range 32).filter (bitN j.writers)).flatMap (writerSection f j c)

end Sys2Proof.Machine
end

