-- ==== Sys2Proof/Machine/DotCode.lean ====
section
/-! DEFINITION. DotCode (05 R196, R197): the dots of a lattice as codewords, their correction, masks, encodation and message. The AIM
specification is not part of the spec; what is taken from it is PRESUMED (log 94). -/
namespace Sys2Proof.Machine

/-! ### Dots and codewords -/

/-- The patterns of five dots in nine, by codeword: those with the most runs first. -/
def dotPatterns : List Nat :=
  [0x155, 0x0AB, 0x0AD, 0x0B5, 0x0D5, 0x156, 0x15A, 0x16A, 0x1AA, 0x0AE, 0x0B6, 0x0BA, 0x0D6, 0x0DA, 0x0EA, 0x12B, 0x12D, 0x135] ++
  [0x14B, 0x14D, 0x153, 0x159, 0x165, 0x169, 0x195, 0x1A5, 0x1A9, 0x057, 0x05B, 0x05D, 0x06B, 0x06D, 0x075, 0x097, 0x09B, 0x09D] ++
  [0x0A7, 0x0B3, 0x0B9, 0x0CB, 0x0CD, 0x0D3, 0x0D9, 0x0E5, 0x0E9, 0x12E, 0x136, 0x13A, 0x14E, 0x15C, 0x166, 0x16C, 0x172, 0x174] ++
  [0x196, 0x19A, 0x1A6, 0x1AC, 0x1B2, 0x1B4, 0x1CA, 0x1D2, 0x1D4, 0x05E, 0x06E, 0x076, 0x07A, 0x09E, 0x0BC, 0x0CE, 0x0DC, 0x0E6] ++
  [0x0EC, 0x0F2, 0x0F4, 0x117, 0x11B, 0x11D, 0x127, 0x133, 0x139, 0x147, 0x163, 0x171, 0x18B, 0x18D, 0x193, 0x199, 0x1A3, 0x1B1] ++
  [0x1C5, 0x1C9, 0x1D1, 0x02F, 0x037, 0x03B, 0x03D, 0x04F, 0x067, 0x073, 0x079, 0x08F, 0x0C7, 0x0E3, 0x0F1, 0x11E, 0x13C, 0x178] ++
  [0x18E, 0x19C, 0x1B8, 0x1C6, 0x1CC]

/-- The six dots that come last, near the corners: of an array with an odd number of rows, and with an even number. -/
def dotCorners (rows cols : Nat) : List (Nat × Nat) :=
  if rows % 2 = 1 then [(0, cols - 2), (rows - 1, cols - 2), (1, cols - 1), (rows - 2, cols - 1), (0, 0), (rows - 1, 0)]
  else [(rows - 2, cols - 1), (rows - 2, 0), (rows - 1, cols - 2), (rows - 1, 1), (0, cols - 1), (0, 0)]

/-- The cells of the dots in the order of the message, row and column: along the rows from the last one up, or down the columns. -/
def dotOrder (rows cols : Nat) : List (Nat × Nat) :=
  let all : List (Nat × Nat) :=
    if rows % 2 = 1 then (List.range (rows * cols)).map (fun i => (rows - 1 - i / cols, i % cols))
    else (List.range (rows * cols)).map (fun i => (i % rows, i / rows))
  all.filter (fun p => (p.1 + p.2) % 2 = 0 && !(dotCorners rows cols).contains p) ++ dotCorners rows cols

/-- How many codewords of data and of checks an array holds, the mask's apart: the most data for which three and half as many checks fit. -/
def dotSizes (rows cols : Nat) : Nat × Nat :=
  let n := (rows * cols / 2 - 2) / 9
  let k := (n - 3) / 3
  (2 * k + (if (n - 3) % 3 = 0 then 0 else 1), 3 + k)

/-- The number that dots spell, the first one highest. -/
def dotWord (l : List Bool) : Nat := l.foldl (fun n b => 2 * n + b2n b) 0

/-- The codewords of a message's dots, the mask first: none for a pattern that is no codeword's. -/
def dotWords (n : Nat) (dots : List Bool) : List (Option Nat) :=
  some (dotWord (dots.take 2)) ::
    (List.range n).map (fun k => dotPatterns.findIdx? (fun p => p = dotWord ((dots.drop (2 + 9 * k)).take 9)))

/-! ### Correction in the field of 113 elements, generated by 3 -/

/-- The prime and powers of 3. -/
def dotPrime : Nat := 113
def pow3 (k : Nat) : Nat := (List.range (k % 112)).foldl (fun a _ => 3 * a % dotPrime) 1
def inv113 (a : Nat) : Nat := (List.range 111).foldl (fun r _ => r * a % dotPrime) 1
def neg113 (a : Nat) : Nat := (dotPrime - a % dotPrime) % dotPrime

/-- A polynomial's value, lowest term first; its product with another; its sum with a multiple of another. -/
def dotPolyAt (p : List Nat) (x : Nat) : Nat := p.reverse.foldl (fun a c => (a * x + c) % dotPrime) 0
def dotPolyMul (p q : List Nat) : List Nat :=
  (List.range (p.length + q.length - 1)).map (fun n =>
    (List.range (n + 1)).foldl (fun a i => (a + p.getD i 0 * q.getD (n - i) 0) % dotPrime) 0)
def dotPolyAdd (p : List Nat) (k : Nat) (q : List Nat) : List Nat :=
  (List.range (max p.length q.length)).map (fun i => (p.getD i 0 + k * q.getD i 0) % dotPrime)

/-- The syndromes of a block at 3^1 to 3^n, the first codeword the highest term. -/
def dotSyndromes (n : Nat) (w : List Nat) : List Nat := (List.range n).map (fun i => dotPolyAt w.reverse (pow3 (i + 1)))

/-- The locator of errors and of `e` erasures, whose own locator is `gamma`: Berlekamp and Massey's iteration from there. The other
polynomial is kept multiplied by x. -/
def dotLocator (s gamma : List Nat) (e : Nat) : List Nat × Nat :=
  let start : List Nat × List Nat × Nat := (gamma, 0 :: gamma, e)
  let last := (List.range (s.length - e)).foldl (fun (t : List Nat × List Nat × Nat) i =>
    let (c, b, l) := t
    let r := e + i + 1
    let d := (List.range r).foldl (fun a k => (a + c.getD k 0 * s.getD (r - 1 - k) 0) % dotPrime) 0
    if d = 0 then (c, 0 :: b, l)
    else
      let c2 := dotPolyAdd c (neg113 d) b
      if 2 * l ≤ r + e - 1 then (c2, 0 :: c.map (fun a => a * inv113 d % dotPrime), r + e - l) else (c2, 0 :: b, l)) start
  (last.1, last.2.2)

/-- A block with n checks corrected: codewords that were none are erasures. With it, the errors and the erasures. -/
def dotCorrect (n : Nat) (w : List (Option Nat)) : Option (List Nat × Nat × Nat) :=
  let v := w.map (fun o => o.getD 0)
  let len := v.length
  let x (j : Nat) : Nat := pow3 (len - 1 - j)
  let gone := (List.range len).filter (fun j => (w.getD j none).isNone)
  let e := gone.length
  let s := dotSyndromes n v
  if n < e then none
  else if s.all (· = 0) then some (v, 0, e)
  else
    let gamma := gone.foldl (fun p j => dotPolyMul p [1, neg113 (x j)]) [1]
    let (c, l) := dotLocator s gamma e
    let locs := (List.range len).filter (fun j => dotPolyAt c (inv113 (x j)) = 0)
    if locs.length ≠ l ∨ n < 2 * l - e then none
    else
      let om := (dotPolyMul s c).take n
      let der := (c.zipIdx.drop 1).map (fun p => p.1 * p.2 % dotPrime)
      let out := locs.foldl (fun v j =>
        let y := inv113 (x j)
        upd v j (fun a => (a + dotPolyAt om y * inv113 (dotPolyAt der y)) % dotPrime)) v
      if (dotSyndromes n out).all (· = 0) then some (out, l - e, e) else none

/-- The blocks of a symbol: nw codewords of which the first nd, the mask's among them, are data go round in turn. -/
def dotBlocks (nd nw : Nat) : List CodeBlock :=
  let step := (nw + 111) / 112
  (List.range step).map (fun k =>
    let ws := (List.range nw).filter (fun i => i % step = k)
    { words := ws, checks := (ws.filter (fun i => nd ≤ i)).length, kept := 0 })

/-- Every block corrected, with the errors and erasures of each. -/
def dotCorrectAll (blocks : List CodeBlock) (w : List (Option Nat)) : Option (List Nat × List (Nat × Nat)) :=
  blocks.foldl (fun acc b => acc.bind (fun (v, es) =>
    (dotCorrect b.checks (b.words.map (fun i => w.getD i none))).map (fun (c, t, e) =>
      ((b.words.zip c).foldl (fun v p => upd v p.1 (fun _ => p.2)) v, es ++ [(t, e)])))) (some (w.map (fun o => o.getD 0), []))

/-- The data codewords without their mask. -/
def dotUnmask (mask : Nat) (l : List Nat) : List Nat :=
  let k := [0, 3, 7, 17].getD (mask % 4) 0
  l.zipIdx.map (fun p => (p.1 + dotPrime - k * p.2 % dotPrime) % dotPrime)

/-! ### Encodation -/

/-- The code sets. -/
inductive DotSet where
  | a
  | b
  | c
  | binary
deriving DecidableEq, Repr

/-- A message as it is read: the set in force and the set and number of codewords of a shift; codewords of a binary run;
codewords of an ECI; pairs of a date that are still to come; an upper shift; a macro's end; and what the message says. -/
structure DotRd where
  cur : DotSet := .c
  shift : Option (DotSet × Nat) := none
  group : List Nat := []
  eci : Option (List Nat) := none
  date : Nat := 0
  upper : Option DotSet := none
  tail : List Nat := []
  /-- FNC2 has ended the message -/
  joined : Bool := false
  at_ : Nat := 0
  prev : Nat := 0
  toks : List Tok := []
  gs1 : Bool := false
  aim : Bool := false
  readerProg : Bool := false
  bad : Bool := false

/-- Characters said. -/
def DotRd.say (s : DotRd) (l : List Nat) : DotRd := { s with toks := s.toks ++ l.map Tok.ch }

/-- A group of codewords of base 103 as values of base 259, one fewer: bytes, and 256 to 258 before an ECI of one to three bytes. -/
def dotGroup (l : List Nat) : List Nat :=
  let v := l.foldl (fun n d => 103 * n + d) 0
  ((List.range (l.length - 1)).map (fun i => v / 259 ^ i % 259)).reverse

/-- Values of binary mode as pieces of the message. -/
def dotBytes : Nat → List Nat → List Tok
  | 0, _ => []
  | _ + 1, [] => []
  | n + 1, v :: rest =>
    if v < 256 then .ch v :: dotBytes n rest
    else
      let k := v - 255
      .eci ((rest.take k).foldl (fun a b => 256 * a + b) 0) :: dotBytes n (rest.drop k)

/-- A binary run is said once binary mode is left, in groups of six codewords, the last one cut short. -/
def DotRd.endBinary (s : DotRd) : DotRd :=
  let groups := (List.range (s.group.length / 6 + 1)).map (fun i => (s.group.drop (6 * i)).take 6)
  let vals := groups.flatMap dotGroup
  { s with toks := s.toks ++ dotBytes vals.length vals, group := [] }

/-- A shift for a number of codewords; a latch. -/
def DotRd.shiftTo (s : DotRd) (m : DotSet) (n : Nat) : DotRd := { s with shift := some (m, n) }
def DotRd.latch (s : DotRd) (m : DotSet) : DotRd := { s with cur := m }

/-- What every code set but the binary one has beyond its characters: FNC1 to FNC3, upper shifts, the binary latch. FNC1 alone at the head
says that the data are none of GS1's; after one letter or two digits there it precedes an application's data. -/
def DotRd.function (s : DotRd) (w : Nat) : DotRd :=
  if w = 107 then
    if s.at_ = 0 then s
    else if !s.gs1 && !s.aim && s.toks.length ≤ 2 && !s.toks.isEmpty && (s.at_ = 1 || s.at_ = 2) then { s with aim := true }
    else { s with toks := s.toks ++ [.fnc1] }
  else if w = 108 then { s with eci := some [] }
  else if w = 109 then { s with readerProg := s.readerProg || s.at_ = 0 }
  else if w = 110 then { s with upper := some .a }
  else if w = 111 then { s with upper := some .b }
  else { s with cur := .binary }

/-- The character of set A. -/
def setA (w : Nat) : Nat := if w < 64 then w + 32 else w - 64

/-- A codeword in a code set. -/
def DotRd.inSet (s : DotRd) (m : DotSet) (w : Nat) : DotRd :=
  match m with
  | .c =>
    if w < 100 then
      let s := s.say [48 + w / 10, 48 + w % 10]
      if s.date = 1 then ({ s with date := 0 } : DotRd).say [49, 48] else { s with date := s.date - 1 }
    else if w = 100 then { s.say [49, 55] with date := 3 }
    else if w = 101 then s.latch .a
    else if w < 106 then s.shiftTo .b (w - 101)
    else if w = 106 then s.latch .b
    else s.function w
  | .a =>
    if w < 96 then s.say [setA w]
    else if w < 102 then s.shiftTo .b (w - 95)
    else if w = 102 then s.latch .b
    else if w < 106 then s.shiftTo .c (w - 101)
    else if w = 106 then s.latch .c
    else s.function w
  | .b =>
    if s.prev = 106 && s.at_ = 1 && 97 ≤ w && w ≤ 100 then
      let head := [0x5B, 0x29, 0x3E, 0x1E]
      if w = 100 then { s.say head with tail := [4] }
      else { s.say (head ++ [[48, 53], [48, 54], [49, 50]].getD (w - 97) [] ++ [0x1D]) with tail := [0x1E, 4] }
    else if w < 96 then s.say [w + 32]
    else if w = 96 then s.say [13, 10]
    else if w < 101 then s.say [[9, 0x1C, 0x1D, 0x1E].getD (w - 97) 0]
    else if w = 101 then s.shiftTo .a 1
    else if w = 102 then s.latch .a
    else if w < 106 then s.shiftTo .c (w - 101)
    else if w = 106 then s.latch .c
    else s.function w
  | .binary =>
    if w < 103 then { s with group := s.group ++ [w] }
    else
      let s := s.endBinary
      if w < 109 then s.shiftTo .c (w - 101)
      else if w = 109 then s.latch .a
      else if w = 110 then s.latch .b
      else if w = 111 then s.latch .c
      else { s with bad := true }

/-- The next codeword. -/
def DotRd.step (s : DotRd) (w : Nat) : DotRd :=
  let s := if s.at_ = 0 && w ≤ 100 then { s with gs1 := true } else s
  let t : DotRd :=
    match s.eci, s.upper with
    | some l, _ =>
      if l.isEmpty && w = 106 then ({ s with eci := none, joined := true } : DotRd).inSet s.cur w
      else if l.isEmpty && w < 40 then { s with eci := none, toks := s.toks ++ [.eci w] }
      else if l.length < 2 then { s with eci := some (l ++ [w]) }
      else { s with eci := none, toks := s.toks ++ [.eci (12769 * (l.getD 0 0 - 40) + 113 * l.getD 1 0 + w + 40)] }
    | none, some m =>
      ({ s with upper := none, bad := s.bad || 96 ≤ w } : DotRd).say [128 + (if m = .a then setA w else w + 32)]
    | none, none =>
      match s.shift with
      | some (m, n) => ({ s with shift := if n ≤ 1 then none else some (m, n - 1) } : DotRd).inSet m w
      | none => s.inSet s.cur w
  { t with at_ := s.at_ + 1, prev := w }

/-- The value of a digit or capital letter of structured append. -/
def appendValue (t : Tok) : Nat :=
  match t with
  | .ch c => if 49 ≤ c && c ≤ 57 then c - 48 else if 65 ≤ c && c ≤ 90 then c - 55 else 0
  | _ => 0

/-- The message of a symbol's data codewords. FNC2 at its end, before pads alone, makes the two characters before it position and total of a structured
append. -/
def dotMessage (w : List Nat) : Option Message :=
  let s := (w.foldl DotRd.step {}).endBinary
  let joined := s.joined || s.eci = some []
  let n := s.toks.length - 2
  let pos := appendValue (s.toks.getD n .fnc1)
  let total := appendValue (s.toks.getD (n + 1) .fnc1)
  if s.bad || s.upper.isSome || s.eci.any (fun l => !l.isEmpty) || (joined && (s.toks.length < 2 || pos = 0 || total < pos)) then none
  else
    some { toks := (if joined then s.toks.take n else s.toks) ++ s.tail.map Tok.ch, gs1 := s.gs1, aim := s.aim, readerProg := s.readerProg,
           saPos := if joined then pos else 0, saTotal := if joined then total else 0 }

/-- Its identifier: plain, GS1 or an application's data, each without and with an ECI. -/
def dotIdentifier (m : Message) : Nat :=
  identifier 0x4A ((if m.gs1 then 1 else if m.aim then 2 else 0) + (if (firstEci m.toks).isSome then 3 else 0))

end Sys2Proof.Machine
end

