-- ==== Sys2Proof/Machine/QrCode.lean ====
section
/-! DEFINITION. QR Code Model 2 and Micro QR (05 R193): versions, format information, masks, error correction and modes. The tables
are ISO/IEC 18004's, PRESUMED (log 94). -/
namespace Sys2Proof.Machine

/-! ### Modules -/

/-- The module of a column and a row is dark in a finder pattern that starts there. -/
def finderModule (x y : Nat) : Bool := x = 0 || x = 6 || y = 0 || y = 6 || (2 ≤ x && x ≤ 4 && 2 ≤ y && y ≤ 4)

/-- The field polynomial; roots start at α^0. -/
def qrPoly : Nat := 0x11D

/-- The condition of a mask of QR Code. -/
def qrMask (m x y : Nat) : Bool :=
  match m with
  | 0 => (x + y) % 2 = 0
  | 1 => y % 2 = 0
  | 2 => x % 3 = 0
  | 3 => (x + y) % 3 = 0
  | 4 => (x / 3 + y / 2) % 2 = 0
  | 5 => x * y % 2 + x * y % 3 = 0
  | 6 => (x * y % 2 + x * y % 3) % 2 = 0
  | _ => ((x + y) % 2 + x * y % 3) % 2 = 0

/-- The data modules in the order of placement: pairs of columns from the right, upwards and downwards in turn. -/
def qrOrder (size : Nat) (skip6 : Bool) (fixed : Nat → Nat → Bool) : List (Nat × Nat) :=
  let rights := if skip6 then ((List.range ((size - 7) / 2)).map (fun k => size - 1 - 2 * k)) ++ [5, 3, 1]
                else (List.range ((size - 1) / 2)).map (fun k => size - 1 - 2 * k)
  rights.zipIdx.flatMap (fun (r, k) =>
    (List.range size).flatMap (fun i =>
      let y := if k % 2 = 0 then size - 1 - i else i
      [(r, y), (r - 1, y)].filter (fun p => !fixed p.1 p.2)))

/-- The number of 1 bits of a 32-bit number's difference from another. -/
def bitsApart (a b : Nat) : Nat := popcount 32 (Nat.xor a b)

/-- The value nearest to a word among `n` coded ones, when no more than three bits differ. -/
def nearestCode (code : Nat → Nat) (lo n w : Nat) : Option Nat :=
  ((List.range n).map (· + lo)).find? (fun v => bitsApart (code v) w ≤ 3)

/-- The 15 bits of format information: five data bits, ten check bits, and a mask over them. -/
def formatCode (mask v : Nat) : Nat :=
  let rem := (List.range 10).foldl (fun r _ => let d := 2 * r; if 1024 ≤ d then Nat.xor d 0x537 else d) v
  Nat.xor (v * 1024 + rem) mask

/-- The 18 bits of version information. -/
def versionCode (v : Nat) : Nat :=
  let rem := (List.range 12).foldl (fun r _ => let d := 2 * r; if 4096 ≤ d then Nat.xor d 0x1F25 else d) v
  v * 4096 + rem

/-- The number that modules spell, the first of them its bit 0. -/
def bitsAt (dark : Nat → Nat → Bool) (l : List (Nat × Nat)) : Nat := l.foldr (fun p n => b2n (dark p.1 p.2) + 2 * n) 0

/-- Modules in runs of eight. -/
def octets {α : Type} : Nat → List α → List (List α)
  | 0, _ => []
  | n + 1, l => l.take 8 :: octets n (l.drop 8)

/-! ### QR Code -/

/-- Check codewords of a block by level (L, M, Q, H) and version. -/
def qrChecks (level v : Nat) : Nat :=
  let l := [7, 10, 15, 20, 26, 18, 20, 24, 30, 18, 20, 24, 26, 30, 22, 24, 28, 30, 28, 28, 28, 28, 30, 30, 26, 28] ++ List.replicate 14 30
  let m := [10, 16, 26, 18, 24, 16, 18, 22, 22, 26, 30, 22, 22, 24, 24, 28, 28, 26, 26, 26, 26] ++ List.replicate 19 28
  let q := [13, 22, 18, 26, 18, 24, 18, 22, 20, 24, 28, 26, 24, 20, 30, 24, 28, 28, 26, 30, 28, 30, 30, 30, 30, 28] ++ List.replicate 14 30
  let h := [17, 28, 22, 16, 22, 28, 26, 26, 24, 28, 24, 28, 22, 24, 24, 30, 28, 28, 26, 28, 30, 24] ++ List.replicate 18 30
  ([l, m, q, h].getD level []).getD (v - 1) 0

/-- Blocks by level and version. -/
def qrBlocks (level v : Nat) : Nat :=
  let l := [1, 1, 1, 1, 1, 2, 2, 2, 2, 4, 4, 4, 4, 4, 6, 6, 6, 6, 7, 8] ++
           [8, 9, 9, 10, 12, 12, 12, 13, 14, 15, 16, 17, 18, 19, 19, 20, 21, 22, 24, 25]
  let m := [1, 1, 1, 2, 2, 4, 4, 4, 5, 5, 5, 8, 9, 9, 10, 10, 11, 13, 14, 16] ++
           [17, 17, 18, 20, 21, 23, 25, 26, 28, 29, 31, 33, 35, 37, 38, 40, 43, 45, 47, 49]
  let q := [1, 1, 2, 2, 4, 4, 6, 6, 8, 8, 8, 10, 12, 16, 12, 17, 16, 18, 21, 20] ++
           [23, 23, 25, 27, 29, 34, 34, 35, 38, 40, 43, 45, 48, 51, 53, 56, 59, 62, 65, 68]
  let h := [1, 1, 2, 4, 4, 4, 5, 6, 8, 8, 11, 11, 16, 16, 18, 16, 19, 21, 25, 25] ++
           [25, 34, 30, 32, 35, 37, 40, 42, 45, 48, 51, 54, 57, 60, 63, 66, 70, 74, 77, 81]
  ([l, m, q, h].getD level []).getD (v - 1) 0

/-- Modules a side. -/
def qrSize (v : Nat) : Nat := 17 + 4 * v

/-- Centres of the alignment patterns along one side. -/
def qrAlign (v : Nat) : List Nat :=
  if v = 1 then []
  else
    let n := v / 7 + 2
    let step := if v = 32 then 26 else (v * 4 + n * 2 + 1) / (n * 2 - 2) * 2
    6 :: ((List.range (n - 1)).map (fun i => qrSize v - 7 - i * step)).reverse

/-- The module is part of an alignment pattern: the distance from its centre. -/
def qrAlignAt (v x y : Nat) : Option Nat :=
  let e := qrSize v - 7
  (qrAlign v).findSome? (fun cx => (qrAlign v).findSome? (fun cy =>
    if (cx = 6 ∧ cy = 6) ∨ (cx = 6 ∧ cy = e) ∨ (cx = e ∧ cy = 6) then none
    else if absDiff cx x ≤ 2 ∧ absDiff cy y ≤ 2 then some (max (absDiff cx x) (absDiff cy y)) else none))

/-- Function patterns: finders with their separators, timing and alignment patterns, dark or light. -/
def qrFixed (v x y : Nat) : Option Bool :=
  let n := qrSize v
  let corner (a b : Nat) : Option Bool := some (a < 7 && b < 7 && finderModule a b)
  if x < 8 ∧ y < 8 then corner x y
  else if n - 8 ≤ x ∧ y < 8 then (if x = n - 8 then some false else corner (x + 7 - n) y)
  else if x < 8 ∧ n - 8 ≤ y then (if y = n - 8 then some false else corner x (y + 7 - n))
  else match qrAlignAt v x y with
    | some d => some (d != 1)
    | none => if x = 6 then some (y % 2 = 0) else if y = 6 then some (x % 2 = 0) else none

/-- Modules that hold no codeword: the function patterns, format and version information. -/
def qrReserved (v x y : Nat) : Bool :=
  let n := qrSize v
  (qrFixed v x y).isSome || (x = 8 && (y < 9 || n - 8 ≤ y)) || (y = 8 && (x < 9 || n - 8 ≤ x)) ||
  (7 ≤ v && ((n - 11 ≤ x && y < 6) || (n - 11 ≤ y && x < 6)))

/-- Format information: the level in the order L, M, Q, H, and the mask; from either copy. -/
def qrFormat (v : Nat) (dark : Nat → Nat → Bool) : Option (Nat × Nat) :=
  let n := qrSize v
  let first := (List.range 6).map (fun i => (8, i)) ++ [(8, 7), (8, 8), (7, 8)] ++ (List.range 6).map (fun i => (5 - i, 8))
  let second := (List.range 8).map (fun i => (n - 1 - i, 8)) ++ (List.range 7).map (fun i => (8, n - 7 + i))
  ((nearestCode (formatCode 0x5412) 0 32 (bitsAt dark first)).orElse (fun _ => nearestCode (formatCode 0x5412) 0 32 (bitsAt dark second))).map (fun f =>
    ([1, 0, 3, 2].getD (f / 8) 0, f % 8))

/-- Version information holds, in either copy. -/
def qrVersionOk (v : Nat) (dark : Nat → Nat → Bool) : Bool :=
  let n := qrSize v
  let one := (List.range 18).map (fun i => (n - 11 + i % 3, i / 3))
  v < 7 || [one, one.map (fun p => (p.2, p.1))].any (fun l => bitsApart (versionCode v) (bitsAt dark l) ≤ 3)

/-- Codewords of a version. -/
def qrCodewords (v : Nat) : Nat :=
  let n := v / 7 + 2
  ((16 * v + 128) * v + 64 - (if 2 ≤ v then (25 * n - 10) * n - 55 else 0) - (if 7 ≤ v then 36 else 0)) / 8

/-- Codewords kept from correction against misdecoding. -/
def qrKept (level v : Nat) : Nat :=
  if v = 1 then [3, 2, 1, 1].getD level 0 else if v = 2 ∧ level = 0 then 2 else if v = 3 ∧ level = 0 then 1 else 0

/-- The blocks: their codewords interleaved, the shorter blocks first. -/
def qrCodeBlocks (level v : Nat) : List CodeBlock :=
  let total := qrCodewords v
  let nb := qrBlocks level v
  let el := qrChecks level v
  let short := nb - total % nb
  let sd := total / nb - el
  (List.range nb).map (fun j =>
    { words := (List.range sd).map (fun i => i * nb + j) ++ (if j < short then [] else [sd * nb + j - short]) ++
               (List.range el).map (fun k => total - nb * el + k * nb + j),
      checks := el, kept := qrKept level v })

/-- The modules of each codeword, as (column, row). -/
def qrCells (v : Nat) : List (List (Nat × Nat)) := octets (qrCodewords v) (qrOrder (qrSize v) true (qrReserved v))

/-! ### Micro QR -/

/-- A variant by its symbol number: version, level, codewords, check codewords, and those kept from correction. -/
def microSymbol (n : Nat) : Nat × Nat × Nat × Nat × Nat :=
  [(1, 4, 5, 2, 2), (2, 0, 10, 5, 3), (2, 1, 10, 6, 2), (3, 0, 17, 6, 2), (3, 1, 17, 8, 0), (4, 0, 24, 8, 2), (4, 1, 24, 10, 0),
   (4, 2, 24, 14, 0)].getD n (1, 4, 5, 2, 2)

/-- Function patterns: the finder with its separator and the timing patterns. -/
def microFixed (x y : Nat) : Option Bool :=
  if x < 8 ∧ y < 8 then some (x < 7 && y < 7 && finderModule x y) else if x = 0 then some (y % 2 = 0) else if y = 0 then some (x % 2 = 0) else none
def microReserved (x y : Nat) : Bool := (microFixed x y).isSome || (x = 8 && y < 9) || (y = 8 && x < 9)

/-- Format information: the symbol number and the mask. -/
def microFormat (dark : Nat → Nat → Bool) : Option (Nat × Nat) :=
  let l := (List.range 8).map (fun i => (8, i + 1)) ++ (List.range 7).map (fun i => (7 - i, 8))
  (nearestCode (formatCode 0x4445) 0 32 (bitsAt dark l)).map (fun f => (f / 4, f % 4))

/-- The mask of QR Code that a Micro QR mask is. -/
def microMask (m : Nat) : Nat := [1, 4, 6, 7].getD m 1

/-- Modules of each codeword: the last data codeword of M1 and M3 has four. -/
def microCells (version total checks : Nat) : List (List (Nat × Nat)) :=
  let l := qrOrder (9 + 2 * version) false microReserved
  if version % 2 = 0 then octets total l
  else
    let d := total - checks - 1
    octets d l ++ [(l.drop (8 * d)).take 4] ++ octets checks (l.drop (8 * d + 4))

/-! ### Modes -/

/-- The bits of codewords, each of its width. -/
def bitsOf (l : List (Nat × Nat)) : List Bool := l.flatMap (fun (v, w) => (List.range w).map (fun i => bitN v (w - 1 - i)))

/-- A number off the head of the bits; none when they run out. -/
def takeBits (n : Nat) (l : List Bool) : Option (Nat × List Bool) :=
  if l.length < n then none else some ((l.take n).foldl (fun v b => 2 * v + b2n b) 0, l.drop n)

/-- The modes that carry characters. -/
inductive QrMode where
  | numeric | alnum | byte | kanji
deriving DecidableEq, Repr

/-- The width of a character count: by version in QR Code, `micro` in Micro QR. -/
def countWidth (micro : Bool) (v : Nat) (m : QrMode) : Nat :=
  if micro then (match m with | .numeric => v + 2 | .alnum => v + 1 | .byte => v + 1 | .kanji => v)
  else
    let k := if v < 10 then 0 else if v < 27 then 1 else 2
    match m with
    | .numeric => 10 + 2 * k
    | .alnum => 9 + 2 * k
    | .byte => if k = 0 then 8 else 16
    | .kanji => 8 + 2 * k

/-- The 45 characters of alphanumeric mode. -/
def alnumChar (v : Nat) : Nat :=
  if v < 10 then 48 + v else if v < 36 then 55 + v else [32, 36, 37, 42, 43, 45, 46, 47, 58].getD (v - 36) 0

/-- A group of k characters of a run: its bits, and what a value of it stands for. -/
def qrGroup (m : QrMode) (k v : Nat) : Option (List Nat) :=
  match m with
  | .numeric => if 10 ^ k ≤ v then none else some (((List.range k).reverse).map (fun i => 48 + v / 10 ^ i % 10))
  | .alnum =>
    if k = 1 then (if 45 ≤ v then none else some [alnumChar v])
    else if 2025 ≤ v then none else some [alnumChar (v / 45), alnumChar (v % 45)]
  | .byte => some [v]
  | .kanji =>
    let w := v / 0xC0 * 256 + v % 0xC0
    let c := if w < 0x1F00 then w + 0x8140 else w + 0xC140
    some [c / 256, c % 256]
def qrGroupBits (m : QrMode) (k : Nat) : Nat :=
  match m with
  | .numeric => 3 * k + 1
  | .alnum => if k = 1 then 6 else 11
  | .byte => 8
  | .kanji => 13

/-- The characters of a run of n, group by group. -/
def qrGroups (m : QrMode) : Nat → Nat → List Bool → Option (List Nat × List Bool)
  | 0, _, l => some ([], l)
  | fuel + 1, n, l =>
    if n = 0 then some ([], l)
    else
      let k := min n (match m with | .numeric => 3 | .alnum => 2 | _ => 1)
      (takeBits (qrGroupBits m k) l).bind (fun (v, l) => (qrGroup m k v).bind (fun cs =>
        (qrGroups m fuel (n - k) l).map (fun (r, l) => (cs ++ r, l))))
def qrRun (m : QrMode) (n : Nat) (l : List Bool) : Option (List Nat × List Bool) := qrGroups m (n + 1) n l

/-- With FNC1 in use, a percent sign of alphanumeric mode is a separator, and two are one. -/
def percentOut : List Nat → List Tok
  | 37 :: 37 :: l => .ch 37 :: percentOut l
  | 37 :: l => .fnc1 :: percentOut l
  | c :: l => .ch c :: percentOut l
  | [] => []

/-- The segments of QR Code; none when they have no meaning. -/
def qrSegments (v : Nat) : Nat → Message → List Bool → Option Message
  | 0, m, _ => some m
  | k + 1, m, l =>
    match takeBits 4 l with
    | none => some m
    | some (mode, l) =>
      let run (q : QrMode) : Option Message :=
        (takeBits (countWidth false v q) l).bind (fun (n, l) => (qrRun q n l).bind (fun (cs, l) =>
          let ts := if q = .alnum && (m.gs1 || m.aim) then percentOut cs else cs.map Tok.ch
          qrSegments v k { m with toks := m.toks ++ ts } l))
      match mode with
      | 0 => some m
      | 1 => run .numeric
      | 2 => run .alnum
      | 4 => run .byte
      | 8 => run .kanji
      | 3 => (takeBits 4 l).bind (fun (p, l) => (takeBits 4 l).bind (fun (n, l) => (takeBits 8 l).bind (fun (par, l) =>
        qrSegments v k { m with saPos := p + 1, saTotal := n + 1, saFile := par } l)))
      | 5 => qrSegments v k { m with gs1 := true } l
      | 9 => (takeBits 8 l).bind (fun (a, l) =>
        let head := if a < 100 then [48 + a / 10, 48 + a % 10] else [a - 100]
        qrSegments v k { m with aim := true, toks := m.toks ++ head.map Tok.ch } l)
      | 7 =>
        let eci (n : Nat) (l : List Bool) : Option Message := qrSegments v k { m with toks := m.toks ++ [.eci n] } l
        (takeBits 8 l).bind (fun (a, l) =>
          if a < 128 then eci a l
          else if a < 192 then (takeBits 8 l).bind (fun (b, l) => eci ((a - 128) * 256 + b) l)
          else if a < 224 then (takeBits 16 l).bind (fun (b, l) => eci ((a - 192) * 65536 + b) l)
          else none)
      | _ => none

/-- The segments of Micro QR of version v, whose mode indicator has v − 1 bits and whose terminator is 2v + 1 zeros. -/
def microSegments (v : Nat) : Nat → Message → List Bool → Option Message
  | 0, m, _ => some m
  | k + 1, m, l =>
    if l.length < 2 * v + 1 ∨ (l.take (2 * v + 1)).all (fun b => !b) then some m
    else (takeBits (v - 1) l).bind (fun (mode, l) =>
      match [QrMode.numeric, .alnum, .byte, .kanji].drop mode with
      | q :: _ => (takeBits (countWidth true v q) l).bind (fun (n, l) => (qrRun q n l).bind (fun (cs, l) =>
          microSegments v k { m with toks := m.toks ++ cs.map Tok.ch } l))
      | [] => none)

/-- The symbology identifier: ]Q1 to ]Q6. -/
def qrIdentifier (m : Message) : Nat :=
  identifier 0x51 (1 + (if m.gs1 then 2 else if m.aim then 4 else 0) + b2n (firstEci m.toks).isSome)

end Sys2Proof.Machine
end

