-- ==== Sys2Proof/Machine/Lattice.lean ====
section
/-! DEFINITION. What a decode task reads from its region's pixels (05 R184 to R210): the levels at the places of its fit, orientation,
polarity and mirroring, the class of a dot lattice, the reading conditions, and each symbology's decoding. What the rules leave to the
engine here is chosen in log 95. -/
namespace Sys2Proof.Machine

/-! ### Places and levels -/

/-- The point a ÷ m along and b ÷ n down a quadrilateral seen in perspective, in 2^−20 pixel. -/
def quadAt (q : List (Nat × Nat)) (a m b n : Int) : Int × Int :=
  let p (i : Nat) : Int × Int := let z := q.getD i (0, 0); (z.1, z.2)
  let (x0, y0) := p 0
  let (x1, y1) := p 1
  let (x2, y2) := p 2
  let (x3, y3) := p 3
  let det := (x1 - x2) * (y3 - y2) - (x3 - x2) * (y1 - y2)
  let sx := x0 - x1 + x2 - x3
  let sy := y0 - y1 + y2 - y3
  let g := sx * (y3 - y2) - (x3 - x2) * sy
  let h := (x1 - x2) * sy - sx * (y1 - y2)
  let w := g * a * n + h * b * m + det * m * n
  let num (u0 u1 u3 : Int) : Int := ((u1 - u0) * det + g * u1) * a * n + ((u3 - u0) * det + h * u3) * b * m + u0 * det * m * n
  if w = 0 then (256 * x0, 256 * y0) else (256 * num x0 x1 x3 / w, 256 * num y0 y1 y3 / w)

/-- The mean level of the pixels whose centres lie within a radius of a place, in 1/16 DN; all in 2^−20 pixel. A pixel outside the
region reads the black level; where no centre lies inside, the pixel at the place counts. -/
def spot (tiles : List (Nat × List Nat)) (rad : Int) (c : Int × Int) : Int :=
  let span (z : Int) : List Int := (List.range (2 * rad / 2 ^ 20 + 2).toNat).map (fun (i : Nat) => (z - rad) / 2 ^ 20 + (i : Int))
  let px (i j : Int) : Int := ((pixelAt tiles i j).getD 16 : Nat)
  let vs := (span c.2).flatMap (fun j => (span c.1).filterMap (fun i =>
    if (2 ^ 20 * i + 2 ^ 19 - c.1) ^ 2 + (2 ^ 20 * j + 2 ^ 19 - c.2) ^ 2 ≤ rad ^ 2 then some (px i j) else none))
  if vs.isEmpty then 16 * px (c.1 / 2 ^ 20) (c.2 / 2 ^ 20) else 16 * vs.foldl (· + ·) 0 / vs.length

/-- The length of a side in 1/4 096 pixel. -/
def sideLen (q : List (Nat × Nat)) (i j : Nat) : Nat :=
  let d (u v : Nat) : Nat := absDiff u v
  let a := q.getD i (0, 0)
  let b := q.getD j (0, 0)
  isqrt (d a.1 b.1 ^ 2 + d a.2 b.2 ^ 2)

/-- The mean pitch along and down in 1/256 pixel. -/
def pitchAlong (q : List (Nat × Nat)) (cols : Nat) : Nat := (sideLen q 0 1 + sideLen q 3 2) / (32 * max 1 cols)
def pitchDown (q : List (Nat × Nat)) (rows : Nat) : Nat := (sideLen q 0 3 + sideLen q 1 2) / (32 * max 1 rows)

/-- A fit with the levels at its modules, row by row. -/
structure Grid where
  rows : Nat
  cols : Nat
  quad : List (Nat × Nat)
  lv : List Int

/-- The radius of the aperture of R201, 0.4 of a module, and of a dot's diameter in a lattice of dots, in 2^−20 pixel. -/
def aperture (size : Nat) : Int := size * 16384 / 10

/-- The levels at the centres of modules, or at other places of the lattice in half modules. -/
def placeLevel (tiles : List (Nat × List Nat)) (q : List (Nat × Nat)) (rows cols size : Nat) (h k : Nat) : Int :=
  spot tiles (aperture size) (quadAt q h (2 * cols) k (2 * rows))
def sampleGrid (tiles : List (Nat × List Nat)) (q : List (Nat × Nat)) (rows cols size : Nat) : Grid :=
  { rows := rows, cols := cols, quad := q,
    lv := (List.range (rows * cols)).map (fun i => placeLevel tiles q rows cols size (2 * (i % cols) + 1) (2 * (i / cols) + 1)) }

/-- The level of a module. -/
def Grid.at (g : Grid) (r c : Nat) : Int := g.lv.getD (r * g.cols + c) 0

/-- A grid of the same modules in another order. -/
def Grid.reorder (g : Grid) (rows cols : Nat) (quad : List (Nat × Nat)) (f : Nat → Nat → Int) : Grid :=
  { g with rows := rows, cols := cols, quad := quad, lv := (List.range (rows * cols)).map (fun i => f (i / cols) (i % cols)) }

/-- A quarter turn: the second corner comes first. -/
def Grid.turn (g : Grid) : Grid := g.reorder g.cols g.rows (g.quad.drop 1 ++ g.quad.take 1) (fun r c => g.at c (g.cols - 1 - r))
def Grid.turns (g : Grid) : Nat → Grid
  | 0 => g
  | k + 1 => g.turn.turns k

/-- The mirror images that keep the lower left corner, and the upper left. -/
def Grid.mirrorLow (g : Grid) : Grid :=
  g.reorder g.cols g.rows (g.quad.reverse.drop 1 ++ g.quad.reverse.take 1) (fun r c => g.at (g.rows - 1 - c) (g.cols - 1 - r))
def Grid.mirrorHigh (g : Grid) : Grid := g.reorder g.cols g.rows (g.quad.take 1 ++ (g.quad.drop 1).reverse) (fun r c => g.at c r)

/-- A module lies on the dark side of the middle of the levels, in a symbol that is light on dark the other way round. -/
def Grid.darkAt (g : Grid) (light : Bool) (i : Nat) : Bool :=
  decide (2 * g.lv.getD i 0 < greatestInt g.lv + leastInt g.lv) != light
def Grid.dark (g : Grid) (light : Bool) (r c : Nat) : Bool := g.darkAt light (r * g.cols + c)

/-- The greatest difference of level among a grid's modules, kept in a reading. -/
def Grid.span (g : Grid) : GradeIn := { contrast := greatestInt g.lv - leastInt g.lv }

/-- The pose of a grid (06 R229): its centre in 1/4 096 pixel, the direction of increasing column, and its pitch. -/
def posed (q : List (Nat × Nat)) (rows cols : Nat) (r : Reading) : Reading :=
  let (x, y) := quadAt q 1 2 1 2
  let d (i j : Nat) (f : Nat × Nat → Nat) : Int := (f (q.getD i (0, 0)) : Int) - f (q.getD j (0, 0))
  { r with x := ((x + 128) / 256).toNat, y := ((y + 128) / 256).toNat,
           angle := angleOf (d 1 0 (·.1) + d 2 3 (·.1)) (d 1 0 (·.2) + d 2 3 (·.2)),
           pitch := min 65535 ((pitchAlong q cols + pitchDown q rows + 1) / 2) }

/-- Grid nonuniformity in 0.1 % of the module: the greatest distance of an intersection of the grid as it lies in perspective from its
place in a grid of equal steps between the same corners (R199; log 96). -/
def gridOf (q : List (Nat × Nat)) (rows cols : Nat) : Int :=
  let p (i : Nat) : Int × Int := let z := q.getD i (0, 0); (z.1, z.2)
  let mix (c r : Nat) (f : Int × Int → Int) : Int :=
    256 * ((rows - r : Int) * ((cols - c : Int) * f (p 0) + c * f (p 1)) + r * ((cols - c : Int) * f (p 3) + c * f (p 2))) /
      max 1 (rows * cols : Int)
  let far (k : Nat) : Nat :=
    let c := k % (cols + 1)
    let r := k / (cols + 1)
    let z := quadAt q c cols r rows
    (z.1 - mix c r (·.1)).natAbs ^ 2 + (z.2 - mix c r (·.2)).natAbs ^ 2
  let most := ((List.range ((rows + 1) * (cols + 1))).map far).foldl max 0
  (isqrt most * 1000 / (4096 * max 1 ((pitchAlong q cols + pitchDown q rows) / 2)) : Nat)

/-- Print growth across or down in 0.1 % of the module: how much longer than nominal the runs of marked modules are, on average, along
the middle lines of a grid, eight places a module (R199; log 96). The nominal length of a module is `size`, 1/256 pixel. -/
def growthOf (tiles : List (Nat × List Nat)) (g : Grid) (light down : Bool) (size : Nat) : Int :=
  let lines := if down then g.cols else g.rows
  let len := if down then g.rows else g.cols
  let on (l k : Nat) : Bool := if down then g.dark light k l else g.dark light l k
  let mid := greatestInt g.lv + leastInt g.lv
  let mark (l k : Nat) : Bool :=
    let c := if down then quadAt g.quad (2 * l + 1) (2 * lines) (2 * k + 1) (16 * len) else quadAt g.quad (2 * k + 1) (16 * len) (2 * l + 1) (2 * lines)
    let v : Int := ((pixelAt tiles (c.1 / 2 ^ 20) (c.2 / 2 ^ 20)).getD 16 : Nat)
    decide (32 * v < mid) != light
  let count (f : Nat → Nat → Bool) (n : Nat) : Nat :=
    ((List.range lines).map (fun l => ((List.range n).filter (fun k => f l k)).length)).foldl (· + ·) 0
  let runs := count (fun l k => on l k && (k = 0 || !on l (k - 1))) len
  let pitch : Int := if down then pitchDown g.quad g.rows else pitchAlong g.quad g.cols
  if runs = 0 ∨ size = 0 then 0
  else ((count mark (8 * len) : Nat) * pitch - 8 * (count on len : Nat) * size) * 125 / ((runs * size : Nat) : Int)

/-- Axial nonuniformity in 0.1 %. -/
def axialOf (q : List (Nat × Nat)) (rows cols : Nat) : Int :=
  let a := pitchAlong q cols
  let b := pitchDown q rows
  2000 * (absDiff a b : Nat) / max 1 ((a + b : Nat) : Int)

/-! ### A matrix symbol's message (R190, R197) -/

/-- A message in a reading, with the data transmitted. -/
def Reading.says (r : Reading) (m : Message) (symId : Nat) : Reading :=
  let (d, seps) := transmit m.toks
  { r with data := d, seps := seps, fnc1First := m.gs1, fnc2 := m.fnc2, fnc3 := m.fnc3, readerProg := m.readerProg, saPos := m.saPos,
           saTotal := m.saTotal, saFile := m.saFile, eci := firstEci m.toks, symId := symId }

/-- What a symbol's levels, codewords and fit give for its grades: modules of `size`, and the places in `lv` of its words. -/
def Grid.graded (g : Grid) (tiles : List (Nat × List Nat)) (light : Bool) (size : Nat) (lv : List Int) (dark : Nat → Bool)
    (words : List (List (Nat × Bool))) (blocks : List CodeBlock) (used : List Nat) (fixed : List (Nat × Bool)) : GradeIn :=
  gradeIn lv dark words blocks used fixed (axialOf g.quad g.rows g.cols) (gridOf g.quad g.rows g.cols)
    (growthOf tiles g light false size) (growthOf tiles g light true size)

/-- What sampled codewords come to: `cells` their modules, `hide` the modules a mask inverts, `say` their message. -/
def Reading.decode (r : Reading) (g : Grid) (light : Bool) (poly first : Nat) (blocks : List CodeBlock) (cells : List (List Nat))
    (hide : Nat → Bool) (fixed : List (Nat × Bool)) (tiles : List (Nat × List Nat)) (say : List Nat → Option (Message × Nat)) : Reading :=
  let w := cells.map (fun l => l.foldl (fun n i => 2 * n + b2n (g.darkAt light i != hide i)) 0)
  match correctBlocks poly first blocks w with
  | none => { r with stage := 3, ecFails := true }
  | some (w, es) =>
    let words : List (List (Nat × Bool)) := (cells.zip w).map (fun p =>
      p.1.zipIdx.map (fun (i, k) => (i, (bitN p.2 (p.1.length - 1 - k) != hide i) != light)))
    let r := { r with stage := 4, errors := es.foldl (· + ·) 0,
                      grade := g.graded tiles light r.pitch g.lv (fun i => g.darkAt light i != light) words blocks (es.map (2 * ·))
                        (fixed.map (fun (p : Nat × Bool) => (p.1, p.2 != light))) }
    match say w with
    | none => { r with checkFails := true }
    | some (m, id) => { r with stage := 5 }.says m id

/-- Nothing stands in the way of a reading. -/
def Reading.good (r : Reading) : Bool := !r.ecFails && !r.checkFails

/-- The modules of fixed patterns. -/
def fixedOf (rows cols : Nat) (f : Nat → Nat → Option Bool) : List (Nat × Bool) :=
  (List.range (rows * cols)).filterMap (fun i => (f (i / cols) (i % cols)).map (fun b => (i, b)))

/-! ### Data Matrix -/

/-- How many modules of a size's borders stand as they should, out of how many. -/
def dmScore (z : DmSize) (g : Grid) (light : Bool) : Nat × Nat :=
  let l := fixedOf z.rows z.cols z.border
  ((l.filter (fun p => g.darkAt light p.1 = p.2)).length, l.length)

/-- A Data Matrix whose L lies at the left and below. -/
def readDm (tiles : List (Nat × List Nat)) (z : DmSize) (light mirror : Bool) (g : Grid) : Reading :=
  (posed g.quad g.rows g.cols { kind := .dataMatrix, rows := z.rows, cols := z.cols, stage := 2, finders := 1, mirror := mirror, lightOnDark := light, grade := g.span }).decode
    g light dmPoly 1 z.codeBlocks z.cells (fun _ => false) (fixedOf z.rows z.cols z.border) tiles
    (fun w => (dmMessage (w.take z.data)).map (fun m => (m, dmIdentifier m)))

/-- The orientation and the polarity whose borders fit best, three quarters of them at least; and where the plain reading fails, the
mirror image (R187). A rectangle lies with its L at the left and below in one of its two mirror images alone, which its turn tells. A
square of odd size is an ECC 000 to 140 (R189). -/
def readEll (tiles : List (Nat × List Nat)) (f : Finding) : Reading :=
  let pitch := (pitchAlong f.quad f.cols + pitchDown f.quad f.rows) / 2
  let g := sampleGrid tiles f.quad f.rows f.cols pitch
  let tries := [0, 1, 2, 3].flatMap (fun k =>
    let h := g.turns k
    let plain := (dmSize? h.rows h.cols).isSome
    let h := if plain then h else h.mirrorLow
    match dmSize? h.rows h.cols with
    | none => []
    | some z => [false, true].map (fun light => (dmScore z h light, z, h, light, !plain)))
  let best := tries.foldl (fun (b : Option ((Nat × Nat) × DmSize × Grid × Bool × Bool)) t => match b with
    | none => some t
    | some c => if c.1.1 * t.1.2 < t.1.1 * c.1.2 then some t else b) none
  match best with
  | none => if f.rows = f.cols ∧ f.rows % 2 = 1 ∧ 9 ≤ f.rows ∧ f.rows ≤ 49 then
      { kind := .unsupported, stage := 2, finders := 1, pitch := min 65535 pitch }
    else { stage := 1, finders := 1 }
  | some (score, z, h, light, mirror) =>
    if 4 * score.1 < 3 * score.2 then { stage := 1, finders := 1 }
    else
      let r := readDm tiles z light mirror h
      if r.good then r
      else match dmSize? h.cols h.rows with
        | none => r
        | some y => let m := readDm tiles y light true h.mirrorLow; if m.good then m else r

/-! ### QR Code and Micro QR -/

/-- How many of a finder pattern's modules stand at the upper left corner. -/
def finderScore (g : Grid) (light : Bool) : Nat :=
  ((List.range 49).filter (fun i => g.dark light (i / 7) (i % 7) = finderModule (i % 7) (i / 7))).length

/-- The corners at which a finder stands: at least 40 of its 49 modules. -/
def finderCorners (g : Grid) (light : Bool) : List Nat := (List.range 4).filter (fun k => 40 ≤ finderScore (g.turns k) light)

/-- A module by its column and row, counted row by row. -/
def cellIndex (n : Nat) (p : Nat × Nat) : Nat := p.2 * n + p.1

/-- A QR Code of version v whose missing finder lies at the lower right. -/
def readQr (tiles : List (Nat × List Nat)) (v : Nat) (light mirror : Bool) (g : Grid) : Reading :=
  let n := qrSize v
  let dark (x y : Nat) : Bool := g.dark light y x
  let r := posed g.quad n n { kind := .qr, rows := n, cols := n, stage := 2, finders := 3, mirror := mirror, lightOnDark := light, grade := g.span }
  match (if qrVersionOk v dark then qrFormat v dark else none) with
  | none => { r with stage := 3, checkFails := true }
  | some (level, mask) =>
    let blocks := qrCodeBlocks level v
    let data (w : List Nat) : List Nat := (blocks.flatMap (fun b => b.words.take (b.words.length - b.checks))).map (fun i => w.getD i 0)
    { r with ecLevel := level, mask := mask }.decode g light qrPoly 0 blocks ((qrCells v).map (fun (l : List (Nat × Nat)) => l.map (cellIndex n)))
      (fun i => qrMask mask (i % n) (i / n)) (fixedOf n n (fun y x => qrFixed v x y)) tiles
      (fun w => (qrSegments v (8 * w.length) {} (bitsOf ((data w).map (fun d => (d, 8))))).map (fun m => (m, qrIdentifier m)))

/-- A Micro QR whose finder lies at the upper left. -/
def readMicro (tiles : List (Nat × List Nat)) (light mirror : Bool) (g : Grid) : Reading :=
  let n := g.rows
  let dark (x y : Nat) : Bool := g.dark light y x
  let r := posed g.quad n n { kind := .microQr, rows := n, cols := n, stage := 2, finders := 1, mirror := mirror, lightOnDark := light, grade := g.span }
  match microFormat dark with
  | none => { r with stage := 3, checkFails := true }
  | some (sym, mask) =>
    let (v, level, total, checks, kept) := microSymbol sym
    if n ≠ 9 + 2 * v then { r with stage := 3, checkFails := true }
    else
      let d := total - checks
      let width (i : Nat) : Nat := if v % 2 = 1 ∧ i + 1 = d then 4 else 8
      { r with ecLevel := level, mask := mask }.decode g light qrPoly 0 [{ words := List.range total, checks := checks, kept := kept }]
        ((microCells v total checks).map (fun (l : List (Nat × Nat)) => l.map (cellIndex n))) (fun i => qrMask (microMask mask) (i % n) (i / n))
        (fixedOf n n (fun y x => microFixed x y)) tiles
        (fun w => (microSegments v (8 * total) {} (bitsOf ((w.take d).zipIdx.map (fun (p : Nat × Nat) => (p.1, width p.2))))).map (fun m => (m, identifier 0x51 1)))

/-- Three finders make a QR Code and one a Micro QR (R193), in the polarity that shows more of them; where the plain reading fails,
the mirror image. -/
def readSquares (tiles : List (Nat × List Nat)) (f : Finding) : Reading :=
  let pitch := (pitchAlong f.quad f.cols + pitchDown f.quad f.rows) / 2
  let g := sampleGrid tiles f.quad f.rows f.cols pitch
  let dark := finderCorners g false
  let bright := finderCorners g true
  let light := decide (dark.length < bright.length)
  let at_ := if light then bright else dark
  let n := f.rows
  let both (r m : Reading) : Reading := if r.good then r else if m.good then m else r
  if f.rows ≠ f.cols then { stage := 1, finders := at_.length }
  else if at_.length = 3 ∧ 21 ≤ n ∧ n ≤ 177 ∧ n % 4 = 1 then
    let v := (n - 17) / 4
    let gone := ((List.range 4).find? (fun k => !at_.contains k)).getD 0
    let h := g.turns ((gone + 2) % 4)
    both (readQr tiles v light false h) (readQr tiles v light true h.mirrorHigh)
  else if at_.length = 1 ∧ 11 ≤ n ∧ n ≤ 17 ∧ n % 2 = 1 then
    let h := g.turns (at_.headD 0)
    both (readMicro tiles light false h) (readMicro tiles light true h.mirrorHigh)
  else { stage := 1, finders := at_.length }

/-! ### Dots (R186, R196, R204 to R210) -/

/-- The finder points of a 12 × 12 lattice in half cells, in order around it (R204). -/
def cornerPoints : List (Nat × Nat) := [(2, 2), (22, 2), (22, 22), (2, 22)]

/-- The corners at which a dot lies off the lattice: at the corner of four cells that hold none. -/
def offLattice (dot : Int → Bool) (g : Grid) (pts : List Int) : List Nat :=
  let block (k : Nat) : List (Nat × Nat) :=
    let (h, v) := cornerPoints.getD k (2, 2)
    [(v / 2 - 1, h / 2 - 1), (v / 2 - 1, h / 2), (v / 2, h / 2 - 1), (v / 2, h / 2)]
  (List.range 4).filter (fun k => dot (pts.getD k 0) && (block k).all (fun p => !dot (g.at p.1 p.2)))

/-- The data cells in the order of R205. -/
def dataCells : List (Nat × Nat) :=
  (List.range 144).filterMap (fun i =>
    let r := i / 12
    let c := i % 12
    if (r < 2 || 10 ≤ r) && (c < 2 || 10 ≤ c) then none else some (r, c))

/-- A Blaze-D whose single finder lies at the lower right; `single` is the level there. Levels are taken 42 times, so that the contrast,
the mean of seven dots less that of the six empty cells beside the double finders, is whole (R208). -/
def readBlaze (f : Finding) (light : Bool) (single : Int) (g : Grid) : Reading :=
  let sum (l : List (Nat × Nat)) : Int := (l.map (fun p => g.at p.1 p.2)).foldl (· + ·) 0
  let contrast := 6 * (sum [(0, 0), (1, 1), (0, 11), (1, 10), (11, 0), (10, 1)] + single) -
    7 * sum [(0, 1), (1, 0), (0, 10), (1, 11), (10, 0), (11, 1)]
  let syms := pairSymbols (cellPairs contrast (dataCells.map (fun p => 42 * g.at p.1 p.2)))
  let c := cornerPoints.map (fun p => quadAt g.quad p.1 24 p.2 24)
  let x (i : Nat) : Int := (c.getD i (0, 0)).1
  let y (i : Nat) : Int := (c.getD i (0, 0)).2
  let r : Reading :=
    { posed g.quad 12 12 { kind := .blazeD, rows := 12, cols := 12, stage := 2, finders := 7, lightOnDark := light, mirror := f.mirror } with
      x := ((x 0 + x 1 + x 2 + x 3 + 512) / 1024).toNat, y := ((y 0 + y 1 + y 2 + y 3 + 512) / 1024).toNat,
      angle := angleOf (x 1 + x 2 - x 0 - x 3) (y 1 + y 2 - y 0 - y 3) }
  let r := { r with erasures := (syms.filter Option.isNone).length, grade := { contrast := (contrast.natAbs : Int) / 42 } }
  match blazeCorrect syms with
  | some (w, e, n) => { r with stage := 5, blaze := some (w, e, n), errors := e, erasures := n }
  | none => { r with stage := 3, ecFails := true }

/-- A DotCode whose dots stand on cells of even sum (R186, R196). -/
def readDotCode (tiles : List (Nat × List Nat)) (f : Finding) (light : Bool) (g : Grid) : Reading :=
  let order := (dotOrder g.rows g.cols).map (fun p => p.1 * g.cols + p.2)
  let dots := order.map (g.darkAt light)
  let (nd, nc) := dotSizes g.rows g.cols
  let words := dotWords (nd + nc) dots
  let blocks := dotBlocks (nd + 1) (nd + 1 + nc)
  let r := posed g.quad g.rows g.cols
    { kind := .dotCode, rows := g.rows, cols := g.cols, stage := 2, lightOnDark := light, mirror := f.mirror, dot := f.dot, grade := g.span,
      mask := dotWord (dots.take 2), erasures := (words.filter Option.isNone).length }
  match dotCorrectAll blocks words with
  | none => { r with stage := 3, ecFails := true }
  | some (w, es) =>
    let mask := w.headD 0
    let bits (k : Nat) : List (Nat × Bool) :=
      if k = 0 then (List.range 2).map (fun i => (i, bitN mask (1 - i) != light))
      else (List.range 9).map (fun i => (9 * k + i - 7, bitN (dotPatterns.getD (w.getD k 0) 0) (8 - i) != light))
    let r := { r with stage := 4, mask := mask, errors := (es.map (fun (e : Nat × Nat) => e.1)).foldl (· + ·) 0,
                      grade := g.graded tiles light f.dot (order.map (fun i => g.lv.getD i 0)) (fun i => g.darkAt light (order.getD i 0) != light)
                        ((List.range w.length).map bits) blocks (es.map (fun (e : Nat × Nat) => 2 * e.1 + e.2)) [] }
    match (if 4 ≤ mask then none else dotMessage (dotUnmask mask ((w.take (nd + 1)).drop 1))) with
    | none => { r with checkFails := true }
    | some m => { r with stage := 5 }.says m (dotIdentifier m)

/-- Another mark's dots lie in the quiet zone about a lattice: within two cells of it, at a place of the region's pixels
half a cell from the next (R187, R222). -/
def crowded (tiles : List (Nat × List Nat)) (f : Finding) (dot : Int → Bool) : Bool :=
  let rows := f.rows
  let cols := f.cols
  (List.range (2 * (rows + 4) * (2 * (cols + 4)))).any (fun i =>
    let r : Int := (i / (2 * (cols + 4)) : Nat) - 4
    let c : Int := (i % (2 * (cols + 4)) : Nat) - 4
    let p := quadAt f.quad (2 * c + 1) (4 * cols) (2 * r + 1) (4 * rows)
    (r < 0 || 2 * rows ≤ r || c < 0 || 2 * cols ≤ c) && (pixelAt tiles (p.1 / 2 ^ 20) (p.2 / 2 ^ 20)).isSome && dot (spot tiles (aperture f.dot) p))

/-- The lattice is classified before any data are sampled (R186): a dot off a 12 × 12 lattice at one corner makes a Blaze-D, dots on
cells of even sum alone in one of its turns a DotCode, dark dots before light ones; anything else fits neither, nor does a Blaze-D with
the dots of another mark in its quiet zone (R222). Of the turns of a DotCode, the first that decodes is read. -/
def readDots (tiles : List (Nat × List Nat)) (f : Finding) : Reading :=
  let g := sampleGrid tiles f.quad f.rows f.cols f.dot
  let pts := cornerPoints.map (fun p => placeLevel tiles f.quad f.rows f.cols f.dot p.1 p.2)
  let hi := greatestInt (g.lv ++ pts)
  let lo := leastInt (g.lv ++ pts)
  let dot (light : Bool) (v : Int) : Bool := decide (2 * v < hi + lo) != light
  let none_ : Reading := { stage := 1, finders := f.finders }
  let blaze (light : Bool) : Option Reading :=
    let off := offLattice (dot light) g pts
    if f.rows = 12 ∧ f.cols = 12 ∧ off.length = 1 then
      let k := off.headD 0
      some (if crowded tiles f (dot light) then none_ else readBlaze f light (pts.getD k 0) (g.turns ((k + 2) % 4)))
    else none
  let code (light : Bool) : Option Reading :=
    if 5 ≤ min f.rows f.cols ∧ max f.rows f.cols ≤ 177 ∧ (f.rows + f.cols) % 2 = 1 then
      let even (h : Grid) : Bool := (List.range h.lv.length).all (fun i => !h.darkAt light i || (i / h.cols + i % h.cols) % 2 = 0)
      let rs := (((List.range 4).map g.turns).filter even).map (readDotCode tiles f light)
      (rs.find? Reading.good).orElse (fun _ => rs.head?)
    else none
  (blaze false).getD ((blaze true).getD ((code false).getD ((code true).getD none_)))

/-! ### Bars (R194) -/

/-- Lengths of the runs of equal values. -/
def runs : List Bool → List Nat
  | [] => []
  | a :: t => match t, runs t with
    | b :: _, n :: r => if a = b then (n + 1) :: r else 1 :: n :: r
    | _, _ => [1]

/-- A Code 128: the profile at the middle of the bar height, eight places a pixel from four pixels before the first bar to four beyond
the last, cut where it crosses the middle of its levels; the quiet zone at its ends shows its polarity. It is read in the direction in
which it has a start and a stop character; without them no X is estimated. -/
def readBars (tiles : List (Nat × List Nat)) (f : Finding) : Reading :=
  let n := (sideLen f.quad 0 1 + sideLen f.quad 3 2) / 1024
  let lv := (List.range (n + 64)).map (fun (i : Nat) =>
    let p := quadAt f.quad (2 * (i : Int) - 63) (2 * n) 1 2
    16 * (((pixelAt tiles (p.1 / 2 ^ 20) (p.2 / 2 ^ 20)).getD 16 : Nat) : Int))
  let mid := greatestInt lv + leastInt lv
  let bs := lv.map (fun v => decide (2 * v < mid))
  let light := bs.headD false
  let w := (runs bs).tail.dropLast
  let (turned, chars) := match c128Chars w.length w with
    | some c => (false, some c)
    | none => match c128Chars w.length w.reverse with
      | some c => (true, some c)
      | none => (false, none)
  let q := if turned then f.quad.drop 2 ++ f.quad.take 2 else f.quad
  let count := (chars.map List.length).getD 0
  let base : Reading := { kind := .code128, rows := 1, cols := count - 2, stage := 3, lightOnDark := light,
                          grade := { contrast := greatestInt lv - leastInt lv } }
  let r := { posed q 1 1 base with pitch := if chars.isNone then 0 else min 65535 (pitchAlong q (11 * count + 13)) }
  match chars with
  | none => { r with checkFails := true }
  | some c =>
    if !c128Check c then { r with checkFails := true }
    else
      let m := c128Message c.dropLast
      { r with stage := 5, errors := 0 }.says m (c128Identifier m)

/-! ### The reading (R184 to R190) -/

/-- The reading conditions of R187: module, X or dot diameter in the image, contrast, tilt and quiet zone, in the image that is
searched, 1/`scale` as wide as the array. -/
def conditionsMet (scale : Nat) (f : Finding) (r : Reading) : Bool :=
  let within (lo hi v : Nat) : Bool := lo * 256 * scale ≤ v && v ≤ hi * 256 * scale
  let quiet (n : Nat) : Bool := n * 256 ≤ f.quiet
  640 ≤ r.grade.contrast && f.tilt ≤ 20 * 256 &&
  (match r.kind with
   | .dataMatrix => within 2 20 r.pitch && quiet 1
   | .qr => within 2 12 r.pitch && quiet 2
   | .microQr => within 2 12 r.pitch && quiet 1
   | .code128 => within 2 24 r.pitch && quiet 5
   | .dotCode => within 3 16 f.dot && quiet 2
   | .blazeD => within 4 14 f.dot && quiet 2
   | _ => true)

/-- What a task reads. Outside the reading conditions it may fit nothing: whether it reads on is a free value, `beyond`. -/
def readFinding (tiles : List (Nat × List Nat)) (scale : Nat) (beyond : Bool) (f : Finding) : Reading :=
  let r : Reading := match f.seen with
    | .nothing => { stage := min f.stage 1, finders := f.finders }
    | .other => { kind := .unsupported, stage := f.stage, finders := f.finders,
                  pitch := if f.stage < 2 then 0 else min 65535 ((pitchAlong f.quad f.cols + pitchDown f.quad f.rows) / 2) }
    | .ell => readEll tiles f
    | .squares => readSquares tiles f
    | .bars => readBars tiles f
    | .dots => readDots tiles f
  if r.kind = .nothing ∨ r.kind = .unsupported ∨ conditionsMet scale f r ∨ beyond then r
  else { stage := 1, finders := r.finders }

end Sys2Proof.Machine
end

