-- ==== Sys2Proof/Machine/Understory.lean ====
section
/-! DEFINITION. Understory (17 R631 to R638): offers and their order, which spares are left, what an exhausted kind comes
to, and the start and end of a recovery. -/
namespace Sys2Proof.Machine

/-- Codes of UST.RECOVERY.kind (R646). -/
def SpareKind.code : SpareKind → Nat
  | .engine => 1 | .column => 2 | .lane => 3 | .adc => 4 | .row => 5 | .sram => 6 | .key => 7 | .sink => 8 | .domain => 9

/-- The kind of a code. -/
def SpareKind.ofCode (n : Nat) : Option SpareKind :=
  [SpareKind.engine, .column, .lane, .adc, .row, .sram, .key, .sink].find? (fun k => k.code = n)

/-- Spare engines left, lowest first. -/
def Blk.spareEngines (s : Blk) : List Nat := (List.range 18).filter (bitN (s.regN Reg.DECC_SPARE))

/-- The byte of LOCX.SPARE_MAP that shows group `g` (03 R140). -/
def Blk.spareMap (s : Blk) (g : Nat) : Nat :=
  fld (s.regN (if g < 4 then Reg.LOCX_SPARE_MAP_LO else Reg.LOCX_SPARE_MAP_HI)) (8 * (g % 4) + 7) (8 * (g % 4))

/-- Spare rows of an SRAM macro in use. -/
def Blk.sramUsed (s : Blk) (m : Nat) : Nat := ((s.ust.sramUsed.find? (fun p => p.1 = m)).map (·.2)).getD 0

/-- The spare ADC is out of the pool: it serves a channel, or has failed (07 R290). -/
def Blk.adcGone (s : Blk) : Bool := s.pd.spareBad || s.pd.chans.any (fun c => c.adc = 8)

/-- A spare lane stands by in a direction (14 R540). -/
def Blk.laneSpare (s : Blk) (tx : Bool) : Bool := s.lnk.lanes.any (fun l => (if tx then l.tx else l.rx) = .spare)

/-- No spare of the needed kind is left for a unit (R631). -/
def Blk.noSpare (s : Blk) (k : SpareKind) (u : Nat) : Bool :=
  match k with
  | .engine => s.spareEngines.isEmpty
  | .column => 256 ≤ u || bitN (s.spareMap (u / 32)) 7
  | .lane => !s.laneSpare (16 ≤ u)
  | .adc => s.adcGone
  | .row => s.bankSpent u
  | .sram => (Config.sramSpares u).toNat ≤ s.sramUsed u
  | .key => 2 ≤ s.ust.keySpared.length
  | .sink => let k := s.lit.sinks.getD (u / 2) {}; k.offA || k.offB
  | .domain => false

/-- The bit of UST.DEGRADED for a unit (R646). -/
def degradedBit (k : SpareKind) (u : Nat) : Nat :=
  match k with
  | .engine => 0
  | .column => 1
  | .lane => if 16 ≤ u then 3 else 2
  | .adc => 4
  | .row => 5 + u % 2
  | .sram => 7
  | .key => 8
  | .sink => 9
  | .domain => 10

/-- A kind is exhausted: 0xA103 and its bit (R638). -/
def Blk.exhausted (s : Blk) (k : SpareKind) (u : Nat) : Blk :=
  (s.setN Reg.UST_DEGRADED (putBit (s.regN Reg.UST_DEGRADED) (degradedBit k u) true)).raise 0xA103

/-- An engine leaves service (04 R181, DECC.RETIRED). -/
def Blk.retireEngine (s : Blk) (e : Nat) : Blk :=
  let s := s.setN Reg.DECC_ACTIVE (putBit (s.regN Reg.DECC_ACTIVE) e false)
  let s := s.setN Reg.DECC_SPARE (putBit (s.regN Reg.DECC_SPARE) e false)
  s.setN Reg.DECC_RETIRED (putBit (s.regN Reg.DECC_RETIRED) e true)

/-- What a recovery of an exhausted kind comes to (R631, the last column). A channel without an ADC becomes unavailable at its
next safe point (07 R290). -/
def Blk.exhaustedEffect (s : Blk) (r : Recovery) : Blk :=
  let s :=
    match r.kind with
    | .engine => (if r.wear then s else s.retireEngine r.u).raise 0x5022
    | .column => s.engStage 1 (.degrade r.u)
    | .adc => s.updPd r.u (fun c => { c with lostOwed := true })
    | .key => s
    | .sram => s.raise 0x3072
    | .row => s.startCopy r.u true
    | .lane => s
    | .sink => s
    | .domain => s
  if r.kind = .row && (s.memCh (r.u % 2)).spares < 64 then s else s.exhausted r.kind r.u

/-- The first step of a recovery whose spare is there: the spare engine wakes, a column's insertion is staged for the
next frame boundary (03 R123). -/
def Blk.beginRecovery (s : Blk) (r : Recovery) : Blk :=
  match r.kind with
  | .engine => (s.spareEngines.head?).elim s (fun e => s.wakeDom (0x10 + e))
  | .column => s.engStage 1 (.spare .column r.u)
  | .row => s.startCopy r.u false
  | .lane => s
  | .adc => s
  | .sram => s
  | .key => s
  | .sink => s
  | .domain => s

/-- A recovery ends (R636): its duration in 10 µs, the counts, and EVT_RAW bit 6. -/
def Blk.recoveryStats (s : Blk) (since : Nat) : Blk :=
  let d := sat 16 ((s.now - since) / 3125)
  let s := (s.setF Reg.UST_LAST 15 0 d).atLeast Reg.UST_LAST 31 16 d
  (s.bump Reg.UST_COUNTS 15 0 1).event 0x08 6 0x0000

/-- The recovery at the head of the queue starts; one that finds its kind exhausted ends at once, and the next starts. -/
def Blk.startHead : Nat → Blk → Blk
  | 0, s => s
  | n + 1, s =>
    match s.ust.queue with
    | [] => { s with ust := { s.ust with running := false } }
    | r :: t =>
      let r := { r with since := s.now, escalated := false }
      let s := { s with ust := { s.ust with running := true, queue := r :: t } }
      if s.noSpare r.kind r.u then
        let s := (s.exhaustedEffect r).recoveryStats r.since
        Blk.startHead n { s with ust := { s.ust with queue := t } }
      else s.beginRecovery r

/-- The recovery under way ends, and the next starts. -/
def Blk.endRecovery (s : Blk) : Blk :=
  match s.ust.queue with
  | [] => s
  | r :: t =>
    let s := s.recoveryStats r.since
    Blk.startHead (t.length + 1) { s with ust := { s.ust with queue := t, restarting := none } }

/-- The place of an offer: fault recoveries before wear offers, each kind in order of arrival; a wear offer at the head
that still waits moves back behind a fault recovery (R635). -/
def placeOffer (r : Recovery) (q : List Recovery) : List Recovery :=
  if r.wear then q ++ [r]
  else q.takeWhile (fun x => !x.wear) ++ [r] ++ q.dropWhile (fun x => !x.wear)

/-- A unit is offered to Understory (R635). An offer of a unit that stands in the queue already changes nothing; in
Coppice Understory inserts no spare (R630). A recovery whose domain restarts waits for no safe point, and stays at the head (R637). -/
def Blk.offer (s : Blk) (k : SpareKind) (u : Nat) (wear : Bool) : Blk :=
  if s.coppice ∨ s.ust.queue.any (fun r => r.kind = k && r.u = u) then s
  else
    let r : Recovery := { kind := k, u := u, wear := wear, since := s.now }
    let old := s.ust.queue
    let fixed := if s.ust.restarting.isSome then 1 else 0
    let s := { s with ust := { s.ust with queue := old.take fixed ++ placeOffer r (old.drop fixed) } }
    match old with
    | [] => s.startHead 1
    | h :: _ =>
      let s := s.raise 0xA101
      if fixed = 0 && h.wear && !wear then s.startHead (old.length + 1) else s

/-- The recovery under way, when it is of a kind and unit. -/
def Blk.recovering (s : Blk) (k : SpareKind) (u : Nat) : Bool :=
  match s.ust.queue with
  | r :: _ => s.ust.running && r.kind = k && r.u = u
  | [] => false

/-- The domain that holds a unit under recovery (R637). -/
def Blk.unitDom (s : Blk) (k : SpareKind) (u : Nat) : Nat :=
  match k with
  | .engine => 0x10 + s.spareEngines.headD u
  | .column => 2
  | .lane => 6
  | .adc => 3
  | .row => 5
  | .sram => 7
  | .key => 7
  | .sink => 4
  | .domain => u

/-- A domain restarts (R637, 12 R465): its bundles abort, it is clamped and powered down and up again. The committed
values of its RWB registers are what the register file holds. -/
def Blk.restartDomain (s : Blk) (d : Nat) : Blk :=
  let s := (s.abortDomain 0xB028 d).abortEng 0xB028 d
  s.updDom d (fun x => { x with powered := true, ready := false, clamped := true, wakeAt := s.now, touched := s.now,
                                restartAt := some s.now, gateAt := none })

/-! ### DRAM rows (15 R578, R579) -/

/-- A row is offered for a remap: for an uncorrectable word, or by the trend of its corrected errors, a wear monitor, at
MEMX.REMAP_LIMIT of them (15 R578, R579; R633). -/
def Blk.offerRow (s : Blk) (ch rank bank row : Nat) (uncorr : Bool) : Blk :=
  let s := if uncorr then s.updMem ch (fun c => { c with uncorr := (rank, bank, row) :: c.uncorr.filter (fun r => r != (rank, bank, row)) }) else s
  if (s.memCh ch).copies.any (fun k => k.rank = rank && k.bank = bank && k.row = row) then s
  else s.offer .row (rowUnit ch rank bank row) (!uncorr)

/-- An uncorrectable word was read twice (15 R577): counted, latched, and its row offered. -/
def Blk.uncorrectable (s : Blk) (ch rank bank row : Nat) : Blk :=
  ((s.bumpCh Reg.MEM_ECC_UNCORR ch 1).raise 0x3012).offerRow ch rank bank row true

/-- One finished copy takes the place of its row. -/
def Blk.rowMapped (s : Blk) (ch : Nat) (k : RowCopy) : Blk :=
  let r := (k.rank, k.bank, k.row)
  let reg := if ch = 0 then Reg.MEMX_REMAP_A else Reg.MEMX_REMAP_B
  let s := s.updMem ch (fun c =>
    { c with uncorr := c.uncorr.filter (fun x => x != r), errors := c.errors.filter (fun e => e.1 != r),
             copies := c.copies.filter (fun x => x != k) })
  if k.retire then
    let first := !(s.memCh ch).exhausted
    let s := s.updMem ch (fun c => { c with retired := c.retired + 1, exhausted := true })
    let s := { s with mem := { s.mem with slots := s.mem.slots - 1, retiredSlots := s.mem.retiredSlots + 1 } }
    let s := (s.bump reg 23 16 1).setF reg 7 7 1
    if first then s.raise 0x3022 else s
  else
    let spare := topRow s.rowsPerBank (((s.memCh ch).rank k.rank).bank k.bank).sparesUsed
    let s := s.updMem ch (fun c =>
      { c.updRank k.rank (fun x => x.updBank k.bank (fun b => { b with sparesUsed := b.sparesUsed + 1 })) with
        remapped := c.remapped ++ [(r, spare)], spares := c.spares + 1 })
    let s := (s.bump reg 6 0 1).setF reg 7 7 (b2n ((s.memCh ch).ranks.any (fun x => x.banks.any (fun b => (s.memCh ch).sparesPerBank ≤ b.sparesUsed))))
    let s := (if k.uncorr then s.bump Reg.MEMX_REMAP_CAUSE 31 16 1 else s.bump Reg.MEMX_REMAP_CAUSE 15 0 1).raise 0x3021
    if s.recovering .row (rowUnit ch k.rank k.bank k.row) then s.endRecovery else s

/-- The mapping of every finished copy of a channel takes effect. -/
def Blk.remapCommit (s : Blk) (ch : Nat) : Blk :=
  ((s.memCh ch).copies.filter (·.done)).foldl (fun s k => s.rowMapped ch k) s

/-- The mapping of a channel's finished copies waits for the next frame or sweep boundary, or takes effect at once when no
exposure or sweep job is live (15 R578). -/
def Blk.remapDue (s : Blk) (ch : Nat) : Blk :=
  if s.exposureLive || s.sweepLive then s.engStage 3 (.remap ch) else (s.engTag (.remap ch)).remapCommit ch

end Sys2Proof.Machine
end

