-- ==== Sys2Proof/Machine/Illumination.lean ====
section
/-! DEFINITION. Illumination (11): the current of a column, strobes, pattern engines, the sharing of the matrix,
conductions, the duty rule, tests and stretched pulses, sink halves, lamp temperature. Times are in quarter ticks. -/
namespace Sys2Proof.Machine

/-- Now, in quarter ticks. -/
def Blk.q (s : Blk) : Nat := 4 * s.now

/-- A time of the illumination timeline has come. -/
def Blk.dueQ (s : Blk) (t4 : Nat) : Bool := t4 ≤ s.q

/-- A time that has just come is met exactly; a later command acts at its own tick. -/
def Blk.at4 (s : Blk) (t4 : Nat) : Nat := if s.q < t4 + 4 then t4 else s.q

/-- The pre-charge time, the slot length and the row lead, in quarter ticks (R399, R404, R413). -/
def Blk.pre4 (s : Blk) : Nat := 25 * s.regF Reg.LIT_PRECHARGE 5 0
def Blk.mux4 (s : Blk) : Nat := 25 * s.regF Reg.LIT_MUX 13 0
def Blk.lead4 (s : Blk) : Nat := 25 * s.regF Reg.LIT_ROW_LEAD 4 0

/-- A sink's state. -/
def Blk.sink (s : Blk) (c : Nat) : SinkSt := s.lit.sinks.getD c {}
/-- It runs on one half (R426). -/
def SinkSt.half (k : SinkSt) : Bool := k.offA || k.offB
/-- A sink changed. -/
def Blk.updSink (s : Blk) (c : Nat) (f : SinkSt → SinkSt) : Blk := { s with lit := { s.lit with sinks := upd s.lit.sinks c f } }
/-- A position's state and place. -/
def Blk.ledPos (s : Blk) (row c : Nat) : LedPos := s.lit.pos.getD (24 * row + c) {}
/-- A position changed. -/
def Blk.updPos (s : Blk) (row c : Nat) (f : LedPos → LedPos) : Blk :=
  { s with lit := { s.lit with pos := upd s.lit.pos (24 * row + c) f } }
/-- A pattern engine. -/
def Blk.pat (s : Blk) (e : Nat) : PatSt := s.lit.pats.getD e {}
/-- A pattern engine changed. -/
def Blk.updPat (s : Blk) (e : Nat) (f : PatSt → PatSt) : Blk := { s with lit := { s.lit with pats := upd s.lit.pats e f } }

/-- A frame's exposure runs. -/
def Frame.exposing (f : Frame) : Bool := f.started && f.zero.isNone
/-- The frames whose exposure runs. -/
def Blk.exposing (s : Blk) : List Frame := s.sns.frames.filter Frame.exposing

/-- No light: a shutdown (R431), or the domain's clamps hold every sink off (R432). -/
def Blk.litDark (s : Blk) : Bool := s.lit.shutdown || !s.domReady 4

/-! ### The current of a column (R400 to R403) -/

/-- I* in amplitude steps of 0.375 mA, as a fraction, before the limits: G, C_c, T_n, F and the level of 4 095 (R400). -/
def currentOf (g c t f level : Nat) : Nat × Nat := (4000 * g * c * t * f * level, 255 * 1023 * 32768 * 256 * 4095)

/-- The limit of a sink in thirds of an amplitude step: 1 500 mA, 750 mA on one half, 400 mA (200 mA on one half) while the
duty rule or Rosemary asks for it (R400, R426, R432). -/
def sinkLimit (half low : Bool) : Nat := if low then (if half then 1600 else 3200) else if half then 6000 else 12000

/-- A limited current as a drive (R401). -/
def driveOf (n d : Nat) : ColDrive :=
  if n = 0 then {}
  else if 250 * d ≤ n then { code := (2 * n + d) / (2 * d) }
  else
    let duty := (2 * 4096 * n + 250 * d) / (2 * 250 * d)
    if duty = 4096 then { code := 250 } else { code := 250, duty := some duty }

/-- The drive of a column under a source's settings, and whether the limits of one half cut it (R400, R401, R426). -/
def Blk.colDrive (s : Blk) (c : Nat) (i : Nat × Nat) : ColDrive × Bool :=
  let k := s.sink c
  let lim := sinkLimit k.half (k.lowered || s.pwr.mode = .rosemary)
  if lim * i.2 < 3 * i.1 then (driveOf lim 3, k.half) else (driveOf i.1 i.2, false)

/-- Above the continuous limit of a sink: 400 mA is code 1 067, 200 mA is code 533 (R419, R426). -/
def hotCode (half : Bool) (d : ColDrive) : Bool := d.duty.isNone && (if half then 533 else 1067) < d.code

/-- On-time of a PWM column within a time of t quarter ticks (R401). -/
def pwmOn (duty t : Nat) : Nat := t / 4096 * duty + min duty (t % 4096)

/-- Charge of a drive over a time, in code × quarter tick. -/
def ColDrive.charge (d : ColDrive) (t : Nat) : Nat :=
  match d.duty with
  | none => d.code * t
  | some k => 250 * pwmOn k t

/-! ### Sources (R405, R413, R416 to R418) -/

/-- A request for light: source, row, start of its pre-charge, of its conduction, and its end if one is set. -/
structure Want where
  src : LitSrc
  row : Nat
  ps : Nat
  cs : Nat
  ce : Option Nat
deriving DecidableEq, Repr

/-- End of a strobe's last conduction (R405). -/
def Strobe.end4 (b : Strobe) : Nat := b.x4 + b.o4 + (b.rows.length - 1) * b.p4 + b.pre4 + b.w4

/-- The pulse of a strobe that a time belongs to; it holds its rank from its first pre-charge to the end of its last
conduction. -/
def Strobe.want (b : Strobe) (q : Nat) : Option Want :=
  let t0 := b.x4 + b.o4
  if q < t0 ∨ b.end4 ≤ q ∨ b.rows.isEmpty then none
  else
    let i := (q - t0) / b.p4
    let ps := t0 + i * b.p4
    some { src := .strobe, row := b.rows.getD i 0, ps := ps, cs := ps + b.pre4, ce := some (ps + b.pre4 + b.w4) }

/-- The number of a pattern engine's source. -/
def LitSrc.pat : Nat → LitSrc
  | 0 => .pat0
  | _ => .pat1

/-- A pattern engine is suspended on every column by a frame that does not name it (R418). -/
def Blk.patQuiet (s : Blk) (e : Nat) : Bool :=
  bitN (s.regN Reg.LIT_CFG) 0 && s.exposing.any (fun f => f.light != 2 + e)

/-- A column is used by pattern engine `e`: its use bit is set and its current is not 0 (R417). -/
def Blk.patUses (s : Blk) (e c : Nat) : Bool :=
  let v := s.regN (Reg.LITC_COL_CFG c)
  bitN v (17 + e) && fld v 9 0 != 0 && s.regF Reg.LIT_CURRENT 7 0 != 0 && (s.pat e).level != 0

/-- Pattern engine `e` asks for light; a conduction of its own that runs goes on to its end, whatever is set meanwhile (R402). -/
def Blk.patWant (s : Blk) (e : Nat) : Option Want :=
  let p := s.pat e
  if p.running && p.rows != 0 && !s.patQuiet e &&
      ((List.range 24).any (s.patUses e) || (match s.lit.cond with | some c => decide (c.src = LitSrc.pat e) | none => false)) then
    some { src := LitSrc.pat e, row := p.slotRow, ps := p.slotAt4, cs := p.slotAt4 + s.pre4,
           ce := if 2 ≤ popcount 8 p.rows then some (p.slotAt4 + s.mux4) else none }
  else none

/-- The requests of a moment, highest rank first (R416). -/
def Blk.wants (s : Blk) : List Want :=
  let strobe := s.lit.strobes.filterMap (fun b => b.want s.q)
  let named (e : Nat) : Bool := s.exposing.any (fun f => f.light = 2 + e)
  let pats := if named 1 && !named 0 then [1, 0] else [0, 1]
  strobe.take 1 ++ pats.filterMap s.patWant

/-- The source that chooses the row. -/
def Blk.top (s : Blk) : Option Want := if s.litDark then none else s.wants.head?

/-! ### Conductions (R397, R399, R402, R403, R408) -/

/-- When a column of a conduction that ends at `e4` stops drawing current. -/
def ColDrive.until (d : ColDrive) (e4 : Nat) : Nat := match d.stop4 with | some t => min t e4 | none => e4

/-- When a column of a conduction that starts at `c4` starts. -/
def ColDrive.start (d : ColDrive) (c4 : Nat) : Nat := max c4 d.from4

/-- How late the on-time of a column starts that repays a charge, in quarter ticks of its conduction: the on-times of a PWM column
are the first part of each period (R401, R422). -/
def ColDrive.delay (d : ColDrive) (debt : Nat) : Nat :=
  if debt = 0 || d.code = 0 then 0
  else
    let on := ceilDiv debt d.code
    match d.duty with
    | none => on
    | some 0 => on
    | some k => on / k * 4096 + on % k

/-- The row lead of a request: the strobe's is fixed at its frame's boundary (R399, R407). -/
def Blk.leadOf (s : Blk) (w : Want) : Nat :=
  if w.src = .strobe then ((s.lit.strobes.find? (fun b => (b.want s.q).isSome)).map (·.lead4)).getD s.lead4 else s.lead4

/-- A lower source is served on the row that a higher one chose when its mask holds it (R417). -/
def Blk.serves (s : Blk) (row : Nat) (top : LitSrc) (src : LitSrc) : Bool :=
  src = top || (match src with
    | .strobe => false
    | .pat0 => bitN (s.pat 0).rows row
    | .pat1 => bitN (s.pat 1).rows row)

/-- The current and the use bit of a source on a column of a row: the strobe's settings are those of its frame's boundary
(R407), a pattern engine's those in force. -/
def Blk.srcCurrent (s : Blk) (src : LitSrc) (row c : Nat) : Option (Nat × Nat) :=
  let f := s.lit.factor
  match src with
  | .strobe =>
    match s.lit.strobes.find? (fun b => (b.want s.q).isSome) with
    | none => none
    | some b =>
      let v := b.colCfg.getD c 0
      if bitN v 16 && fld v 9 0 != 0 && b.global != 0 then some (currentOf b.global (fld v 9 0) (b.trims.getD row 0x8000) f 4095) else none
  | _ =>
    let e := if src = .pat1 then 1 else 0
    if s.patUses e c then
      some (currentOf (s.regF Reg.LIT_CURRENT 7 0) (s.regF (Reg.LITC_COL_CFG c) 9 0) (s.regF (Reg.ADM_CAL_LIT_TRIM row) 15 0) f (s.pat e).level)
    else none

/-- The source and the current that a column takes. -/
def Blk.colSource (s : Blk) (row c : Nat) (top : LitSrc) (l : List Want) : Option (LitSrc × Nat × Nat) :=
  (l.filter (fun w => s.serves row top w.src)).findSome? (fun w => (s.srcCurrent w.src row c).map (fun i => (w.src, i.1, i.2)))

/-- The duty rule's total of a sink over the trailing 2 ms, in quarter ticks, and the time its present conduction has run
above the limit (R419). -/
def Blk.hotTime (s : Blk) (c : Nat) : Nat × Nat :=
  let from4 := s.q - 2500000
  let k := s.sink c
  let now := match s.lit.cond with
    | some d => (match d.cols[c]? with
      | some v => if hotCode k.half v then v.until s.q - (v.start d.start4 + v.cut4) else 0
      | none => 0)
    | none => 0
  ((k.hot.map (fun h => h.2 - max h.1 from4)).foldl (· + ·) 0 + min now 2500000, now)

/-- One column latches its drive (R402); an excluded position stays off (R421); a column of one half whose current the
limits cut is counted (R426). A strobe pulse repays nothing (R422). -/
def Blk.latchCol (s : Blk) (row c : Nat) (top : LitSrc) (l : List Want) : ColDrive × Blk :=
  let s := s.updSink c (fun k => { k with lowered := k.lowered && 250000 ≤ (s.hotTime c).1 })
  match s.colSource row c top l with
  | none => ({}, s)
  | some (src, i) =>
    if 2 ≤ (s.ledPos row c).st then ({}, s)
    else
      let (d, cut) := s.colDrive c i
      let s := if cut then s.bump Reg.LIT_CLAMPS 31 16 1 else s
      let s := s.setF (Reg.LITC_COL_STAT c) 11 0 d.code
      ({ d with src := src, cut4 := if src = .strobe then 0 else d.delay (s.ledPos row c).debt }, s)

/-- All columns in turn. -/
def Blk.latchCols (s : Blk) (row : Nat) (top : LitSrc) (l : List Want) : List ColDrive × Blk :=
  (List.range 24).foldl (fun (acc : List ColDrive × Blk) c =>
    let (d, s) := acc.2.latchCol row c top l
    (acc.1 ++ [d], s)) ([], s)

/-- A drive draws current at some moment of a conduction that lasts `dur`, if its end is known: it is on, its duty is not 0, and
the charge it repays does not outlast the conduction (R397, R401, R422). -/
def ColDrive.draws (d : ColDrive) (dur : Option Nat) : Bool :=
  d.code != 0 && d.duty != some 0 && (match dur with | some t => d.cut4 < t | none => true)

/-- Columns that draw no current leave a conduction; one whose whole on-time goes into its debt has repaid that much. -/
def Blk.dropIdle (s : Blk) (row : Nat) (cols : List ColDrive) (dur : Option Nat) : List ColDrive × Blk :=
  let s := (cols.zipIdx.filter (fun p => p.1.code != 0 && p.1.duty != some 0 && !p.1.draws dur)).foldl (fun s p =>
    s.updPos row p.2 (fun q => { q with debt := q.debt - p.1.charge (dur.getD 0) })) s
  (cols.map (fun d => if d.draws dur then d else {}), s)

/-- One result of a position (R421): 1 good, 2 open, 3 short. -/
def LedPos.judge (p : LedPos) (r : Nat) : LedPos :=
  let opens := if r = 2 then p.opens + 1 else 0
  let shorts := if r = 3 then p.shorts + 1 else 0
  { p with opens := opens, shorts := shorts, completed := true, owed := false,
           st := if r = 1 then 1 else if 2 ≤ opens then 2 else if 2 ≤ shorts then 3 else p.st }

/-- The class of a reading (R420): half currents and amplitude in µA, COL in mV. -/
def Blk.testClass (s : Blk) (amp cur volt : Nat) : Nat :=
  let d := if cur ≤ amp then amp - cur else cur - amp
  if 2 * cur < amp && volt < 400 then 2
  else if 10 * d ≤ amp && 100 * s.regF Reg.LITD_THRESH 7 0 < volt then 3
  else 1

/-- The imbalance of a reading in 2^-40 (R425). -/
def imbalance (ia ib : Nat) : Nat := if ia + ib = 0 then 0 else (if ia ≤ ib then ib - ia else ia - ib) * 2 ^ 40 / (ia + ib)

/-- What a conduction's end does to one column: the position conducted, charge owed or repaid, time above the continuous
limit (R419, R422). -/
def Blk.endCol (s : Blk) (c : Conduct) (e4 col : Nat) (d : ColDrive) : Blk :=
  if d.code = 0 then s
  else
    let start := d.start c.start4
    let dur := d.until e4 - start
    let hot := hotCode (s.sink col).half d
    let s := s.updPos c.row col (fun p =>
      { p with conducted := true, long := p.long || 2500 ≤ dur,
               debt := match d.owed with
                 | some prog => p.debt + (250 * dur - prog)
                 | none => p.debt - d.charge (min d.cut4 dur) })
    if hot then s.updSink col (fun k =>
      { k with hot := (start + d.cut4, d.until e4) :: k.hot.filter (fun h => s.q ≤ h.2 + 2500000) }) else s

/-- Frames whose exposure runs keep a pulse (R403, R408). -/
def Blk.notePulse (s : Blk) (p : Pulse) : Blk :=
  { s with sns := { s.sns with frames := s.sns.frames.map (fun f => if f.exposing then { f with pulses := f.pulses ++ [p] } else f) } }

/-- How far a conduction has come. -/
def Blk.come4 (s : Blk) (c : Conduct) : Nat := max (match c.end4 with | some e => min e s.q | none => s.q) c.start4

/-- A reading is judged: it changes the state of its position, counts for the imbalance of its sink, and the first exclusion of the
position is latched (R420, R421, R425). The reading was taken at amplitude code `code`. -/
def Blk.judgeReading (s : Blk) (row code : Nat) (k : LedReading) : Blk :=
  let amp := 375 * code
  let r := s.testClass amp (k.ia + k.ib) k.volt
  let old := (s.ledPos row k.col).st
  let s := s.updPos row k.col (fun p => p.judge r)
  let new := (s.ledPos row k.col).st
  let s := if (s.sink k.col).half then s else s.updSink k.col (fun x =>
    { x with imbSum := x.imbSum + imbalance k.ia k.ib, imbCount := x.imbCount + 1,
             devA := x.devA + absDiff (2 * k.ia) amp, devB := x.devB + absDiff (2 * k.ib) amp })
  if new != old && 2 ≤ new then s.raise (if new = 2 then 0x7011 else 0x7012) else s

/-- A conduction whose column of a reading has lasted 2 µs: the reading is a test (R420). -/
def Conduct.lasted (c : Conduct) (e4 : Nat) (k : LedReading) : Bool :=
  let d := c.cols.getD k.col {}
  d.start c.start4 + 2500 ≤ d.until e4

/-- Readings whose column has lasted 2 µs are judged; the column of a position that they exclude ends (R421). -/
def Blk.judged (s : Blk) : Blk :=
  match s.lit.cond with
  | none => s
  | some c =>
    let e4 := s.come4 c
    let (ripe, green) := c.readings.partition (c.lasted e4)
    let s := ripe.foldl (fun s k => s.judgeReading c.row (c.cols.getD k.col {}).code k) s
    let off (i : Nat) : Bool := ripe.any (fun k => k.col = i) && 2 ≤ (s.ledPos c.row i).st
    let cols := c.cols.zipIdx.map (fun (d, i) => if off i && d.code != 0 then { d with stop4 := some (d.until e4) } else d)
    { s with lit := { s.lit with cond := some { c with readings := green, cols := cols } } }

/-- A conduction ends, and its row output is released at that tick (R399); frames whose exposure runs keep its pulse. -/
def Blk.endCond (s : Blk) : Blk :=
  let s := s.judged
  match s.lit.cond with
  | none => s
  | some c =>
    let e4 := s.come4 c
    let s := (c.cols.zipIdx).foldl (fun s (d, i) => s.endCol c e4 i d) s
    let s := s.notePulse { row := c.row, cols := c.cols, start4 := c.start4, end4 := e4 }
    { s with lit := { s.lit with cond := none, rowdrv := none } }

/-- A column of a conduction draws current at this tick. -/
def ColDrive.live (d : ColDrive) (q : Nat) : Bool := d.code != 0 && q < d.until (q + 1)

/-- A conduction in which no column draws current any more is over (R397). -/
def Blk.endIdle (s : Blk) : Blk :=
  match s.lit.cond with
  | some c => if c.cols.any (ColDrive.live · s.q) then s else s.endCond
  | none => s

/-- Every conduction ends, every row is released, no pre-charge runs. -/
def Blk.lightsOff (s : Blk) : Blk :=
  let s := s.endCond
  { s with lit := { s.lit with prech := none, rowdrv := none } }

/-- A column that serves a lower source may go on: the source runs, is not suspended, and its mask holds the row (R417, R418). -/
def Blk.served (s : Blk) (row : Nat) : LitSrc → Bool
  | .strobe => false
  | .pat0 => (s.pat 0).running && !s.patQuiet 0 && bitN (s.pat 0).rows row
  | .pat1 => (s.pat 1).running && !s.patQuiet 1 && bitN (s.pat 1).rows row

/-- A higher source uses the column that a lower one is served on (R417). -/
def Blk.outranked (s : Blk) (row col : Nat) (top src : LitSrc) (l : List Want) : Bool :=
  (l.takeWhile (fun w => w.src != src)).any (fun w => s.serves row top w.src && (s.srcCurrent w.src row col).isSome)

/-- One column ends its part of a conduction that goes on, and takes another drive. -/
def Blk.turnCol (s : Blk) (c : Conduct) (col : Nat) (d : ColDrive) : Conduct × Blk :=
  let old := c.cols.getD col {}
  let s := if old.code = 0 then s else
    (s.endCol c s.q col old).notePulse
      { row := c.row, cols := c.cols.zipIdx.map (fun (x, i) => if i = col then x else {}), start4 := c.start4, end4 := s.q }
  ({ c with cols := upd c.cols col (fun _ => d), tested := c.tested.filter (fun i => i != col),
            readings := c.readings.filter (fun k => k.col != col) }, s)

/-- One column of a conduction under way (R417): a lower source on it that is stopped or suspended, whose mask has left the row, or
whose column a higher source has come to use, ends; a lower source that has come to be served on it, and that no higher one holds
off, begins at this tick with its own settings. The pre-charge that R417 gives a resumed output cannot run while the row conducts
(DESIGN CHOICE, log 33). -/
def Blk.shareCol (s : Blk) (c : Conduct) (col : Nat) (l : List Want) : Conduct × Blk :=
  let d := c.cols.getD col {}
  let gone := d.live s.q && d.src != c.src && (!s.served c.row d.src || s.outranked c.row col c.src d.src l)
  let c : Conduct := if gone then { c with cols := upd c.cols col (fun d => { d with stop4 := some s.q }) } else c
  let now := (s.colSource c.row col c.src l).map (·.1)
  let old := c.used.getD col none
  let c : Conduct := { c with used := upd c.used col (fun _ => now) }
  if (gone || !d.live s.q) && now != old && now.any (fun x => x != c.src) && !c.stretch && c.end4.all (fun e => decide (s.q < e)) then
    let (x, s) := s.latchCol c.row col c.src l
    if x.draws (c.end4.map (fun e => e - s.q)) then s.turnCol c col { x with from4 := s.q } else (c, s)
  else (c, s)

/-- Every column of the conduction under way is looked at again (R409, R417); a conduction that no column draws in is over (R397). -/
def Blk.shareCols (s : Blk) : Blk :=
  let s := s.judged
  match s.lit.cond with
  | none => s
  | some c =>
    let l := s.wants
    let (c, s) := (List.range 24).foldl (fun (x : Conduct × Blk) i => x.2.shareCol x.1 i l) (c, s)
    ({ s with lit := { s.lit with cond := some c } } : Blk).endIdle

/-- A conduction or pre-charge whose source no longer chooses the row ends at the tick of the interruption (R417), and so do the
columns of a lower source that is served no more; a stretched pulse runs on for its own source. -/
def Blk.litReview (s : Blk) : Blk :=
  let s := { s with lit := { s.lit with strobes := s.lit.strobes.filter (fun b => s.q < b.end4) } }
  let t := s.top
  let ok (src : LitSrc) (row : Nat) : Bool := match t with | some w => w.src = src && w.row = row | none => false
  let s := match s.lit.cond with
    | some c => if ok c.src c.row then s.shareCols else s.endCond
    | none => s
  match s.lit.prech with
  | some (src, row, _) => if ok src row then s else { s with lit := { s.lit with prech := none, rowdrv := none } }
  | none => s

/-- The pre-charge of the source that chooses the row begins: all columns to VPRE, every row released (R404). -/
def prechargeStart (s : Blk) : Blk :=
  let s := s.litReview
  match s.top with
  | none => s
  | some w =>
    if s.lit.prech.isSome then s
    else if !(s.dueQ w.ps) then s
    else match s.lit.cond with
      | some _ => s
      | none =>
        if w.src = .strobe && (match w.ce with | some e => e ≤ s.q | none => false) then s
        else { s with lit := { s.lit with prech := some (w.src, w.row, s.at4 w.ps), rowdrv := none } }

/-- PRECHARGE_START (R404). -/
def execPrechargeStart (dt : Nat) (s : State) : Host.Outcome State Fault Refusal := done s (prechargeStart (s.blk.elapse dt))

/-- Start of the conduction that follows the pre-charge under way: t_pre after it began, and never before its request's own
start; a pulse that an interruption has delayed is pre-charged in full first (R404). -/
def Blk.condAt (s : Blk) (w : Want) (since : Nat) : Nat :=
  if w.src = .strobe then max w.cs (since + (w.cs - w.ps)) else since + s.pre4

/-- ROW_LEAD before a conduction, its row output is asserted (R399). -/
def rowdrvAssert (s : Blk) : Blk :=
  match s.lit.prech, s.top with
  | some (_, row, since), some w =>
    if s.dueQ (max since (s.condAt w since - s.leadOf w)) then { s with lit := { s.lit with rowdrv := some row } } else s
  | _, _ => s

/-- ROWDRV_ASSERT (R399). -/
def execRowdrvAssert (dt : Nat) (s : State) : Host.Outcome State Fault Refusal := done s (rowdrvAssert (s.blk.elapse dt))

/-- A conduction of a pattern engine with positions that are owed a stretched pulse (R422): they are driven at 93.75 mA for
2 µs, the slot is lengthened, and every other column stops where it was programmed to. -/
def Blk.stretch (s : Blk) (w : Want) (c : Conduct) : Conduct × Blk :=
  let short := match c.end4 with | some e => e < c.start4 + 2500 | none => true
  let prog := match c.end4 with | some e => e - c.start4 | none => 2500
  let owes (i : Nat) : Bool :=
    let p := s.ledPos c.row i
    p.owed && !p.stretched && (c.cols.getD i {}).code != 0
  let l := (List.range 24).filter owes
  if w.src = .strobe || !short || l.isEmpty || !(s.exposing.isEmpty) || !(bitN (s.regN Reg.LITD_DIAG) 8) then (c, s)
  else
    let e4 := c.start4 + 2500
    let cols := c.cols.zipIdx.map (fun (d, i) =>
      if owes i then ({ code := 250, src := d.src, owed := some (d.charge prog) } : ColDrive) else { d with stop4 := c.end4 })
    let e := if w.src = .pat1 then 1 else 0
    let s := s.updPat e (fun p => match c.end4 with | some x => { p with slotAt4 := p.slotAt4 + (e4 - x) } | none => p)
    let s := l.foldl (fun s i => (s.updPos c.row i (fun p => { p with stretched := true })).setF (Reg.LITC_COL_STAT i) 11 0 250) s
    ({ c with cols := cols, end4 := some e4, stretch := true }, s.bump Reg.LITD_STRETCHES 15 0 l.length)

/-- A row conducts (R397, R402, R408): one or more of its columns draw current. -/
def conductionStart (s : Blk) : Blk :=
  let s := s.litReview
  match s.lit.prech, s.top with
  | some (src, row, since), some w =>
    let cs := s.condAt w since
    if !(s.dueQ cs) || (match w.ce with | some e => e ≤ cs | none => false) then s
    else
      let (cols, s) := s.latchCols row src s.wants
      let (cols, s) := s.dropIdle row cols (w.ce.map (fun e => e - s.at4 cs))
      if cols.all (fun d => d.code = 0) then { s with lit := { s.lit with prech := none, rowdrv := none } }
      else
        let used := (List.range 24).map (fun i => (s.colSource row i src s.wants).map (·.1))
        let c : Conduct := { src := src, row := row, cols := cols, start4 := s.at4 cs, end4 := w.ce, used := used }
        let (c, s) := s.stretch w c
        let frames := s.sns.frames.map (fun f => if f.exposing then { f with sectors := putBit f.sectors row true } else f)
        { s with lit := { s.lit with prech := none, rowdrv := some row, cond := some c }, sns := { s.sns with frames := frames } }
  | _, _ => s

/-- CONDUCTION_START (R402). -/
def execConductionStart (dt : Nat) (s : State) : Host.Outcome State Fault Refusal := done s (conductionStart (s.blk.elapse dt))

/-- A conduction's end comes (R399). -/
def conductionEnd (s : Blk) : Blk :=
  match s.lit.cond with
  | none => s
  | some c =>
    match c.end4 with
    | some e => if s.dueQ e then s.endCond else s.litReview
    | none => s.litReview

/-- CONDUCTION_END (R399). -/
def execConductionEnd (dt : Nat) (s : State) : Host.Outcome State Fault Refusal := done s (conductionEnd (s.blk.elapse dt))

/-! ### The exposure strobe (R405 to R407) -/

/-- Rows of a mask, increasing. -/
def rowsOf (mask : Nat) : List Nat := (List.range 8).filter (bitN mask)

/-- The row a chase lights next (R406). -/
def Blk.chaseRow (s : Blk) : Nat :=
  let mask := s.regF Reg.LIT_STROBE_CTL 7 0
  match s.lit.chase with
  | some r => r
  | none => (lowestBit 8 mask).getD 0

/-- The next row of a mask after `r`, cyclically. -/
def nextRow (mask r : Nat) : Nat := ((rowsOf mask).find? (fun k => r < k)).getD ((lowestBit 8 mask).getD 0)

/-- The strobe of a frame, fixed at its boundary with the current settings, and the chase advanced (R405 to R407). -/
def Blk.fixStrobe (s : Blk) (unit x4 : Nat) : Blk :=
  let ctl := s.regN Reg.LIT_STROBE_CTL
  let mask := fld ctl 7 0
  let chase := bitN ctl 8
  let rows := if mask = 0 then [] else if chase then [s.chaseRow] else rowsOf mask
  let w4 := 25 * s.regF Reg.LIT_STROBE_WIDTH 13 0
  let b : Strobe :=
    { unit := unit, x4 := x4, rows := rows, o4 := 25 * s.regF Reg.LIT_STROBE_START 22 0, w4 := w4, pre4 := s.pre4,
      p4 := max 2500 (w4 + s.pre4), global := s.regF Reg.LIT_CURRENT 7 0,
      colCfg := (List.range 24).map (fun c => s.regN (Reg.LITC_COL_CFG c)),
      trims := (List.range 8).map (fun n => s.regF (Reg.ADM_CAL_LIT_TRIM n) 15 0), lead4 := s.lead4 }
  { s with lit := { s.lit with strobes := s.lit.strobes ++ [b],
                               chase := if chase && mask != 0 then some (nextRow mask s.chaseRow) else s.lit.chase } }

/-! ### Pattern engines (R409 to R414) -/

/-- The unit of an engine's durations, in quarter ticks (R411). -/
def Blk.unit4 (s : Blk) (e : Nat) : Nat := [25, 1250, 125000, 12500000].getD (s.regF (Reg.PAT_CFG e) 1 0) 25

/-- The step word an engine stands at. -/
def Blk.patWord (s : Blk) (e : Nat) : Nat := s.regN (Reg.PAT_PROG e (s.pat e).step)

/-- A row mask rotated cyclically by some places (R410). -/
def rotate8 (m k : Nat) (down : Bool) : Nat :=
  let k := if down then (8 - k) % 8 else k
  (m * 2 ^ k) % 256 + (m * 2 ^ k) / 256

/-- A level or mask set; a change of mask starts a new slot (R413). -/
def PatSt.show (p : PatSt) (rows level : Nat) : PatSt :=
  if rows = p.rows then { p with level := level }
  else { p with rows := rows, level := level, slotAt4 := p.stepAt4, slotRow := (lowestBit 8 rows).getD 0 }

/-- One step that takes no time, or the place where the program waits (R410, R411): `none` when it waits there. -/
def stepOnce (w : Nat) (p : PatSt) : Option PatSt :=
  let next (p : PatSt) : PatSt := if p.step = 63 then { p with running := false } else { p with step := p.step + 1 }
  match fld w 31 28 with
  | 1 => some (next (p.show (fld w 23 16) (fld w 11 0)))
  | 2 => if fld w 15 0 = 0 then some (next (p.show p.rows (fld w 27 16))) else none
  | 3 => if fld w 15 0 = 0 then some (next p) else none
  | 4 => some (next (p.show (rotate8 p.rows (fld w 18 16) (bitN w 19)) p.level))
  | 5 =>
    let n := fld w 11 0
    if n = 0 then some { p with step := fld w 21 16 }
    else
      let left := ((p.loops.find? (fun l => l.1 = p.step)).map (·.2)).getD n
      let others := p.loops.filter (fun l => l.1 != p.step)
      if left = 0 then some (next { p with loops := others })
      else some { p with loops := (p.step, left - 1) :: others, step := fld w 21 16 }
  | 6 => none
  | _ => some { p with running := false }

/-- The program runs on to a step that takes time; one that never reaches one stands where it was cut (log 30). -/
def Blk.patRun : Nat → Nat → Blk → Blk
  | 0, _, s => s
  | n + 1, e, s =>
    let p := s.pat e
    if !p.running then s
    else match stepOnce (s.patWord e) p with
      | some p => Blk.patRun n e (s.updPat e (fun _ => p))
      | none => s.updPat e (fun p => { p with lev0 := p.level, elapsed := 0, waiting := fld (s.patWord e) 31 28 = 6 })

/-- More steps of no time than a program has states, of step, level, mask and loop counters: only an endless one is cut (log 30). -/
def patFuel : Nat := 64 * 4096 * 256 * 4097 ^ 64

/-- A pre-charge of a pattern engine's own is given up: its slot begins anew (R413). -/
def Blk.dropPre (s : Blk) (e : Nat) : Blk :=
  match s.lit.prech with
  | some (src, _, _) => if src = LitSrc.pat e then { s with lit := { s.lit with prech := none, rowdrv := none } } else s
  | none => s

/-- The columns of a conduction under way that serve an engine below its own source end; they may begin anew at this tick. -/
def Blk.dropServed (s : Blk) (e : Nat) : Blk :=
  match s.lit.cond with
  | some c =>
    let mine (d : ColDrive) : Bool := d.src = LitSrc.pat e && d.src != c.src && d.live s.q
    let cols := c.cols.map (fun d => if mine d then { d with stop4 := some s.q } else d)
    let used := c.used.zipIdx.map (fun (u, i) => if mine (c.cols.getD i {}) then none else u)
    { s with lit := { s.lit with cond := some { c with cols := cols, used := used } } }
  | none => s

/-- A pattern engine keeps running in Rosemary (11 R432). -/
def Blk.sleepRun (s : Blk) (e : Nat) : Bool := (s.pat e).running && bitN (s.regN (Reg.PAT_CFG e)) 4

/-- In Rosemary the illumination is off once no pattern engine runs with sleep_run 1 (R432). -/
def Blk.glowOver (s : Blk) : Blk :=
  if s.pwr.mode = .rosemary && (s.dom 4).powered && !s.sleepRun 0 && !s.sleepRun 1 then s.lightsOff.gateDom 4 else s

/-- After an engine moved: what conducts for it ends when its mask changed, or its level with a single row (R413). -/
def Blk.patMoved (s : Blk) (e : Nat) (old : PatSt) : Blk :=
  let p := s.pat e
  let s : Blk := if old.running && !p.running then s.touch [4] else s
  let s := if old.rows != p.rows then s.dropPre e else s
  let single := popcount 8 p.rows < 2
  let s := if old.rows != p.rows || (single && old.level != p.level) then s.dropServed e else s
  match s.lit.cond with
  | some c =>
    if c.src = LitSrc.pat e && !c.stretch && (old.rows != p.rows || (single && old.level != p.level)) then s.endCond.litReview.glowOver
    else s.litReview.glowOver
  | none => s.litReview.glowOver

/-- An engine goes on with the next step at time `t4`. -/
def Blk.patNext (s : Blk) (e t4 : Nat) (f : PatSt → PatSt) : Blk :=
  let old := s.pat e
  let s := s.updPat e (fun p =>
    let p : PatSt := { f p with stepAt4 := t4, waiting := false }
    if p.step = 63 then { p with running := false } else { p with step := p.step + 1 })
  (s.patRun patFuel e).patMoved e old

/-- A committed PAT.CTL starts or stops its engine (R409). A start begins a new timeline, so what the engine lit before ends
(R413). -/
def Blk.patCtl (s : Blk) (e v : Nat) : Blk :=
  let old := s.pat e
  if bitN v 0 then
    let s := (match s.lit.cond with
      | some c => if c.src = LitSrc.pat e then s.endCond else s.dropServed e
      | none => s).dropPre e
    let s := s.updPat e (fun p => { running := true, timedOut := p.timedOut, step := fld v 13 8, stepAt4 := s.q, slotAt4 := s.q })
    (s.patRun patFuel e).patMoved e old
  else (s.updPat e (fun p => { p with running := false, waiting := false })).litReview

/-- A HOLD or RAMP has lasted its duration (R411). -/
def patStepExpiry (e : Nat) (s : Blk) : Blk :=
  let p := s.pat e
  let w := s.patWord e
  let op := fld w 31 28
  let end4 := p.stepAt4 + fld w 15 0 * s.unit4 e
  if p.running && (op = 2 || op = 3) && s.dueQ end4 then
    s.patNext e end4 (fun p => if op = 2 then { p with level := fld w 27 16 } else p)
  else s

/-- PAT_STEP_EXPIRY (R411). -/
def execPatStepExpiry (dt e : Nat) (s : State) : Host.Outcome State Fault Refusal := done s (patStepExpiry e (s.blk.elapse dt))

/-- A unit of a RAMP elapses (R412). -/
def patRampUnit (e : Nat) (s : Blk) : Blk :=
  let p := s.pat e
  let w := s.patWord e
  let u := p.elapsed + 1
  let d := fld w 15 0
  if p.running && fld w 31 28 = 2 && u ≤ d && s.dueQ (p.stepAt4 + u * s.unit4 e) then
    let lv := (p.lev0 : Int) + Q.rhaz ⟨((fld w 27 16 : Int) - p.lev0) * u, d⟩
    (s.updPat e (fun p => { p with elapsed := u, level := lv.toNat })).patMoved e p
  else s

/-- PAT_RAMP_UNIT (R412). -/
def execPatRampUnit (dt e : Nat) (s : State) : Host.Outcome State Fault Refusal := done s (patRampUnit e (s.blk.elapse dt))

/-- A WAITEXP's timeout expires before its edge (R414). -/
def patWaitexpTimeout (e : Nat) (s : Blk) : Blk :=
  let p := s.pat e
  let w := s.patWord e
  let end4 := p.stepAt4 + fld w 15 0 * s.unit4 e
  if p.running && p.waiting && fld w 15 0 != 0 && s.dueQ end4 then
    s.patNext e end4 (fun p => { p with timedOut := true })
  else s

/-- PAT_WAITEXP_TIMEOUT (R414). -/
def execPatWaitexpTimeout (dt e : Nat) (s : State) : Host.Outcome State Fault Refusal :=
  done s (patWaitexpTimeout e (s.blk.elapse dt))

/-- An exposure edge ends the waits of its scope (R414); in Rosemary a wait ends only by its timeout (R432). -/
def Blk.patEdge (s : Blk) (light : Nat) (isEnd : Bool) : Blk :=
  [0, 1].foldl (fun s e =>
    let w := s.patWord e
    if (s.pat e).running && (s.pat e).waiting && bitN w 16 = isEnd && (bitN w 17 || light = 2 + e) then
      s.patNext e s.q (fun p => { p with timedOut := false })
    else s) s

/-- A multiplex slot ends, and the next row of the mask begins with a pre-charge (R413). -/
def muxSlot (e : Nat) (s : Blk) : Blk :=
  let p := s.pat e
  let end4 := p.slotAt4 + s.mux4
  if p.running && 2 ≤ popcount 8 p.rows && s.dueQ end4 then
    let s := match s.lit.cond with
      | some c => if c.src = LitSrc.pat e then s.endCond else s
      | none => s
    prechargeStart (s.updPat e (fun p => { p with slotAt4 := end4, slotRow := nextRow p.rows p.slotRow }))
  else s

/-- MUX_SLOT (R413). -/
def execMuxSlot (dt e : Nat) (s : State) : Host.Outcome State Fault Refusal := done s (muxSlot e (s.blk.elapse dt))

/-- A step word keeps to R410: a listed opcode, no reserved bit, and a LOOP that does not target a later step (R415). -/
def stepWordOk (n w : Nat) : Bool :=
  match fld w 31 28 with
  | 0 => w = 0
  | 1 => fld w 27 24 = 0 && fld w 15 12 = 0
  | 2 => true
  | 3 => fld w 27 16 = 0
  | 4 => fld w 27 20 = 0 && fld w 15 0 = 0
  | 5 => fld w 27 22 = 0 && fld w 15 12 = 0 && fld w 21 16 ≤ n
  | 6 => fld w 27 18 = 0
  | _ => false

/-- Every loop's body holds a HOLD, RAMP or WAITEXP (R415). -/
def loopsOk (prog : List Nat) : Bool :=
  prog.zipIdx.all (fun (w, n) => fld w 31 28 != 5 ||
    ((prog.drop (fld w 21 16)).take (n - fld w 21 16)).any (fun v => 2 ≤ fld v 31 28 && fld v 31 28 ≤ 3 || fld v 31 28 = 6))

/-! ### Exposures (R408, R414, R417, R418, R422) -/

/-- A stretched pulse gives way to an exposure: it ends, and its tests are void when it has not lasted its 2 µs (R422). -/
def Blk.voidStretch (s : Blk) : Blk :=
  match s.lit.cond with
  | some c =>
    if c.stretch then
      let n := if s.q < c.start4 + 2500 then (c.cols.filter (fun d => d.owed.isSome)).length else 0
      s.endCond.bump Reg.LITD_STRETCHES 31 16 n
    else s
  | none => s

/-- The light at an exposure start: edges, suspensions, and the row that conducts counts for the sector mask (R408). -/
def Blk.litExposureStart (s : Blk) (light : Nat) : Blk :=
  let s := (s.patEdge light false).litReview
  match s.lit.cond with
  | some c => { s with sns := { s.sns with frames := s.sns.frames.map (fun f =>
      if f.exposing then { f with sectors := putBit f.sectors c.row true } else f) } }
  | none => s

/-- The light at an exposure end: the pulse under way counts up to here (R408), edges and ranks follow. `f` is the frame
before its end. -/
def Blk.litExposureEnd (s : Blk) (f : Frame) : Blk :=
  let s := match s.lit.cond with
    | some c =>
      let p : Pulse := { row := c.row, cols := c.cols, start4 := c.start4, end4 := s.q }
      s.updFrame f.jobSeq f.unit (fun g => { g with pulses := g.pulses ++ [p] })
    | none => s
  let s := s.setF Reg.LIT_LAST_FRAME 7 0 (((s.frame f.jobSeq f.unit).map Frame.sectors).getD f.sectors)
  (s.patEdge f.light true).litReview

/-! ### Duty (R419) -/

/-- A sink has spent 200 µs above its continuous limit: it is lowered at once (R419, R426). -/
def dutyClamp (col : Nat) (s : Blk) : Blk :=
  let (total, now) := s.hotTime col
  let k := s.sink col
  match s.lit.cond with
  | none => s
  | some c =>
    let d := c.cols.getD col {}
    if 24 ≤ col ∨ k.lowered ∨ !hotCode k.half d ∨ (total < 250000 ∧ now < 250000) then s
    else
      let lim := if k.half then 533 else 1067
      let s := s.updSink col (fun k => { k with lowered := true, hot := (d.start c.start4 + d.cut4, s.q) :: k.hot })
      let s := { s with lit := { s.lit with cond := some { c with cols := upd c.cols col (fun d => { d with code := lim }) } } }
      let s := (s.setF (Reg.LITC_COL_STAT col) 11 0 lim).bump Reg.LIT_CLAMPS 15 0 1
      if (match s.lit.clampAt with | some t => decide (t + 625000 ≤ s.now) | none => true) then
        ({ s with lit := { s.lit with clampAt := some s.now } }).raise 0x7031
      else s

/-- DUTY_CLAMP (R419). -/
def execDutyClamp (dt col : Nat) (s : State) : Host.Outcome State Fault Refusal := done s (dutyClamp col (s.blk.elapse dt))

/-! ### Tests (R420 to R426) -/

/-- A position is read 1.6 µs into its conduction; it is a test once the conduction has lasted 2 µs (R420, R421, R425). -/
def ledTest (col ia ib volt : Nat) (s : Blk) : Blk :=
  match s.lit.cond with
  | none => s
  | some c =>
    let d := c.cols.getD col {}
    let start := d.start c.start4
    let lasts := match c.end4 with | some e => start + 2500 ≤ d.until e | none => d.stop4.isNone
    if 24 ≤ col ∨ d.code = 0 ∨ 2000 ≤ d.cut4 ∨ c.tested.contains col ∨ !lasts ∨ !(s.dueQ (start + 2000)) ∨
        !(bitN (s.regN Reg.LITD_DIAG) 8) ∨ s.regF Reg.LIT_VLED 15 0 < 100 * s.regF Reg.LITD_THRESH 23 16 then s
    else
      let k : LedReading := { col := col, ia := ia, ib := ib, volt := volt }
      ({ s with lit := { s.lit with cond := some { c with tested := col :: c.tested, readings := c.readings ++ [k] } } } : Blk).judged.endIdle

/-- LED_TEST (R420). -/
def execLedTest (dt col ia ib volt : Nat) (s : State) : Host.Outcome State Fault Refusal :=
  done s (ledTest col ia ib volt (s.blk.elapse dt))

/-- The end of a diagnostic period for one position (R422, R423). -/
def Blk.endPeriodPos (s : Blk) (i : Nat) : Blk :=
  let p := s.lit.pos.getD i {}
  if !p.conducted then s
  else
    let missed := p.owed && !p.completed
    let failed := if missed then p.failed + 1 else 0
    let owes := !p.long
    let lost := 3 ≤ failed && p.st != 0
    let s := { s with lit := { s.lit with pos := upd s.lit.pos i (fun p =>
      { p with conducted := false, long := false, stretched := false, completed := false, owed := owes,
               failed := if 3 ≤ failed then 0 else failed, st := if 3 ≤ failed then 0 else p.st }) } }
    if lost then s.raise 0x7013 else s

/-- The end of a diagnostic period for one sink (R425): its mean imbalance, and the offer after three periods above the
limit. -/
def Blk.endPeriodSink (s : Blk) (c : Nat) : Blk :=
  let k := s.sink c
  let den := k.imbCount * 2 ^ 40
  let isOver := k.imbCount != 0 && s.regF Reg.LITD_THRESH 15 8 * den < 400 * k.imbSum
  let n := if isOver then k.imbPeriods + 1 else 0
  let s := s.setF (Reg.LITC_COL_STAT c) 23 16 (if den = 0 then 0 else sat 8 (400 * k.imbSum / den))
  let s := s.updSink c (fun k => { k with imbSum := 0, imbCount := 0, imbPeriods := if 3 ≤ n then 0 else n })
  if 3 ≤ n then (s.raise 0x7021).offer .sink (2 * c + b2n (k.devA < k.devB)) true else s

/-- A diagnostic period ends (R422 to R425). -/
def diagPeriodEnd (s : Blk) : Blk :=
  if s.lit.diagAt + 31250000 * s.regF Reg.LITD_DIAG 7 0 ≤ s.now then
    let s := (List.range 192).foldl (fun s i => s.endPeriodPos i) { s with lit := { s.lit with diagAt := s.now } }
    (List.range 24).foldl (fun s c => s.endPeriodSink c) s
  else s

/-- DIAG_PERIOD_END (R423). -/
def execDiagPeriodEnd (dt : Nat) (s : State) : Host.Outcome State Fault Refusal := done s (diagPeriodEnd (s.blk.elapse dt))

/-- The tests of the conduction under way whose end falls in this tick and of positions that `which` names are discarded: the
retest has won (R421). -/
def Blk.discardTests (s : Blk) (which : Nat → Nat → Bool) : Blk :=
  match s.lit.cond with
  | none => s
  | some c =>
    if s.dueQ (c.start4 + 2000) then
      { s with lit := { s.lit with cond := some { c with tested := (List.range 24).filter (which c.row) ++ c.tested,
                                                         readings := c.readings.filter (fun k => !which c.row k.col) } } }
    else s

/-- A value of LITD.RETEST names positions again (R421). -/
def Blk.retest (s : Blk) (v : Nat) : Blk :=
  let fresh (p : LedPos) : LedPos := { p with st := 0, opens := 0, shorts := 0 }
  let s := s.discardTests (fun r c => bitN v 12 || (r = fld v 2 0 && c = fld v 8 4))
  if bitN v 12 then { s with lit := { s.lit with pos := s.lit.pos.map fresh } }
  else s.updPos (fld v 2 0) (fld v 8 4) fresh

/-- A half of a sink is retired, the one whose readings lay further from half the sink's current (R426). -/
def Blk.retireHalf (s : Blk) (u : Nat) : Blk :=
  let c := u / 2
  let s := s.updSink c (fun k =>
    { k with offA := k.offA || u % 2 = 0, offB := k.offB || u % 2 = 1, devA := 0, devB := 0 })
  (s.setF (Reg.LITC_COL_STAT c) (12 + u % 2) (12 + u % 2) 1).raise 0x7022

/-! ### Lamp-board temperature (R427 to R431) -/

/-- The lamp temperature T in kelvin for a resistance and B, from R428's formula, as a fraction. -/
def ntcKelvin (ohms b : Nat) : Q :=
  Q.norm ⟨2 ^ 160 * b * 5963, (lnQ ohms 10000 * 5963 + 20 * 2 ^ 160 * b).toNat⟩

/-- The derating factor code at a temperature in °C (R429). -/
def derating (t : Q) : Nat :=
  if Q.lt t ⟨70, 1⟩ then 256
  else if Q.lt t ⟨95, 1⟩ then (Q.floor (Q.mul ⟨256, 1⟩ (Q.sub ⟨1, 1⟩ (Q.mul ⟨3, 100⟩ (t.sub ⟨70, 1⟩))))).toNat
  else 0

/-- A shutdown: every conduction ends, every row is released (R431). -/
def Blk.lampsOff (s : Blk) : Blk := { s.lightsOff with lit := { s.lightsOff.lit with shutdown := true } }

/-- The lamp-board temperature is shown in Q8.8; one that does not fit is a free value (log 47). -/
def Blk.showLamp (s : Blk) (t : Int) : Blk :=
  if -32768 ≤ t ∧ t < 32768 then { s with lit := { s.lit with temp := twos 16 t } }
  else
    let (v, s) := s.takeFree
    { s with lit := { s.lit with temp := v.toNat % 65536 } }

/-- A temperature acts: shutdown at 95 °C, its end below 90 °C, derating (R429, R431). -/
def Blk.lampTemp (s : Blk) (t : Q) : Blk :=
  let fault := s.lit.ntcOpen || s.lit.ntcShort
  let was := s.lit.derated
  let s := s.showLamp (t.mul ⟨256, 1⟩).rhu
  if Q.le ⟨95, 1⟩ t then
    let s := if s.lit.factor = 0 then s else s.raise 0x7042
    let s := if was then s else s.raise 0x7041
    { s.lampsOff with lit := { s.lampsOff.lit with factor := 0, derated := true } }
  else if s.lit.shutdown && (fault || Q.le ⟨90, 1⟩ t) then s
  else
    let f := derating t
    let s := { s with lit := { s.lit with shutdown := false, factor := f, derated := f < 256 } }
    if f < 256 && !was then s.raise 0x7041 else s

/-- The thermistor is read (R428); VLED_SNS is read with it. -/
def ltempRead (ohms vled : Nat) (s : Blk) : Blk :=
  let s := s.setF Reg.LIT_VLED 15 0 (sat 16 vled)
  if s.regF Reg.LIT_THERM 1 0 != 1 ∨ !s.domReady 4 then s
  else if 1000000 < ohms then
    let s := if s.lit.ntcOpen then s else s.raise 0x7043
    { s.lampsOff with lit := { s.lampsOff.lit with ntcOpen := true } }
  else if ohms < 200 then
    let s := if s.lit.ntcShort then s else s.raise 0x7044
    { s.lampsOff with lit := { s.lampsOff.lit with ntcShort := true } }
  else s.lampTemp ((ntcKelvin ohms (s.regF Reg.LIT_THERM 15 4)).sub ⟨5463, 20⟩)

/-- LTEMP_READ (R428). -/
def execLtempRead (dt ohms vled : Nat) (s : State) : Host.Outcome State Fault Refusal := done s (ltempRead ohms vled (s.blk.elapse dt))

/-- LTEMP faults are no longer latched (R431): the LIT page's FAULT was cleared (log 31). -/
def Blk.clearLtemp (s : Blk) : Blk := { s with lit := { s.lit with ntcOpen := false, ntcShort := false } }

/-- A committed LIT.THERM: mode 0 releases the claim on LTEMP and sets F to 1; mode 1 takes it (R427). -/
def Blk.onTherm (s : Blk) (v : Nat) : Blk :=
  if fld v 1 0 = 1 then s.setF Reg.GPC_CLAIM_LTEMP 7 0 0x11
  else
    let s := if s.owner 32 = 0x11 then s.setF Reg.GPC_CLAIM_LTEMP 7 0 0 else s
    { s with lit := { s.lit with factor := 256, shutdown := false, derated := false, ntcOpen := false, ntcShort := false } }

end Sys2Proof.Machine
end

