-- ==== Sys2Proof/Machine/Bundles.lean ====
section
/-! DEFINITION. Bundles (12 R452 to R466): staging and its checks, opening and closing, the conditions checked at a
commit, and what a committed value sets going. -/
namespace Sys2Proof.Machine

/-! ### Slots and staging (R452 to R455, R458) -/

/-- The slot of whoever writes; without a session there is none. -/
def slotOf (who : Who) : Nat := (who.map Fin.val).getD 4

/-- The open bundle of a slot. -/
def Blk.openBundle (s : Blk) (slot : Nat) : Option Bundle := (s.bnd.opened.getD slot none)

/-- Bundles of a slot that wait. -/
def Blk.waitingOf (s : Blk) (slot : Nat) : List Bundle := s.bnd.waiting.filter (fun b => b.slot = slot)

/-- A slot can take one more bundle (R452). -/
def Blk.bundleRoom (s : Blk) (slot : Nat) : Bool :=
  (s.waitingOf slot).length < 4 && s.bundles.length < 16

/-- A page number of a pattern engine's PROG register: engine and step. -/
def progOf (a : Nat) : Option (Nat × Nat) :=
  if Reg.PAT_PROG 0 0 ≤ a ∧ a < Reg.PAT_PROG 0 64 then some (0, (a - Reg.PAT_PROG 0 0) / 4)
  else if Reg.PAT_PROG 1 0 ≤ a ∧ a < Reg.PAT_PROG 1 64 then some (1, (a - Reg.PAT_PROG 1 0) / 4)
  else none

/-- A value suits a register: its table's fields (R455), and the stricter checks of R415 on one register. -/
def valueOk (a v : Nat) : Bool :=
  valueFits a v &&
  (match progOf a with | some (_, n) => stepWordOk n v | none => true) &&
  !((a = Reg.PAT_CFG 0 || a = Reg.PAT_CFG 1) && fld v 1 0 = 0 && bitN v 4)

/-- A write placed among staged writes; a later one to the same register replaces the earlier (R454). -/
def placeWrite (a : Nat) (v : Word) (l : List (Nat × Word)) : List (Nat × Word) :=
  if l.any (fun w => w.1 = a) then l.map (fun w => if w.1 = a then (a, v) else w) else l ++ [(a, v)]

/-- A bundle opens (R453): the fault, or 0. -/
def Blk.bndOpen (s : Blk) (slot role : Nat) : Nat × Blk :=
  if (s.openBundle slot).isSome then (0xB022, s.raise 0xB022)
  else if !s.bundleRoom slot then (0xB024, s.raise 0xB024)
  else
    let b : Bundle := { id := s.bnd.nextId, slot := slot, role := role }
    (0, { s with bnd := { s.bnd with opened := upd s.bnd.opened slot (fun _ => some b), nextId := s.bnd.nextId + 1 } })

/-- The open bundle aborts by command (R453): 0xB023 without one. -/
def Blk.bndAbort (s : Blk) (slot : Nat) : Nat × Blk :=
  match s.openBundle slot with
  | none => (0xB023, s.raise 0xB023)
  | some b => (0, s.abortBundle b 0xB020 0 0)

/-- Every domain a list of writes touches wakes (R456). -/
def Blk.wakeFor (s : Blk) (l : List (Nat × Word)) : Blk :=
  l.foldl (fun s w => match pageInfo (pageOf w.1) with
    | some p => if s.domReady p.dom then s else s.wakeDom p.dom
    | none => s) s

/-- Every domain of a list of writes is ready. -/
def Blk.readyFor (s : Blk) (l : List (Nat × Word)) : Bool :=
  l.all (fun w => match pageInfo (pageOf w.1) with | some p => s.domReady p.dom | none => true)

/-- The open bundle closes with a commit point, and waits (R453, R456). -/
def Blk.bndClose (s : Blk) (slot point : Nat) : Nat × Blk :=
  match s.openBundle slot with
  | none => (0xB023, s.raise 0xB023)
  | some b =>
    let b := { b with point := point, closedAt := s.now }
    (0, ({ s with bnd := { s.bnd with opened := upd s.bnd.opened slot (fun _ => none), waiting := s.bnd.waiting ++ [b] } }).wakeFor b.writes)

/-! ### The conditions of a commit (R456) -/

/-- The value a bundle would leave in a register. -/
def Blk.after (s : Blk) (l : List (Nat × Word)) (a : Nat) : Nat :=
  match l.find? (fun w => w.1 = a) with | some w => w.2.toNat | none => s.regN a

/-- A pool is busy: it has a live job or holds a record (06 R246, 12 R470). -/
def Blk.poolBusy (s : Blk) (p : Nat) : Bool :=
  s.jobs.any (fun j => j.kind != 3 && j.pool = p) || !(s.pool p).recs.isEmpty

/-- The load of the live jobs lies above new shares (02 R73). -/
def Blk.sharesBusy (s : Blk) (v : Nat) : Bool :=
  !(s.engineLoad s.jobs s.pacePlan).le ⟨admittedShare v, 100⟩ ||
  (!s.coppice && !(s.dramLoad s.jobs).le ⟨admittedMemShare v, 100⟩)

/-- The pins that the presets of freeze_mode 3 name, after a bundle (07 R264). -/
def Blk.freezePins (s : Blk) (l : List (Nat × Word)) : List Nat :=
  (List.range 8).filterMap (fun n =>
    let v := s.after l (Reg.PDA_PRESET_CFG n)
    if fld v 9 8 = 3 then some (fld v 14 12) else none)

/-- The program of an engine after a bundle. -/
def Blk.progAfter (s : Blk) (l : List (Nat × Word)) (e : Nat) : List Nat :=
  (List.range 64).map (fun n => s.after l (Reg.PAT_PROG e n))

/-- The condition of one write of a bundle, or 0 (R456: 02 R73; 06 R246; 09 R350; 10 R395; 07 R264; 11 R415, R427; R472). -/
def Blk.writeFault (s : Blk) (role : Nat) (l : List (Nat × Word)) (a v : Nat) : Nat :=
  if a = Reg.ADM_SHARES then (if s.sharesBusy v then 0xB11A else 0)
  else if a = Reg.ADM_POOL_ROUTE then
    (if (List.range 16).any (fun p => bitN v p != bitN (s.regN a) p && s.poolBusy p) then 0xB142 else 0)
  else if a = Reg.ADM_CAL_CTL then
    (if bitN v 8 != bitN (s.regN a) 8 && (s.jobs.any (fun j => j.kind = 3) || !s.store.corr.isEmpty) then 0xB142 else 0)
  else if a = Reg.TLY_ROUTE then (if v != s.regN a && !s.tly.store.isEmpty then 0xB142 else 0)
  else if a = Reg.LIT_THERM then (if fld v 1 0 = 1 && s.owner 32 != 0 && s.owner 32 != 0x11 then 0xB010 else 0)
  else if (List.range 8).any (fun n => a = Reg.PDA_PRESET_CFG n) then
    (if fld v 9 8 = 3 && s.owner (fld v 14 12) != 0 && s.owner (fld v 14 12) != 0x10 then 0xB010 else 0)
  else match progOf a with
    | some (e, _) =>
      if (s.pat e).running && !(l.any (fun w => w.1 = Reg.PAT_CTL e)) then 0x7051
      else if !loopsOk (s.progAfter l e) then 0xB025 else 0
    | none =>
      match configResource a with
      | some r => if s.owner r != role then 0xB012 else 0
      | none => 0

/-- The first condition of a bundle that does not hold: fault and address. -/
def Blk.commitFault (s : Blk) (b : Bundle) : Option (Nat × Nat) :=
  b.writes.findSome? (fun w =>
    let f := s.writeFault b.role b.writes w.1 w.2.toNat
    if f = 0 then none else some (f, w.1))

/-! ### What a committed value sets going -/

/-- Claims of the photodiode chain follow its presets: pins named by freeze_mode 3 are taken, others of its own released
(07 R264, R470, R472). -/
def Blk.claimPins (s : Blk) : Blk :=
  let need := s.freezePins []
  (List.range 8).foldl (fun s p =>
    if need.contains p then ((s.setF (claimReg p) 7 0 0x10).setF (Reg.GPC_GP_CFG p) 2 0 4)
    else if s.owner p = 0x10 then (s.setF (claimReg p) 7 0 0).setF (Reg.GPC_GP_CFG p) 2 0 0
    else s) s

/-- A timer's registers were committed (R474): its next firing, at its start if a periodic timer's commit falls no later; a one-shot
timer whose start lies at or before the commit is missed. -/
def Blk.armTimer (s : Blk) (n : Nat) : Blk :=
  let ctl := s.regN (Reg.GPC_T_CTL n)
  let start := s.regN (Reg.GPC_T_START_LO n) + s.regN (Reg.GPC_T_START_HI n) * 2 ^ 32
  let period := max 1 (s.regN (Reg.GPC_T_PERIOD n))
  let set (o : Option Nat) : Blk := { s with gpc := { s.gpc with timers := upd s.gpc.timers n (fun t => { t with next := o }) } }
  if !bitN ctl 0 then set none
  else if s.now < start || (bitN ctl 1 && s.now = start) then set (some start)
  else if bitN ctl 1 then set (some (start + ((s.now - start) / period + 1) * period))
  else (set none).setF Reg.GPC_TIMERS n n 1

/-- The timer a register belongs to. -/
def timerOf (a : Nat) : Option Nat :=
  if Reg.GPC_T_CTL 0 ≤ a ∧ a < Reg.GPC_T_CTL 8 then some ((a - Reg.GPC_T_CTL 0) / 16) else none

/-- What a committed register sets going, with its value before the bundle. -/
def Blk.committed (s : Blk) (a old : Nat) : Blk :=
  let new := s.regN a
  if a = Reg.PDA_FREEZE then s.onFreeze old new
  else if a = Reg.FIR_BANK_REQ then s.bankReq new
  else if a = Reg.LIT_THERM then s.onTherm new
  else if a = Reg.LIT_STROBE_CTL then { s with lit := { s.lit with chase := none } }
  else if a = Reg.PAT_CTL 0 then s.patCtl 0 new
  else if a = Reg.PAT_CTL 1 then s.patCtl 1 new
  else if pageOf a = 0x38 then s.claimPins
  else if 0x39 ≤ pageOf a ∧ pageOf a ≤ 0x40 ∧ offOf a = 0x040 then s.onPdcCfg (pageOf a - 0x39) old new
  else match timerOf a with
    | some n => s.armTimer n
    | none => s

/-- One page's BUNDLE_TAG. -/
def Blk.tagPage (s : Blk) (page tag source : Nat) : Blk := s.setN (Reg.HDR_BUNDLE_TAG page) (tag + source * 2 ^ 16)

/-- A value enters the copy of committed values (R465). -/
def Blk.keepShadow (s : Blk) (a : Nat) (v : Word) : Blk := { s with bnd := { s.bnd with shadow := putReg s.bnd.shadow a v } }

/-- A value committed at once reaches the frames in progress, where the spec has the register act at the moment and not through a
frame's boundary: Cruiser's start conditions (04 R156, R177), SYNC_OUT's mode (03 R132), the column-offset loop's enable and
drift limit (03 R121, R122). Every other setting of a frame stays as it was at its boundary (log 83). -/
def FrameCfg.follow (c : FrameCfg) (a v : Nat) : FrameCfg :=
  if a = Reg.CRU_SPEC_CTL then { c with specCtl := v }
  else if a = Reg.SNS_SYNC_CFG then { c with syncCfg := v }
  else if a = Reg.LOCX_OFFSET_LOOP then { c with offsetLoop := v }
  else if a = Reg.LOCX_DRIFT_LIMIT then { c with driftLimit := fld v 7 0 }
  else c

/-- The values a bundle has committed reach what is in progress, when its commit point is immediate (01 R36); the lead of a row
driver follows for the strobes too (11 R399). -/
def Blk.follow (s : Blk) (b : Bundle) : Blk :=
  if b.point != 0 then s
  else
    let cfg (c : FrameCfg) : FrameCfg := b.writes.foldl (fun c w => c.follow w.1 w.2.toNat) c
    let strobe (k : Strobe) : Strobe := if b.writes.any (fun w => w.1 = Reg.LIT_ROW_LEAD) then { k with lead4 := s.lead4 } else k
    { s with sns := { s.sns with frames := s.sns.frames.map (fun f => { f with cfg := cfg f.cfg }) },
             lit := { s.lit with strobes := s.lit.strobes.map strobe } }

/-- A session's bundle meets its commit point: every staged write applies in this tick, or it aborts with the fault of the
condition that fails (R456, R457). The answer is that fault, or 0. -/
def Blk.commitBundle (s : Blk) (b : Bundle) (wonBy : Nat) : Nat × Blk :=
  match s.commitFault b with
  | some (f, a) => (f, s.abortBundle b f a wonBy)
  | none =>
    let old := b.writes.map (fun w => (w.1, s.regN w.1))
    let (t, s) := (s.dropBundle b).takeTag
    let s := b.writes.foldl (fun s w => ((s.setReg w.1 w.2).keepShadow w.1 w.2).tagPage (pageOf w.1) t (b.slot + 1)) s
    let s := ((s.lastWord b.slot t 1 wonBy).bump Reg.BND_COUNTS 15 0 1).event 0x03 0 0x0000
    (0, old.foldl (fun s w => s.committed w.1 w.2) (s.follow b))

/-! ### Writes to RWB registers (R454) -/

/-- A write to an RWB register from a session, after the checks of R441: staged in the open bundle, or made as a bundle of
one write that commits at once. The answer is its status. -/
def Blk.rwbWrite (s : Blk) (who : Who) (a : Nat) (v : Word) : Nat × Blk :=
  let slot := slotOf who
  match s.openBundle slot with
  | some b =>
    if s.lockedFrom slot a then (0xB031, s.abortBundle b 0xB031 a 0)
    else if !valueOk a v.toNat then (0xB025, s.abortBundle b 0xB025 a 0)
    else if 256 ≤ b.writes.length && !(b.writes.any (fun w => w.1 = a)) then (0xB021, s.abortBundle b 0xB021 a 0)
    else
      let b2 := { b with writes := placeWrite a v b.writes }
      (0, { s with bnd := { s.bnd with opened := upd s.bnd.opened slot (fun _ => some b2) } })
  | none =>
    if s.lockedFrom slot a then (0xB031, s.raise 0xB031)
    else if !s.bundleRoom slot then (0xB024, s.raise 0xB024)
    else
      let b : Bundle := { id := s.bnd.nextId, slot := slot, role := s.role who, writes := [(a, v)], closedAt := s.now }
      let s := { s with bnd := { s.bnd with nextId := s.bnd.nextId + 1 } }
      if !valueOk a v.toNat then (0xB025, s.abortBundle b 0xB025 a 0)
      else s.commitBundle b 0

/-! ### The engine's own bundles (R462) -/

/-- The effect of an act of the engine's own that commits at a frame or sweep boundary. -/
def Blk.engApply (s : Blk) (a : EngAct) : Blk :=
  match a with
  | .reg r v => s.setReg r v
  | .degrade col =>
    let c := if col < 256 then col else 32 * (col - 256) + fld (s.spareMap (col - 256)) 4 0
    (s.setF (Reg.LOCX_DEGRADED (c / 32)) (c % 32) (c % 32) 1).raise 0x4013
  | .locTrims l => { s with sns := { s.sns with trims := l.foldl (fun t p => upd t p.1 (fun _ => p.2)) s.sns.trims } }
  | .pdTrim ch o g => (s.setN (Reg.PDC_TRIM_OFS ch) o).setN (Reg.PDC_TRIM_GAIN ch) g
  | .litTrim n t => s.setF (Reg.ADM_CAL_LIT_TRIM n) 15 0 t
  | .litRef n v => s.setN (Reg.ADM_CAL_LIT_REF n) v
  | .spare k u =>
    match k with
    | .column =>
      let g := u / 32
      let r := if g < 4 then Reg.LOCX_SPARE_MAP_LO else Reg.LOCX_SPARE_MAP_HI
      let s := (s.setF r (8 * (g % 4) + 7) (8 * (g % 4)) (0x80 + u % 32)).raise 0x4012
      if s.recovering .column u then s.endRecovery else s
    | _ => s
  | .laneEq l p => s.setF (Reg.LNK_CTLE l) 3 0 p
  | .zqLatch => ({ s with mem := { s.mem with zqWaiting := false } }).bump Reg.MEMT_TRACK 15 0 1
  | .dqs ch rank ps =>
    (s.updMem ch (fun c => c.updRank rank (fun k => { k with dqsDelay := ps }))).bump Reg.MEMT_TRACK 31 16 1
  | .remap ch => s.remapCommit ch
  | .tallyParam => s

/-- The engine's own bundles of a commit point apply, in their order, before any other (R459). What waited for their slots waits on
for a boundary of its own. -/
def Blk.commitEng (s : Blk) (point : Nat) : Blk :=
  let due (e : EngBundle) : Bool := e.point = point || e.point = 3
  let hit := s.bnd.eng.filter due
  let s := { s with bnd := { s.bnd with eng := s.bnd.eng.filter (fun e => !due e) } }
  (hit.foldl (fun s e => (s.engTag e.act).engApply e.act) s).engRefill

/-- No exposure or sweep job is live any more: what was to be committed at the next boundary of one is committed at once (10 R369;
15 R578). -/
def Blk.jobsOver (s : Blk) : Blk := if s.exposureLive || s.sweepLive then s
  else (List.range (1 + s.bnd.engWait.length)).foldl (fun s _ => s.commitEng 3) s

/-! ### Boundaries (R459, R460) -/

/-- The limit of a waiting bundle (R460). -/
def Blk.waitEnd (s : Blk) (b : Bundle) : Nat := b.closedAt + 312500 * s.regF Reg.BND_WAIT_LIMIT 15 0

/-- A boundary: the engine's own bundles, then the waiting ones in order of close. A bundle that expired in this very tick
shows that its timer won (R460), unless a later bundle of its slot has ended since. -/
def Blk.boundary (s : Blk) (point : Nat) : Blk :=
  let s := s.commitEng point
  let s := (s.bnd.waiting.filter (fun b => b.point = point)).foldl (fun s b =>
    (s.commitBundle b (if s.waitEnd b = s.now then 1 else 0)).2) s
  { s with bnd := { s.bnd with callers := s.bnd.callers.map (fun c =>
      if c.expired = some (s.now, point, fld c.last 15 0) then { c with last := putFld c.last 19 18 2 } else c) } }

/-- An immediate bundle commits once every domain it writes is ready (R459). -/
def bundleCommitImmediate (id : Nat) (s : Blk) : Blk :=
  match s.bnd.waiting.find? (fun b => b.id = id) with
  | some b => if b.point = 0 && s.readyFor b.writes then (s.commitBundle b 0).2 else s
  | none => s

/-- BUNDLE_COMMIT_IMMEDIATE (R459). -/
def execBundleCommitImmediate (dt id : Nat) (s : State) : Host.Outcome State Fault Refusal :=
  done s (bundleCommitImmediate id (s.blk.elapse dt))

/-- A waiting bundle has not met its boundary within BND.WAIT_LIMIT (R460). -/
def bndWaitExpired (id : Nat) (s : Blk) : Blk :=
  match s.bnd.waiting.find? (fun b => b.id = id) with
  | some b =>
    if s.waitEnd b ≤ s.now then
      let s := s.abortBundle b 0xB026 0 0
      { s with bnd := { s.bnd with callers := upd s.bnd.callers b.slot (fun c =>
          { c with expired := some (s.now, b.point, fld c.last 15 0) }) } }
    else s
  | none => s

/-- BND_WAIT_EXPIRED (R460). -/
def execBndWaitExpired (dt id : Nat) (s : State) : Host.Outcome State Fault Refusal := done s (bndWaitExpired id (s.blk.elapse dt))

end Sys2Proof.Machine
end

