-- ==== Sys2Proof/Machine/Memory.lean ====
section
/-! DEFINITION. External memory (15): refresh, MR4, disturbance, words read, remaps, and power-down. The domain does not
run in Coppice, nor while it is gated: a command of its own then only lets time pass. -/
namespace Sys2Proof.Machine

/-- A command of the memory applies to a rank that exists. -/
def Blk.memRank (s : Blk) (ch rank : Nat) : Bool := s.domReady 5 && ch < 2 && rank < (s.memCh ch).ranks.length

/-- A catch-up of a rank that has met no chunk boundary within 2 µs has ended the chunk at its next 256-byte boundary, and has run
(R573). -/
def Blk.overdueRank (s : Blk) (ch r : Nat) : Blk :=
  match ((s.memCh ch).rank r).catchUp with
  | some t => if t + 625 < s.now then (s.bump Reg.MEMF_REF_COUNTS 31 24 1).runCatchUp ch r else s
  | none => s

/-- What is overdue on a channel has run before anything else does. -/
def Blk.overdue (s : Blk) (ch : Nat) : Blk := (List.range (s.memCh ch).ranks.length).foldl (fun s r => s.overdueRank ch r) s

/-- A refresh due time passes (R570, R571): inside a burst the refresh is postponed, and one is to be inserted once the
debt exceeds its ceiling; outside it is issued at once, and an idle channel pulls refreshes in. -/
def refreshDue (ch rank : Nat) (idle : Bool) (s : Blk) : Blk :=
  if !s.memRank ch rank then s
  else
    let s := s.overdue ch
    let k := (s.memCh ch).rank rank
    if s.now < k.nextDue then s
    else
      let d := k.debt + 1
      let s := s.noteDebt d
      let burst := (s.memCh ch).burst
      let d2 := if burst then d else if idle then -k.ceiling else d - 1
      s.updMem ch (fun c => c.updRank rank (fun k =>
        { k with debt := d2, nextDue := k.nextDue + k.interval, insertDue := k.insertDue || (burst && k.ceiling < d) }))

/-- REFRESH_DUE (R571). -/
def execRefreshDue (dt ch rank : Nat) (idle : Bool) (s : State) : Host.Outcome State Fault Refusal :=
  done s (refreshDue ch rank idle (s.blk.elapse dt))

/-- What waits for a chunk boundary on one rank: an inserted REFab, a catch-up (R571, R573). -/
def Blk.rankBoundary (s : Blk) (ch r : Nat) : Blk :=
  let k := (s.memCh ch).rank r
  match k.catchUp with
  | some _ => s.runCatchUp ch r
  | none =>
    if k.insertDue then
      (s.updMem ch (fun c => c.updRank r (fun k => { k with debt := k.debt - 1, insertDue := decide (k.ceiling < k.debt - 1) }))).bump
        Reg.MEMF_REF_COUNTS 11 0 1
    else s

/-- Every neighbour refresh that waits on a channel. -/
def Blk.allNeighbours (s : Blk) (ch : Nat) : Blk := (s.memCh ch).neighbours.foldl (fun s n => s.refreshNeighbours ch n) s

/-- A rank at the end of a burst: a catch-up still waiting runs at once, and a debt is paid back to 0 (R571, R573). -/
def Blk.rankPaid (s : Blk) (ch r : Nat) : Blk :=
  let s := if ((s.memCh ch).rank r).catchUp.isSome then s.runCatchUp ch r else s
  s.updMem ch (fun c => c.updRank r (fun k => { k with debt := min k.debt 0, insertDue := false }))

/-- The burst that holds a channel is over (R571). -/
def Blk.endBurst (s : Blk) (ch : Nat) : Blk :=
  let s := s.updMem ch (fun c => { c with burst := false })
  ((List.range (s.memCh ch).ranks.length).foldl (fun s r => s.rankPaid ch r) s).allNeighbours ch

/-- A burst ends, no chunk of its master having followed within MEMF.BURST_GAP (R570, R571). -/
def burstEnd (ch : Nat) (s : Blk) : Blk :=
  let c := s.memCh ch
  if !s.domReady 5 || 2 ≤ ch || !c.burst || s.now < c.chunkEnd + s.regF Reg.MEMF_BURST_GAP 9 0 then s
  else (s.overdue ch).endBurst ch

/-- BURST_END (R571). -/
def execBurstEnd (dt ch : Nat) (s : State) : Host.Outcome State Fault Refusal := done s (burstEnd ch (s.blk.elapse dt))

/-- A rank's debt against a new ceiling (R572, R573): a credit is cut, and a debt above it calls for a catch-up; one that waits
goes when the new ceiling holds its debt. -/
def Blk.underCeiling (s : Blk) (ch r : Nat) : Blk :=
  let s := s.updMem ch (fun c => c.updRank r (fun k => { k with debt := max k.debt (-k.ceiling) }))
  let k := (s.memCh ch).rank r
  if k.debt ≤ k.ceiling then s.updMem ch (fun c => c.updRank r (fun k => { k with catchUp := none }))
  else if (s.memCh ch).burst then s.updMem ch (fun c => c.updRank r (fun k => { k with catchUp := some s.now }))
  else s.runCatchUp ch r

/-- What a reading of a rank's MR4 does (R570, R572). -/
def Blk.takeMr4 (s : Blk) (ch rank code : Nat) : Blk :=
  let code := code % 8
  let s := s.updMem ch (fun c => c.updRank rank (fun k => { k with mr4At := s.now }))
  let old := (s.memCh ch).rank rank
  let s := if code = 7 then (s.bump Reg.MEMF_HOT 31 16 1).raise 0x3032 else s
  if code = old.mr4 then s
  else
    let s := s.updMem ch (fun c => c.updRank rank (fun k => { k with mr4 := code, nextDue := s.now + mr4Interval code }))
    let s := if mr4Interval code < old.interval then (s.bump Reg.MEMF_HOT 15 0 1).raise 0x3031 else s
    s.underCeiling ch rank

/-- MR4 of a rank is read, 4 ms after its last reading (R572). -/
def mr4Read (ch rank code : Nat) (s : Blk) : Blk :=
  if !s.memRank ch rank || s.now < ((s.memCh ch).rank rank).mr4At + 1250000 then s
  else (s.overdue ch).takeMr4 ch rank code

/-- MR4_READ (R572). -/
def execMr4Read (dt ch rank code : Nat) (s : State) : Host.Outcome State Fault Refusal := done s (mr4Read ch rank code (s.blk.elapse dt))

/-- A refresh window of 8 192 intervals is over: its highest entry is kept and the rank's tables are cleared (R574). -/
def refreshWindow (ch rank : Nat) (s : Blk) : Blk :=
  if !s.memRank ch rank then s
  else
    let k := (s.memCh ch).rank rank
    if s.now < k.winAt + 8192 * k.interval then s
    else
      let s := s.setF Reg.MEMF_DIST_COUNTS 31 16 (sat 16 k.distMax)
      s.updMem ch (fun c => c.updRank rank (fun k =>
        { k with winAt := s.now, distMax := 0, banks := k.banks.map (fun b => { b with dist := [] }) }))

/-- REFRESH_WINDOW (R574). -/
def execRefreshWindow (dt ch rank : Nat) (s : State) : Host.Outcome State Fault Refusal := done s (refreshWindow ch rank (s.blk.elapse dt))

/-- A waiting neighbour refresh runs where no real-time chunk does (R575). -/
def neighbourRefresh (ch rank bank row : Nat) (s : Blk) : Blk :=
  if s.memRank ch rank && !(s.memCh ch).burst && (s.memCh ch).neighbours.contains (rank, bank, row) then
    s.refreshNeighbours ch (rank, bank, row)
  else s

/-- NEIGHBOUR_REFRESH (R575). -/
def execNeighbourRefresh (dt ch rank bank row : Nat) (s : State) : Host.Outcome State Fault Refusal :=
  done s (neighbourRefresh ch rank bank row (s.blk.elapse dt))

/-- Corrected errors of a row since it was last written in full, with some more. -/
def MemCh.addErrors (c : MemCh) (r : Nat × Nat × Nat) (n : Nat) : MemCh :=
  if c.errors.any (fun e => e.1 = r) then { c with errors := c.errors.map (fun e => if e.1 = r then (r, e.2 + n) else e) }
  else { c with errors := c.errors ++ [(r, n)] }

/-- Corrected errors of a row. -/
def MemCh.errorsOf (c : MemCh) (r : Nat × Nat × Nat) : Nat := ((c.errors.find? (fun e => e.1 = r)).map (·.2)).getD 0

/-- Single-bit errors corrected in a row (R560, R578): counted, shown at most once per second, and at the limit the row is
offered. -/
def Blk.corrected (s : Blk) (ch rank bank row n : Nat) : Blk :=
  if n = 0 then s
  else
    let s := s.bumpCh Reg.MEM_ECC_CORR ch n
    let late := match s.mem.lastCorrEvt with | some t => decide (t + 312500000 ≤ s.now) | none => true
    let s := if late then ({ s with mem := { s.mem with lastCorrEvt := some s.now } }).raise 0x3011 else s
    let s := s.updMem ch (fun c => c.addErrors (rank, bank, row) n)
    if s.regF Reg.MEMX_REMAP_LIMIT 7 0 ≤ (s.memCh ch).errorsOf (rank, bank, row) then s.offerRow ch rank bank row false else s

/-- Words of a read that are corrected, those of its second reading included (R560, R577). -/
def fixedIn (e : RowSeen) : Nat :=
  (wordsSeen e.first .fixed).length + (wordsSeen (e.again.filter (fun w => (wordsSeen e.first .bad).contains w.word)) .fixed).length

/-- Words of a read that are still uncorrectable when they are read once more (R577). -/
def lostIn (e : RowSeen) : List Nat :=
  wordsSeen (e.again.filter (fun w => (wordsSeen e.first .bad).contains w.word)) .bad

/-- A row as one read accesses it: a row of check bytes alone, a data row with its check row. -/
def Blk.accessRow (s : Blk) (a : RowAt) : Blk :=
  if isCheck a.row then s.access a.ch a.rank a.bank a.row false else s.accessBoth a false

/-- What a read of a row finds (R560, R577): corrected words are written back and counted; uncorrectable words are read once more, and
those that still are reach their data's reader. -/
def Blk.readRow (s : Blk) (a : RowAt) (e : RowSeen) : Blk :=
  let bad := wordsSeen e.first .bad
  let s := if bad.isEmpty then s else s.accessRow a
  let s := (s.moveRaw (9 * (fixedIn e + bad.length)) false).corrected a.ch a.rank a.bank a.row (fixedIn e)
  (lostIn e).foldl (fun s n => (s.uncorrectable a.ch a.rank a.bank a.row).dataBad a n (wrongBits e.again n)) s

/-- The oldest copy of a channel completes, read from its row and written into its spare; its mapping takes effect at the next frame or sweep boundary, or at once when
no exposure or sweep job is live (R578). -/
def remapCopyDone (ch : Nat) (s : Blk) : Blk :=
  match if s.domReady 5 then (s.memCh ch).copies.find? (fun k => !k.done) else none with
  | none => s
  | some k =>
    let s := (s.access ch k.rank k.bank k.row false).moveRaw 4608 false
    let s := if k.retire then s
      else s.access ch k.rank k.bank (topRow s.rowsPerBank (((s.memCh ch).rank k.rank).bank k.bank).sparesUsed) false
    let s := s.updMem ch (fun c => { c with copies := c.copies.map (fun x => if x = k then { x with done := true } else x) })
    s.remapDue ch

/-- REMAP_COPY_DONE (R578). -/
def execRemapCopyDone (dt ch : Nat) (s : State) : Host.Outcome State Fault Refusal := done s (remapCopyDone ch (s.blk.elapse dt))

/-- An open row has stood unused for MEM.PRED_CFG.hold (R569). -/
def pageHoldExpiry (ch rank bank : Nat) (s : Blk) : Blk :=
  let b := ((s.memCh ch).rank rank).bank bank
  if s.memRank ch rank && b.isOpen && b.touched + 4 * s.regF Reg.MEM_PRED_CFG 7 0 ≤ s.now then
    s.updMem ch (fun c => c.updRank rank (fun k => k.updBank bank (fun b => { b with isOpen := false })))
  else s

/-- PAGE_HOLD_EXPIRY (R569). -/
def execPageHoldExpiry (dt ch rank bank : Nat) (s : State) : Host.Outcome State Fault Refusal :=
  done s (pageHoldExpiry ch rank bank (s.blk.elapse dt))

/-- A rank has stood idle for MEM.PD_CFG.idle (R582). -/
def rankPowerDown (ch rank : Nat) (s : Blk) : Blk :=
  if s.memRank ch rank && ((s.memCh ch).rank rank).touched + s.regF Reg.MEM_PD_CFG 11 0 ≤ s.now then
    s.updMem ch (fun c => c.updRank rank (fun k => { k with down := true }))
  else s

/-- RANK_POWER_DOWN (R582). -/
def execRankPowerDown (dt ch rank : Nat) (s : State) : Host.Outcome State Fault Refusal := done s (rankPowerDown ch rank (s.blk.elapse dt))

/-- A share in units of 0.01 %, saturating at its field. -/
def shareOf (a b : Nat) : Nat := if b = 0 then 0 else sat 16 (a * 10000 / b)

/-- The memory's figures of the last millisecond (R585): accesses by the predictor, and bytes moved against the raw peak of
both channels. -/
def Blk.memFigures (s : Blk) : Blk :=
  let m := s.mem
  let n := m.hits + m.misses
  let peak := 4 * s.regF Reg.MEM_CONFIG 31 16 * 1000
  let s := s.setN Reg.MEM_PRED_STATS (shareOf m.hits n + shareOf m.misses n * 65536)
  let s := s.setN Reg.MEM_BW (shareOf m.moved peak + shareOf m.rtMoved peak * 65536)
  { s with mem := { s.mem with hits := 0, misses := 0, moved := 0, rtMoved := 0 } }

end Sys2Proof.Machine
end

