-- ==== Sys2Proof/Machine/Sensor.lean ====
section
/-! DEFINITION. The sensor (03): qualification of triggers, which job takes one, frames and their boundaries, exposures
and storage windows; and the commands that end a job's right to triggers (02 R79, R82, R682). -/
namespace Sys2Proof.Machine

/-! ### Frames -/

/-- The settings a frame runs under (R105): those in force at its boundary. An immediate commit of CRU.CLOSE, CLUSTER, HYPO or ROI.CFG
does not reach a frame in progress: the spec does not say whether it does (DESIGN CHOICE, log 83). -/
def Blk.frameCfg (s : Blk) : FrameCfg :=
  { sensorCfg := s.regN Reg.SNS_SENSOR_CFG, seedEdge := s.regN Reg.LOC_SEED_EDGE, seedScore := s.regN Reg.LOC_SEED_SCORE,
    ambig := s.regN Reg.LOC_AMBIG, levels := s.regN Reg.LOC_LEVELS, refArea := s.regN Reg.LOC_REF_AREA,
    symEnable := s.regN Reg.DECC_SYM_ENABLE, close := s.regN Reg.CRU_CLOSE, cluster := s.regN Reg.CRU_CLUSTER,
    hypo := s.regN Reg.CRU_HYPO, specCtl := s.regN Reg.CRU_SPEC_CTL, guard := s.regN Reg.ROI_CFG,
    spareLo := s.regN Reg.LOCX_SPARE_MAP_LO, spareHi := s.regN Reg.LOCX_SPARE_MAP_HI,
    degraded := (List.range 8).map (fun i => s.regN (Reg.LOCX_DEGRADED i)),
    trims := (List.range 8).map (fun n => s.regF (Reg.ADM_CAL_LIT_TRIM n) 15 0),
    locCfg := s.regN Reg.LOC_LOC_CFG, syncCfg := s.regN Reg.SNS_SYNC_CFG, offsetLoop := s.regN Reg.LOCX_OFFSET_LOOP,
    driftLimit := s.regF Reg.LOCX_DRIFT_LIMIT 7 0, patchRefl := s.regF Reg.ADM_CAL_LIT_CFG 9 0 }

/-- A storage window's length (R95). -/
def storageTicks (readout : Nat) : Nat := if readout = 1 then 1250000 else 62500

/-- End of exposure as due, rounded up to a tick (R101). -/
def Frame.dueEnd (f : Frame) : Nat := ceilDiv f.expEnd4 4

/-- The job a frame was taken for, as submitted. -/
def Frame.job (f : Frame) : Job := { seq := f.jobSeq, desc := f.desc, acceptedAt := 0 }

/-- The first frame that meets a condition. -/
def Blk.firstFrame (s : Blk) (p : Frame → Bool) : Option Frame := s.sns.frames.find? p

/-- A conduction that began in a frame's exposure still runs: the frame marks SYNC_OUT to its end (R132; 11 R408). -/
def Blk.stillLit (s : Blk) (f : Frame) : Bool := match s.lit.cond with | some c => pulseOf c f | none => false

/-- Tally has taken a candidate of a frame and not measured it yet: its region's tiles are kept (04 R161, R169). -/
def Blk.tallyHolds (s : Blk) (f : Frame) : Bool :=
  s.tly.taken.any (fun i => match i with
    | .cand c => !c.sweep && c.jobSeq = f.jobSeq && c.unit = f.unit
    | .epoch _ _ => false)

/-- The third decode of a mismatch can no longer run once the region's tiles are freed: both engines are marked suspect
(17 R634). -/
def Blk.thirdLost (s : Blk) : Blk :=
  match s.cal.shadowIn with
  | some w =>
    if (s.frame w.jobSeq w.unit).isSome then s
    else
      let s : Blk := { s with cal := { s.cal with shadowIn := none } }
      match w.third with
      | some (a, b, _, _) => s.suspects [a, b] []
      | none => s
  | none => s

/-- Frames that have nothing more to do leave: their storage window is over, their delivery has ended, no pulse of theirs still
runs and Tally has read what it took. -/
def Blk.pruneFrames (s : Blk) : Blk :=
  Blk.thirdLost { s with sns := { s.sns with frames := s.sns.frames.filter (fun f =>
      !(f.isOver && f.zero.isSome && !f.storage && !s.stillLit f && !s.tallyHolds f)) } }

/-! ### Jobs and triggers (R103, R104; 02 R79, R81) -/

/-- A job still takes triggers: it is an exposure job, neither cancelled nor armed out, with frames left. -/
def Job.takes (j : Job) : Bool := j.kind = 1 && j.stopped = .live && (j.frameCount = 0 || j.taken < j.frameCount)

/-- A job's interval has ended: at its last tick only when that end was granted before the trigger (02 R79). -/
def Blk.intervalEnded (s : Blk) (j : Job) : Bool := j.nextOk = 0 || j.nextOk < s.now

/-- The delay a source adds (R101). -/
def Blk.trigDelay (s : Blk) (src : Nat) : Nat :=
  if src = 0 then s.regF Reg.SNS_TRIG0_DELAY 19 0 else if src = 1 then s.regF Reg.SNS_TRIG1_DELAY 19 0 else 0

/-- The sensor is occupied for a job whose exposure would start at a tick (R103). -/
def Blk.sensorBusy (s : Blk) (j : Job) (start : Nat) : Bool :=
  4 * start < s.sns.busy4 || ceilDiv (4 * start + 25 * j.exposure) 4 < s.sns.storeEnd

/-- A trigger that takes no frame: its event, and SNS.MISSED (R104, R128). -/
def Blk.missed (s : Blk) (code : Nat) : Blk := (s.raise code).bump Reg.SNS_MISSED 15 0 1

/-- A full-frame readout takes an archive slot, if one is free; without one its delivery is forfeited at the end of its
exposure (15 R565). -/
def Blk.archiveFree (s : Blk) : Bool := s.mem.held.length < s.mem.slots

/-- A frame is taken for a job (R101, R105, R128; 02 R46, R682). -/
def Blk.takeFrame (s : Blk) (j : Job) (start : Nat) : Blk :=
  let s := s.boundary 1
  let unit := (s.regN Reg.SNS_FRAMES + 1) % 2 ^ 32
  let end4 := 4 * start + 25 * j.exposure
  let f : Frame :=
    { jobSeq := j.seq, unit := unit, desc := j.desc, trigAt := s.now, audit := s.tly.counter, light := j.light, expStart := start,
      expEnd4 := end4, busyUntil4 := 4 * start + 25 * j.occupancy20, cfg := s.frameCfg,
      archive := j.readout = 1 && s.archiveFree }
  let s := (s.setN Reg.SNS_FRAMES unit).setPair Reg.SNS_TRIG_TIME_LO s.now
  let s := s.updJob j.seq (fun j => { j with taken := j.taken + 1, nextOk := s.now + j.interval, armAt := s.now })
  let sns : SnsSt := { s.sns with frames := s.sns.frames ++ [f], busy4 := f.busyUntil4, storeEnd := f.dueEnd + storageTicks j.readout }
  let s := { s with sns := sns }
  let s := if j.light = 1 then s.fixStrobe unit (4 * start) else s
  if j.readout = 1 then
    if f.archive then { s with mem := { s.mem with held := s.mem.held ++ [(j.seq, unit)] } }
    else (s.raise 0x3061).updFrame j.seq unit (fun f => { f with fault := 0x3061 })
  else s

/-- A trigger is accepted at a source: the live jobs that name it, and the one frame or the one event that comes of it (R104,
R108). A job that takes no more frames may still name it. Whether the sensor is occupied depends on the exposure of the frame to
be taken; where no job could take it, on that of the first job that names the source. A job that takes no more frames has no
interval that could end for another trigger: a trigger that meets only such jobs is early (log 86). -/
def Blk.acceptTrigger (s : Blk) (start : Nat) (named : List Job) : Blk :=
  match named with
  | [] => s
  | first :: _ =>
    if !s.domReady 2 then s.missed 0x4022
    else
      let takers := named.filter Job.takes
      let ready := takers.filter s.intervalEnded
      let j := ready.headD (takers.headD first)
      if s.sensorBusy j start then s.missed 0xB132
      else if ready.isEmpty then s.missed 0xB130
      else s.takeFrame j start

/-- The live exposure jobs that name a source, in order of admission. -/
def Blk.jobsNaming (s : Blk) (src : Nat) : List Job := s.jobs.filter (fun j => j.kind = 1 && j.trigger = src)

/-- A TRIGn_CFG. -/
def trigCfg (pin : Nat) : Nat := if pin = 0 then Reg.SNS_TRIG0_CFG else Reg.SNS_TRIG1_CFG

/-- An edge on TRIG0 or TRIG1 (R99): the active level begins a hold two ticks later, of the filter set at the edge, and the delay
is the one set at the edge (R106); a return before the hold is over ends it. One whose hold is met stands, whatever edge the return
is by then. While the ring stands no edge is qualified: the level can only wake the engine (16 R603). -/
def triggerInput (pin : Nat) (level : Bool) (s : Blk) : Blk :=
  if 2 ≤ pin ∨ s.sns.level.getD pin false = level then s
  else
    let v := s.regN (trigCfg pin)
    let active := bitN v 1 && (level != bitN v 0) && s.time.ringRuns
    let met := (s.sns.since.getD pin []).filter (fun edge => edge.1 < s.now + 2)
    let next := if active then met ++ [(s.now + 2 + fld v 15 8, s.trigDelay pin)] else met
    { s with sns := { s.sns with level := upd s.sns.level pin (fun _ => level), levelAt := upd s.sns.levelAt pin (fun _ => s.now), since := upd s.sns.since pin (fun _ => next) } }

/-- TRIGGER_INPUT (R99). -/
def execTriggerInput (dt pin : Nat) (level : Bool) (s : State) : Host.Outcome State Fault Refusal :=
  done s (triggerInput pin level (s.blk.elapse dt))

/-- A qualified hardware trigger is accepted (R99, R104). Software and timer triggers are accepted within their own
commands (R100). -/
def triggerAccept (src : Nat) (s : Blk) : Blk :=
  match s.sns.since.getD src [] with
  | edge :: rest =>
    if edge.1 ≤ s.now then
      ({ s with sns := { s.sns with since := upd s.sns.since src (fun _ => rest) } }).acceptTrigger (s.now + 40 + edge.2) (s.jobsNaming src)
    else s
  | [] => s

/-- TRIGGER_ACCEPT (R104). -/
def execTriggerAccept (dt src : Nat) (s : State) : Host.Outcome State Fault Refusal := done s (triggerAccept src (s.blk.elapse dt))

/-- A value written to ADM.SOFT_TRIG (02 R83): the refusal, or 0 and the trigger. -/
def Blk.softTrig (s : Blk) (tag : Nat) : Nat × Blk :=
  match s.jobByTag tag with
  | none => (0, s)
  | some j =>
    if j.kind = 1 && j.trigger = 2 then (0, s.acceptTrigger (s.now + 40) [j])
    else (0xB105, s.raise 0xB105)

/-- A value written to ADM.CANCEL (02 R82): the job takes no further trigger; a sweep that has not begun and a campaign
end as they stand. A cancel after the last frame was taken shows in the history as one (DESIGN CHOICE, log 100). -/
def Blk.cancelExposure (s : Blk) (j : Job) : Blk :=
  (s.updJob j.seq (fun j => if j.stopped = .live then { j with stopped := .cancelled } else j)).maybeEndExposure j.seq |>.jobsOver

/-- The end of a job's interval (02 R79). -/
def intervalEnd (seq : Nat) (s : Blk) : Blk :=
  s.updJob seq (fun j => if j.nextOk ≤ s.now then { j with nextOk := 0 } else j)

/-- INTERVAL_END (02 R79). -/
def execIntervalEnd (dt seq : Nat) (s : State) : Host.Outcome State Fault Refusal := done s (intervalEnd seq (s.blk.elapse dt))

/-- An arm timeout expires (02 R682). -/
def armTimeout (seq : Nat) (s : Blk) : Blk :=
  match s.jobBySeq seq with
  | none => s
  | some j =>
    if j.takes && j.armTimeout != 0 && j.armAt + ceilDiv (j.armTimeout * 625) 2 ≤ s.now then
      ((s.updJob seq (fun j => { j with stopped := .armTimeout })).raise 0xB131).maybeEndExposure seq |>.jobsOver
    else s

/-- ARM_TIMEOUT (02 R682). -/
def execArmTimeout (dt seq : Nat) (s : State) : Host.Outcome State Fault Refusal := done s (armTimeout seq (s.blk.elapse dt))

/-! ### Exposures (R101, R96, R127, R132) -/

/-- The exposure of the oldest frame that waits for it starts (R101). -/
def exposureStart (s : Blk) : Blk :=
  match s.firstFrame (fun f => !f.started && f.expStart ≤ s.now) with
  | none => s
  | some f =>
    let s := s.voidStretch
    let s := s.updFrame f.jobSeq f.unit (fun f => { f with started := true })
    let s := { s with sns := { s.sns with syncPulse := fld f.cfg.syncCfg 1 0 = 2 } }
    s.litExposureStart f.light

/-- EXPOSURE_START (R101). -/
def execExposureStart (dt : Nat) (s : State) : Host.Outcome State Fault Refusal := done s (exposureStart (s.blk.elapse dt))

/-- The storage window of the newest frame runs from its end-of-exposure timestamp (R95, R103). -/
def Blk.holdStorage (s : Blk) (f : Frame) (e : Nat) : Blk :=
  match s.sns.frames.getLast? with
  | some g => if g.jobSeq = f.jobSeq && g.unit = f.unit then
      { s with sns := { s.sns with storeEnd := e + storageTicks f.job.readout } } else s
  | none => s

/-- End of a frame's exposure at a tick, with the charges its storage nodes then hold: its zero, its deadline and the
end-of-exposure registers (R101, R128; 02 R52). -/
def Blk.endExposure (s : Blk) (f : Frame) (e : Nat) (storage : Bool) (img : List (Nat × List Nat)) : Blk :=
  let s := (s.litExposureEnd f).holdStorage f e
  let lat := f.job.latency
  let s := s.updFrame f.jobSeq f.unit (fun f =>
    { f with zero := some e, deadline := e + lat, storage := storage, img := img })
  s.setPair Reg.SNS_EOE_TIME_LO e

/-- The frame whose exposure runs and should end. -/
def Blk.endingFrame (s : Blk) (late : Nat) : Option Frame :=
  s.firstFrame (fun f => f.exposing && ceilDiv (f.expEnd4 + 4 * late) 4 ≤ s.now)

/-- SYNC_OUT's pulse of mode 2 is over after 1 µs (R132). -/
def syncPulseEnd (s : Blk) : Blk :=
  if s.sns.frames.all (fun f => !f.started || 4 * f.expStart + 1250 ≤ 4 * s.now) then { s with sns := { s.sns with syncPulse := false } }
  else s

/-- SYNC_PULSE_END (R132). -/
def execSyncPulseEnd (dt : Nat) (s : State) : Host.Outcome State Fault Refusal := done s (syncPulseEnd (s.blk.elapse dt))

/-- The storage transfer of a frame has not completed in time (R127): storage_held reads 0 then, and R103 still counts a whole
storage window (DESIGN CHOICE, log 100). -/
def snsTransfer (s : Blk) : Blk :=
  match s.endingFrame 625 with
  | none => s
  | some f =>
    let s := s.endExposure f f.dueEnd false []
    ((s.raise 0x4042).forfeitFrame f.jobSeq f.unit 0x4042 0 false).pruneFrames.jobsOver

/-- SNS_TRANSFER (R127). -/
def execSnsTransfer (dt : Nat) (s : State) : Host.Outcome State Fault Refusal := done s (snsTransfer (s.blk.elapse dt))

/-- Outside 0 °C to +60 °C, of a signed Q8.8 temperature. -/
def tempOut (t : Nat) : Bool := sgn 16 t < 0 || 60 * 256 < sgn 16 t

/-- The sensor temperature is reported (R126). -/
def snsTempRange (temp : Nat) (s : Blk) : Blk :=
  let old := tempOut (s.regF Reg.SNS_TEMP 15 0)
  let s := s.setF Reg.SNS_TEMP 15 0 temp
  if tempOut (temp % 65536) != old then s.raise 0x4051 else s

/-- SNS_TEMP_RANGE (R126). -/
def execSnsTempRange (dt : Nat) (temp : Word) (s : State) : Host.Outcome State Fault Refusal :=
  done s (snsTempRange temp.toNat (s.blk.elapse dt))

/-- A tile row has passed its bound without completing (R109, R127). -/
def locMapLate (s : Blk) : Blk :=
  let late (f : Frame) : Bool :=
    match f.zero with
    | some e => !f.mapDone && !f.isOver && f.storage && decide (e + 1000 + 240 * f.rows.length ≤ s.now)
    | none => false
  match s.firstFrame late with
  | none => s
  | some f =>
    -- a map whose first row is late shows nothing of the frame before
    let s := if f.rows.isEmpty then s.setN Reg.LOC_MAP_STATUS 0x200 else s.setF Reg.LOC_MAP_STATUS 9 9 1
    ((s.raise 0x4041).forfeitFrame f.jobSeq f.unit 0x4041 0 false).pruneFrames.jobsOver

/-- LOC_MAP_LATE (R127). -/
def execLocMapLate (dt : Nat) (s : State) : Host.Outcome State Fault Refusal := done s (locMapLate (s.blk.elapse dt))

end Sys2Proof.Machine
end

