-- ==== Sys2Proof/Machine/Regions.lean ====
section
/-! DEFINITION. Tile words, seeds and the patch reading (03 R112 to R122; 10 R370 to R374), the cluster builder (04 R142 to
R147), and the ROI sequencer (R149 to R155, R683). -/
namespace Sys2Proof.Machine

/-! ### Tile words (R112, R116, R117, R119) -/

/-- A tile as the locator reads it when nothing is there. -/
def noTile : TileIn := { edge := 0, orient := 0, coh := 0, l := 0, q := 0, d := 0, mean := 0, contrast := 0 }

/-- The spare of a column's group serves it in this frame (R140). -/
def FrameCfg.spared (c : FrameCfg) (col : Nat) : Bool :=
  let b := fld (if col < 128 then c.spareLo else c.spareHi) (8 * (col / 32 % 4) + 7) (8 * (col / 32 % 4))
  bitN b 7 && fld b 4 0 = col % 32

/-- A column is degraded in this frame (R124). -/
def FrameCfg.degr (c : FrameCfg) (col : Nat) : Bool := bitN (c.degraded.getD (col / 32) 0) (col % 32)

/-- The tile lies in LOC.REF_AREA (R135). -/
def inRef (area col row : Nat) : Bool :=
  fld area 7 0 ≤ col && col ≤ fld area 15 8 && fld area 23 16 ≤ row && row ≤ fld area 31 24

/-- The tile centre lies outside the job's search window (R119); the window is Q12.12 pixels or whole pixels as the
descriptor states (02 R47). -/
def outside (j : Job) (col row : Nat) : Bool :=
  let x := (16 * col + 8) * 4096
  let y := (16 * row + 8) * 4096
  x < j.f 48 4 || j.f 56 4 ≤ x || y < j.f 52 4 || j.f 60 4 ≤ y

/-- The excess of each family whose criterion a tile meets, in the order L, Q, D, linear (R116). -/
def excesses (cfg : FrameCfg) (sym l q d coh edge : Nat) : List (Option Nat) :=
  let s := cfg.seedScore
  let crit (en : Bool) (v m : Nat) : Option Nat := if en && m ≤ v then some (v - m) else none
  [crit (bitN sym 0 || bitN sym 1) l (fld s 7 0), crit (bitN sym 2 || bitN sym 3) q (fld s 15 8),
   crit (bitN sym 6 || bitN sym 7) d (fld s 23 16),
   if bitN sym 4 && fld s 27 24 ≤ coh && fld cfg.seedEdge 7 0 + 16 ≤ edge then some (16 * (coh - fld s 27 24)) else none]

/-- The enabled symbologies of a frame: the job's and DECC.SYM_ENABLE's (R143). -/
def enabledSyms (j : Job) (cfg : FrameCfg) : Nat := Nat.land j.symbologies cfg.symEnable

/-- A tile as the locator reads it: its fields held to R113 to R115, and its sat flag; a tile without charge is all at the
black level. -/
def Frame.readTile (f : Frame) (defects : List Nat) (tile : Nat) (t : TileIn) : TileIn × Bool :=
  let level := fld f.cfg.levels 17 8
  let uniform := uniformArea f.cfg.sensorCfg f.img tile
  let masked := if bitN f.cfg.locCfg 0 then defectsIn defects tile else []
  let (t, sat) : TileIn × Bool := match ofTile f.img tile with
    | none => ({ t with edge := if uniform then min 48 t.edge else t.edge, orient := 0, coh := 0 }, level ≤ 16)
    | some px => (heldTile f.cfg.sensorCfg level masked px uniform t, tileSat f.cfg.sensorCfg level masked px)
  (heldScores f.cfg.sensorCfg f.img tile uniform t, sat)

/-- The tile word of R112, with its sat flag. -/
def tileWord (j : Job) (cfg : FrameCfg) (row col : Nat) (x : TileIn × Bool) : Nat :=
  let t := x.1
  let dg := cfg.degr col
  let z (n : Nat) : Nat := if dg then 0 else n
  let edge := z (min t.edge 255)
  let coh := z (min t.coh 15)
  let l := z (min t.l 255)
  let q := z (min t.q 255)
  let d := z (min t.d 255)
  let mean := min (t.mean / 16) 255
  let con := min t.contrast 255
  let dark := mean ≤ fld cfg.levels 7 0
  let out := outside j col row
  let ref := inRef cfg.refArea col row
  let ex := (excesses cfg (enabledSyms j cfg) l q d coh edge).filterMap id
  let base := !out && !ref && !dark && !dg && fld cfg.seedEdge 7 0 ≤ edge && fld cfg.seedEdge 15 8 ≤ con
  let seed := base && !ex.isEmpty
  let ambig := seed && (match ex.mergeSort (fun a b => b ≤ a) with
    | a :: b :: _ => a - b ≤ fld cfg.ambig 7 0
    | _ => false)
  edge + t.orient % 16 * 2 ^ 8 + coh * 2 ^ 12 + b2n x.2 * 2 ^ 16 + b2n dark * 2 ^ 17 + b2n (cfg.spared col) * 2 ^ 18 +
  b2n out * 2 ^ 19 + b2n ref * 2 ^ 20 + b2n dg * 2 ^ 21 + b2n seed * 2 ^ 22 + b2n ambig * 2 ^ 23 +
  l * 2 ^ 24 + q * 2 ^ 32 + d * 2 ^ 40 + mean * 2 ^ 48 + con * 2 ^ 56

/-- Every part of the seed test but the families' holds (R142), of a tile word. -/
def supportBase (cfg : FrameCfg) (w : Nat) : Bool :=
  !bitN w 19 && !bitN w 20 && !bitN w 17 && !bitN w 21 && fld cfg.seedEdge 7 0 ≤ fld w 7 0 && fld cfg.seedEdge 15 8 ≤ fld w 63 56

/-- A tile word that could not be corrected: it reads as degraded with every score 0 (15 R577). -/
def scoreless (w : Nat) : Nat := putBit (putFld (putFld (putFld (putFld w 47 24 0) 15 12 0) 7 0 0) 23 22 0) 21 true

/-- The word of a tile by its index, as it is read from the map. -/
def Frame.word (f : Frame) (t : Nat) : Nat :=
  let w := (f.rows.getD (t / 256) []).getD (t % 256) 0
  if isBad f.bad .mapRow t then scoreless w else w

/-! ### The cluster builder (R142 to R147) -/

/-- A cluster that exists: forming or looking closed (R143). -/
def Cluster.open (c : Cluster) : Bool := c.st = .forming || c.st = .looks

/-- Chebyshev distance of two tiles. -/
def tileDist (a b : Nat) : Nat := max (absDiff (a % 256) (b % 256)) (absDiff (a / 256) (b / 256))

/-- A cluster's candidate region (R146): columns and rows, inclusive. -/
def Cluster.box (c : Cluster) : Nat × Nat × Nat × Nat := regionBox c.tiles

/-- A tile lies in a cluster's region. -/
def Cluster.holds (c : Cluster) (t : Nat) : Bool :=
  let (c0, c1, r0, r1) := c.box
  c0 ≤ t % 256 && t % 256 ≤ c1 && r0 ≤ t / 256 && t / 256 ≤ r1

/-- The tiles of a region. -/
def Cluster.region (c : Cluster) : List Nat :=
  let (c0, c1, r0, r1) := c.box
  (List.range (r1 + 1 - r0)).flatMap (fun r => (List.range (c1 + 1 - c0)).map (fun k => 256 * (r0 + r) + c0 + k))

/-- Two lists of groups joined wherever they share something: the groups of tiles of one row that hang together. -/
def joinGroups (near : Nat → Nat → Bool) : List Nat → List (List Nat)
  | [] => []
  | t :: rest =>
    let gs := joinGroups near rest
    let hit := gs.filter (fun g => g.any (near t))
    let miss := gs.filter (fun g => !(g.any (near t)))
    (t :: hit.flatten) :: miss

/-- The tiles of a completed row that take part: seeds and support tiles (R142). -/
def rowMembers (f : Frame) (r : Nat) (words : List Nat) : List Nat :=
  let prev := (f.clusters.filter (fun c => c.st != .merged && c.st != .discarded)).flatMap (fun c => c.tiles.filter (fun t => t / 256 + 1 = r))
  let seedAt (k : Nat) : Bool := bitN (words.getD k 0) 22
  (List.range 256).filter (fun k =>
    seedAt k ||
    (supportBase f.cfg (words.getD k 0) &&
      ((0 < k && seedAt (k - 1)) || (k < 255 && seedAt (k + 1)) || prev.any (fun t => absDiff (t % 256) k ≤ 1))))
  |>.map (fun k => 256 * r + k)

/-- The groups of a row (R143), by their lowest tile. -/
def rowGroups (joinGap : Nat) (seed : Nat → Bool) (tiles : List Nat) : List (List Nat) :=
  let near (a b : Nat) : Bool := tileDist a b ≤ 1 || (seed a && seed b && tileDist a b ≤ joinGap)
  (joinGroups near tiles).map (fun g => g.mergeSort (fun a b => a ≤ b)) |>.mergeSort (fun a b => a.headD 0 ≤ b.headD 0)

/-- The existing clusters a group is linked to (R143). -/
def linksOf (joinGap : Nat) (seed : Nat → Bool) (cs : List Cluster) (g : List Nat) : List Nat :=
  (cs.filter (fun c => c.open && g.any (fun t => c.tiles.any (fun m =>
    tileDist t m ≤ (if seed t then joinGap else 1))))).map (·.id)

/-- Clusters and groups that hang together: the clusters' ids and the tiles of each bunch of linked groups. -/
def bunches : List (List Nat × List Nat) → List (List Nat × List Nat)
  | [] => []
  | (ids, ts) :: rest =>
    let bs := bunches rest
    let hit := bs.filter (fun b => b.1.any ids.contains)
    let miss := bs.filter (fun b => !(b.1.any ids.contains))
    ((ids ++ hit.flatMap (·.1)).eraseDups, ts ++ hit.flatMap (·.2)) :: miss

/-- What a completed row makes of a frame's clusters (R143, R144): the frame, the ids that grew or merged, and whether a
start was refused. -/
def buildRow (f : Frame) (r : Nat) (words : List Nat) : Frame × List Nat × Bool :=
  let gap := fld f.cfg.close 2 0
  let seed (t : Nat) : Bool := bitN (words.getD (t % 256) 0) 22
  let groups := rowGroups gap seed (rowMembers f r words)
  let linked := groups.map (fun g => (linksOf gap seed f.clusters g, g))
  let joins := bunches (linked.filter (fun p => !p.1.isEmpty))
  let touched := joins.flatMap (·.1)
  let joined := joins.foldl (fun (cs : List Cluster) (b : List Nat × List Nat) =>
    let keep := b.1.foldl min (b.1.headD 0)
    let merged := (cs.filter (fun c => b.1.contains c.id && c.id != keep)).flatMap (·.tiles)
    cs.map (fun c =>
      if c.id = keep then
        { c with tiles := c.tiles ++ merged ++ b.2, st := .forming, last := r, lookedAt := none, resolved := false, untried := false, secWon := false }
      else if b.1.contains c.id then { c with st := .merged } else c)) f.clusters
  let starts := (linked.filter (fun p => p.1.isEmpty && p.2.any seed)).map (·.2)
  let tracked := (joined.filter (fun c => c.st != .merged && c.st != .discarded)).length
  let room := 128 - tracked
  let new := (starts.take room).zipIdx.map (fun (g, i) => ({ id := f.nextId + i, tiles := g, last := r } : Cluster))
  ({ f with clusters := joined ++ new, nextId := f.nextId + new.length }, touched, room < starts.length)

/-- The seeds of a cluster. -/
def Frame.seeds (f : Frame) (c : Cluster) : List Nat := c.tiles.filter (fun t => bitN (f.word t) 22)

/-- The states of R145 after row r, and the discard of R146. -/
def closeRow (f : Frame) (r now : Nat) : Frame :=
  let gap := fld f.cfg.close 2 0
  let spec := fld f.cfg.close 10 8
  { f with clusters := f.clusters.map (fun c =>
      if !c.open then c
      else if c.last + gap ≤ r || r = 191 then
        if (f.seeds c).length < fld f.cfg.cluster 3 0 then { c with st := .discarded }
        else { c with st := .closed, lookedAt := some (c.lookedAt.getD now) }
      else if spec < gap && c.last + spec ≤ r then { c with st := .looks, lookedAt := some (c.lookedAt.getD now) }
      else c) }

/-- A cluster is a candidate: enough seeds, and not gone (R146). -/
def Frame.candidate (f : Frame) (c : Cluster) : Bool :=
  c.st != .merged && c.st != .discarded && fld f.cfg.cluster 3 0 ≤ (f.seeds c).length

/-- The sums of excess of a candidate by family, of those that contend (R147): family code 1 to 4 and sum. -/
def Frame.families (f : Frame) (j : Job) (c : Cluster) : List (Nat × Nat) :=
  let ex := (f.seeds c).map (fun t =>
    let w := f.word t
    excesses f.cfg (enabledSyms j f.cfg) (fld w 31 24) (fld w 39 32) (fld w 47 40) (fld w 15 12) (fld w 7 0))
  (List.range 4).filterMap (fun k =>
    let v := ex.filterMap (fun e => e.getD k none)
    if v.isEmpty then none else some (k + 1, v.foldl (· + ·) 0))

/-- The contending families by sum, ties in the order L, Q, D, linear. -/
def Frame.ranked (f : Frame) (j : Job) (c : Cluster) : List (Nat × Nat) :=
  (f.families j c).mergeSort (fun a b => b.2 < a.2 || (a.2 = b.2 && a.1 ≤ b.1))

/-- The candidate's score. -/
def Frame.score (f : Frame) (j : Job) (c : Cluster) : Nat := ((f.ranked j c).head?.map (·.2)).getD 0

/-- The primary hypothesis. -/
def Frame.primary (f : Frame) (j : Job) (c : Cluster) : Nat := ((f.ranked j c).head?.map (·.1)).getD 0

/-- The secondary hypothesis of an ambiguous candidate. -/
def Frame.secondary (f : Frame) (j : Job) (c : Cluster) : Option Nat :=
  match f.ranked j c with
  | a :: b :: _ => if bitN f.cfg.specCtl 2 && b.2 != 0 && a.2 * fld f.cfg.hypo 4 0 ≤ 16 * b.2 then some b.1 else none
  | _ => none

/-- The lowest tile of a cluster. -/
def Cluster.firstTile (c : Cluster) : Nat := c.tiles.foldl min 65535

/-! ### The ROI sequencer (R149 to R153) -/

/-- A band is needed (R149). -/
def Frame.needsBand (f : Frame) (b : Nat) : Bool :=
  f.clusters.any (fun c => (c.open || (c.st = .closed && f.candidate c)) && (let (_, _, r0, r1) := c.box; r0 ≤ b && b ≤ r1))

/-- A band is converted, in conversion or queued. -/
def Frame.bandSeen (f : Frame) (b : Nat) : Bool :=
  f.converted.contains b || f.bandQueue.contains b || (match f.converting with | some (k, _) => k = b | none => false)

/-- The next queued band that is still needed begins its conversion; one that is not is never converted (R149). -/
def Frame.nextBand (f : Frame) (now : Nat) : Frame :=
  match f.converting, f.bandQueue.dropWhile (fun b => !f.needsBand b) with
  | none, b :: t => { f with converting := some (b, now), bandQueue := t }
  | none, [] => { f with bandQueue := [] }
  | _, _ => f

/-- The bands queued at the completion of row r (R149). -/
def Frame.queueBands (f : Frame) (r now : Nat) : Frame :=
  let early := 0 < r && f.needsBand (r - 1) && !f.bandSeen (r - 1)
  let f := if early then { f with bandQueue := f.bandQueue ++ [r - 1], lateQ := (r - 1) :: f.lateQ } else f
  let f := if f.needsBand r && !f.bandSeen r then { f with bandQueue := f.bandQueue ++ [r] } else f
  f.nextBand now

/-- Pixel rows of a band whose conversion would end after E + 62 500 (R152). -/
def lostRows (e begin : Nat) : Nat := ((List.range 16).filter (fun i => e + 62500 < begin + 20 * (i + 1))).length

/-- A tile of a band leaves the line store into the staging store (R150). -/
def Frame.wantsTile (f : Frame) (t : Nat) : Bool :=
  f.clusters.any (fun c => c.st != .merged && c.st != .discarded &&
    (let (c0, c1, r0, r1) := c.box
     let g := if c.open then fld f.cfg.guard 2 0 else 0
     r0 ≤ t / 256 && t / 256 ≤ r1 && c0 ≤ t % 256 + g && t % 256 ≤ c1 + g))

/-- The transfer of a band's tiles within the budget of the job (R150, R151); a tile that the line store does not list is all
black. -/
def Frame.transfer (f : Frame) (cap b : Nat) (px : List (Nat × List Byte)) : Frame :=
  let want := ((List.range 256).map (fun k => 256 * b + k)).filter f.wantsTile
  let room := cap - f.tiles.length
  let data (t : Nat) : List Byte := (ofTile px t).getD blackTile
  { f with tiles := f.tiles ++ (want.take room).map (fun t => (t, data t)), refused := f.refused + (want.length - room), left := b :: f.left }

/-- Bands whose conversion is over and whose row below has completed leave the line store (R150). -/
def Frame.drain (f : Frame) (cap : Nat) : Frame :=
  let go := f.lineStore.filter (fun p => p.1 + 2 ≤ f.rows.length || p.1 = 191)
  let stay := f.lineStore.filter (fun p => !(p.1 + 2 ≤ f.rows.length || p.1 = 191))
  go.foldl (fun f p => f.transfer cap p.1 p.2) { f with lineStore := stay }

/-- The ROI page's registers of the last frame, and its budget event (R151, R174); the refused tiles saturate (DESIGN CHOICE, log 100). -/
def Blk.roiRegs (s : Blk) (jobSeq unit : Nat) : Blk :=
  match s.frame jobSeq unit with
  | none => s
  | some f =>
    let s := s.setN Reg.ROI_LAST_TILES (sat 13 f.tiles.length + sat 13 f.refused * 2 ^ 16)
    let s := s.setN Reg.ROI_LAST_BANDS (sat 8 f.converted.length + sat 8 f.late * 2 ^ 8 + sat 4 f.lostRows * 2 ^ 16)
    let cap := f.job.roiTiles
    if cap ≤ f.tiles.length && cap != 0 && !f.budgetRaised then
      (s.updFrame jobSeq unit (fun f => { f with budgetRaised := true })).raise 0x4061
    else s

/-- The tick at which a band of a full-frame readout is available: the rule gives the latest one, and the model takes it (R683; DESIGN
CHOICE, log 83). -/
def bandTime (e b : Nat) : Nat := e + 6480 * (b + 1) + 782

/-- A band has left the line store, or can come no more: the map is complete and the band is neither queued, in conversion
nor in the line store (R149, R150). -/
def Frame.bandIn (f : Frame) (b : Nat) : Bool :=
  f.left.contains b ||
  (f.mapDone && !f.bandQueue.contains b && (match f.converting with | some (k, _) => k != b | none => true) &&
    !(f.lineStore.any (fun p => p.1 = b)))

/-- A band of a full-frame readout is available: it has been converted and written, or its latest time has passed (R683). -/
def Frame.bandAvail (f : Frame) (now b : Nat) : Bool :=
  f.left.contains b || (match f.zero with | some e => decide (bandTime e b ≤ now) | none => false)

/-- Every band of a cluster's region is there for its tasks (R156, R157, R683); after the storage window none comes any
more. -/
def Frame.bandsIn (f : Frame) (full : Bool) (now : Nat) (c : Cluster) : Bool :=
  let (_, _, r0, r1) := c.box
  if full then f.bandAvail now r1
  else !f.storage || (List.range (r1 + 1 - r0)).all (fun i => f.bandIn (r0 + i))

/-- The first band of a cluster's region is there. -/
def Frame.firstBand (f : Frame) (full : Bool) (now : Nat) (c : Cluster) : Bool :=
  let (_, _, r0, _) := c.box
  if full then f.bandAvail now r0 else !f.storage || f.left.contains r0

/-- Some region tile of a candidate is missing (R153), or cannot be read right (15 R577); a full-frame readout misses none but so
(R683). -/
def Frame.isClipped (f : Frame) (full : Bool) (c : Cluster) : Bool :=
  c.region.any (fun t => f.spoils full t || (!full && !(f.tiles.any (fun p => p.1 = t))))

/-! ### The patch and the illumination loop's average (10 R370, R371, R373, R374) -/

/-- The tiles of LOC.REF_AREA. -/
def refTiles (area : Nat) : List Nat :=
  (List.range (fld area 31 24 + 1 - fld area 23 16)).flatMap (fun r =>
    (List.range (fld area 15 8 + 1 - fld area 7 0)).map (fun k => 256 * (fld area 23 16 + r) + fld area 7 0 + k))

/-- The patch reading of a complete map in 1/4 DN, if it is valid (R370). -/
def Frame.patchReading (f : Frame) : Option Nat :=
  let ts := refTiles f.cfg.refArea
  if ts.isEmpty || ts.any (fun t => bitN (f.word t) 16 || bitN (f.word t) 17 || bitN (f.word t) 21) then none
  else
    let sum := (ts.map (fun t => 16 * fld (f.word t) 55 48 + 6)).foldl (· + ·) 0
    some ((2 * sum + ts.length) / (2 * ts.length) - 64)

/-- Charge of a drive between two times after its start, in code × quarter tick. -/
def ColDrive.chargeBetween (d : ColDrive) (a b : Nat) : Nat := d.charge b - d.charge a

/-- Commanded current of one sector inside a frame's exposure: code × quarter ticks over columns and pulses (R371, 11 R403).
It is Q × trim of R371 but for the unit. -/
def Frame.driveOfSector (f : Frame) (n : Nat) : Nat :=
  ((f.pulses.filter (fun p => p.row = n)).map (fun p =>
    (p.cols.map (fun d =>
      let start := d.start p.start4
      let lo := max (start + d.cut4) (4 * f.expStart)
      let hi := min (d.until p.end4) f.expEnd4
      if lo < hi then d.chargeBetween (lo - start) (hi - start) else 0)).foldl (· + ·) 0)).foldl (· + ·) 0

/-- The sector a frame was lit by, when it was only one. -/
def onlySector (mask : Nat) : Option Nat := if popcount 8 mask = 1 then lowestBit 8 mask else none

/-- The illumination loop takes a frame for its sector: ρ, the mean, and an armed latch (R371, R373). -/
def Blk.litTake (s : Blk) (f : Frame) (l4 : Nat) : Blk :=
  match onlySector f.sectors with
  | none => s
  | some n =>
    let c := f.driveOfSector n
    if l4 < 400 ∨ 3600 < l4 ∨ c = 0 ∨ !bitN (s.regN Reg.ADM_CAL_CTL) 0 then s
    else
      let rho : Q := Q.norm ⟨2500 * l4, 3 * c⟩
      let k := s.cal.lit.getD n {}
      let avg : Q := if k.num = 0 || k.armed then rho else Q.norm (Q.add ⟨k.num, k.den⟩ (Q.mul (Q.sub rho ⟨k.num, k.den⟩) ⟨1, 8⟩))
      let upd1 : LitLoop := { k with num := avg.n.toNat, den := avg.d, since := k.since + 1, armed := false }
      let s := { s with cal := { s.cal with lit := upd s.cal.lit n (fun _ => upd1) } }
      if k.armed then (s.engStage 1 (.litRef n (min (Q.rhu (rho.mul ⟨65536, 1⟩)).toNat 0xFFFFFFFF))).engStage 1 (.litTrim n 0x8000)
      else s

/-- A complete map's patch reading: the last one and its mask are kept and shown, and the loop takes the frame (R370 to
R374). -/
def Blk.patchTake (s : Blk) (f : Frame) : Blk :=
  match f.patchReading with
  | none => s
  | some l4 =>
    let s := s.updFrame f.jobSeq f.unit (fun f => { f with patch := some l4, patchOk := true })
    let patch := (f.sectors, l4) :: s.cal.patch.filter (fun p => p.1 != f.sectors)
    let s := { s with cal := { s.cal with patch := patch } }
    (s.setN Reg.ADM_CAL_PATCH (sat 12 l4 + f.sectors % 256 * 2 ^ 24)).litTake f l4

/-! ### The column-offset loop (R121, R122) -/

/-- The mean dark-tile level of a column in 0.25 DN, when enough of its tiles are dark (R121). -/
def darkLevel (minDark : Nat) (p : Nat × Nat) : Option Int :=
  if p.2 < minDark || p.2 = 0 then none else some ((2 * p.1 + p.2) / (2 * p.2) : Nat)

/-- The eight nearest columns with a level: nearer first, the lower of two at one distance first (DESIGN CHOICE, log 100). -/
def nearest8 (levels : List (Option Int)) (c : Nat) : List Int :=
  (((List.range 255).flatMap (fun d =>
    (if d + 1 ≤ c then [levels.getD (c - (d + 1)) none] else []) ++ [levels.getD (c + d + 1) none])).filterMap id).take 8

/-- The unit whose trim serves a column: the column itself, or 256 + g for the spare of its group. -/
def FrameCfg.trimUnit (cfg : FrameCfg) (c : Nat) : Nat := if cfg.spared c then 256 + c / 32 else c

/-- The step a column's residual asks for: −1, 0 or 1 (R121). -/
def offsetStep (levels : List (Option Int)) (c : Nat) : Option Int :=
  match levels.getD c none with
  | none => none
  | some v =>
    let l := nearest8 levels c
    if l.isEmpty then none
    else
      let r2 := 2 * v - median2 l
      some (if 8 ≤ r2 then -1 else if r2 ≤ -8 then 1 else 0)

/-- One update of the unit that serves column c: the new trim, and its drift (R121, R122). A step of 0 ends a run of updates, a
frame without a level does not, and after 0x4011 the count starts anew (DESIGN CHOICE, log 100). -/
def Blk.offsetCol (s : Blk) (limit u c : Nat) (step : Int) : Option (Nat × Int) × Blk :=
  let old := s.sns.trims.getD u 0
  let fact := (Config.factoryTrim u).toInt
  let new := clampI (-128) 127 (fact + old + step) - fact
  let n := if step = 0 then 0 else s.sns.drift.getD u 0 + 1
  let s := { s with sns := { s.sns with drift := upd s.sns.drift u (fun _ => n) } }
  let s :=
    if 16 ≤ n ∧ (limit : Int) < (if new < 0 then -new else new) then
      ((({ s with sns := { s.sns with drift := upd s.sns.drift u (fun _ => 0) } }).setF Reg.LOCX_SPARE_STATUS (16 + c / 32) (16 + c / 32) 1).raise 0x4011).offer .column u true
    else s
  (if step = 0 then none else some (u, new), s)

/-- What a frame with its map complete gives the column-offset loop (R121, R105). -/
def Frame.columnIn (f : Frame) : ColumnIn :=
  { levels := f.dark.map (darkLevel (fld f.cfg.offsetLoop 15 8)), units := (List.range 256).map f.cfg.trimUnit, limit := f.cfg.driftLimit }

/-- At least one column asks for an update. -/
def ColumnIn.due (w : ColumnIn) : Bool := (List.range 256).any (fun c => (offsetStep w.levels c).any (fun st => st != 0))

/-- The loop over the columns: the updates, staged for the next frame boundary (R121). -/
def Blk.offsetRun (s : Blk) (w : ColumnIn) : Blk :=
  let (l, s) := (List.range 256).foldl (fun (acc : List (Nat × Int) × Blk) c =>
    match offsetStep w.levels c with
    | none => acc
    | some st =>
      let (o, s) := acc.2.offsetCol w.limit (w.units.getD c c) c st
      (acc.1 ++ o.toList, s)) ([], s)
  if l.isEmpty then s else s.engStage 1 (.locTrims l)

end Sys2Proof.Machine
end

