-- ==== Sys2Proof/Machine/Slots.lean ====
section
/-! DEFINITION. Calibration slots (10 R365, R366; 02 R74): which slot has its input and could start, whose turn it is among the
deferred ones, and whether a slot may start now. -/
namespace Sys2Proof.Machine

/-! ### The accounting of slots (02 R71; 10 R365) -/

/-- The calibration shares of this window are not used up (02 R71). -/
def Blk.calShareLeft (s : Blk) : Bool :=
  let s := s.rollWindow
  let sh := s.regN Reg.ADM_SHARES
  s.shareLeft (s.specUsed true) (fld sh 15 8) && s.memShareLeft s.dec.calBytes (fld sh 31 24)

/-- The domain that the slots of a loop use, and the ticks a slot takes; a photodiode slot lasts as long as its measurement, and a
shadow slot as long as its task (10 R365, R369). -/
def loopUse : CalLoop → Nat × Nat
  | .lit => (4, 938)
  | .pd => (3, 0)
  | .pace => (7, 625)
  | .shadow => (7, 0)
  | .eq => (6, 12500)
  | .eye => (6, 12500)
  | .zq => (5, 313)
  | .dqs => (5, 313)
  | .column => (2, 3750)

/-- A slot runs: counted, its engine time booked to this window, and the tick kept (10 R365); the delay of its domain starts again at
its end (16 R595). -/
def Blk.slotRun (s : Blk) (l : CalLoop) (u ticks : Nat) : Blk :=
  let s := s.rollWindow
  let last := ((l, u), s.now) :: s.cal.lastRun.filter (fun p => p.1 != (l, u))
  let s := s.updDom (loopUse l).1 (fun x => { x with touched := s.now + (loopUse l).2 })
  { s with cal := { s.cal with slotsRun := s.cal.slotsRun + 1, lastRun := last },
           dec := { s.dec with calTicks := s.dec.calTicks + ticks } }

/-- A slot that waits no longer. -/
def Blk.dropSlotWait (s : Blk) (k : CalLoop × Nat) : Blk :=
  { s with cal := { s.cal with waiting := s.cal.waiting.filter (fun w => w != k), shareWait := s.cal.shareWait.filter (fun w => w != k) } }

/-- The tick of a loop's last slot for a unit; before the first, the tick its schedule began. -/
def Blk.lastSlot (s : Blk) (l : CalLoop) (u : Nat) : Nat := ((s.cal.lastRun.find? (fun p => p.1 = (l, u))).map (·.2)).getD s.cal.origin

/-! ### Photodiode slots (10 R375) -/

/-- Ticks of `n` chain samples of a channel, cut up. -/
def Blk.sampleTicks (s : Blk) (ch n : Nat) : Nat := ceilDiv (n * (s.pdch ch).preset.d * 5) 4

/-- The injector condition (07 R255), and no sweep boundary that names the channel before the measurement ends (R375). -/
def Blk.injectorMay (s : Blk) (ch ticks settle : Nat) : Bool :=
  s.windowsOpen ch = 0 && s.sweepJobs.all (fun j =>
    !bitN j.channels ch ||
    (match s.sweep j.seq with
     | some w => w.opened || s.now + ticks + settle ≤ j.windowStart
     | none => s.now + ticks + settle ≤ j.windowStart && s.now + ticks ≤ s.sweepDue j))

/-- The chain samples before each mean of a channel's measurement, and of each mean (R375). -/
def Blk.pdWait (s : Blk) (ch : Nat) : Nat := nAna (s.regF (Reg.PDC_CFG ch) 2 0) (s.pdch ch).preset.d + nCic (s.pdch ch).preset.d
def Blk.pdMeans (s : Blk) : Nat := 2 ^ (10 + s.regF Reg.ADM_CAL_PD_CFG 18 16)

/-- A channel is due for calibration and its moment has come: every condition of R375 holds. -/
def Blk.pdMay (s : Blk) (ch : Nat) : Bool :=
  bitN (s.regN Reg.ADM_CAL_CTL) 1 && s.chRuns ch && s.pd.calDue.any (fun q => q.1 = ch) && !s.pd.calNow.any (fun m => m.ch = ch) &&
  s.injectorMay ch (s.sampleTicks ch (2 * (s.pdWait ch + s.pdMeans))) (s.sampleTicks ch (settleN (s.regF (Reg.PDC_CFG ch) 2 0) (s.pdch ch).preset))

/-! ### Shadow slots (17 R634) -/

/-- A cluster of a frame. -/
def Frame.cluster (f : Frame) (id : Nat) : Option Cluster := f.clusters.find? (fun c => c.id = id)

/-- Engines free for a speculative task. -/
def Blk.specEngines (s : Blk) : List Nat := (List.range 18).filter s.freeSpec

/-- The outcome that stands for a candidate: the winner's, or the primary's. -/
def Cluster.winner (c : Cluster) : Option Outcome := if c.secWon then c.sec else c.prim

/-- Listed candidates of live frames that an admitted task has decoded, with the engine it ran on (17 R634). -/
def Blk.shadowable (s : Blk) : List (Frame × Cluster × Outcome) :=
  (s.sns.frames.filter (fun f => !f.isOver)).flatMap (fun f => f.clusters.filterMap (fun c =>
    match c.winner with
    | some o => if c.index.isSome && c.resolved && o.status = 0 && !o.inSlot then some (f, c, o) else none
    | none => none))

/-- The slot that comes next: the one that waits, else a candidate of a suspect engine, else the first (17 R634; 10 R366). -/
def Blk.shadowNow (s : Blk) : Option (Frame × Cluster × Outcome) :=
  let l := s.shadowable
  let kept := s.cal.shadowIn.bind (fun w => l.find? (fun p => p.1.jobSeq = w.jobSeq && p.1.unit = w.unit && p.2.1.id = w.cand))
  (kept.orElse (fun _ => l.find? (fun p => s.ust.suspect.contains p.2.2.eng))).orElse (fun _ => l.head?)

/-- The engine of a shadow decode: the next in turn among those free for speculative work, but for the one it checks (R634; 04 R167). -/
def Blk.shadowEngine (s : Blk) (o : Outcome) : Option Nat :=
  let free := s.specEngines.filter (fun e => e != o.eng)
  (free.find? (fun e => s.cal.shadowNext ≤ e)).orElse (fun _ => free.head?)

/-- The third decode of a mismatch that waits, with its candidate and the further engine it can have. -/
def Blk.thirdWaits (s : Blk) : Option ShadowIn := s.cal.shadowIn.bind (fun w => if w.third.isSome then some w else none)
def Blk.thirdEngine (s : Blk) (w : ShadowIn) : Option (Cluster × Nat) :=
  match (s.frame w.jobSeq w.unit).bind (fun f => f.cluster w.cand), w.third with
  | some c, some (a, b, _, _) => (s.slowest (s.specEngines.filter (fun e => e != a && e != b))).map (fun e => (c, e))
  | _, _ => none

/-! ### Lane slots (14 R546) -/

/-- A lane. -/
def Blk.lane (s : Blk) (l : Nat) : LaneSt := s.lnk.lanes.getD l {}

/-- Lanes the equalisation loop takes in turn: aligned ones that are active or the spare. -/
def Blk.eqLanes (s : Blk) : List Nat :=
  (List.range 5).filter (fun l => (s.lane l).aligned && ((s.lane l).rx = .active || (s.lane l).rx = .spare))

/-- The next of these lanes at or after a place. -/
def nextLane (l : List Nat) (k : Nat) : Option Nat :=
  match l.find? (fun x => k ≤ x) with
  | some x => some x
  | none => l.head?

/-! ### Turns (02 R74; 10 R365) -/

/-- A deferred slot has its input and could start now. One whose loop is switched off, whose unit is away, or whose moment has not
come holds up none behind it (log 88). -/
def Blk.slotReady (s : Blk) (k : CalLoop × Nat) : Bool :=
  match k.1 with
  | .lit => bitN (s.regN Reg.ADM_CAL_CTL) 0 && s.regN (Reg.ADM_CAL_LIT_REF k.2) != 0 && (s.cal.lit.getD k.2 {}).since != 0
  | .pd => s.pdMay k.2
  | .pace => bitN (s.regN Reg.ADM_CAL_CTL) 2
  | .shadow =>
    if k.2 = 1 then (s.thirdWaits.bind s.thirdEngine).isSome
    else !s.coppice && s.thirdWaits.isNone && (s.shadowNow.bind (fun p => s.shadowEngine p.2.2)).isSome
  | .eq => s.linkUp && nextLane s.eqLanes s.lnk.eqLane = some k.2
  | .zq => s.domReady 5
  | .dqs => s.domReady 5
  | .eye => (s.lane k.2).scanAsked
  | .column => s.cal.columnIn.isSome

/-- The deferred slot whose turn it is (02 R74). -/
def Blk.slotTurn (s : Blk) (k : CalLoop × Nat) : Bool := (s.cal.waiting.takeWhile (fun w => w != k)).all (fun w => !s.slotReady w)

/-- May a slot of a loop and unit start now (10 R365)? In shortfall stage 2 it is deferred; a deferred one starts in its
turn, in stage 0 (02 R74). One for which the shares of the window are used up waits for them. None starts while the engine goes to
sleep (16 R597). -/
def Blk.slotMay (s : Blk) (l : CalLoop) (u : Nat) : Bool × Blk :=
  let stage := s.regF Reg.ADM_SHORTFALL 1 0
  if s.enteringSleep then (false, s)
  else if 2 ≤ stage then
    if s.cal.waiting.contains (l, u) then (false, s)
    else
      let s := s.dropSlotWait (l, u)
      (false, ({ s with cal := { s.cal with waiting := s.cal.waiting ++ [(l, u)] } }).bump Reg.ADM_CAL_DEFERRED 31 0 1)
  else if s.cal.waiting.contains (l, u) then
    if stage = 0 && s.slotTurn (l, u) && s.calShareLeft then (true, s.dropSlotWait (l, u)) else (false, s)
  else if s.calShareLeft then (true, s.dropSlotWait (l, u))
  else if s.cal.shareWait.contains (l, u) then (false, s)
  else (false, { s with cal := { s.cal with shareWait := s.cal.shareWait ++ [(l, u)] } })

end Sys2Proof.Machine
end

