-- ==== Sys2Proof/Machine/Placement.lean ====
section
/-! DEFINITION. Decode tasks (04 R156 to R169): which may start, on which engine, how they end and how the hypotheses of a
candidate are resolved; listing and promotion (R158, R159); the notice to Tally (R169); shadow decodes (17 R634). -/
namespace Sys2Proof.Machine

/-! ### Calibration slots on the frame path (10 R365, R366; 02 R74) -/

/-- The column-offset slot, if its loop is on and one waits with an update to make: 12 µs of the calibration share (03 R121;
10 R365, R369). -/
def Blk.columnSlot (s : Blk) : Blk :=
  match s.cal.columnIn with
  | none => s
  | some w =>
    let (may, s) := s.slotMay .column 0
    if !may then s
    else (({ s with cal := { s.cal with columnIn := none } } : Blk).slotRun .column 0 3750).offsetRun w

/-- The column-offset loop takes a frame whose map is complete; the levels of a later frame replace those that still wait for
their slot (R366; log 88). A frame without an update costs nothing and ends the runs of R122, but for a slot that still waits. -/
def Blk.offsetLoop (s : Blk) (f : Frame) : Blk :=
  if !bitN f.cfg.offsetLoop 0 then s
  else if f.columnIn.due then ({ s with cal := { s.cal with columnIn := some f.columnIn } } : Blk).columnSlot
  else if s.cal.columnIn.isSome then s
  else s.offsetRun f.columnIn

/-! ### Candidates and their tasks -/

/-- A full-frame readout. -/
def Job.full (j : Job) : Bool := j.readout = 1

/-- The running task of a hypothesis. -/
def Blk.taskOf (s : Blk) (f : Frame) (id : Nat) (secondary : Bool) : Option Task :=
  s.dec.running.find? (fun t => !t.shadow && t.jobSeq = f.jobSeq && t.unit = f.unit && t.cand = id && t.secondary = secondary)

/-- A primary task of the candidate waits in the admitted queue. -/
def Blk.queued (s : Blk) (f : Frame) (id : Nat) : Bool :=
  s.dec.queue.any (fun t => t.jobSeq = f.jobSeq && t.unit = f.unit && t.cand = id)

/-- The candidate holds a primary task that is running, or finished and not squashed (R156). -/
def Blk.holdsPrimary (s : Blk) (f : Frame) (c : Cluster) : Bool := c.prim.isSome || (s.taskOf f c.id false).isSome

/-- Speculative work may start (R156): Cruiser is on for the frame, stage 0, no admitted task waits, and the speculation
shares of the window are not used up. -/
def Blk.specMay (s : Blk) (f : Frame) : Bool :=
  let sh := s.regN Reg.ADM_SHARES
  bitN f.cfg.specCtl 0 && s.regF Reg.ADM_SHORTFALL 1 0 = 0 && s.dec.queue.isEmpty && !s.coppice &&
  s.shareLeft (s.specUsed false) (fld sh 7 0) && s.memShareLeft s.rollWindow.dec.specBytes (fld sh 23 16)

/-- The candidate's own conditions of R156, but for the completion of the map; once the delivery is cut none holds
(DESIGN CHOICE, log 100). -/
def Blk.candMay (s : Blk) (j : Job) (f : Frame) (c : Cluster) : Bool :=
  !f.isOver && !f.cut && f.candidate c && (c.st = .closed || (c.st = .looks && bitN f.cfg.specCtl 1)) && !c.resolved &&
  (f.clusters.filter (fun d => s.holdsPrimary f d)).length < j.maxSymbols && f.firstBand j.full s.now c

/-- A task starts on an engine. -/
def Blk.startTask (s : Blk) (t : Task) (e : Nat) : Blk :=
  let t := { t with eng := e, startedAt := s.now, gauge := s.gaugeOf e, order := s.dec.order }
  { s with dec := { s.dec with running := s.dec.running ++ [t], order := s.dec.order + 1 } }

/-- The bytes that the tiles of a candidate's region move: 320 each in region readout, 384 of the archive in full-frame readout (R161;
15 R563). -/
def Frame.regionBytes (f : Frame) (c : Cluster) : Nat := (if f.job.full then 384 else 320) * c.region.length

/-- A speculative task of a candidate starts; the bytes of its region are booked (R161; 02 R71). -/
def Blk.startSpec (s : Blk) (f : Frame) (c : Cluster) (secondary : Bool) (family e : Nat) : Blk :=
  let s := s.startTask { jobSeq := f.jobSeq, unit := f.unit, cand := c.id, secondary := secondary, family := family, admitted := false } e
  let s := s.rollWindow
  let s := { s with dec := { s.dec with specBytes := s.dec.specBytes + f.regionBytes c } }
  let s := if secondary then s.updFrame f.jobSeq f.unit (fun f => f.updCluster c.id (fun c => { c with secTried := true })) else s
  s.count Reg.CRU_SPEC_STARTED 1

/-- The engine of a candidate's primary task, running or finished. -/
def Blk.primaryEngine (s : Blk) (f : Frame) (c : Cluster) : Option Nat :=
  match s.taskOf f c.id false with
  | some t => some t.eng
  | none => c.prim.map (·.eng)

/-- A candidate's secondary task can start, on which engine and for which family (R156, R163, R165). -/
def Blk.secondaryStart (s : Blk) (j : Job) (f : Frame) (c : Cluster) : Option (Nat × Nat) :=
  match f.secondary j c, s.primaryEngine f c with
  | some fam, some pe =>
    if c.sec.isNone && (s.taskOf f c.id true).isNone && s.specMay f && s.candMay j f c then
      (s.slowest (s.specEngines.filter (fun e => e != pe))).map (fun e => (e, fam))
    else none
  | _, _ => none

/-- A candidate's primary task can start speculatively, on which engine and for which family (R156, R165). -/
def Blk.primaryStart (s : Blk) (j : Job) (f : Frame) (c : Cluster) : Option (Nat × Nat) :=
  if !f.mapDone && !s.holdsPrimary f c && s.specMay f && s.candMay j f c then
    (s.slowest s.specEngines).map (fun e => (e, f.primary j c))
  else none

/-- Candidates of every frame that wait for a task, in Cruiser's order (R156). -/
def Blk.waitingCands (s : Blk) : List (Frame × Cluster) :=
  (s.sns.frames.flatMap (fun f => (f.clusters.filter (fun c => c.lookedAt.isSome)).map (fun c => (f, c)))).mergeSort
    (fun a b => let x := a.2.lookedAt.getD 0
                let y := b.2.lookedAt.getD 0
                x < y || (x = y && a.2.firstTile ≤ b.2.firstTile))

/-- Cruiser starts one speculative task: of the first waiting candidate that can have one, its primary or, while that
runs and the map is not complete, its secondary (R156). -/
def specTaskStart (s : Blk) : Blk :=
  let pick := s.waitingCands.findSome? (fun (f, c) =>
    match s.jobBySeq f.jobSeq with
    | none => none
    | some j =>
      match s.primaryStart j f c with
      | some (e, fam) => some (f, c, false, fam, e)
      | none =>
        if !f.mapDone && (s.taskOf f c.id false).isSome then
          (s.secondaryStart j f c).map (fun (e, fam) => (f, c, true, fam, e))
        else none)
  match pick with
  | some (f, c, sec, fam, e) => s.startSpec f c sec fam e
  | none => s

/-- SPEC_TASK_START (R156). -/
def execSpecTaskStart (dt : Nat) (s : State) : Host.Outcome State Fault Refusal := done s (specTaskStart (s.blk.elapse dt))

/-! ### Costs of tasks (02 R56, R57) -/

/-- The index of R88 of the symbology a task met, or else of its family's. -/
def taskSym (sym family : Nat) (f : Reading) : Nat :=
  match f.kind with
  | .dataMatrix => 0
  | .qr => 1
  | .microQr => 1
  | .dotCode => 2
  | .code128 => 3
  | .blazeD => 4
  | _ => match family with
    | 1 => 0
    | 2 => 1
    | 3 => if bitN sym 6 then 2 else 4
    | _ => 3

/-- The cost of a task at pace 1.00, in 1/16 µs (02 R56, R57; 04 R157). -/
def taskCost (j : Job) (sym family : Nat) (f : Reading) : Nat := gradedCost (taskSym sym family f) j.sizeClass j.grading

/-- Engine time spent on a delivery at pace 1.00 grows (02 R75). -/
def Blk.spend (s : Blk) (jobSeq unit k : Nat) : Blk :=
  let l := s.dec.spent
  let l := if l.any (fun p => p.1 = (jobSeq, unit)) then l.map (fun p => if p.1 = (jobSeq, unit) then (p.1, p.2 + k) else p)
           else l ++ [((jobSeq, unit), k)]
  { s with dec := { s.dec with spent := l } }

/-- Engine time leaves a delivery's account (R163). -/
def Blk.unspend (s : Blk) (jobSeq unit k : Nat) : Blk :=
  { s with dec := { s.dec with spent := s.dec.spent.map (fun p => if p.1 = (jobSeq, unit) then (p.1, p.2 - k) else p) } }

/-- A losing admitted task's ticks go to the speculation account of the window it started in (R163). -/
def Blk.bookLoser (s : Blk) (from_ to_ : Nat) : Blk := s.book false from_ (to_ - from_)

/-- A ratio of actual to predicted task time kept for the pace slot, of an engine's last 256 admitted tasks (10 R379). -/
def Blk.noteRatio (s : Blk) (o : Outcome) (cost : Nat) : Blk :=
  let r : Nat × Nat := ((o.endedAt - o.startedAt) * o.gauge * 32, cost * 625 * 16384)
  { s with cal := { s.cal with ratios := upd s.cal.ratios o.eng (fun l => (r :: l).take 256) } }

/-! ### The notice to Tally (R169; 09 R330) -/

/-- The values of a tile on the 10-bit scale, as the decode engines and Tally read them: a missing tile at the black level, the
12-bit codes of a full-frame readout divided by 4 (R153, R154, R683). -/
def Frame.tileCodes (f : Frame) (full : Bool) (defects : List Nat) (t : Nat) : List Nat :=
  if !full then (if f.spoils false t then blackCodes else ((ofTile f.tiles t).map unpackTile).getD blackCodes)
  else
    let codes := (ofTile f.archived t).orElse (fun _ =>
      if f.left.contains (t / 256) then none else digitised (code12 f.cfg.sensorCfg) f.cfg.sensorCfg defects f.img [] t)
    let codes := (codes.map (fun l => l.map (· / 4))).getD blackCodes
    if f.spoils true t then codes.zipIdx.map (fun p => if f.spoiltRow (16 * (t / 256) + p.2 / 16) then 16 else p.1) else codes

/-- The tiles of a candidate's region with their values. -/
def Blk.regionCodes (s : Blk) (j : Job) (f : Frame) (c : Cluster) : List (Nat × List Nat) :=
  c.region.map (fun t => (t, f.tileCodes j.full s.sns.defects t))

/-- The tiles of a frame of Coppice as its search reads them: each binned pixel at the place of its 4 × 4 pixels (17 R630). -/
def Frame.binnedCodes (f : Frame) : List (Nat × List Nat) :=
  f.binned.map (fun p => (p.1, (List.range 256).map (fun k => p.2.getD (4 * (k / 64) + k % 16 / 4) 16)))

/-- What a task on a candidate's region reads there. -/
def Blk.readRegion (s : Blk) (j : Job) (f : Frame) (c : Cluster) (t : Task) (g : Finding) : Reading :=
  readFinding (s.regionCodes j f c) 1 (Config.readsBeyond t.startedAt t.eng) g

/-- A listed candidate that has decoded is handed to Tally; in Coppice it is not measured (17 R630). -/
def Blk.tallyNotice (s : Blk) (j : Job) (f : Frame) (c : Cluster) : Blk :=
  match c.index, c.winner with
  | some i, some o =>
    if o.status != 0 then s
    else if s.coppice then
      s.updFrame f.jobSeq f.unit (fun f => f.updCluster c.id (fun c => { c with tallyFault := 0xA083 }))
    else
      let mark : Nat × Nat × Nat × Nat := match o.f.blaze with
        | some (w, _, _) => (blazeWriter w, blazeLayer w, blazeFragment w, blazeIndex w)
        | none => (0xFF, 0xFFFF, 0, 0xFF)
      let cand : TlyCand :=
        { seq := 0, sweep := false, jobSeq := j.seq, tag := j.tag, camp := j.campTag, unit := f.unit, start := f.zero.getD 0, index := i,
          symbology := symCode (enabledSyms j f.cfg) o.f, writer := mark.1, layer := mark.2.1, fragment := mark.2.2.1,
          markIndex := mark.2.2.2, clipped := c.clipped || f.isClipped j.full c, cluster := c.id,
          x := ((o.f.x + 128) / 256 : Nat), y := (o.f.y + 128) / 256, angle := (o.f.angle + 128) / 256 % 256, pitch := (o.f.pitch + 8) / 16,
          tiles := s.regionCodes j f c, level := fld f.cfg.levels 17 8 }
      let (n, fault, s) := s.notifyTally f.audit cand
      s.updFrame f.jobSeq f.unit (fun f => f.updCluster c.id (fun c => { c with tallySeq := n, tallyFault := fault }))
  | _, _ => s

/-! ### Resolution (R163) -/

/-- A listed candidate's standing result moves into the pool as an uncommitted entry, and its engine time to the job
(R159, R163): its task has ended admitted. A secondary that wins after the listing counts so too in DEC.DONE, though it ran as speculative work
(R163): the spec does not say (DESIGN CHOICE, log 27). -/
def Blk.takeResult (s : Blk) (j : Job) (f : Frame) (id : Nat) (secondary : Bool) : Blk :=
  match (f.cluster id).bind (fun c => if secondary then c.sec else c.prim) with
  | some o =>
    if !o.inSlot then s
    else
      let s := s.unbook o.startedAt o.endedAt
      let cost := taskCost j (enabledSyms j f.cfg) o.family o.f
      let s := (s.spend f.jobSeq f.unit cost).noteRatio o cost
      let s := s.count (Reg.DEC_DONE o.eng) 1
      s.updFrame f.jobSeq f.unit (fun f => f.updCluster id (fun c =>
        if secondary then { c with sec := c.sec.map (fun o => { o with inSlot := false }) }
        else { c with prim := c.prim.map (fun o => { o with inSlot := false }) }))
  | none => s

/-- A candidate is resolved: what it holds in slots is taken when it is listed, and Tally hears of a decode (R163, R169). -/
def Blk.settleCand (s : Blk) (j : Job) (jobSeq unit id : Nat) : Blk :=
  match s.frame jobSeq unit with
  | none => s
  | some f =>
    match f.cluster id with
    | none => s
    | some c =>
      if !c.resolved || c.index.isNone then s
      else
        let s := s.takeResult j f id c.secWon
        -- a loser's result that still stands in a slot is given up
        let s := s.updFrame jobSeq unit (fun f => f.updCluster id (fun c =>
          if c.secWon then { c with prim := c.prim.map (fun o => { o with inSlot := false }) }
          else { c with sec := c.sec.map (fun o => { o with inSlot := false }) }))
        match s.frame jobSeq unit with
        | some f => (match f.cluster id with | some c => s.tallyNotice j f c | none => s)
        | none => s

/-- A candidate is marked resolved, and settled if it is listed. -/
def Blk.markResolved (s : Blk) (j : Job) (f : Frame) (id : Nat) (secWon untried : Bool) : Blk :=
  let s := s.updFrame f.jobSeq f.unit (fun f => f.updCluster id (fun c => { c with resolved := true, secWon := secWon, untried := untried }))
  s.settleCand j f.jobSeq f.unit id

/-- The two hypotheses of a candidate are resolved as far as they can be (R163). -/
def Blk.resolve (s : Blk) (jobSeq unit id : Nat) : Blk :=
  match s.jobBySeq jobSeq, s.frame jobSeq unit with
  | some j, some f =>
    match f.cluster id with
    | none => s
    | some c =>
      if c.resolved then s
      else
        let ok (o : Option Outcome) : Bool := match o with | some o => decide (o.status = 0) | none => false
        let secRuns := (s.taskOf f id true).isSome
        let loser (sec : Bool) (s : Blk) : Blk :=
          let s := s.squashWhere Reg.CRU_SQ_HYPO (fun t => !t.shadow && t.jobSeq = jobSeq && t.unit = unit && t.cand = id && t.secondary = sec)
          if sec then s
          else { s with dec := { s.dec with queue := s.dec.queue.filter (fun t => !(t.jobSeq = jobSeq && t.unit = unit && t.cand = id)) } }
        if ok c.prim then (loser true s).markResolved j f id false false
        else if ok c.sec then
          let s := match s.taskOf f id false with
            | some _ => loser false s
            | none => match c.prim with
              | some o =>
                if o.inSlot then loser false s
                else ((loser false s).bookLoser o.startedAt o.endedAt).unspend jobSeq unit
                  (taskCost j (enabledSyms j f.cfg) o.family o.f)
              | none => loser false s
          s.markResolved j f id true false
        else match c.prim with
          | none => s
          | some _ =>
            if secRuns then s
            else if c.sec.isSome then s.markResolved j f id false false
            else match f.secondary j c with
              | none => s.markResolved j f id false false
              | some _ =>
                match s.secondaryStart j f c with
                | some (e, fam) => if c.secTried then s.markResolved j f id false false else s.startSpec f c true fam e
                | none =>
                  if c.secTried then s.markResolved j f id false false
                  else (s.count Reg.CRU_UNTRIED 1).markResolved j f id false true
  | _, _ => s

/-! ### The admitted queue (R165) -/

/-- The order of an admitted task: deadline, frame zero, candidate index (R165). -/
def Blk.taskKey (s : Blk) (t : Task) : List Nat :=
  match s.frame t.jobSeq t.unit with
  | some f => [f.deadline, f.zero.getD 0, ((f.cluster t.cand).bind (·.index)).getD 0]
  | none => [0, 0, 0]

/-- An admitted task takes its place in the queue. -/
def Blk.enqueue (s : Blk) (t : Task) : Blk :=
  let k := s.taskKey t
  let before (u : Task) : Bool := decide (s.taskKey u ≤ k)
  { s with dec := { s.dec with queue := s.dec.queue.takeWhile before ++ [t] ++ s.dec.queue.dropWhile before } }

/-- The speculative task that started last, ties to the highest engine index (R166). -/
def Blk.lastSpec (s : Blk) : Option Task :=
  (s.dec.running.filter (fun t => !t.admitted)).foldl (fun m t =>
    match m with
    | none => some t
    | some u => if u.startedAt < t.startedAt || (u.startedAt = t.startedAt && u.eng < t.eng) then some t else some u) none

/-- The head of the queue is given an engine. -/
def Blk.assignTo (s : Blk) (t : Task) (rest : List Task) (e : Nat) : Blk :=
  ({ s with dec := { s.dec with queue := rest } }).startTask t e

/-- A squashed secondary whose primary still runs has not been tried: it may run again when the primary fails (R163). One
of a listed candidate whose primary has failed leaves it without a decode. -/
def Blk.afterSquash (s : Blk) (t : Task) : Blk :=
  if t.secondary && !t.shadow then
    match s.frame t.jobSeq t.unit with
    | some f =>
      let s := s.updFrame t.jobSeq t.unit (fun f => f.updCluster t.cand (fun c => { c with secTried := c.secTried && c.prim.isSome }))
      if f.mapDone then s.resolve t.jobSeq t.unit t.cand else s
    | none => s
  else s

/-- A preempted calibration slot keeps its input and its place before the slots that wait, and restarts once slots may start
(10 R365, R366). -/
def Blk.slotAgain (s : Blk) (t : Task) : Blk :=
  if t.shadow then
    let key : CalLoop × Nat := (.shadow, if t.first.isSome then 1 else 0)
    let w : ShadowIn := { jobSeq := t.jobSeq, unit := t.unit, cand := t.cand, family := t.family,
                          third := t.first.map (fun p => (p.1, p.2.1, p.2.2.1, p.2.2.2)) }
    { s with cal := { s.cal with shadowIn := some w,
                                 shareWait := key :: s.cal.shareWait.filter (fun k => k != key) } }
  else s

/-- The admitted task at the head of the queue goes to the free engine with the highest gauge; without one, the last
started speculative task is squashed and its engine takes it (R165, R166). -/
def taskAssign (s : Blk) : Blk :=
  match s.dec.queue with
  | [] => s
  | t :: rest =>
    match s.fastest ((List.range 18).filter s.freeAdmitted) with
    | some e => s.assignTo t rest e
    | none =>
      match s.lastSpec with
      | none => s
      | some u => (((s.squashTask Reg.CRU_SQ_PREEMPT u).slotAgain u).assignTo t rest u.eng).afterSquash u

/-- TASK_ASSIGN (R165). -/
def execTaskAssign (dt : Nat) (s : State) : Host.Outcome State Fault Refusal := done s (taskAssign (s.blk.elapse dt))

/-! ### Clipped candidates (R153) -/

/-- Clipped candidates among the listed ones are marked and counted, and shown once per frame (04 R153, R174): those already
known to be, and those of which a region tile is now known to be missing. A candidate that is not listed counts as none
(DESIGN CHOICE, log 100). -/
def Blk.markClippedBy (s : Blk) (jobSeq unit : Nat) (sure : Frame → Cluster → Bool) : Blk :=
  match s.frame jobSeq unit with
  | none => s
  | some f =>
    let hit (c : Cluster) : Bool := c.index.isSome && (c.clipped || sure f c)
    let n := (f.clusters.filter (fun c => hit c && !c.clipCounted)).length
    if n = 0 then s
    else
      let s := s.updFrame jobSeq unit (fun f =>
        { f with clipRaised := true,
                 clusters := f.clusters.map (fun c => if hit c then { c with clipped := true, clipCounted := true } else c) })
      let s := (s.setF Reg.ROI_CLIPPED 7 0 (sat 8 (f.clusters.filter hit).length)).bump Reg.ROI_CLIPPED 31 16 n
      if f.clipRaised then s else s.raise 0x4062

/-- A region tile of a candidate is missing, and will stay so: its band has come, or comes no more, and it is not among the
transferred tiles (04 R153), or it cannot be read right (15 R577); a full-frame readout misses none but so. -/
def Frame.lacks (f : Frame) (c : Cluster) : Bool :=
  c.region.any (fun t => f.spoils f.job.full t ||
    (!f.job.full && !(f.tiles.any (fun p => p.1 = t)) && (f.bandIn (t / 256) || !f.storage)))

/-- Clipped candidates are looked for wherever bands have come or can come no more. -/
def Blk.noteClipped (s : Blk) (jobSeq unit : Nat) : Blk := if s.coppice then s else s.markClippedBy jobSeq unit Frame.lacks

/-! ### Listing and promotion (R158, R159) -/

/-- A listed candidate's primary work is promoted, or a new admitted task queued for it (R159). A candidate that its
secondary has decoded counts as promoted and needs none (DESIGN CHOICE, log 100), nor does one that is resolved without a decode. -/
def Blk.promote (s : Blk) (j : Job) (jobSeq unit id : Nat) : Blk :=
  match s.frame jobSeq unit with
  | none => s
  | some f =>
    match f.cluster id with
    | none => s
    | some c =>
      let s := match s.taskOf f id false with
        | some t =>
          let run := s.dec.running.map (fun (u : Task) => if u.eng = t.eng then { u with admitted := true } else u)
          ({ s with dec := { s.dec with running := run } }).count Reg.CRU_SPEC_PROMOTED 1
        | none =>
          if c.secWon then s.count Reg.CRU_SPEC_PROMOTED 1
          else if c.prim.isSome then (s.count Reg.CRU_SPEC_PROMOTED 1).takeResult j f id false
          else if c.resolved then s
          else s.enqueue { jobSeq := jobSeq, unit := unit, cand := id, secondary := false, family := f.primary j c, admitted := true }
      (s.settleCand j jobSeq unit id).resolve jobSeq unit id

/-- The candidate list of a complete map becomes final (R158 to R160). The counts of CRU.CAND saturate (DESIGN CHOICE, log 100). -/
def Blk.list (s : Blk) (j : Job) (jobSeq unit : Nat) : Blk :=
  match s.frame jobSeq unit with
  | none => s
  | some f =>
    let cands := (f.clusters.filter (fun c => c.st = .closed && f.candidate c)).mergeSort (fun a b =>
      let x := f.score j a
      let y := f.score j b
      y < x || (x = y && a.firstTile ≤ b.firstTile))
    let inl := cands.take j.maxSymbols
    let out := cands.drop j.maxSymbols
    let place (id : Nat) : Option Nat := (inl.map (·.id)).findIdx? (fun k => k = id)
    let gone := (f.clusters.filter (fun c => c.st = .discarded)).length
    let s := s.updFrame jobSeq unit (fun f =>
      { f with listed := inl.length, unlisted := out.length, discarded := gone,
               clusters := f.clusters.map (fun c => { c with index := place c.id }) })
    let s := s.setF Reg.ROI_CLIPPED 7 0 0
    let s := s.setN Reg.CRU_CAND (sat 8 (cands.length + gone) + sat 8 inl.length * 2 ^ 8 + sat 8 out.length * 2 ^ 16 + sat 8 gone * 2 ^ 24)
    let s := out.foldl (fun s c => s.squashCluster Reg.CRU_SQ_UNLISTED jobSeq unit c) s
    (inl.foldl (fun s c => s.promote j jobSeq unit c.id) s).noteClipped jobSeq unit

/-! ### Tile rows and bands (03 R111, R128; 04 R143 to R152) -/

/-- A frame's map is complete (03 R128, R138; 04 R158; 10 R370; 03 R121). -/
def Blk.mapComplete (s : Blk) (f : Frame) : Blk :=
  let t := sat 16 (s.now - f.zero.getD 0)
  let s := s.updFrame f.jobSeq f.unit (fun f => { f with mapDone := true })
  let s := (s.setF Reg.LOC_MAP_TIME 15 0 t).atLeast Reg.LOC_MAP_TIME 31 16 t
  let words := f.rows.flatten
  let n (b : Nat) : Nat := sat 16 (words.filter (fun w => bitN w b)).length
  let s := (s.setN Reg.LOC_TILE_COUNTS (n 16 + n 17 * 65536)).event 0x19 1 0x0000
  let s := match s.jobBySeq f.jobSeq with
    | some j => if f.isOver then s else s.list j f.jobSeq f.unit
    | none => s
  match s.frame f.jobSeq f.unit with
  | some f => (s.patchTake f).offsetLoop f
  | none => s

/-- Dark sums of a row's tiles, by column (03 R121). -/
def addDark (dark : List (Nat × Nat)) (words : List Nat) (tiles : List TileIn) : List (Nat × Nat) :=
  (dark.zip (words.zip tiles)).map (fun (d, w, t) =>
    if bitN w 17 && !bitN w 16 && !bitN w 20 then (d.1 + t.mean, d.2 + 1) else d)

/-- The frame whose map is being read. A frame whose delivery was forfeited before its map is complete is not read on, but for 0x3061,
of which the rule says that the locator still runs: the spec does not say whether it goes on with any other (DESIGN CHOICE, log 83). -/
def Blk.mapping (s : Blk) : Option Frame :=
  s.firstFrame (fun f => f.zero.isSome && !f.mapDone && f.storage && (!f.isOver || f.fault = 0x3061))

/-- Tiles transferred since a frame stood as `f` lie in the staging store (R154). -/
def Blk.stage (s : Blk) (f : Frame) : Blk :=
  match s.frame f.jobSeq f.unit with
  | some g => s.owe { kind := .tile, jobSeq := f.jobSeq, unit := f.unit } (List.replicate (g.tiles.length - f.tiles.length) 320)
  | none => s

/-- The locator completes a tile row of the frame it reads (R142 to R150). -/
def tileRowComplete (tiles : List TileIn) (s : Blk) : Blk :=
  match s.mapping with
  | none => s
  | some f =>
    let j := f.job
    let r := f.rows.length
    let tiles : List (TileIn × Bool) := (List.range 256).map (fun k => f.readTile s.sns.defects (256 * r + k) (tiles.getD k noTile))
    let words := tiles.zipIdx.map (fun (t, c) => tileWord j f.cfg r c t)
    let f : Frame := { f with rows := f.rows ++ [words], dark := addDark f.dark words (tiles.map (fun p => p.1)) }
    let s := s.owe { kind := .mapRow, jobSeq := f.jobSeq, unit := f.unit } [2048]
    let seeds := (f.rows.flatten.filter (fun w => bitN w 22)).length
    let s := s.setN Reg.LOC_MAP_STATUS (r % 256 + b2n (r = 191) * 2 ^ 8 + sat 16 seeds * 2 ^ 16)
    if f.isOver then
      let s := s.updFrame f.jobSeq f.unit (fun _ => f)
      if r = 191 then s.mapComplete f else s
    else
      let (f, touched, refused) := buildRow f r words
      let s : Blk := s.updFrame f.jobSeq f.unit (fun _ => f)
      let s := (f.clusters.filter (fun c => touched.contains c.id)).foldl (fun s c => s.squashCluster Reg.CRU_SQ_GROWTH f.jobSeq f.unit c) s
      let s := if refused && !f.limitRaised then (s.updFrame f.jobSeq f.unit (fun f => { f with limitRaised := true })).raise 0x5031 else s
      let s := s.updFrame f.jobSeq f.unit (fun f =>
        let f := closeRow f r s.now
        if j.full then f else (f.queueBands r s.now).drain j.roiTiles)
      let s := if j.full then s else ((s.stage f).roiRegs f.jobSeq f.unit).noteClipped f.jobSeq f.unit
      if r = 191 then (match s.frame f.jobSeq f.unit with | some f => s.mapComplete f | none => s) else s

/-- TILE_ROW_COMPLETE (R143). -/
def execTileRowComplete (dt : Nat) (tiles : List TileIn) (s : State) : Host.Outcome State Fault Refusal :=
  done s (tileRowComplete tiles (s.blk.elapse dt))

/-- The tiles of a band that are not all black, as digitised in region readout (03 R92, R94; R154). -/
def Frame.bandTiles (f : Frame) (defects : List Nat) (b : Nat) (noise : List (Nat × List Int)) : List (Nat × List Byte) :=
  (List.range 256).filterMap (fun k =>
    (digitised (code10 f.cfg.sensorCfg) f.cfg.sensorCfg defects f.img noise (256 * b + k)).map (fun c => (256 * b + k, packTile c)))

/-- The 12-bit codes of a band's tiles that are not all black, in full-frame readout. -/
def Frame.archiveTiles (f : Frame) (defects : List Nat) (b : Nat) (noise : List (Nat × List Int)) : List (Nat × List Nat) :=
  (List.range 256).filterMap (fun k =>
    (digitised (code12 f.cfg.sensorCfg) f.cfg.sensorCfg defects f.img noise (256 * b + k)).map (fun c => (256 * b + k, c)))

/-- The next band of a full-frame readout has been converted and written to the archive ring (R683; 03 R96): never before its
16 rows of 405 ticks are over. -/
def fullBand (noise : List (Nat × List Int)) (s : Blk) : Blk :=
  let due (f : Frame) : Bool := match f.zero with
    | some e => f.storage && f.job.full && f.archive && f.left.length < 192 && decide (e + 6480 * (f.left.length + 1) ≤ s.now)
    | none => false
  match s.firstFrame due with
  | none => s
  | some f =>
    let b := f.left.length
    let s := s.updFrame f.jobSeq f.unit (fun f =>
      { f with left := b :: f.left, archived := f.archived ++ f.archiveTiles s.sns.defects b noise })
    s.owe { kind := .band, jobSeq := f.jobSeq, unit := f.unit } [98304]

/-- A band's conversion ends (R149 to R152, R683), with the read noise of its tiles. -/
def bandConverted (noise : List (Nat × List Int)) (s : Blk) : Blk :=
  let due (f : Frame) : Option (Nat × Nat × Nat) :=
    match f.converting, f.zero with
    | some (b, begin_), some e =>
      let lost := lostRows e begin_
      if begin_ + 20 * (16 - lost) ≤ s.now then some (b, lost, e) else none
    | _, _ => none
  match s.firstFrame (fun f => f.storage && (due f).isSome) with
  | none => fullBand noise s
  | some f =>
    match due f with
    | none => s
    | some (b, lost, e) =>
      let cap := f.job.roiTiles
      let s := s.updFrame f.jobSeq f.unit (fun f =>
        let late := if f.lateQ.contains b then 1 else 0
        -- a band with a lost row yields no whole tile
        let stored := if lost = 0 then f.lineStore ++ [(b, f.bandTiles s.sns.defects b noise)] else f.lineStore
        let f := { f with converting := none, converted := b :: f.converted, late := f.late + late, lostRows := f.lostRows + lost,
                          lineStore := stored, left := if lost = 0 then f.left else b :: f.left,
                          rowsLostRaised := f.rowsLostRaised || lost != 0 }
        (f.drain cap).nextBand s.now)
      let s := if lost != 0 && !f.rowsLostRaised then s.raise 0x4063 else s
      let s := ((s.stage f).roiRegs f.jobSeq f.unit).noteClipped f.jobSeq f.unit
      let t := sat 17 (s.now - e)
      (s.setF Reg.ROI_LAST_END 16 0 t).atLeast Reg.ROI_PEAK_END 16 0 t

/-- BAND_CONVERTED (R150). -/
def execBandConverted (dt : Nat) (noise : List (Nat × List Int)) (s : State) : Host.Outcome State Fault Refusal :=
  done s (bandConverted noise (s.blk.elapse dt))

/-- The bands of a full-frame readout whose conversion no command has shown stand in the archive ring when the window ends: each
was due before (R683). Their read noise is 0 (log 84). -/
def Frame.archiveRest (f : Frame) (defects : List Nat) : Frame :=
  (List.range 192).foldl (fun f b =>
    if f.left.contains b then f else { f with left := b :: f.left, archived := f.archived ++ f.archiveTiles defects b [] }) f

/-- A frame's storage window ends: its nodes are released, and a tile not yet transferred is missing (R96; 04 R153). -/
def storageWindowEnd (s : Blk) : Blk :=
  let ends (f : Frame) : Bool :=
    match f.zero with
    | some e => f.storage && decide (e + storageTicks f.job.readout ≤ s.now)
    | none => false
  match s.firstFrame ends with
  | none => s
  | some f =>
    let defects := s.sns.defects
    let s := s.updFrame f.jobSeq f.unit (fun f =>
      { (if f.job.full && f.archive then f.archiveRest defects else f) with storage := false, bandQueue := [], converting := none, img := [] })
    (s.noteClipped f.jobSeq f.unit).pruneFrames

/-- STORAGE_WINDOW_END (R96). -/
def execStorageWindowEnd (dt : Nat) (s : State) : Host.Outcome State Fault Refusal := done s (storageWindowEnd (s.blk.elapse dt))

/-- A full-frame readout's ROI figures (R683). -/
def Blk.fullFigures (s : Blk) (e : Nat) : Blk :=
  let t := sat 17 (bandTime e 191 - e)
  (((s.setN Reg.ROI_LAST_TILES 0).setN Reg.ROI_LAST_BANDS 192).setF Reg.ROI_LAST_END 16 0 t).atLeast Reg.ROI_PEAK_END 16 0 t

/-- The exposure of the oldest exposing frame ends, with the charges its pixels hold (03 R101, R92; 15 R565; 17 R630). In
Coppice the frame is read out binned. -/
def exposureEnd (img : List (Nat × List Nat)) (s : Blk) : Blk :=
  match s.endingFrame 0 with
  | none => s
  | some f =>
    let s := s.endExposure f s.now true img
    if f.fault = 0x3061 then (s.forfeitFrame f.jobSeq f.unit 0x3061 0 false).pruneFrames.jobsOver
    else if s.coppice then
      let s := s.updFrame f.jobSeq f.unit (fun f =>
        { f with mapDone := true, binned := f.img.map (fun p => (p.1, binTile f.cfg.sensorCfg p.2)) })
      s.enqueue { jobSeq := f.jobSeq, unit := f.unit, cand := 0, secondary := false, family := 0, admitted := true }
    else if f.job.full then s.fullFigures s.now
    else s

/-- EXPOSURE_END (03 R101). -/
def execExposureEnd (x : ExposureSeen) (s : State) : Host.Outcome State Fault Refusal :=
  done s (exposureEnd x.img (s.blk.elapse x.dt))

/-! ### The end of a task -/

/-- The candidate a search in Coppice has found: its tile, its index, its outcome (17 R630). Each candidate found counts in DONE, and in
FAILED where it is no decode; a search that finds nothing counts in neither, and the family of an unsupported kind reads 0 (log 97). -/
def Blk.coppiceFind (s : Blk) (j : Job) (f : Frame) (t : Task) (g : Finding) : Blk :=
  let g := readFinding f.binnedCodes 4 (Config.readsBeyond t.startedAt t.eng) g
  let kindFamily : Nat := match g.kind with
    | .dataMatrix => 1
    | .qr => 2
    | .microQr => 2
    | .dotCode => 3
    | .blazeD => 3
    | .code128 => 4
    | _ => 0
  if g.kind = .nothing || j.maxSymbols ≤ f.listed then s.stopTask t
  else
    let en := enabledSyms j f.cfg
    let st := outcomeStatus kindFamily en j.sizeClass g
    let o : Outcome := { f := g, family := kindFamily, status := st, eng := t.eng, startedAt := t.startedAt, endedAt := s.now, gauge := t.gauge, inSlot := false }
    let tile := min 191 (g.y / 65536) * 256 + min 255 (g.x / 65536)
    let c : Cluster := { id := f.nextId, tiles := [tile], st := .closed, last := tile / 256, index := some f.listed, prim := some o, resolved := true }
    let s := s.updFrame f.jobSeq f.unit (fun f => { f with clusters := f.clusters ++ [c], nextId := f.nextId + 1, listed := f.listed + 1 })
    let s := s.count (Reg.DEC_DONE t.eng) 1
    let s := if st = 0 then s else s.count (Reg.DEC_FAILED t.eng) 1
    let s := s.spend f.jobSeq f.unit (taskCost j en kindFamily g)
    s.tallyNotice j f c

/-- Two decodes of one region agree (17 R634): data (of a Blaze-D its codeword), status, positions within 1/16 pixel, angle within 1/256 turn. -/
def agree (a b : Nat × Reading) : Bool :=
  let turn (x y : Nat) : Nat := let d := absDiff (x % 65536) (y % 65536); min d (65536 - d)
  a.1 = b.1 && a.2.data == b.2.data && a.2.blaze.map (·.1) == b.2.blaze.map (·.1) && absDiff a.2.x b.2.x ≤ 256 && absDiff a.2.y b.2.y ≤ 256 && turn a.2.angle b.2.angle ≤ 256

/-- The slot of a shadow decode starts on an engine with what its comparison needs: the bytes of its region are booked (02 R71). -/
def Blk.startShadow (s : Blk) (w : ShadowIn) (f : Frame) (c : Cluster) (o : Outcome) (e : Nat) : Blk :=
  let ref : ShadowRef :=
    { codes := s.regionCodes f.job f c, syms := enabledSyms f.job f.cfg, sizeClass := f.job.sizeClass, eng := o.eng, status := o.status,
      reading := o.f }
  let s := s.rollWindow
  let s := { s with cal := { s.cal with shadowIn := none }, dec := { s.dec with calBytes := s.dec.calBytes + f.regionBytes c } }
  s.startTask { jobSeq := w.jobSeq, unit := w.unit, cand := w.cand, secondary := false, family := w.family, admitted := false,
                shadow := true, ref := some ref, first := w.third } e

/-- The third decode of a mismatch starts on a further engine, as a slot of its own (10 R365); until it can, it waits (17 R634). -/
def Blk.thirdDecode (s : Blk) (w : ShadowIn) : Blk :=
  let s : Blk := { s with cal := { s.cal with shadowIn := some w } }
  match s.frame w.jobSeq w.unit with
  | none => s.thirdLost
  | some f =>
    match s.thirdEngine w with
    | none => s
    | some (c, e) =>
      match c.winner with
      | none => s
      | some o =>
        let (may, s) := s.slotMay .shadow 1
        if may then (s.slotRun .shadow 1 0).startShadow w f c o e else s

/-- A shadow decode ends: it is compared with what stands, and on a mismatch a third decode runs on a further engine; the
engine that disagrees with the other two is offered (17 R634). A shadow task that ends without a decode counts as failed
(R181), whether its frame still lives or not. -/
def Blk.shadowEnd (s : Blk) (t : Task) (g : Finding) : Blk :=
  let s := s.stopTask t
  match t.ref with
  | none => s
  | some r =>
    let g := readFinding r.codes 1 (Config.readsBeyond t.startedAt t.eng) g
    let a : Nat × Reading := (r.status, r.reading)
    let b : Nat × Reading := (outcomeStatus t.family r.syms r.sizeClass g, g)
    let s := if b.1 = 0 then s else s.count (Reg.DEC_FAILED t.eng) 1
    match t.first with
    | none =>
      if agree a b then s.suspects [] [r.eng, t.eng]
      else (s.raiseAt (0x20 + t.eng) 0x5051).thirdDecode
        { jobSeq := t.jobSeq, unit := t.unit, cand := t.cand, family := t.family, third := some (r.eng, t.eng, b.1, g) }
    | some (_, e2, st2, g2) =>
      let second : Nat × Reading := (st2, g2)
      if agree a b then (s.suspects [] [r.eng, t.eng]).offer .engine e2 true
      else if agree second b then (s.suspects [] [e2, t.eng]).offer .engine r.eng true
      else if agree a second then (s.suspects [] [r.eng, e2]).offer .engine t.eng true
      else s.suspects [r.eng, e2] []

/-- Corrected local-store errors of an engine are counted; when those of the trailing 24 h reach UST.LIMITS.store_trend, the
engine is offered (R181; 17 R633). -/
def Blk.storeErrors (s : Blk) (eng n : Nat) : Blk :=
  if n = 0 then s
  else
    let day := 27000000000000
    let l := (s.dec.eccLog.getD eng []).filter (fun p => s.now < p.1 + day) ++ [(s.now, n)]
    let s := s.bump (Reg.DEC_STORE_ECC eng) 15 0 n
    if s.regF Reg.UST_LIMITS 19 12 ≤ (l.map (·.2)).foldl (· + ·) 0 && s.engActive eng && !s.coppice then
      (({ s with dec := { s.dec with eccLog := upd s.dec.eccLog eng (fun _ => []) } } : Blk).raiseAt (0x20 + eng) 0x5043).offer .engine eng true
    else { s with dec := { s.dec with eccLog := upd s.dec.eccLog eng (fun _ => l) } }

/-- What a task met in its region is a decode (R157). -/
def Blk.decodes (s : Blk) (j : Job) (f : Frame) (c : Cluster) (t : Task) (g : Finding) : Bool :=
  outcomeStatus t.family (enabledSyms j f.cfg) j.sizeClass (s.readRegion j f c t g) = 0

/-- A task of a frame has met something in its region (R157): it stops and is counted, and its outcome stands in its candidate. -/
def Blk.taskFound (s : Blk) (j : Job) (f : Frame) (c : Cluster) (t : Task) (g : Finding) : Blk :=
  let g := s.readRegion j f c t g
  let en := enabledSyms j f.cfg
  let st := outcomeStatus t.family en j.sizeClass g
  let o : Outcome := { f := g, family := t.family, status := st, eng := t.eng, startedAt := t.startedAt, endedAt := s.now,
                       gauge := t.gauge, inSlot := !t.admitted }
  let cost := taskCost j en t.family g
  let s := s.stopTask t
  let s := if st = 0 then s else s.count (Reg.DEC_FAILED t.eng) 1
  let s := if t.admitted then ((s.count (Reg.DEC_DONE t.eng) 1).spend f.jobSeq f.unit cost).noteRatio o cost else s
  s.updFrame f.jobSeq f.unit (fun f => f.updCluster t.cand (fun c =>
    if t.secondary then { c with sec := some o } else { c with prim := some o }))

/-- The task of the candidate's other hypothesis. -/
def Blk.otherTask (s : Blk) (t : Task) : Option Task :=
  s.dec.running.find? (fun u => !u.shadow && u.jobSeq = t.jobSeq && u.unit = t.unit && u.cand = t.cand && u.secondary != t.secondary)

/-- A decode task ends with what it met in its region (R157, R163). When the candidate's other task ends in the same tick, both pass
the mutual-exclusion element that grants the primary. A tile of which a word in the external memory is uncorrectable reads as the black
level (15 R577). -/
def decodeTaskEnd (eng : Nat) (g : Finding) (m : TaskSeen) (s : Blk) : Blk :=
  match s.taskOn eng with
  | none => s
  | some t =>
    let s := s.storeErrors eng m.ecc
    if t.shadow then s.shadowEnd t g
    else
      match s.jobBySeq t.jobSeq, s.frame t.jobSeq t.unit with
      | some j, some f =>
        if t.family = 0 then s.coppiceFind j f t g
        else
          match f.cluster t.cand with
          | none => s
          | some c =>
            if !f.bandsIn j.full s.now c then s
            else
              let s := m.rows.foldl (fun s (a, e) => if s.rowExists a.ch a.rank a.bank a.row then s.readRow a e else s) s
              let f := (s.frame t.jobSeq t.unit).getD f
              let s := match m.twin, s.otherTask t with
                | some g2, some u =>
                  -- the primary passes first; a secondary that decodes beside it still runs, and is squashed
                  let (p, gp, q, gq) := if t.secondary then (u, g2, t, g) else (t, g, u, g2)
                  let both := s.decodes j f c p gp && s.decodes j f c q gq
                  let s := s.taskFound j f c p gp
                  if both then s else s.taskFound j f c q gq
                | _, _ => s.taskFound j f c t g
              (s.resolve f.jobSeq f.unit t.cand).noteClipped f.jobSeq f.unit
      | _, _ => s.stopTask t

/-- DECODE_TASK_END (R163). -/
def execDecodeTaskEnd (dt eng : Nat) (f : Finding) (more : TaskSeen) (s : State) : Host.Outcome State Fault Refusal :=
  done s (decodeTaskEnd eng f more (s.blk.elapse dt))

/-! ### Engine faults (R168) and shadow decodes (17 R634) -/

/-- The work of an engine that leaves service or restarts (R168): its admitted task goes back to the head of the queue, its
speculative work is squashed. -/
def Blk.dropEngineWork (s : Blk) (eng : Nat) : Blk :=
  let s := match s.taskOn eng with
    | some t =>
      if t.admitted then
        let s := s.stopTask t
        { s with dec := { s.dec with queue := t :: s.dec.queue } }
      else ((s.squashTask Reg.CRU_SQ_OTHER t).slotAgain t).afterSquash t
    | none => s
  s.sns.frames.foldl (fun s f => f.clusters.foldl (fun s c =>
    let mine (o : Option Outcome) : Bool := match o with | some o => o.inSlot && o.eng = eng | none => false
    let s := if mine c.prim then s.dropSlot Reg.CRU_SQ_OTHER c.prim else s
    let s := if mine c.sec then s.dropSlot Reg.CRU_SQ_OTHER c.sec else s
    if mine c.prim || mine c.sec then
      s.updFrame f.jobSeq f.unit (fun f => f.updCluster c.id (fun c =>
        { c with prim := if mine c.prim then none else c.prim, sec := if mine c.sec then none else c.sec,
                 resolved := false, secWon := false, untried := false }))
    else s) s) s

/-- An engine's check fails, or its store has an uncorrectable error (`store`): it leaves service and is offered to
Understory (R168). Until its spare is inserted its role reads off (DESIGN CHOICE, log 100). -/
def decEngineFault (eng : Nat) (store : Bool) (s : Blk) : Blk :=
  if 18 ≤ eng || !s.engActive eng then s
  else
    let s := s.rollWindow.raiseAt (0x20 + eng) 0x5011
    let s := (if store then s.bump (Reg.DEC_STORE_ECC eng) 31 16 1 else s).dropEngineWork eng
    let s := s.setN Reg.DECC_ACTIVE (putBit (s.regN Reg.DECC_ACTIVE) eng false)
    s.offer .engine eng false

/-- DEC_ENGINE_FAULT (R168). -/
def execDecEngineFault (dt eng : Nat) (store : Bool) (s : State) : Host.Outcome State Fault Refusal :=
  done s (decEngineFault eng store (s.blk.elapse dt))

/-- A shadow slot (17 R634, 04 R167): the engine is the next in turn among those free for speculative work. A third decode that
waits comes first. -/
def shadowDecode (s : Blk) : Blk :=
  match s.thirdWaits with
  | some w => s.thirdDecode w
  | none =>
    let waits := s.cal.waiting.contains (.shadow, 0) || s.cal.shareWait.contains (.shadow, 0)
    if s.coppice || (s.now < s.lastSlot .shadow 0 + 312500000 * s.regF Reg.DECC_SHADOW 15 0 && !waits) then s
    else
      match s.shadowNow with
      | none => s
      | some (f, c, o) =>
        match s.shadowEngine o with
        | none => s
        | some e =>
          let w : ShadowIn := { jobSeq := f.jobSeq, unit := f.unit, cand := c.id, family := o.family }
          let (may, s) := s.slotMay .shadow 0
          if !may then { s with cal := { s.cal with shadowIn := some w } }
          else
            let s := s.slotRun .shadow 0 0
            let s := { s with cal := { s.cal with shadowNext := (e + 1) % 18 } }
            s.startShadow w f c o e

/-- SHADOW_DECODE (17 R634). -/
def execShadowDecode (dt : Nat) (s : State) : Host.Outcome State Fault Refusal := done s (shadowDecode (s.blk.elapse dt))

end Sys2Proof.Machine
end

