-- ==== Sys2Proof/Machine/SweepJobs.lean ====
section
/-! DEFINITION. Sweep jobs (08 R306 to R319): boundaries, windows, the line decoder's run, what makes a sweep's group ready
and what it holds; forfeits and cancels of sweeps; a failing ADC (07 R290). -/
namespace Sys2Proof.Machine

/-! ### The end of a sweep -/

/-- A candidate of a sweep still waits for its Tally record. -/
def Blk.sweepWaits (s : Blk) (jobSeq : Nat) : Bool :=
  s.tly.taken.any (fun i => match i with | .cand c => c.sweep && c.jobSeq = jobSeq | .epoch _ _ => false)

/-- A channel keeps its preset at a sweep's boundary (07 R289): a window is open on it, or that of another sweep which opens no
later and is still open when this one's opens. -/
def Blk.presetKept (s : Blk) (j : Job) (ch : Nat) : Bool :=
  s.windowsOpen ch != 0 || s.sweepJobs.any (fun k =>
    k.seq != j.seq && bitN k.channels ch && (match s.sweep k.seq with | some w => !w.opened && !w.isOver | none => false) &&
    k.windowStart ≤ j.windowStart && j.windowStart < k.windowEnd)

/-- Sweeps that have nothing more to do leave: their delivery has ended, and Tally needs their profile no more. -/
def Blk.pruneSweeps (s : Blk) : Blk :=
  { s with swp := { s.swp with sweeps := s.swp.sweeps.filter (fun w => !w.isOver || s.sweepWaits w.jobSeq) } }

/-- The sweep whose preset a channel owes: of those that still wait for their windows, the one that opens first. -/
def Blk.owedBy (s : Blk) (ch : Nat) : Option (Job × Preset) :=
  (s.swp.sweeps.filterMap (fun w =>
    if w.opened || w.isOver then none
    else (w.chans.find? (fun c => c.ch = ch)).bind (fun c => c.owed.bind (fun p => (s.jobBySeq w.jobSeq).map (fun j => (j, p)))))).foldl
    (fun (m : Option (Job × Preset)) x => match m with
      | none => some x
      | some y => if x.1.windowStart < y.1.windowStart then some x else some y) none

/-- A preset that a sweep's boundary could not apply is applied once nothing holds it back (07 R289): the window before it has
closed, or its sweep is cancelled (DESIGN CHOICE, log 101). -/
def Blk.payPreset (s : Blk) (ch : Nat) : Blk :=
  match s.owedBy ch with
  | none => s
  | some (j, p) =>
    if s.presetKept j ch then s
    else (s.updSweep j.seq (fun w => w.updCh ch (fun c => { c with owed := none }))).applyPreset ch p

/-- A channel no open window needs: freeze_mode 1 ends (07 R264), and a preset held back is applied. -/
def Blk.windowOver (s : Blk) (ch : Nat) : Blk :=
  (if (s.pdch ch).preset.mode = 1 && s.windowsOpen ch = 0 then s.unfreeze ch else s).payPreset ch

/-- A sweep's delivery ends with a forfeit record in place of its group (02 R76, R79; 06 R238). -/
def Blk.forfeitSweep (s : Blk) (jobSeq fault wonBy : Nat) (contest : Bool) : Blk :=
  match s.jobBySeq jobSeq, s.sweep jobSeq with
  | some j, some w =>
    if w.isOver then s
    else
      let s := s.updSweep jobSeq (fun w => { w with isOver := true })
      let s := s.storeGroup j w.unit [forfeitBytes 2 wonBy j w.unit j.windowEnd fault s.now w.deadline contest]
      let s := if j.stopped = .live then s.updJob jobSeq (fun j => { j with stopped := .lastDelivery }) else s
      (((s.endJob jobSeq).countForfeit).pruneSweeps).jobsOver
  | _, _ => s

/-- A cancelled sweep job (02 R82): a sweep whose zero has passed is delivered as normal; any other ends as it stands. -/
def Blk.cancelSweep (s : Blk) (j : Job) : Blk :=
  let s := s.updJob j.seq (fun j => { j with stopped := .cancelled })
  match s.sweep j.seq with
  | some w =>
    if w.closed || j.windowEnd ≤ s.now then s
    else
      let s := { s with swp := { s.swp with sweeps := s.swp.sweeps.filter (fun v => v.jobSeq != j.seq) } }
      w.chans.foldl (fun s c => s.windowOver c.ch) (s.endJob j.seq).jobsOver
  | none => (s.endJob j.seq).jobsOver

/-! ### Boundary and window (R306, R309; 07 R264, R288, R289) -/

/-- The channels a sweep job names. -/
def Job.channelList (j : Job) : List Nat := (List.range 8).filter (bitN j.channels)

/-- One of the engine's own bundles holds the trims of a channel that a sweep does not name (10 R369). -/
def EngAct.elsewhere (channels : Nat) : EngAct → Bool
  | .pdTrim ch _ _ => !bitN channels ch
  | _ => false

/-- The bundles of a sweep boundary; trims of channels the sweep does not name wait for one that does (10 R369). -/
def Blk.sweepBundles (s : Blk) (channels : Nat) : Blk :=
  let keep := s.bnd.eng.filter (fun e => e.act.elsewhere channels)
  let s := { s with bnd := { s.bnd with eng := s.bnd.eng.filter (fun e => !e.act.elsewhere channels) } }
  let s := s.boundary 2
  let all := keep ++ s.bnd.eng
  { s with bnd := { s.bnd with eng := all.take 8, engWait := all.drop 8 ++ s.bnd.engWait } }

/-- A sweep job whose boundary has come and has not been taken (R306). -/
def Blk.boundaryOpen (s : Blk) (j : Job) : Bool :=
  j.kind = 2 && j.stopped = .live && (s.sweep j.seq).isNone && s.sweepDue j ≤ s.now

/-- One sweep boundary (R306): bundles, the phase delays committed until now (07 R275), presets, the sweep count. -/
def Blk.takeSweep (s : Blk) (j : Job) : Blk :=
  let s := s.sweepBundles j.channels
  let s := (List.range 8).foldl (fun s ch => s.updPd ch (fun c => { c with phase := s.regF (Reg.PDC_PHASE ch) 13 0 })) s
  let preset := s.presetReg j.filterSet
  let chans := j.channelList.map (fun ch => { ch := ch, owed := if s.presetKept j ch then some preset else none : SwCh })
  let s := chans.foldl (fun s c => if c.owed.isSome then s else s.applyPreset c.ch preset) s
  let unit := (s.regN Reg.RSM_SWEEPS + 1) % 2 ^ 32
  let raised := (s.swp.early.filter (fun p => p.1 = j.seq)).map (·.2)
  let w : Sweep :=
    { jobSeq := j.seq, unit := unit, desc := j.desc, boundary := s.now, audit := s.tly.counter,
      deadline := j.windowEnd + j.latency, chans := chans, raised := raised, posGap := s.regF Reg.RSM_POS_GAP 11 0,
      posLate := s.regF Reg.RSM_POS_LATE 14 0 }
  let swp : SwpSt := { s.swp with sweeps := s.swp.sweeps ++ [w], early := s.swp.early.filter (fun p => p.1 != j.seq) }
  ({ s.setN Reg.RSM_SWEEPS unit with swp := swp } : Blk).updJob j.seq (fun j => { j with taken := 1 })

/-- A sweep boundary; other boundaries of the same tick with lower admission sequence numbers are taken before it (R307). -/
def sweepBoundary (seq : Nat) (s : Blk) : Blk :=
  match s.jobBySeq seq with
  | none => s
  | some j =>
    if !s.boundaryOpen j then s
    else
      let same := s.jobs.filter (fun k => s.boundaryOpen k && s.sweepDue k = s.sweepDue j && k.seq < j.seq)
      (same.mergeSort (fun a b => a.seq ≤ b.seq) ++ [j]).foldl Blk.takeSweep s

/-- SWEEP_BOUNDARY (R306). -/
def execSweepBoundary (dt seq : Nat) (s : State) : Host.Outcome State Fault Refusal := done s (sweepBoundary seq (s.blk.elapse dt))

/-- One channel of a window that opens: a third window on it is shut; one that opens while another sweep's is open and runs under
that one's preset carries preset_conflict (07 R285, R289); freeze_mode 1 begins. -/
def Blk.openOn (s : Blk) (seq filterSet ch : Nat) : Blk :=
  let s :=
    if 2 ≤ s.windowsOn ch then (s.updSweep seq (fun w => w.updCh ch (fun c => { c with shut := true }))).once seq 0x6067
    else if s.windowsOpen ch != 0 && (s.pdch ch).preset.n != filterSet then
      (s.updSweep seq (fun w => w.updCh ch (fun c => { c with conflict := true }))).once seq 0x6031
    else s
  let s := s.updPd ch (fun c => c.renew (1, 0))
  if (s.pdch ch).preset.mode = 1 then s.freeze ch else s

/-- A sweep window opens (07 R264). -/
def windowStart (seq : Nat) (s : Blk) : Blk :=
  match s.sweep seq, s.jobBySeq seq with
  | some w, some j =>
    if w.opened || s.now < j.windowStart then s
    else
      let s := w.chans.foldl (fun s c => s.openOn seq j.filterSet c.ch) s
      (s.updSweep seq (fun w => { w with opened := true })).carrySweeps
  | _, _ => s

/-- WINDOW_START (07 R264). -/
def execWindowStart (dt seq : Nat) (s : State) : Host.Outcome State Fault Refusal := done s (windowStart seq (s.blk.elapse dt))

/-- A sweep window closes, which is the delivery's zero (R319; 02 R52). -/
def windowEnd (seq : Nat) (s : Blk) : Blk :=
  match s.sweep seq, s.jobBySeq seq with
  | some w, some j =>
    if !w.opened || w.closed || s.now < j.windowEnd then s
    else
      let s := s.updSweep seq (fun w => { w with closed := true })
      (w.chans.foldl (fun s c => s.windowOver c.ch) s).loseAdcs.carrySweeps
  | _, _ => s

/-- WINDOW_END (R319). -/
def execWindowEnd (dt seq : Nat) (s : State) : Host.Outcome State Fault Refusal := done s (windowEnd seq (s.blk.elapse dt))

/-! ### The line decoder (R310 to R315, R318) -/

/-- The fields of a mark's 24 bits (05 R214). -/
def Mark.layer (m : Mark) : Nat := fld m.bits 23 12
def Mark.writer (m : Mark) : Nat := fld m.bits 11 7
def Mark.idx (m : Mark) : Nat := fld m.bits 6 4
def Mark.check (m : Mark) : Nat := fld m.bits 3 0

/-- A decoded mark is handed to Tally (09 R330). -/
def Blk.noticeMark (s : Blk) (j : Job) (w : Sweep) (m : Mark) : Blk :=
  if m.status != 0 then s
  else
    let cand : TlyCand :=
      { seq := 0, sweep := true, jobSeq := j.seq, tag := j.tag, camp := j.campTag, unit := w.unit, start := j.windowEnd, index := m.index, symbology := 8,
        writer := m.writer, layer := m.layer, fragment := 0, markIndex := m.idx, x := m.x,
        pitch := m.pitch, ch := m.ch, reversed := decide (m.b < 0) }
    let (n, fault, s) := s.notifyTally w.audit cand
    s.updSweep j.seq (fun w => { w with marks := w.marks.map (fun k =>
      if k.index = m.index then { k with tallySeq := n, fault := fault, tallied := fault != 0 } else k) })

/-- The profile origin of a sweep is shifted (R305). -/
def Sweep.shifted (w : Sweep) (j : Job) : Bool := match w.ref with | some r => r.1 != (j.windowStart : Int) | none => false

/-- The line decoder reads the profiles of a closed sweep, once each of their samples is computed or marked; its decoded
marks go to Tally in order of index. `levels` are the search levels of R311 by channel (log 90). -/
def lineDecode (seq : Nat) (levels : List Int) (s : Blk) : Blk :=
  match s.sweep seq, s.jobBySeq seq with
  | some w, some j =>
    if j.decoder != 1 || w.isOver || w.decodedAt.isSome || !w.closed || !w.profiled j then s
    else
      let (marks, unlisted, merged) := readMarks w j levels
      let s := s.updSweep seq (fun w => { w with decodedAt := some s.now, marks := marks, unlisted := unlisted, merged := merged })
      let s := s.setN Reg.RSM_LINE (sat 8 (marks.length + unlisted) + sat 8 (marks.filter (fun m => m.status = 0)).length * 2 ^ 8 +
        sat 8 merged * 2 ^ 16 + b2n (w.shifted j) * 2 ^ 24)
      let s := (marks.filter (fun m => m.fault = 0x6061)).foldl (fun s _ => s.raise 0x6061) s
      marks.foldl (fun s m => s.noticeMark j w m) s
  | _, _ => s

/-- LINE_DECODE (R311). -/
def execLineDecode (dt seq : Nat) (levels : List Int) (s : State) : Host.Outcome State Fault Refusal :=
  done s (lineDecode seq levels (s.blk.elapse dt))

/-- A sweep's result group is ready (R318). -/
def Sweep.ready (w : Sweep) (j : Job) : Bool :=
  w.closed && w.profiled j && (j.decoder = 0 || w.decodedAt.isSome) && w.marks.all (fun m => m.status != 0 || m.tallied)

/-! ### The group of a sweep (R313, R317; 06 R225 to R236) -/

/-- The last stage a Blaze-L candidate completed (06 R234): its start group, its lattice, the samples its checks read. -/
def markStage (status : Nat) : Nat := if status = 0x16 then 2 else if status = 0x12 then 3 else 1

/-- The result record of a mark (R313). -/
def markRecord (j : Job) (w : Sweep) (m : Mark) : List Byte :=
  let ok := m.status = 0
  let block := if ok then blazeBlock m.layer m.writer m.idx 0 m.check
    else le 1 (markStage m.status) ++ le 1 3 ++ le 2 0 ++ le 2 0xFFFF ++ le 2 0
  let (p, t) := buildPayload j.payloadCap [block] []
  { symbology := if ok then 8 else 0, status := m.status, tag := j.tag, admSeq := j.seq, unitSeq := w.unit,
    zero := j.windowEnd, index := m.index, family := 5, fault := m.fault, x := twos 32 m.x,
    pitch := sat 16 m.pitch, rows := if ok then 1 else 0, cols := if ok then 56 else 0,
    flags := b2n (m.tallySeq = 0xFFFFFFFF) * 4 + b2n t * 8 + b2n (m.b < 0) * 2 ^ 15 + b2n w.changed * 2 ^ 16,
    tallySeq := m.tallySeq, ready := w.decodedAt.getD 0 - j.windowEnd : RecHead }.bytes p

/-- One channel's profile in packets of up to 2 048 samples (R317). -/
def profilePackets (j : Job) (w : Sweep) (c : SwCh) : List (List Byte) :=
  (List.range (ceilDiv c.words.length 2048)).map (fun k =>
    let run := (c.asRead.drop (2048 * k)).take 2048
    le 4 j.tag ++ le 4 w.unit ++ le 1 c.ch ++ le 1 (b2n (w.shifted j)) ++ le 2 run.length ++ le 4 (2048 * k) ++
    run.flatMap (fun v => le 2 (v % 65536)))

/-- The profiles of a sweep, by channel. -/
def sweepPackets (j : Job) (w : Sweep) : List (List Byte) := w.chans.flatMap (profilePackets j w)

/-! ### Tally's watchdog (09 R328, R347) -/

/-- Candidates that a new segment dropped are finished with: Tally has none of them left to append. -/
def Blk.dropMarks (s : Blk) : Blk :=
  let sweeps := s.swp.sweeps.map (fun (w : Sweep) =>
    if s.sweepWaits w.jobSeq then w else { w with marks := w.marks.map (fun m => { m with tallied := true }) })
  ({ s with swp := { s.swp with sweeps := sweeps } } : Blk).pruneSweeps

/-- TALLY_WATCHDOG (09 R328). -/
def execTallyWatchdog (dt : Nat) (storeOk : Bool) (s : State) : Host.Outcome State Fault Refusal :=
  done s ((tallyWatchdog storeOk (s.blk.elapse dt)).dropMarks)

/-! ### ADCs (07 R290) -/

/-- An ADC fails its self-check and is offered to Understory: the channel it serves has no measured sample from then on and
leaves a cross-fade (R269); a spare that serves none is out of service. With no spare left the channel becomes unavailable at
its safe point. An ADC that served a channel before its remapping serves none, and there is nothing to offer. -/
def adcFault (adc : Nat) (s : Blk) : Blk :=
  if 9 ≤ adc then s
  else
    let s := s.raise 0x6011
    match s.pd.chans.findIdx? (fun c => c.adc = adc && !c.lost) with
    | some ch =>
      let s := (s.dropMeas ch).updPd ch (fun c => { c with adcBad := true, fade := none })
      ((s.offer .adc ch false).loseAdcs).carrySweeps
    | none => if adc = 8 then ({ s with pd := { s.pd with spareBad := true } } : Blk).offer .adc 8 false else s

/-- ADC_FAULT (07 R290). -/
def execAdcFault (dt adc : Nat) (s : State) : Host.Outcome State Fault Refusal := done s (adcFault adc (s.blk.elapse dt))

end Sys2Proof.Machine
end

