-- ==== Sys2Proof/Machine/Campaigns.lean ====
section
/-! DEFINITION. Registration campaigns (10 R380 to R394): the fit units, which Tally records settle an entry, the zero, the
fit and its packet or forfeit record, and the correction store. -/
namespace Sys2Proof.Machine

/-- A fit unit's campaign. -/
def Blk.fitUnit (s : Blk) (u : Nat) : Option Campaign := s.cal.units.getD u none

/-- The campaign of a job, with its unit. -/
def Blk.campaign (s : Blk) (jobSeq : Nat) : Option (Nat × Campaign) :=
  [0, 1].findSome? (fun u => match s.fitUnit u with
    | some c => if c.jobSeq = jobSeq then some (u, c) else none
    | none => none)

/-- A fit unit set. -/
def Blk.setUnit (s : Blk) (u : Nat) (c : Option Campaign) : Blk :=
  { s with cal := { s.cal with units := upd s.cal.units u (fun _ => c) } }

/-! ### What the external memory holds (15 R563, R565) -/

/-- Records of a delivery stand in a pool. -/
def Blk.unreleased (s : Blk) (jobSeq unit : Nat) : Bool :=
  s.store.pools.any (fun p => p.recs.any (fun r => r.jobSeq = jobSeq && r.unitSeq = unit))

/-- A stream's data are still held (15 R563): until its delivery has ended, its records have been released and Tally has finished; a fit
store until its campaign is over and its packet or forfeit record has been released. -/
def Blk.keeps (s : Blk) (k : Stream) : Bool :=
  match k.kind with
  | .fit => (s.campaign k.jobSeq).isSome || s.store.corr.any (fun c => c.jobSeq = k.jobSeq)
  | .profile => s.swp.sweeps.any (fun w => w.jobSeq = k.jobSeq && w.unit = k.unit) || s.unreleased k.jobSeq k.unit
  | _ =>
    s.sns.frames.any (fun f => f.jobSeq = k.jobSeq && f.unit = k.unit && (!f.isOver || f.storage || s.tallyHolds f)) ||
    s.unreleased k.jobSeq k.unit

/-- A full-frame readout keeps its archive slot until its delivery has ended and its records have been released, and the rows of the
memory are freed likewise. -/
def Blk.freeSlots (s : Blk) : Blk :=
  { s with mem := { s.mem with
      held := s.mem.held.filter (fun h => s.sns.frames.any (fun f => f.jobSeq = h.1 && f.unit = h.2 && !f.isOver) || s.unreleased h.1 h.2),
      rows := s.mem.rows.filter (fun r => s.keeps r.of_) } }

/-! ### Campaigns -/

/-- An accepted campaign takes the lower free fit unit (02 R65 test 6). -/
def Blk.openCampaign (s : Blk) (j : Job) : Blk :=
  if j.kind != 3 then s
  else
    let c : Campaign := { jobSeq := j.seq, tag := j.tag, entries := List.replicate j.markCount none }
    if (s.fitUnit 0).isNone then s.setUnit 0 (some c) else if (s.fitUnit 1).isNone then s.setUnit 1 (some c) else s

/-- A campaign's zero (R382): the deadline of 02 R52 and the identity in force. -/
def Blk.campaignZero (s : Blk) (jobSeq t : Nat) (byClose : Bool) : Blk :=
  s.updCampaign jobSeq (fun c =>
    { c with start := some t, deadline := t + (classInfo 5).latency, byClose := byClose, identity := (identityOf s.activeBlock).take 16 })

/-- The entry of a mark list that a record matches (R380). -/
def Job.entryOf (j : Job) (c : TlyCand) : Option Nat :=
  (List.range j.markCount).find? (fun i =>
    j.markWriter i = c.writer && j.markIndex i = c.markIndex &&
    ((j.markKind i = 0 && c.symbology = 7 && c.fragment = j.plateFragment) || (j.markKind i = 1 && c.symbology = 8)))

/-- close_time has passed without a zero: it is the zero, whatever comes after it (R382). In its very tick the element grants
whichever of record, cancel and close comes first. -/
def Blk.closePassed (s : Blk) (j : Job) : Blk :=
  match s.campaign j.seq with
  | some (_, k) =>
    if k.start.isNone && !k.isOver && j.closeTime != 0 && j.closeTime < s.now then s.campaignZero j.seq j.closeTime true else s
  | none => s

/-- A campaign takes a record, or counts it (R380 to R382). -/
def Blk.campaignTakes (s : Blk) (c : TlyCand) (r : Measured) : Blk :=
  match if c.camp = 0 then none else s.jobs.find? (fun j => j.kind = 3 && j.tag = c.camp) with
  | none => s
  | some j =>
    let s := s.closePassed j
    match s.campaign j.seq, j.entryOf c with
    | some (_, k), some i =>
      let seq := c.seq % 2 ^ 32
      let near := match k.firstSeq with
        | some f => k.segment = s.tly.segment && (seq + 2 ^ 32 - f) % 2 ^ 32 < 32767
        | none => true
      if k.isOver || c.layer != j.layer || !near then s
      else if (k.entries.getD i none).isSome then s.bump Reg.ADM_CAMP_LATE 15 0 1
      else if k.start.isSome then s.bump Reg.ADM_CAMP_LATE 31 16 1
      else
        let e : Settled := { seq := seq, used := r.status = 0 && !r.outside && !c.clipped && !r.saturated, x := r.fx, y := r.fy }
        let s := s.updCampaign j.seq (fun k =>
          { k with entries := upd k.entries i (fun _ => some e), firstSeq := some (k.firstSeq.getD seq), lastSeq := seq,
                   segment := s.tly.segment })
        match s.campaign j.seq with
        | some (_, k) => if k.entries.all Option.isSome then s.campaignZero j.seq s.now false else s
        | none => s
    | _, _ => s

/-- Tally completes a measurement (09 R335): its record stands in the chain, its sweep or frame has it, and a campaign may
take it. -/
def tallyAppend (m : TallyMeas) (s : Blk) : Blk :=
  if !s.tly.supplied then s
  else
    match s.tallyAppend m with
    | (none, s) => s
    | (some (c, r), s) =>
      let s :=
        if c.sweep then
          (s.updSweep c.jobSeq (fun w => { w with marks := w.marks.map (fun k => if k.index = c.index then { k with tallied := true } else k) })).pruneSweeps
        else s.updFrame c.jobSeq c.unit (fun f => f.updCluster c.cluster (fun k => { k with tallied := true }))
      s.freeSlots.campaignTakes c r

/-- TALLY_APPEND (09 R335). -/
def execTallyAppend (dt : Nat) (m : TallyMeas) (s : State) : Host.Outcome State Fault Refusal := done s (tallyAppend m (s.blk.elapse dt))

/-- close_time has come before the last mark (R382). -/
def campaignClose (seq : Nat) (s : Blk) : Blk :=
  match s.jobBySeq seq, s.campaign seq with
  | some j, some (_, c) =>
    if c.start.isSome || c.isOver || j.closeTime = 0 || s.now < j.closeTime then s else s.campaignZero seq j.closeTime true
  | _, _ => s

/-- CAMPAIGN_CLOSE (R382). -/
def execCampaignClose (dt seq : Nat) (s : State) : Host.Outcome State Fault Refusal := done s (campaignClose seq (s.blk.elapse dt))

/-- The fit starts on its unit (R384). -/
def fitStart (seq : Nat) (s : Blk) : Blk :=
  match s.campaign seq with
  | some (_, c) =>
    if c.start.isSome && c.fitAt.isNone && !c.isOver then s.updCampaign seq (fun c => { c with fitAt := some s.now }) else s
  | none => s

/-- FIT_START (R384). -/
def execFitStart (dt seq : Nat) (s : State) : Host.Outcome State Fault Refusal := done s (fitStart seq (s.blk.elapse dt))

/-- The longest a fit takes, in ticks, at the planning pace (R384; 02 R66). -/
def Blk.fitBound (s : Blk) (j : Job) : Nat :=
  let us := 150 + 2 * j.markCount + (if j.fit = 0 then 400 else 40 * j.order)
  ceilDiv (us * 625 * 16384) (2 * max 1 s.pacePlan)

/-- A campaign's forfeit record goes to the correction store (06 R238; 02 R79). -/
def Blk.forfeitCampaign (s : Blk) (jobSeq fault wonBy : Nat) (contest : Bool) : Blk :=
  match s.jobBySeq jobSeq, s.campaign jobSeq with
  | some j, some (_, c) =>
    if c.isOver then s
    else
      let s := s.updCampaign jobSeq (fun c => { c with isOver := true })
      let s := if j.stopped = .live then s.updJob jobSeq (fun j => { j with stopped := .lastDelivery }) else s
      (s.storeCorr j (forfeitBytes 3 wonBy j 0 (c.start.getD j.closeTime) fault s.now
        (if c.start.isSome then c.deadline else 0xFFFFFFFFFFFFFFFF) contest)).countForfeit
  | _, _ => s

/-- The fit ends and its packet is committed; a unit that fails its check has the fit rerun on the other unit, where that is free and in
time, or forfeits the delivery (R384). One whose store held an uncorrectable word is rerun from the Tally records, or forfeited with
0x3012 when that cannot end before the commit cut (15 R577). After the deadline the timer has won (02 R79). -/
def fitEnd (seq : Nat) (unitFault : Bool) (s : Blk) : Blk :=
  match s.jobBySeq seq, s.campaign seq with
  | some j, some (u, c) =>
    if c.fitAt.isNone || c.isOver || c.deadline < s.now then s
    else if unitFault then
      let s := s.raise 0xB151
      if (s.fitUnit (1 - u)).isNone && s.now + s.fitBound j + 3125 < c.deadline then
        (s.setUnit u none).setUnit (1 - u) (some { c with fitAt := some s.now })
      else s.forfeitCampaign seq 0xB151 0 false
    else if c.storeBad then
      if s.now + s.fitBound j + 3125 < c.deadline then s.updCampaign seq (fun c => { c with fitAt := some s.now, storeBad := false })
      else s.forfeitCampaign seq 0x3012 0 false
    else
      let s := s.updCampaign seq (fun c => { c with isOver := true })
      let s := if j.stopped = .live then s.updJob seq (fun j => { j with stopped := .lastDelivery }) else s
      s.storeCorr j (corrPacket s j c)
  | _, _ => s

/-- FIT_END (R384). -/
def execFitEnd (dt seq : Nat) (unitFault : Bool) (s : State) : Host.Outcome State Fault Refusal :=
  done s (fitEnd seq unitFault (s.blk.elapse dt))

/-- A cancelled campaign (R382): before its zero it ends with no delivery; after it the delivery is owed. -/
def Blk.cancelCampaign (s : Blk) (j : Job) : Blk :=
  let s := (s.closePassed j).updJob j.seq (fun j => if j.stopped = .live then { j with stopped := .cancelled } else j)
  match s.campaign j.seq with
  | some (u, c) => if c.start.isSome || c.isOver then s else (s.setUnit u none).endJob j.seq
  | none => s.endJob j.seq

/-- An item of the correction store has been delivered: its slot and its fit unit are free, and the campaign stops being live
(R384, R394; 02 R84). -/
def Blk.releaseCorr (s : Blk) (tag : Nat) : Blk :=
  match s.store.corr.find? (fun c => c.tag = tag) with
  | none => s
  | some k =>
    let s := { s with store := { s.store with corr := s.store.corr.filter (fun c => c.tag != tag) } }
    let s := match s.campaign k.jobSeq with | some (u, _) => s.setUnit u none | none => s
    (s.endJob k.jobSeq).freeSlots

end Sys2Proof.Machine
end

