-- ==== Sys2Proof/Machine/Deliveries.lean ====
section
/-! DEFINITION. Deliveries (02 R54, R71 to R80; 04 R170, R171; 08 R318): which group is ready and unblocked, what its commit
stores, the commit cut and the deadline; the pace, the shortfall stages and what they forfeit; the accounting window. -/
namespace Sys2Proof.Machine

/-! ### Ready and blocked (04 R170, R171; 08 R318) -/

/-- A frame's group is ready (04 R170): shadow decodes apart, nothing of it runs or waits. -/
def Blk.frameReady (s : Blk) (f : Frame) : Bool :=
  f.zero.isSome && !f.isOver && f.mapDone && f.clusters.all (fun c => c.index.isNone || c.resolved) &&
  !(s.dec.running.any (fun t => !t.shadow && t.jobSeq = f.jobSeq && t.unit = f.unit)) &&
  !(s.dec.queue.any (fun t => t.jobSeq = f.jobSeq && t.unit = f.unit))

/-- A frame's group could become ready at any moment: nothing but running tasks holds it (04 R170). -/
def Blk.frameSoon (s : Blk) (f : Frame) : Bool :=
  f.zero.isSome && !f.isOver && f.mapDone && !(s.dec.queue.any (fun t => t.jobSeq = f.jobSeq && t.unit = f.unit)) &&
  f.clusters.all (fun c => c.index.isNone || c.resolved || (s.taskOf f c.id false).isSome || (s.taskOf f c.id true).isSome)

/-- A frame's group is blocked by one with an earlier zero and a deadline no later (04 R171). -/
def Blk.frameBlocked (s : Blk) (f : Frame) : Bool :=
  s.sns.frames.any (fun g => !g.isOver && g.zero.isSome && g.zero.getD 0 < f.zero.getD 0 && g.deadline ≤ f.deadline)

/-- The zero of a sweep. -/
def Sweep.zeroAt (w : Sweep) : Nat := w.job.windowEnd

/-- A sweep's group is blocked in the same way on its path (08 R318). -/
def Blk.sweepBlocked (s : Blk) (w : Sweep) : Bool :=
  s.swp.sweeps.any (fun v => !v.isOver && v.closed && v.zeroAt < w.zeroAt && v.deadline ≤ w.deadline)

/-! ### Commits (06 R235 to R246) -/

/-- The job's pool is routed to the chain (06 R246). -/
def Blk.onChain (s : Blk) (j : Job) : Bool := bitN (s.regN Reg.ADM_POOL_ROUTE) j.pool

/-- Flag bits of a group record (06 R235, R246): contested, what follows, what the route withholds, and the ROI budget. -/
def groupFlags (output : Nat) (chain contest budget : Bool) : Nat :=
  b2n contest + (if chain then 0 else 2 * (output % 8)) + b2n chain * 16 + b2n budget * 32

/-- The map of a frame in 48 packets (14 R527), its words as they are read (15 R577). -/
def mapPackets (j : Job) (f : Frame) : List (List Byte) :=
  let words := f.rows.flatten
  let words := if f.bad.isEmpty then words else words.zipIdx.map (fun p => p.1 ^^^ badMask f.bad .mapRow p.2)
  (List.range 48).map (fun k =>
    le 4 j.tag ++ le 4 f.unit ++ le 1 0xFF ++ le 1 0 ++ le 2 0 ++ le 4 (8192 * k) ++
    ((words.drop (1024 * k)).take 1024).flatMap (le 8))

/-- The bytes of the k-th transferred tile as they are read (15 R577). -/
def tileAsRead (f : Frame) (k : Nat) (b : List Byte) : List Byte :=
  if f.bad.isEmpty then b
  else b.zipIdx.map (fun p => p.1 ^^^ BitVec.ofNat 8 (badMask f.bad .tile (40 * k + p.2 / 8) / 2 ^ (8 * (p.2 % 8))))

/-- The transferred tiles of a frame, 25 in a packet (14 R527; 04 R155). -/
def tilePackets (j : Job) (f : Frame) : List (List Byte) :=
  (List.range (ceilDiv f.tiles.length 25)).map (fun k =>
    let run := (f.tiles.drop (25 * k)).take 25
    le 4 j.tag ++ le 4 f.unit ++ le 1 0xFF ++ le 1 0 ++ le 2 run.length ++ le 4 0 ++
    run.zipIdx.flatMap (fun (t, i) => le 2 t.1 ++ zeros 2 ++ slice (tileAsRead f (25 * k + i) t.2) 0 320))

/-- Bulk data that follow a stored group on the link. -/
def Blk.addBulk (s : Blk) (j : Job) (unit kind : Nat) (packets : List (List Byte)) : Blk :=
  if packets.isEmpty then s
  else { s with store := { s.store with bulk := s.store.bulk ++ [{ pool := j.pool, tag := j.tag, unitSeq := unit, kind := kind, packets := packets }] } }

/-- A group has room in its job's reservation (06 R240). -/
def Blk.groupFits (s : Blk) (j : Job) (recs : List (List Byte)) : Bool :=
  (s.pool j.pool).heldBy j.seq + (recs.map List.length).foldl (· + ·) 0 ≤ j.storeBytes

/-- At a commit every region tile that has not come is missing: clipped candidates not counted yet are (04 R153, R174). -/
def Blk.markClipped (s : Blk) (j : Job) (f : Frame) : Blk :=
  s.markClippedBy f.jobSeq f.unit (fun f c => !s.coppice && f.isClipped j.full c)

/-- The patch reading that scales the grades of a frame without one of its own, in 1/4 DN: the last valid one with its sector mask, or
1 000 DN when there is none since reset (10 R374). -/
def Blk.patchInForce (s : Blk) (f : Frame) : Nat := ((s.cal.patch.find? (fun p => p.1 = f.sectors)).map (·.2)).getD 4000

/-- The group of a frame (06 R235, R236). -/
def Blk.frameGroup (s : Blk) (j : Job) (f : Frame) : List (List Byte) :=
  let listed := (f.clusters.filter (fun c => c.index.isSome)).mergeSort (fun a b => a.index.getD 0 ≤ b.index.getD 0)
  let z := f.zero.getD 0
  let ok (c : Cluster) : Bool := match c.winner with | some o => o.status = 0 | none => false
  let head : GroupHead :=
    { kind := 1, changed := f.changed, tag := j.tag, admSeq := j.seq, unitSeq := f.unit, zero := z, records := listed.length,
      listed := listed.length, unlisted := f.unlisted, decoded := (listed.filter ok).length, lost := j.lost, commit := s.now,
      deadline := f.deadline, flags := groupFlags j.output (s.onChain j) (contested s.now f.deadline) f.budgetRaised,
      tiles := if j.full then 0 else f.tiles.length, clipped := (listed.filter (·.clipped)).length + (if s.onChain j then 0 else f.bulkBad j.output) }
  head.bytes :: listed.map (frameRecord j f z (enabledSyms j f.cfg) (s.patchInForce f))

/-- A delivery that has ended needs no account of its engine time any more. -/
def Blk.closeAccount (s : Blk) (jobSeq unit : Nat) : Blk :=
  { s with dec := { s.dec with spent := s.dec.spent.filter (fun e => e.1 != (jobSeq, unit)) } }

/-- A frame's group commits (04 R171; 06 R239 to R246). -/
def Blk.commitFrame (s : Blk) (j : Job) (f : Frame) : Blk :=
  let s := s.markClipped j f
  let f := (s.frame f.jobSeq f.unit).getD f
  let recs := s.frameGroup j f
  let fits := s.groupFits j recs
  let chain := s.onChain j
  let s := s.storeGroup j f.unit recs
  let s := if fits && !chain && bitN j.output 0 then s.addBulk j f.unit 0 (mapPackets j f) else s
  let s := if fits && !chain && bitN j.output 1 then s.addBulk j f.unit 1 (tilePackets j f) else s
  let s := (s.updFrame f.jobSeq f.unit (fun f => { f with isOver := true })).closeAccount f.jobSeq f.unit
  ((s.maybeEndExposure j.seq).pruneFrames).freeSlots.jobsOver

/-- The group of a sweep (06 R235, R236). -/
def Blk.sweepGroup (s : Blk) (j : Job) (w : Sweep) : List (List Byte) :=
  let head : GroupHead :=
    { kind := 2, changed := w.changed, tag := j.tag, admSeq := j.seq, unitSeq := w.unit, zero := j.windowEnd,
      records := w.marks.length, listed := w.marks.length + w.unlisted, unlisted := w.unlisted,
      decoded := (w.marks.filter (fun m => m.status = 0)).length, lost := j.lost, commit := s.now, deadline := w.deadline,
      flags := groupFlags j.output (s.onChain j) (contested s.now w.deadline) false }
  head.bytes :: w.marks.map (markRecord j w)

/-- A sweep's group commits, and its job stops being live (08 R318; 02 R84); RSM.LINE shows a sweep without a decoder too
(08 R321). -/
def Blk.commitSweep (s : Blk) (j : Job) (w : Sweep) : Blk :=
  let recs := s.sweepGroup j w
  let fits := s.groupFits j recs
  let s := s.storeGroup j w.unit recs
  let s := if fits && !s.onChain j && bitN j.output 2 then s.addBulk j w.unit 2 (sweepPackets j w) else s
  let s := if j.decoder = 0 then s.setN Reg.RSM_LINE (b2n (w.shifted j) * 2 ^ 24) else s
  let s := s.updSweep j.seq (fun w => { w with isOver := true })
  let s := if j.stopped = .live then s.updJob j.seq (fun j => { j with stopped := .lastDelivery }) else s
  ((s.endJob j.seq).pruneSweeps).freeSlots.jobsOver

/-- The frame whose group commits now: ready, unblocked, and not beyond its deadline (04 R171; 02 R79). -/
def Blk.committingFrame (s : Blk) : Option Frame :=
  s.firstFrame (fun f => s.frameReady f && !s.frameBlocked f && s.now ≤ f.deadline && (s.jobBySeq f.jobSeq).isSome)

/-- The sweep whose group commits now. -/
def Blk.committingSweep (s : Blk) : Option Sweep :=
  s.swp.sweeps.find? (fun w => match s.jobBySeq w.jobSeq with
    | some j => !w.isOver && w.ready j && !s.sweepBlocked w && s.now ≤ w.deadline
    | none => false)

/-- A ready and unblocked group commits (04 R171): on the staring path (0) or the flying-spot path. -/
def groupCommit (path : Nat) (s : Blk) : Blk :=
  if path = 0 then
    match s.committingFrame with
    | some f => (match s.jobBySeq f.jobSeq with | some j => s.commitFrame j f | none => s)
    | none => s
  else
    match s.committingSweep with
    | some w => (match s.jobBySeq w.jobSeq with | some j => s.commitSweep j w | none => s)
    | none => s

/-- GROUP_COMMIT (04 R171). -/
def execGroupCommit (dt path : Nat) (s : State) : Host.Outcome State Fault Refusal := done s (groupCommit path (s.blk.elapse dt))

/-! ### The commit cut and the deadline (04 R171; 02 R79) -/

/-- The commit cut of a frame's delivery: its speculative tasks are squashed, and none starts any more. -/
def commitCut (seq unit : Nat) (s : Blk) : Blk :=
  match s.frame seq unit with
  | none => s
  | some f =>
    if f.zero.isNone || f.isOver || f.cut || s.now + 3125 < f.deadline then s
    else
      let hit := s.dec.running.filter (fun t => !t.admitted && !t.shadow && t.jobSeq = seq && t.unit = unit)
      let s := s.updFrame seq unit (fun f => { f with cut := true })
      hit.foldl (fun s t => (s.squashTask Reg.CRU_SQ_OTHER t).afterSquash t) s

/-- COMMIT_CUT (04 R171). -/
def execCommitCut (dt seq unit : Nat) (s : State) : Host.Outcome State Fault Refusal := done s (commitCut seq unit (s.blk.elapse dt))

/-- The fault a delivery ends with at its deadline: the one recorded against it, or 0xB122 (02 R79). -/
def deadlineFault (recorded : Nat) : Nat := if recorded = 0 then 0xB122 else recorded

/-- The deadline of an uncommitted delivery expires (02 R79). -/
def deliveryDeadline (seq unit : Nat) (s : Blk) : Blk :=
  match s.jobBySeq seq with
  | none => s
  | some j =>
    if j.kind = 1 then
      match s.frame seq unit with
      | some f =>
        if f.zero.isNone || f.isOver || s.now < f.deadline then s
        else (((s.forfeitFrame seq unit (deadlineFault f.fault) 2
          (lostRace (s.frameReady f && !s.frameBlocked f) (s.frameSoon f) s.now f.deadline seq unit)).closeAccount
          seq unit).pruneFrames).freeSlots.jobsOver
      | none => s
    else if j.kind = 2 then
      match s.sweep seq with
      | some w =>
        if !w.closed || w.isOver || s.now < w.deadline then s
        else s.forfeitSweep seq (deadlineFault w.fault) 2
          (lostRace (w.ready j && !s.sweepBlocked w) (w.profiled j) s.now w.deadline seq w.unit)
      | none => s
    else
      match s.campaign seq with
      | some (_, c) =>
        if c.start.isNone || c.isOver || s.now < c.deadline then s
        else s.forfeitCampaign seq (deadlineFault c.fault) 2 (lostRace false c.fitAt.isSome s.now c.deadline seq 0)
      | none => s

/-- DELIVERY_DEADLINE (02 R79). -/
def execDeliveryDeadline (dt seq unit : Nat) (s : State) : Host.Outcome State Fault Refusal :=
  done s (deliveryDeadline seq unit (s.blk.elapse dt))

/-! ### The pace and the stages (02 R54, R74 to R76) -/

/-- A sample enters the falling record of the last second: what is older, or not lower, leaves it (04 R181). -/
def slideMin (now g : Nat) (l : List (Nat × Nat)) : List (Nat × Nat) :=
  l.filter (fun p => p.2 < g && now < p.1 + 312500000) ++ [(now, g)]

/-- Every gauge is sampled (02 R54), at ticks that are multiples of 3 125. -/
def paceSample (fabric : Nat) (gauges : List Nat) (s : Blk) : Blk :=
  if s.now % 3125 ≠ 0 then s
  else
    let g := (List.range 18).map (fun e => sat 16 (gauges.getD e (s.gaugeOf e)))
    { s with dec := { s.dec with
        fabric := sat 16 fabric, fabricLow := min s.dec.fabricLow (sat 16 fabric), gauge := g,
        engLow := (s.dec.engLow.zip g).map (fun p => min p.1 p.2),
        engMin := (s.dec.engMin.zip g).map (fun p => slideMin s.now p.2 p.1) } }

/-- PACE_SAMPLE (02 R54). -/
def execPaceSample (dt fabric : Nat) (gauges : List Nat) (s : State) : Host.Outcome State Fault Refusal :=
  done s (paceSample fabric gauges (s.blk.elapse dt))

/-- A pending delivery as 02 R75 sees it: kind, job, unit, zero, deadline, rank, and the work left in 1/163 840 000 µs at
pace 1.00 (1/16 µs × 1/(625 × 16 384)). -/
structure Pend where
  kind : Nat
  jobSeq : Nat
  unit : Nat
  zero : Nat
  deadline : Nat
  rank : Nat
  work : Int
deriving DecidableEq, Repr

/-- The work a frame's delivery has left (02 R75). -/
def Blk.frameWork (s : Blk) (j : Job) (unit : Nat) : Int :=
  let spent : Nat := ((s.dec.spent.find? (fun e => e.1 = (j.seq, unit))).map (·.2)).getD 0
  let run : Nat := ((s.dec.running.filter (fun t => t.admitted && t.jobSeq = j.seq && t.unit = unit)).map
    (fun t => (s.now - t.startedAt) * s.gaugeOf t.eng * 32)).foldl (· + ·) 0
  max 0 (((j.engineTime : Int) - spent) * 10240000 - run)

/-- The pending deliveries (02 R75), by deadline, then zero, then admission sequence number. -/
def Blk.pendingDeliveries (s : Blk) : List Pend :=
  let fr := s.sns.frames.filterMap (fun f =>
    match s.jobBySeq f.jobSeq, f.zero with
    | some j, some z => if f.isOver then none
        else some ({ kind := 1, jobSeq := j.seq, unit := f.unit, zero := z, deadline := f.deadline, rank := (classInfo j.cls).rank,
                     work := s.frameWork j f.unit } : Pend)
    | _, _ => none)
  let sw := s.swp.sweeps.filterMap (fun w =>
    match s.jobBySeq w.jobSeq with
    | some j => if w.isOver || !w.closed then none
        else
          let left : Int := if w.decodedAt.isSome || (j.decoder = 0 && w.profiled j) then 0 else (j.engineTime : Int) * 10240000
          some ({ kind := 2, jobSeq := j.seq, unit := w.unit, zero := j.windowEnd, deadline := w.deadline,
                  rank := (classInfo j.cls).rank, work := left } : Pend)
    | none => none)
  let ca := s.cal.units.filterMap (fun o => o.bind (fun c => match c.start with
    | some z => if c.isOver then none
        else some ({ kind := 3, jobSeq := c.jobSeq, unit := 0, zero := z, deadline := c.deadline, rank := (classInfo 5).rank, work := 0 } : Pend)
    | none => none))
  (fr ++ sw ++ ca).mergeSort (fun a b =>
    a.deadline < b.deadline || (a.deadline = b.deadline && (a.zero < b.zero || (a.zero = b.zero && a.jobSeq ≤ b.jobSeq))))

/-- The deliveries that would miss their deadline when work runs in order of earliest deadline (02 R75). -/
def Blk.wouldMiss (s : Blk) (l : List Pend) : List Pend :=
  (l.foldl (fun (acc : Int × List Pend) (d : Pend) =>
    let sum := acc.1 + d.work
    let room : Int := ((d.deadline : Int) - s.now) * 32 * s.nEngines * s.paceMeasured
    (sum, if room < sum then acc.2 ++ [d] else acc.2)) (0, [])).2

/-- The delivery that is forfeited next: the lowest rank, then the latest deadline, 200 µs or more away (02 R75). Of two with one
rank and one deadline, the one with the earlier zero, then the lower admission sequence number (log 83). -/
def nextForfeit (now : Nat) (l : List Pend) : Option Pend :=
  (l.filter (fun d => now + 62500 ≤ d.deadline)).foldl (fun m d =>
    match m with
    | none => some d
    | some e => if d.rank < e.rank || (d.rank = e.rank && e.deadline < d.deadline) then some d else some e) none

/-- A delivery is forfeited (02 R76 to R80). -/
def Blk.forfeitPend (s : Blk) (d : Pend) (fault : Nat) : Blk :=
  if d.kind = 1 then (((s.forfeitFrame d.jobSeq d.unit fault 0 false).closeAccount d.jobSeq d.unit).pruneFrames).freeSlots.jobsOver
  else if d.kind = 2 then s.forfeitSweep d.jobSeq fault 0 false
  else s.forfeitCampaign d.jobSeq fault 0 false

/-- Forfeits for the pace, one at a time, for as long as a delivery would miss its deadline (02 R75). -/
def Blk.forfeitPace : Nat → Blk → Blk
  | 0, s => s
  | n + 1, s =>
    let l := s.pendingDeliveries
    if (s.wouldMiss l).isEmpty then s
    else match nextForfeit s.now l with
      | none => s
      | some d => Blk.forfeitPace n (s.forfeitPend d 0xB121)

/-- Fault 0xB121 is recorded against a delivery that would miss its deadline and is too near to it for a forfeit (02 R76). -/
def Blk.recordPace (s : Blk) : Blk :=
  ((s.wouldMiss s.pendingDeliveries).filter (fun d => d.deadline < s.now + 62500)).foldl (fun s d =>
    if d.kind = 1 then s.updFrame d.jobSeq d.unit (fun f => { f with fault := 0xB121 })
    else if d.kind = 2 then s.updSweep d.jobSeq (fun w => { w with fault := 0xB121 })
    else s.updCampaign d.jobSeq (fun c => { c with fault := 0xB121 })) s

/-- The stage whose range holds a load (02 R74). -/
def stageOf (l : Frac) : Nat :=
  if l.le ⟨85, 100⟩ then 0 else if l.le ⟨97, 100⟩ then 1 else if l.le ⟨100, 100⟩ then 2 else 3

/-- The next stage (02 R74). -/
def nextStage (stage : Nat) (l : Frac) : Nat :=
  let k := stageOf l
  if stage < k then k
  else
    let low : Nat := [0, 83, 95, 98].getD stage 0
    if 0 < stage && l.le ⟨low, 100⟩ then stage - 1 else stage

/-- The stage set from the load at the measured pace; a change is counted and shown (02 R74, R77). -/
def Blk.setStage (s : Blk) : Blk :=
  let old := s.regF Reg.ADM_SHORTFALL 1 0
  let new := nextStage old (s.engineLoad s.jobs s.paceMeasured)
  if new = old then s else ((s.setF Reg.ADM_SHORTFALL 1 0 new).bump Reg.ADM_SHORTFALL 31 16 1).event 0x04 2 0x0000

/-- The lowest sample since the last update; without one, the gauge as it last stood. -/
def lowOr (low gauge : Nat) : Nat := if low = 0xFFFF then gauge else low

/-- The measured and planning pace are updated (02 R54), at ticks that are multiples of 31 250, and the stage with them. -/
def paceUpdate (s : Blk) : Blk :=
  if s.now % 31250 ≠ 0 then s
  else
    let act := (List.range 18).filter s.engActive
    let m := act.foldl (fun m e => min m (lowOr (s.dec.engLow.getD e 0xFFFF) (s.gaugeOf e))) (lowOr s.dec.fabricLow s.dec.fabric)
    let p := m - s.regF Reg.ADM_PACE_GUARD 15 0
    let s := s.setN Reg.ADM_PACE_PLAN (p + m * 65536)
    let s := { s with dec := { s.dec with fabricLow := 0xFFFF, engLow := List.replicate 18 0xFFFF } }
    let s := s.setStage
    if s.regF Reg.ADM_SHORTFALL 1 0 = 3 then (s.forfeitPace (s.pendingDeliveries.length + 1)).recordPace else s.columnSlot

/-- PACE_UPDATE (02 R54). -/
def execPaceUpdate (dt : Nat) (s : State) : Host.Outcome State Fault Refusal := done s (paceUpdate (s.blk.elapse dt))

/-! ### The accounting window (02 R71) -/

/-- A use in 0.01 % of the last window's engine time, rounded down and saturating; a task of that window that still runs goes on
counting in it (02 R71, R85). -/
def Blk.usedPct (s : Blk) (ticks : Nat) : Nat := 
  if s.rollWindow.dec.lastN = 0 then 0 else sat 16 (ticks * 10000 / (s.rollWindow.dec.lastN * 312500))

/-- A new window of 312 500 ticks starts: the last one's use is kept and the shares are renewed; from the first one on
CAL_STATE [0] shows whether slots may start (log 36). -/
def accountingWindow (s : Blk) : Blk :=
  if s.now % 312500 ≠ 0 then s
  else
    let s := s.rollWindow.setF Reg.ADM_CAL_STATE 0 0 1
    s.memFigures.columnSlot

/-- ACCOUNTING_WINDOW (02 R71). -/
def execAccountingWindow (dt : Nat) (s : State) : Host.Outcome State Fault Refusal := done s (accountingWindow (s.blk.elapse dt))

end Sys2Proof.Machine
end

