-- ==== Sys2Proof/Machine/Calib.lean ====
section
/-! DEFINITION. The calibration loops that run in slots (10 R365 to R379; 14 R543 to R546; 15 R581): illumination trims,
photodiode offset and gain, pace gauges, lane equalisation, DRAM ZQ and DQS tracking. -/
namespace Sys2Proof.Machine

/-! ### Staging (R366, R367) -/

/-- Two results of one loop for the same unit: the later replaces the earlier (R366, R377). -/
def EngAct.sameUnit : EngAct → EngAct → Bool
  | .pdTrim a _ _, .pdTrim b _ _ => a = b
  | .litTrim a _, .litTrim b _ => a = b
  | .laneEq a _, .laneEq b _ => a = b
  | .dqs a r _, .dqs b q _ => a = b && r = q
  | _, _ => false

/-- A result staged, in place of an earlier one for its unit. -/
def Blk.engReplace (s : Blk) (point : Nat) (a : EngAct) : Blk :=
  (s.engDrop (fun b => b.sameUnit a)).engStage point a

/-- A result whose commit point is the next frame or sweep boundary, or at once when no exposure or sweep job is live
(R369). -/
def Blk.stageSoon (s : Blk) (a : EngAct) : Blk :=
  if s.exposureLive || s.sweepLive then s.engReplace 3 a else (s.engTag a).engApply a

/-- A slot falls due: `gap` ticks have passed since the loop's last slot for its unit. -/
def Blk.slotDue (s : Blk) (l : CalLoop) (u gap : Nat) : Bool := s.lastSlot l u + gap ≤ s.now

/-! ### Illumination output (R372, R373) -/

/-- The new trim, Q1.15, from reference ÷ mean ρ, the trim in force and the step in 0.25 % of it: none inside the dead
band. -/
def nextTrim (target : Q) (trim step : Nat) : Option Nat :=
  let t : Q := ⟨trim, 32768⟩
  let dev := (target.sub t).abs
  if Q.lt (dev.mul ⟨400, 1⟩) t then none
  else
    let d := t.mul ⟨step, 400⟩
    let lo := t.sub d
    let hi := t.add d
    let x := if Q.lt target lo then lo else if Q.lt hi target then hi else target
    let x := if Q.lt x ⟨4, 5⟩ then ⟨4, 5⟩ else if Q.lt ⟨5, 4⟩ x then ⟨5, 4⟩ else x
    some (x.mul ⟨32768, 1⟩).rhu.toNat

/-- A trim at 0.8 or at 1.25, in Q1.15. -/
def trimLimit (t : Nat) : Bool := t = 26214 || t = 40960

/-- A sector's trim slot. -/
def litTrimSlot (n : Nat) (s : Blk) : Blk :=
  let k := s.cal.lit.getD n {}
  let ref := s.regN (Reg.ADM_CAL_LIT_REF n)
  if 8 ≤ n || !bitN (s.regN Reg.ADM_CAL_CTL) 0 || ref = 0 || k.since = 0 || k.num = 0 ||
      s.now < k.lastSlot + 3125000 * s.regF Reg.ADM_CAL_LIT_CFG 23 16 then s
  else
    let (may, s) := s.slotMay .lit n
    if !may then s
    else
      let s := s.slotRun .lit n 938
      let s := { s with cal := { s.cal with lit := upd s.cal.lit n (fun k => { k with since := 0, lastSlot := s.now }) } }
      match nextTrim ⟨ref * k.den, 65536 * k.num⟩ (s.regF (Reg.ADM_CAL_LIT_TRIM n) 15 0) (s.regF Reg.ADM_CAL_LIT_CFG 15 12) with
      | none => s
      | some t =>
        let s := s.engReplace 1 (.litTrim n t)
        if trimLimit t then s.raise 0x7081 else s

/-- LIT_TRIM_SLOT (R372). -/
def execLitTrimSlot (dt sector : Nat) (s : State) : Host.Outcome State Fault Refusal := done s (litTrimSlot sector (s.blk.elapse dt))

/-- The reference latches of the named sectors are armed (R373). -/
def Blk.armLit (s : Blk) (v : Nat) : Blk :=
  { s with cal := { s.cal with lit := s.cal.lit.zipIdx.map (fun (k, n) => if bitN v n then { k with armed := true } else k) } }

/-! ### Photodiode offset and gain (R375 to R378) -/

/-- The enabled channels. -/
def Blk.enabledChs (s : Blk) : List Nat := (List.range 8).filter (fun ch => bitN (s.regN (Reg.PDC_CFG ch)) 16)

/-- A calibration period elapses: each enabled channel is due, and one for which 10 periods have brought no moment that meets the
conditions is shown (R375, R378). -/
def pdCalPeriod (s : Blk) : Blk :=
  if !bitN (s.regN Reg.ADM_CAL_CTL) 1 || !s.slotDue .pd 8 (312500 * s.regF Reg.ADM_CAL_PD_CFG 15 0) then s
  else
    let old := s.pd.calDue
    let due := s.enabledChs.map (fun ch =>
      (ch, if s.pd.calMet.contains ch then 0 else ((old.find? (fun p => p.1 = ch)).map (fun p => p.2 + 1)).getD 0))
    let s := { s with pd := { s.pd with calDue := due, calMet := [] },
                      cal := { s.cal with lastRun := ((.pd, 8), s.now) :: s.cal.lastRun.filter (fun p => p.1 != (.pd, 8)) } }
    (due.filter (fun p => p.2 = 10)).foldl (fun s _ => s.raise 0x6072) s

/-- PD_CAL_PERIOD (R375). -/
def execPdCalPeriod (dt : Nat) (s : State) : Host.Outcome State Fault Refusal := done s (pdCalPeriod (s.blk.elapse dt))

/-- The feedback resistance of a gain, in kΩ (07 R251). -/
def feedback (gain : Nat) : Nat := [1, 2, 5, 10, 20, 50, 100, 200].getD gain 1

/-- The charge code: the largest whose current is at most half the full scale of 1 mA ÷ kΩ, in 2.5 µA (R376). -/
def chargeCode (gain : Nat) : Nat := min 255 (200 / feedback gain)

/-- The expected step E as a fraction of LSB: code × 2.5 µA × 8 192 per volt × resistance (R376). -/
def expectedStep (code gain : Nat) : Q := ⟨code * feedback gain * 8192, 400⟩

/-- The injector is connected and the measurement starts (R376); the channel is due again when a period elapses (R375). -/
def pdCalStart (ch : Nat) (s : Blk) : Blk :=
  if !s.pdMay ch then s
  else
    let (may, s) := s.slotMay .pd ch
    -- a moment has met the conditions, though the slot may be held back (R378)
    let s : Blk := { s with pd := { s.pd with calMet := ch :: s.pd.calMet.filter (fun k => k != ch) } }
    if !may then s
    else
      let s := s.slotRun .pd ch 1875
      let code := chargeCode (s.regF (Reg.PDC_CFG ch) 2 0)
      let m : PdMeas :=
        { ch := ch, since := s.now, input := s.regF (Reg.PDC_CFG ch) 5 4, k := s.pdMeans, code := code, wait := s.pdWait ch }
      let s := { s with pd := { s.pd with calNow := s.pd.calNow ++ [m], calDue := s.pd.calDue.filter (fun q => q.1 != ch) } }
      let s := ((s.setF Reg.PDA_INJ_STATUS 7 0 code).setF Reg.PDA_INJ_STATUS 11 8 ch).bump Reg.PDA_INJ_STATUS 31 16 1
      (s.setF (Reg.PDC_CFG ch) 5 4 1).switchCh ch

/-- PD_CAL_START (R376). -/
def execPdCalStart (dt ch : Nat) (s : State) : Host.Outcome State Fault Refusal := done s (pdCalStart ch (s.blk.elapse dt))

/-- The trims from the sums of K outputs without and with charge, in Q14.4: offset Q14.4 and gain Q1.15, or none out of
range (R376, R377). -/
def pdTrims (k code gain : Nat) (y0 y1 : Int) : Option (Nat × Nat) :=
  if y1 ≤ y0 then none
  else
    let g := Q.rhu (Q.div ((expectedStep code gain).mul ⟨16 * 32768 * k, 1⟩) ⟨y1 - y0, 1⟩)
    if g < 0x4000 ∨ 0xFFFF < g then none else some (twos 18 (roundHalfUp y0 k), g.toNat)

/-- Chain samples of a channel, one after another from the ADC codes no command has brought yet, as far as both go (07 R259). -/
def Blk.moreSamples (ch : Nat) : Nat → List Int → Blk → Blk
  | 0, _, s => s
  | _, [], s => s
  | n + 1, codes, s =>
    let c := s.pdch ch
    let k := c.preset.d * (c.nextJ + 1) - c.nextN
    Blk.moreSamples ch n (codes.drop k) (chainSample ch (codes.take k) s)

/-- The measurement ends, the K outputs of both means taken: the input that was set is reconnected, and the trims are staged,
or 0x6071 latches. The ADC codes of its chain samples that no CHAIN_SAMPLE has shown come with it, those without charge and
those with charge (log 51). -/
def pdCalEnd (ch : Nat) (y0 y1 : List Int) (s : Blk) : Blk :=
  let s := Blk.moreSamples ch (y0.length + y1.length) (y0 ++ y1) s
  match s.pd.calNow.find? (fun m => m.ch = ch) with
  | none => s
  | some m =>
    if m.seen < 2 * (m.wait + m.k) then s
    else
      let s := ({ s with pd := { s.pd with calNow := s.pd.calNow.filter (fun m => m.ch != ch) } } : Blk).touch [3]
      let s : Blk := match pdTrims m.k m.code (s.regF (Reg.PDC_CFG ch) 2 0) m.sum0 m.sum1 with
        | some (o, g) => s.engReplace 2 (.pdTrim ch o g)
        | none => s.raise 0x6071
      if s.regF (Reg.PDC_CFG ch) 5 4 = 1 then (s.setF (Reg.PDC_CFG ch) 5 4 m.input).switchCh ch else s

/-- PD_CAL_END (R377). -/
def execPdCalEnd (dt ch : Nat) (y0 y1 : List Int) (s : State) : Host.Outcome State Fault Refusal :=
  done s (pdCalEnd ch y0 y1 (s.blk.elapse dt))

/-! ### Pace gauges (R379; 17 R633) -/

/-- Measured gauge ÷ predicted − 1 in 0.01 %, rounded half up; none when the factory model predicts 0. -/
def driftOf (measured predicted : Nat) : Option Int :=
  if predicted = 0 then none else some (roundHalfUp (((measured : Int) - predicted) * 10000) predicted)

/-- The mean ratio of actual to predicted task time of an engine exceeds 1. -/
def Blk.overPredicted (s : Blk) (e : Nat) : Bool :=
  let l := s.cal.ratios.getD e []
  Q.lt ⟨l.length, 1⟩ (Q.sum (l.map (fun r => (⟨r.1, max 1 r.2⟩ : Q))))

/-- One engine's gauge: its drift is shown, three slots in a row beyond the limit offer an active engine, and a mean above
prediction is shown once. -/
def Blk.paceEngine (s : Blk) (e : Nat) : Blk :=
  let pred := (Config.gaugeModel (BitVec.ofNat 16 (s.regN (Reg.DEC_PACE_REF e))) (BitVec.ofNat 16 s.vcore)
    (BitVec.ofNat 16 (s.regN Reg.THM_TEMP))).toNat
  let s := match driftOf (s.gaugeOf e) pred with
    | none => s
    | some d =>
      let s := s.setF (Reg.DEC_DRIFT e) 15 0 (twos 16 (clampI (-32768) 32767 d))
      let beyond := 10 * s.regF Reg.UST_LIMITS 7 0 < d.natAbs
      let run := if beyond then min 4 (s.cal.driftRuns.getD e 0 + 1) else 0
      let s := { s with cal := { s.cal with driftRuns := upd s.cal.driftRuns e (fun _ => run) } }
      if run = 3 && s.engActive e && !s.coppice then (s.raiseAt (0x20 + e) 0x5042).offer .engine e true else s
  if s.engActive e && s.overPredicted e && !s.cal.mismatch.contains e then
    ({ s with cal := { s.cal with mismatch := e :: s.cal.mismatch } } : Blk).raise 0x5041
  else s

/-- The pace slot, every second. -/
def paceSlot (s : Blk) : Blk :=
  if !bitN (s.regN Reg.ADM_CAL_CTL) 2 || !s.slotDue .pace 0 312500000 then s
  else
    let (may, s) := s.slotMay .pace 0
    if !may then s else (List.range 18).foldl Blk.paceEngine (s.slotRun .pace 0 625)

/-- PACE_SLOT (R379). -/
def execPaceSlot (dt : Nat) (s : State) : Host.Outcome State Fault Refusal := done s (paceSlot (s.blk.elapse dt))

/-! ### Lane equalisation (14 R543 to R546) -/

/-- A lane changed. -/
def Blk.updLane (s : Blk) (l : Nat) (f : LaneSt → LaneSt) : Blk :=
  { s with lnk := { s.lnk with lanes := upd s.lnk.lanes l f } }

/-- A point of a scan is open: voltage step v, phase step p (R551). -/
def eyeOpen (pts : List Word) (v p : Nat) : Bool :=
  v < 64 && p < 64 && !bitN (pts.getD (2 * v + p / 32) 0).toNat (p % 32)

/-- Open points of a scan. -/
def openCount (pts : List Word) : Nat :=
  4096 - (((List.range 128).map (fun w => popcount 32 (pts.getD w 0).toNat)).foldl (· + ·) 0)

/-- The run of places around the middle one that satisfy a condition (R544). -/
def centreRun (f : Nat → Bool) : Nat :=
  if !f 32 then 0
  else ((List.range 32).takeWhile (fun i => f (31 - i))).length + 1 + ((List.range 31).takeWhile (fun i => f (33 + i))).length

/-- Width and height of an eye: the runs through its centre along both axes (R544). -/
def eyeWidth (pts : List Word) : Nat := centreRun (fun p => eyeOpen pts 32 p)
def eyeHeight (pts : List Word) : Nat := centreRun (fun v => eyeOpen pts v 32)

/-- The setting the loop tries next on a lane: s, s + 1, s, s − 1, within the range of 0 to 15 dB, or the fixed value
(R546). -/
def Blk.trialOf (s : Blk) (l : Nat) : Nat :=
  let p := s.regF (Reg.LNK_CTLE l) 3 0
  if bitN (s.regN (Reg.LNK_CTLE_CFG l)) 4 then s.regF (Reg.LNK_CTLE_CFG l) 3 0
  else match (s.lane l).trial % 4 with
  | 1 => min 15 (p + 1)
  | 3 => p - 1
  | _ => p

/-- A scan's result stands in the lane's page, and a narrow eye of an active lane, three scans in a row, offers the
lane (R543). -/
def Blk.eyeResult (s : Blk) (l scanned : Nat) (pts : List Word) : Blk :=
  let inForce := s.regF (Reg.LNK_CTLE l) 3 0
  let w := eyeWidth pts
  let h := eyeHeight pts
  let s := s.setN (Reg.LNK_EYE_RESULT l) (sat 6 w + sat 6 h * 2 ^ 8 + scanned * 2 ^ 16 + inForce * 2 ^ 20 + 2 ^ 31)
  let s := s.updLane l (fun x => { x with eye := (List.range 128).map (fun i => pts.getD i 0) })
  if (s.lane l).rx != .active then s
  else
    let low := w < s.regF Reg.LNK_EYE_MIN 5 0 || h < s.regF Reg.LNK_EYE_MIN 13 8
    let n := if low then min 4 ((s.lane l).lowEyes + 1) else 0
    let s := s.updLane l (fun x => { x with lowEyes := n })
    if n = 3 then (s.raise 0x2014).offer .lane l true else s

/-- One scan of the loop on a lane: a neighbour with at least 10 % more open points is staged (R546). -/
def Blk.eqScan (s : Blk) (l : Nat) (pts : List Word) : Blk :=
  let t := s.trialOf l
  let inForce := s.regF (Reg.LNK_CTLE l) 3 0
  let n := openCount pts
  let base := (s.lane l).openPts
  let step := (s.lane l).trial % 4
  let s := s.updLane l (fun x => { x with trial := (x.trial + 1) % 4, openPts := if t = inForce then n else x.openPts })
  let s := s.eyeResult l t pts
  if step % 2 = 1 && t != inForce && 11 * base ≤ 10 * n && base < n && !bitN (s.regN (Reg.LNK_CTLE_CFG l)) 4 then s.stageSoon (.laneEq l t) else s

/-- The tick of the loop's last scan of any lane. -/
def Blk.lastEq (s : Blk) : Nat := ((List.range 5).map (s.lastSlot .eq)).foldl max 0

/-- The scan a write asked for, on a lane (R544). -/
def Blk.askedScan (s : Blk) (l : Nat) (pts : List Word) : Blk :=
  let (may, s) := s.slotMay .eye l
  if !may then s
  else
    let v := s.regN (Reg.LNK_EYE_CTL l)
    let s := (s.slotRun .eye l 12500).updLane l (fun x => { x with scanAsked := false })
    s.eyeResult l (if bitN v 8 then fld v 7 4 else s.regF (Reg.LNK_CTLE l) 3 0) pts

/-- The loop's own scan, every 10 s (R546). -/
def Blk.loopScan (s : Blk) (pts : List Word) : Blk :=
  match nextLane s.eqLanes s.lnk.eqLane with
  | none => s
  | some l =>
    if !s.linkUp || s.now < s.lastEq + 3125000000 then s
    else
      let (may, s) := s.slotMay .eq l
      if !may then s
      else
        let s := s.slotRun .eq l 12500
        let s := { s with lnk := { s.lnk with eqLane := l + 1 } }
        s.eqScan l pts

/-- The loop's scan was deferred before the one a write asked for on a lane: it has its turn first (02 R74). -/
def Blk.loopFirst (s : Blk) (l : Nat) : Bool :=
  (s.cal.waiting.takeWhile (fun w => w != (.eye, l))).any (fun w => w.1 = .eq && s.slotReady w)

/-- An eye scan ends: one a write asked for, on the lowest such lane, else the loop's (R544, R546). -/
def laneEqScan (pts : List Word) (s : Blk) : Blk :=
  match (List.range 5).find? (fun l => (s.lane l).scanAsked) with
  | some l => if s.loopFirst l then s.loopScan pts else s.askedScan l pts
  | none => s.loopScan pts

/-- LANE_EQ_SCAN (14 R546). -/
def execLaneEqScan (dt : Nat) (points : List Word) (s : State) : Host.Outcome State Fault Refusal :=
  done s (laneEqScan points (s.blk.elapse dt))

/-! ### DRAM tracking (15 R581) -/

/-- A ZQ calibration starts; its latch command is issued at the slot's commit point. -/
def dramZqSlot (s : Blk) : Blk :=
  if !s.domReady 5 || !s.slotDue .zq 0 40000000 then s
  else
    let (may, s) := s.slotMay .zq 0
    if !may then s
    else
      let s := s.slotRun .zq 0 313
      ({ s with mem := { s.mem with zqWaiting := true } } : Blk).stageSoon .zqLatch

/-- DRAM_ZQ_SLOT (15 R581). -/
def execDramZqSlot (dt : Nat) (s : State) : Host.Outcome State Fault Refusal := done s (dramZqSlot (s.blk.elapse dt))

/-- One rank's oscillator count: the delay it stands for, and what its drift from the delay in force stages. -/
def Blk.dqsRank (s : Blk) (ch rank count : Nat) : Blk :=
  let s := if rank = 0 then s.setF (if ch = 0 then Reg.MEMT_DQS_A else Reg.MEMT_DQS_B) 31 16 (sat 16 count) else s
  match dqsDelayOf (s.regF Reg.MEM_CONFIG 31 16) count with
  | none => s
  | some d =>
    let now := ((s.memCh ch).rank rank).dqsDelay
    let diff := if d ≤ now then now - d else d - now
    let lim := s.regF Reg.MEMT_DQS_LIMIT 6 0
    let s := if lim < diff then s.stageSoon (.dqs ch rank d) else s
    if 2 * lim < diff then ((s.bump Reg.MEMT_RETRAINS 15 0 1).raise 0x3051).retrainDq ch rank d else s

/-- The DQS oscillator has run on each rank; counts in the order of channel and rank. -/
def dramDqsSlot (counts : List Nat) (s : Blk) : Blk :=
  if !s.domReady 5 || !s.slotDue .dqs 0 5000000 then s
  else
    let (may, s) := s.slotMay .dqs 0
    if !may then s
    else
      let ranks := (s.memCh 0).ranks.length
      (List.range (2 * ranks)).foldl (fun s i => s.dqsRank (i / ranks) (i % ranks) (counts.getD i 0)) (s.slotRun .dqs 0 313)

/-- DRAM_DQS_SLOT (15 R581). -/
def execDramDqsSlot (dt : Nat) (counts : List Nat) (s : State) : Host.Outcome State Fault Refusal :=
  done s (dramDqsSlot counts (s.blk.elapse dt))

end Sys2Proof.Machine
end

