-- ==== Sys2Proof/Machine/Sessions.lean ====
section
/-! DEFINITION. The close of a session (13 R504; 12 R461), shared by the chain, the link and the power manager. -/
namespace Sys2Proof.Machine

/-- A slot closes, whatever state it was in: its open bundle aborts with 0xB029, a waiting one stays, without a session
(12 R461). -/
def Blk.closeSlot (s : Blk) (i : Nat) : Blk :=
  let s := match s.openBundle i with
    | some b => s.abortBundle b 0xB029 0 0
    | none => s
  let s : Blk := if (s.slot i).st = .opened then
      { s with bnd := { s.bnd with waiting := s.bnd.waiting.map (fun b => if b.slot = i then { b with orphan := true } else b) } }
    else s
  s.updSlot i (fun k => { counter := k.counter })

/-- Every session opened on a port closes, and challenges on it end. -/
def Blk.closePort (s : Blk) (link : Bool) : Blk :=
  (List.range 4).foldl (fun s i => if (s.slot i).st != .free && (s.slot i).link = link then s.closeSlot i else s) s

/-- Every slot of the Seal role closes: Tally, which checks each of its frames (09 R325), has lost its supply (log 93). -/
def Blk.closeSeal (s : Blk) : Blk :=
  (List.range 4).foldl (fun s i => if (s.slot i).st != .free && (s.slot i).role = 3 then s.closeSlot i else s) s

/-- Every session closes. -/
def Blk.closeAll (s : Blk) : Blk := (s.closePort true).closePort false

end Sys2Proof.Machine
end

