-- ==== Sys2Proof/Machine/Link.lean ====
section
/-! DEFINITION. The lane link (14): packets accepted and discarded, acknowledgement, credit and replay, transmission by
precedence, training, clocks, lane failover. -/
namespace Sys2Proof.Machine

/-! ### Sizes and order of sequence numbers (R523, R529) -/

/-- Bytes a packet takes: 8 per block, its SOP and its data blocks (R523, R531). -/
def packetSize (len : Nat) : Nat := 8 * (1 + dataBlocks len)

/-- Bytes of some packets. -/
def pktBytes (l : List Pkt) : Nat := (l.map (fun p => packetSize p.payload.length)).foldl (· + ·) 0

/-- Bytes of the packets in the retry buffer (R532). -/
def Blk.retryBytes (s : Blk) : Nat := pktBytes s.lnk.retry

/-- Bytes under way to the partner: sent and not acknowledged, but for what has to be sent again (R531). -/
def Blk.bytesOut (s : Blk) : Nat := pktBytes (s.lnk.retry.filter (fun p => !s.lnk.replayQ.contains p.lseq))

/-- Sequence number `q` lies at or before `a`, modulo 65 536. -/
def seqCovers (a q : Nat) : Bool := (a + 65536 - q % 65536) % 65536 < 32768

/-! ### Reception (R525, R529) -/

/-- A packet is accepted in order (R529): numbers, counts, and the end of an interruption (R541, R548). -/
def Blk.linkAccept (s : Blk) : Blk :=
  let s := s.count Reg.LNK_RX_PACKETS 1
  let s := match s.lnk.faultAt with
    | some t => s.atLeast Reg.LNK_FAILOVERS 31 16 (s.now - t)
    | none => s
  { s with lnk := { s.lnk with rxSeq := (s.lnk.rxSeq + 1) % 65536, unacked := s.lnk.unacked + 1, nakAt := none, faultAt := none } }

/-- POS_PACKET (08 R300; 14 R529): it is accepted, then read; the stream has no path while the link is down. -/
def execPosPacket (dt : Nat) (payload : List Byte) (s : State) : Host.Outcome State Fault Refusal :=
  let b := s.blk.elapse dt
  done s (if b.linkUp then posPacketIn payload b.linkAccept else b)

/-- Packet types that travel to the engine (R525). -/
def inboundType (t : Nat) : Bool := t = 0x01 || t = 0x08 || t = 0x0A || t = 0x0B || t = 0x0C || t = 0x0D

/-- A packet of an unlisted type, or one sent in the wrong direction: accepted, then discarded and counted (R525). -/
def packetDiscard (ptype : Nat) (s : Blk) : Blk :=
  if !s.linkUp || inboundType ptype then s else s.linkAccept.bump Reg.LNK_RX_DISCARD 15 0 1

/-- PACKET_DISCARD (R525). -/
def execPacketDiscard (dt ptype : Nat) (s : State) : Host.Outcome State Fault Refusal := done s (packetDiscard ptype (s.blk.elapse dt))

/-- An ACK leaves: the highest lseq accepted in order, and the credit of an empty 32 KiB input buffer (R528 to R531). -/
def Blk.sendAck (s : Blk) : Blk :=
  let s := s.send (.packet 0x0C 0 ((s.lnk.rxSeq + 65535) % 65536) (le 4 512))
  { s with lnk := { s.lnk with unacked := 0, lastAckOut := s.now, granted := 512 } }

/-- A NAK leaves, once per expected lseq and LNK.REPLAY_LIMIT (R529). -/
def Blk.sendNak (s : Blk) : Blk :=
  if (match s.lnk.nakAt with | some t => decide (s.now < t + s.regF Reg.LNK_REPLAY_LIMIT 11 0) | none => false) then s
  else
    let s := s.send (.packet 0x0D 0 s.lnk.rxSeq (le 4 512))
    { s with lnk := { s.lnk with nakAt := some s.now, lastAckOut := s.now, granted := 512 } }

/-- 0x2031, at most once per millisecond (R547). -/
def Blk.crcEvent (s : Blk) : Blk :=
  if (match s.lnk.lastCrcEvt with | some t => decide (s.now < t + 312500) | none => false) then s
  else { s with lnk := { s.lnk with lastCrcEvt := some s.now } }.raise 0x2031

/-- The CRC of a packet received holds: its SOP block and data blocks are whole and the last 4 bytes are the CRC over the
rest (R523, R524). -/
def packetCrcOk (sop data : List Byte) : Bool :=
  sop.length = 8 && data.length = 8 * dataBlocks (getLe sop 3 2) &&
    unle (data.drop (data.length - 4)) = crc32 (sop.drop 1 ++ data.take (data.length - 4))

/-- How far a packet's lseq lies behind the one expected. -/
def Blk.behind (s : Blk) (sop : List Byte) : Nat := (s.lnk.rxSeq + 65536 - getLe sop 5 2) % 65536

/-- A packet fails its CRC or arrives out of order: discarded, and answered with a NAK; a duplicate is answered with an
ACK (R529). One in order is the business of its own type's command. -/
def linkPacketBad (sop data : List Byte) (s : Blk) : Blk :=
  if !s.linkUp then s
  else if !packetCrcOk sop data then ((s.bump Reg.LNK_RX_ERRORS 15 0 1).crcEvent).sendNak
  else
    let d := s.behind sop
    if d = 0 then s
    else if d ≤ 4096 then s.sendAck
    else (s.bump Reg.LNK_RX_ERRORS 31 16 1).sendNak

/-- LINK_PACKET_BAD (R529). -/
def execLinkPacketBad (dt : Nat) (sop data : List Byte) (s : State) : Host.Outcome State Fault Refusal :=
  done s (linkPacketBad sop data (s.blk.elapse dt))

/-- The ACK timer or count of R530 expires: packets accepted since the last ACK, or 10 µs without one. -/
def ackSend (s : Blk) : Blk :=
  if s.linkUp && (0 < s.lnk.unacked || s.lnk.lastAckOut + 3125 ≤ s.now) then s.sendAck else s

/-- ACK_SEND (R530). -/
def execAckSend (dt : Nat) (s : State) : Host.Outcome State Fault Refusal := done s (ackSend (s.blk.elapse dt))

/-! ### Acknowledgement and replay (R531 to R533) -/

/-- Bytes of a correction item are acknowledged. -/
def CorrItem.ack (tag size : Nat) (c : CorrItem) : CorrItem := if c.tag = tag then { c with acked := c.acked + size } else c

/-- One bulk packet of a group is acknowledged. -/
def Bulk.ack (tag unit kind : Nat) (b : Bulk) : Bulk :=
  if b.tag = tag && b.unitSeq = unit && b.kind = kind then { b with acked := b.acked + 1 } else b

/-- The measurement store changed. -/
def Blk.updMeas (s : Blk) (f : List MeasItem → List MeasItem) : Blk :=
  ({ s with tly := { s.tly with store := f s.tly.store } } : Blk).flushed

/-- The correction store changed. -/
def Blk.updCorr (s : Blk) (f : List CorrItem → List CorrItem) : Blk := { s with store := { s.store with corr := f s.store.corr } }

/-- The bulk data changed. -/
def Blk.updBulk (s : Blk) (f : List Bulk → List Bulk) : Blk := { s with store := { s.store with bulk := f s.store.bulk } }

/-- The item a packet carried has been delivered (06 R239; 09 R350; 10 R394). -/
def Blk.delivered (s : Blk) (src : PktSrc) : Blk :=
  match src with
  | .answer => s
  | .event => s
  | .pool p seq => (s.releaseRec p seq).freeSlots
  | .meas n => s.updMeas (fun l => l.eraseP (fun m => !m.isSeal && m.sent && m.num = n))
  | .blockSeal n => s.updMeas (fun l => l.eraseP (fun m => m.isSeal && m.sent && m.num = n))
  | .corr tag size =>
    let s := s.updCorr (fun l => l.map (CorrItem.ack tag size))
    if s.store.corr.any (fun c => c.tag = tag && c.bytes.length ≤ c.acked) then s.releaseCorr tag else s
  | .bulk tag unit kind => s.updBulk (fun l => (l.map (Bulk.ack tag unit kind)).filter (fun b => b.acked < b.packets.length))

/-- Credit received: its units of 64 bytes, less what is under way (R531). -/
def Blk.takeCredit (s : Blk) (credit : Nat) : Blk :=
  { s with lnk := { s.lnk with creditLeft := 64 * (credit % 65536) - s.bytesOut, lastAckIn := s.now } }

/-- The replay timer's end (R532). -/
def Blk.replayEnd (s : Blk) : Nat := s.lnk.replayFrom + s.regF Reg.LNK_REPLAY_LIMIT 11 0

/-- A race of R533 that was decided within 20 ns is counted: against a timer about to expire the ACK has won; after a
replay just made the timer has. -/
def Blk.noteContest (s : Blk) : Blk :=
  let s := if s.now ≤ s.replayEnd && contested s.now s.replayEnd then s.bump Reg.LNK_CONTESTED 31 16 1 else s
  match s.lnk.replayedAt with
  | some t => if contested s.now t then s.bump Reg.LNK_CONTESTED 15 0 1 else s
  | none => s

/-- An ACK frees the packets it covers; one that frees the oldest restarts the replay timer (R532, R533). -/
def ackReceive (lseq credit : Nat) (s : Blk) : Blk :=
  if !s.linkUp then s
  else
    let (hit, rest) := s.lnk.retry.partition (fun p => seqCovers lseq p.lseq)
    let s := if hit.isEmpty then s
      else
        let s := s.noteContest
        { s with lnk := { s.lnk with retry := rest, replayQ := s.lnk.replayQ.filter (fun q => rest.any (fun p => p.lseq = q)),
                                     replayFrom := s.now, replayedAt := none } }
    hit.foldl (fun s p => s.delivered p.src) (s.takeCredit credit)

/-- ACK_RECEIVE (R532). -/
def execAckReceive (dt lseq credit : Nat) (s : State) : Host.Outcome State Fault Refusal :=
  done s (ackReceive lseq credit (s.blk.elapse dt))

/-- A packet as it is sent again (R523, R532). -/
def Pkt.copy (p : Pkt) : Wire := .packet p.ptype 1 p.lseq p.payload

/-- How many packets of a list a credit pays for, in order (R531). -/
def affordable (credit : Nat) : List Pkt → Nat
  | [] => 0
  | p :: t =>
    let n := packetSize p.payload.length
    if credit < n then 0 else affordable (credit - n) t + 1

/-- The packets that wait to be sent again. -/
def Blk.replays (s : Blk) : List Pkt := s.lnk.retry.filter (fun p => s.lnk.replayQ.contains p.lseq)

/-- Packets are sent again, with the replay flag set (R532): as many as the credit pays for (R531), the others as it comes back. -/
def Blk.replay (s : Blk) (l : List Pkt) : Blk :=
  let n := affordable s.lnk.creditLeft l
  let now := l.take n
  let s := s.sendAll (now.map Pkt.copy)
  { s with lnk := { s.lnk with
    retry := s.lnk.retry.map (fun p => if now.any (fun q => q.lseq = p.lseq) then { p with sentAt := s.now } else p),
    replayQ := (l.drop n).map (·.lseq), creditLeft := s.lnk.creditLeft - pktBytes now } }

/-- A NAK makes the sender replay every unacknowledged packet from the one named (R532). -/
def nakReceive (lseq credit : Nat) (s : Blk) : Blk :=
  if !s.linkUp then s
  else
    let l := s.lnk.retry.filter (fun p => seqCovers p.lseq lseq)
    let s := ({ s with lnk := { s.lnk with replayQ := l.map (·.lseq) } } : Blk).takeCredit credit
    if l.isEmpty then s
    else
      let s := (s.replay l).bump Reg.LNK_REPLAYS 31 16 1
      if l.head?.map (·.lseq) = s.lnk.retry.head?.map (·.lseq) then { s with lnk := { s.lnk with replayFrom := s.now } } else s

/-- NAK_RECEIVE (R532). -/
def execNakReceive (dt lseq credit : Nat) (s : State) : Host.Outcome State Fault Refusal :=
  done s (nakReceive lseq credit (s.blk.elapse dt))

/-- The replay timer reaches its limit: everything unacknowledged is sent again (R532). -/
def replayTimer (s : Blk) : Blk :=
  if !s.linkUp || s.lnk.retry.isEmpty || s.now < s.replayEnd then s
  else
    let s := (s.replay s.lnk.retry).bump Reg.LNK_REPLAYS 15 0 1
    { s with lnk := { s.lnk with replayFrom := s.now, replayedAt := some s.now } }

/-- REPLAY_TIMER (R532). -/
def execReplayTimer (dt : Nat) (s : State) : Host.Outcome State Fault Refusal := done s (replayTimer (s.blk.elapse dt))

/-! ### Transmission (R534; 06 R244; 09 R350; 10 R394) -/

/-- A packet that is ready: its type, payload and source. -/
structure Ready where
  ptype : Nat
  payload : List Byte
  src : PktSrc
deriving DecidableEq, Repr

/-- The next record of a pool that is routed to the link. -/
def Blk.readyPool (s : Blk) (p : Nat) : Option Ready :=
  if bitN (s.regN Reg.ADM_POOL_ROUTE) p then none
  else ((s.pool p).recs.find? (fun r => !r.sent)).map (fun r => { ptype := 0x03, payload := r.bytes, src := .pool p r.seq })

/-- The next item of the measurement store. -/
def Blk.readyMeas (s : Blk) : Option Ready :=
  if bitN (s.regN Reg.TLY_ROUTE) 0 then none
  else (s.tly.store.find? (fun m => !m.sent)).map (fun m =>
    { ptype := 0x06, payload := m.bytes, src := if m.isSeal then .blockSeal m.num else .meas m.num })

/-- The next fragment of the correction store (R527). -/
def Blk.readyCorr (s : Blk) : Option Ready :=
  if bitN (s.regN Reg.ADM_CAL_CTL) 8 then none
  else (s.store.corr.find? (fun c => c.sentTo < c.bytes.length)).map (fun c =>
    let part := (c.bytes.drop c.sentTo).take 8192
    { ptype := 0x07, payload := le 4 c.tag ++ le 4 c.bytes.length ++ le 4 c.sentTo ++ zeros 4 ++ part, src := .corr c.tag part.length })

/-- What a turn of the round robin has ready: 0 to 15 the pools, 16 the measurement store, 17 the correction store. -/
def Blk.readyTurn (s : Blk) (k : Nat) : Option Ready :=
  if k < 16 then s.readyPool k else if k = 16 then s.readyMeas else s.readyCorr

/-- The packet type of bulk data (R525). -/
def bulkType (kind : Nat) : Nat := if kind = 0 then 0x04 else 0x05

/-- The next bulk packet. -/
def Blk.readyBulk (s : Blk) : Option Ready :=
  (s.store.bulk.find? (fun b => b.sent < b.packets.length)).map (fun b =>
    { ptype := bulkType b.kind, payload := b.packets.getD b.sent [], src := .bulk b.tag b.unitSeq b.kind })

/-- The 16 bytes of an event notice (13 R496). -/
def Notice.bytes (n : Notice) : List Byte := le 2 n.seq ++ le 2 n.code ++ le 1 n.page ++ le 1 n.bit ++ zeros 2 ++ le 8 n.time

/-- The first source in the round robin from the present turn that has something ready. -/
def Blk.turnReady (s : Blk) : Option (Nat × Ready) :=
  (List.range 18).findSome? (fun i => let k := (s.lnk.turn + i) % 18; (s.readyTurn k).map (fun r => (k, r)))

/-- The first item not sent yet is sent. -/
def sendFirst : List MeasItem → List MeasItem
  | [] => []
  | m :: t => if m.sent then m :: sendFirst t else { m with sent := true } :: t

/-- A fragment of a correction item is sent. -/
def CorrItem.go (tag size : Nat) (c : CorrItem) : CorrItem := if c.tag = tag then { c with sentTo := c.sentTo + size } else c

/-- One bulk packet of a group is sent. -/
def Bulk.go (tag unit kind : Nat) (b : Bulk) : Bulk :=
  if b.tag = tag && b.unitSeq = unit && b.kind = kind then { b with sent := b.sent + 1 } else b

/-- A record is sent. -/
def Rec.go (seq : Nat) (r : Rec) : Rec := if r.seq = seq then { r with sent := true } else r

/-- Nothing of a pool counts as sent. -/
def PoolSt.unsend (p : PoolSt) : PoolSt := { p with recs := p.recs.map (fun (r : Rec) => { r with sent := false }) }
/-- Nothing of a correction item counts as sent. -/
def CorrItem.unsend (c : CorrItem) : CorrItem := { c with sentTo := 0, acked := 0 }
/-- Bulk packets that are not acknowledged count as not sent. -/
def Bulk.unsend (b : Bulk) : Bulk := { b with sent := b.acked }
/-- An item of the measurement store does not count as sent. -/
def MeasItem.unsend (m : MeasItem) : MeasItem := { m with sent := false }

/-- The source has given the packet up to the transmitter. -/
def Blk.markSent (s : Blk) (r : Ready) : Blk :=
  match r.src with
  | .answer => { s with lnk := { s.lnk with answers := s.lnk.answers.drop 1 } }
  | .event => { s with evt := { s.evt with toLink := s.evt.toLink.drop 1 } }
  | .pool p seq => s.updPool p (fun q => { q with recs := q.recs.map (Rec.go seq) })
  | .meas _ => s.updMeas sendFirst
  | .blockSeal _ => s.updMeas sendFirst
  | .corr tag size => s.updCorr (fun l => l.map (CorrItem.go tag size))
  | .bulk tag unit kind => s.updBulk (fun l => l.map (Bulk.go tag unit kind))

/-- The next sequenced packet by precedence (R534), with the turn it ends. -/
def Blk.nextPacket (s : Blk) : Option (Option Nat × Ready) :=
  match s.lnk.answers with
  | (t, b) :: _ => some (none, { ptype := t, payload := b, src := .answer })
  | [] =>
    match s.evt.toLink with
    | n :: _ => some (none, { ptype := 0x09, payload := n.bytes, src := .event })
    | [] =>
      match s.turnReady with
      | some (k, r) => some (some k, r)
      | none => s.readyBulk.map (fun r => (none, r))

/-- The transmitter starts its next packet, when credit and retry-buffer room allow (R531, R532, R534); what is to be sent again
goes before what is new. -/
def linkTransmit (s : Blk) : Blk :=
  if !s.linkUp then s
  else if !s.lnk.replayQ.isEmpty then s.replay s.replays
  else match s.nextPacket with
    | none => s
    | some (turn, r) =>
      let size := packetSize r.payload.length
      if s.lnk.creditLeft < size || 65536 < s.retryBytes + size then s
      else
        let n := s.lnk.txSeq
        let s := (s.markSent r).send (.packet r.ptype 0 n r.payload)
        let s := s.count Reg.LNK_TX_PACKETS 1
        let from_ := if s.lnk.retry.isEmpty then s.now else s.lnk.replayFrom
        let pkt : Pkt := { lseq := n, ptype := r.ptype, payload := r.payload, sentAt := s.now, src := r.src }
        { s with lnk := { s.lnk with txSeq := (n + 1) % 65536, retry := s.lnk.retry ++ [pkt], replayFrom := from_,
                                     creditLeft := s.lnk.creditLeft - size,
                                     turn := (match turn with | some k => (k + 1) % 18 | none => s.lnk.turn) } }

/-- LINK_TRANSMIT (R534). -/
def execLinkTransmit (dt : Nat) (s : State) : Host.Outcome State Fault Refusal := done s (linkTransmit (s.blk.elapse dt))

/-! ### Leaving UP (R538) -/

/-- The link leaves UP or LIMP_UP (R538): sessions on it close, the retry buffer is discarded, what the stores hold is sent
again later, and answers and events that are not acknowledged are lost. -/
def Blk.leaveUp (s : Blk) : Blk :=
  if !s.linkUp then s
  else
    let lost := s.evt.toLink.length + (s.lnk.retry.filter (fun p => p.src = .event)).length
    let lnk : LnkSt := { s.lnk with state := .down, retry := [], replayQ := [], answers := [], creditLeft := 0, granted := 0, unacked := 0,
                                    nakAt := none, replayedAt := none, faultAt := none }
    let s := { s with lnk := lnk, evt := { s.evt with toLink := [] }, store := { s.store with pools := s.store.pools.map PoolSt.unsend } }
    let s := ((s.updCorr (fun l => l.map CorrItem.unsend)).updBulk (fun l => l.map Bulk.unsend)).updMeas (fun l => l.map MeasItem.unsend)
    ((s.bump Reg.EVT_LOST 15 0 lost).raise 0x2024).closePort true

/-! ### Training (R535 to R539) -/

/-- Every lane stands off, unlocked, until training finds it again. -/
def Blk.clearLanes (s : Blk) : Blk :=
  { s with lnk := { s.lnk with lanes := s.lnk.lanes.map (fun l => { l with rx := .off, tx := .off, lock := false, aligned := false }) } }

/-- A training starts at a phase: 1 DETECT, 2 CLOCK (R535, R548); the lane link's domain is powered for it (16 R590). -/
def Blk.startTraining (s : Blk) (phase : Nat) : Blk :=
  let s := (s.leaveUp.clearLanes.bump Reg.LNK_TRAINS 15 0 1).wakeDom 6
  { s with lnk := { s.lnk with state := if phase = 1 then .detect else .clock, phase := phase, phaseAt := s.now, lastPhase := phase,
                               attempt := 1, limpAttempt := 0 } }

/-- Limp training starts from CLOCK, lane 0 of each direction alone (R536). -/
def Blk.startLimp (s : Blk) (attempt : Nat) : Blk :=
  let s := s.leaveUp.clearLanes
  { s with lnk := { s.lnk with state := .limpTrain, phase := 2, phaseAt := s.now, lastPhase := max 2 s.lnk.lastPhase, attempt := 1,
                               limpAttempt := attempt } }

/-- A training of its own in limp mode (R537, R539). -/
def Blk.trainLimp (s : Blk) : Blk :=
  let s := (s.bump Reg.LNK_TRAINS 15 0 1).startLimp 1
  { s with lnk := { s.lnk with lastPhase := 2 } }

/-- The link trains again (R534, R537): from CLOCK while the clock is present, otherwise from DETECT; in Coppice in limp mode
only (R539). -/
def Blk.retrain (s : Blk) : Blk :=
  if !s.lnk.ckPresent then s.startTraining 1 else if s.coppice then s.trainLimp else s.startTraining 2

/-- The ring's source changes (R517, R552, R553). -/
def Blk.ringSource (s : Blk) (forward : Bool) : Blk :=
  if s.lnk.ckForward = forward then s
  else (({ s with lnk := { s.lnk with ckForward := forward } } : Blk).bump Reg.LNKCK_CK_EVENTS 31 16 1).event 0x10 1 0x0000

/-- STANDALONE (R536): the ring stays on the crystal. -/
def Blk.standalone (s : Blk) : Blk :=
  let s := ((s.leaveUp.clearLanes.ringSource false).raise 0x2023).touch [6]
  { s with lnk := { s.lnk with state := .standalone, attempt := 1, ckLocked := false } }

/-- The link is up (R535): up to four aligned lanes of each direction become active, the lowest physical numbers first, the
next one the spare; the others have failed. Numbering and credit start anew (R529). -/
def giveRoles (max : Nat) (rx tx : Nat) (lanes : List LaneSt) : List LaneSt :=
  let role (mask i : Nat) : LaneRole :=
    let below := popcount i mask
    if !bitN mask i then .failed else if below < max then .active else if max = 4 && below = max then .spare else .off
  lanes.zipIdx.map (fun (l, i) => { l with rx := role rx i, tx := role tx i })

/-! ### Control blocks (R520, R521) -/

/-- A lane's role in a direction. -/
def LaneSt.role (l : LaneSt) (tx : Bool) : LaneRole := if tx then l.tx else l.rx
/-- A lane's role set. -/
def LaneSt.setRole (l : LaneSt) (tx : Bool) (r : LaneRole) : LaneSt := if tx then { l with tx := r } else { l with rx := r }

/-- The physical lanes of a role in a direction. -/
def Blk.lanesOf (s : Blk) (tx : Bool) (r : LaneRole) : List Nat := (List.range 5).filter (fun l => (s.lane l).role tx = r)

/-- The stripes the engine has sent by now: one in 5.28 ns, in limp mode in 21.12 ns (R519, R521). -/
def Blk.stripeNow (s : Blk) : Nat :=
  s.lnk.stripeNo + (s.now - s.lnk.stripeAt) * (if s.lnk.state = .limpUp then 5 else 20) / 33

/-- Transmit lanes that carry blocks while the link is up: the active ones and the spare. -/
def Blk.liveTx (s : Blk) : List Nat := (List.range 5).filter (fun l => (s.lane l).tx = .active || (s.lane l).tx = .spare)

/-- An ALIGN block: the lane's physical number, its logical index (a free value on the spare, which has none), the number of active
lanes, the map version and the stripe count (R520, R521). -/
def Blk.alignBlock (s : Blk) (l n : Nat) : List Byte :=
  let active := s.lanesOf true .active
  let idx := if active.contains l then (active.filter (· < l)).length else (Config.reading (Reg.LNK_LANE_STATE l) n).toNat % 256
  le 1 0x4B ++ le 1 l ++ le 1 idx ++ le 1 active.length ++ le 1 s.lnk.txVer ++ le 3 n

/-- A stripe of ALIGN blocks now: the schedule of R521 goes on from it. -/
def Blk.alignStripe (s : Blk) : List Wire := s.liveTx.map (fun l => .block l (s.alignBlock l s.stripeNow))

/-- The stripe goes out. -/
def Blk.sendAlign (s : Blk) : Blk :=
  let n := s.stripeNow
  let s := s.sendAll s.alignStripe
  { s with lnk := { s.lnk with stripeAt := s.now, stripeNo := n } }

/-- A TRAIN block: phase, lane, the flags ready and limp, attempt (R520, R535). -/
def Blk.trainBlock (s : Blk) (l : Nat) : List Byte :=
  let limp := s.lnk.state = .limpTrain
  le 1 0x2D ++ le 1 (if s.lnk.state = .detect then 1 else s.lnk.phase) ++ le 1 l ++
    le 1 (b2n (s.lnk.state != .detect && s.lnk.phase = 5) + 2 * b2n limp) ++ le 1 (if limp then s.lnk.limpAttempt else s.lnk.attempt) ++
    zeros 3

/-- What a transmit lane carries in a stripe that no packet and no out-of-schedule block takes (R521, R523, R535): TRAIN blocks in
training; with the link up ALIGN every 1 024 stripes, on the spare lane too, and IDLE; otherwise nothing. -/
def Blk.restBlock (s : Blk) (l n : Nat) : List Byte :=
  match s.lnk.state with
  | .down => []
  | .standalone => []
  | .up => upBlock
  | .limpUp => upBlock
  | .limpTrain => if l = 0 then s.trainBlock l else []
  | .detect => s.trainBlock l
  | .clock => s.trainBlock l
  | .align => s.trainBlock l
  | .eq => s.trainBlock l
  | .confirm => s.trainBlock l
where
  /-- While the link is up. -/
  upBlock : List Byte :=
    if !s.liveTx.contains l then []
    else if n % 1024 = s.lnk.stripeNo % 1024 then s.alignBlock l n
    else le 1 0x1E ++ zeros 7

/-- The link enters UP or LIMP_UP at an ALIGN stripe (R535). -/
def Blk.enterUp (s : Blk) (limp : Bool) (rx tx : Nat) : Blk :=
  let lanes := giveRoles (if limp then 1 else 4) (if limp then rx % 2 else rx) (if limp then tx % 2 else tx) s.lnk.lanes
  let lanes := if limp then lanes.zipIdx.map (fun (l, i) => if i = 0 then l else { l with rx := .off, tx := .off }) else lanes
  let s := { s with lnk := { s.lnk with
    state := if limp then .limpUp else .up, lanes := lanes, mapVer := 1, txVer := 1, stripeAt := s.now, stripeNo := 0,
    txSeq := 0, rxSeq := 0, retry := [], replayQ := [], creditLeft := 0,
    granted := 0, unacked := 0, nakAt := none, faultAt := none, replayedAt := none, lastAckIn := s.now, lastAckOut := s.now } }
  let clear (s : Blk) (tx : Bool) (bit : Nat) : Blk :=
    if s.laneSpare tx then s.setN Reg.UST_DEGRADED (putBit (s.regN Reg.UST_DEGRADED) bit false) else s
  (clear (clear s false 2) true 3).sendAlign

/-- DETECT looks for the clock and for termination on at least 3 transmit lanes (R535); in Coppice training goes on in
limp mode (R539). -/
def detectCheck (lanes : Nat) (s : Blk) : Blk :=
  if s.lnk.state != .detect || !s.lnk.ckPresent || popcount 5 lanes < 3 || !s.domReady 6 then s
  else if s.coppice || s.sys.coppiceStart then s.startLimp 1
  else { s with lnk := { s.lnk with state := .clock, phase := 2, phaseAt := s.now, lastPhase := max 2 s.lnk.lastPhase, attempt := 1 } }

/-- DETECT_CHECK (R535). -/
def execDetectCheck (dt lanes : Nat) (s : State) : Host.Outcome State Fault Refusal := done s (detectCheck lanes (s.blk.elapse dt))

/-- The state of a training phase. -/
def phaseState (phase : Nat) : LinkState :=
  match phase with
  | 2 => .clock
  | 3 => .align
  | 4 => .eq
  | _ => .confirm

/-- The phase's exit condition as its lanes show it: at least 3 lanes of each direction, or lane 0 of each in limp mode. -/
def enoughLanes (limp : Bool) (i : TrainInfo) : Bool :=
  if limp then bitN i.rxLanes 0 && bitN i.txLanes 0 else 3 ≤ popcount 5 i.rxLanes && 3 ≤ popcount 5 i.txLanes

/-- The setting EQ applies, in dB: the one with the largest count of open points, the lower on a tie (R545). -/
def eqSetting (counts : List Nat) : Nat :=
  counts.findIdx (fun n => n == counts.foldl max 0) % 16

/-- What a phase leaves in the lanes: lock, alignment with numbers and polarity, the equaliser setting (R518, R535, R545,
R546); a lock that ALIGN no longer finds has been lost (R551), and a lane that EQ or CONFIRM no longer has is not aligned. -/
def Blk.phaseLanes (s : Blk) (phase : Nat) (i : TrainInfo) : Blk :=
  let lanes := s.lnk.lanes.zipIdx.map (fun (l, n) =>
    if phase = 2 then { l with lock := bitN i.rxLanes n }
    else if phase = 3 then { l with lock := bitN i.rxLanes n, aligned := bitN i.rxLanes n, inverted := bitN i.inverted n, partner := i.partner.getD n n % 8 }
    else { l with aligned := l.aligned && bitN i.rxLanes n })
  let s := (List.range 5).foldl (fun s n =>
    if phase = 3 && (s.lane n).lock && !bitN i.rxLanes n then s.bump (Reg.LNK_ERRORS n) 31 16 1 else s) s
  let s := { s with lnk := { s.lnk with lanes := lanes } }
  if phase = 4 then
    (List.range 5).foldl (fun s n =>
      if !(s.lane n).aligned then s
      else
        let c := s.regN (Reg.LNK_CTLE_CFG n)
        (s.setF (Reg.LNK_CTLE n) 3 0 (if bitN c 4 then fld c 3 0 else eqSetting (i.peaks.getD n []))).updLane n (fun l =>
          { l with trial := 0, openPts := 0, lowEyes := 0 })) s
  else s

/-- A training phase ends and the next begins; after CONFIRM the link is up (R535). At CLOCK the ring switches to the
forwarded clock (R517). -/
def trainPhaseDone (i : TrainInfo) (s : Blk) : Blk :=
  let limp := s.lnk.state = .limpTrain
  let training := limp || s.lnk.state = .clock || s.lnk.state = .align || s.lnk.state = .eq || s.lnk.state = .confirm
  if !training || !enoughLanes limp i then s
  else
    let p := s.lnk.phase
    let s := s.phaseLanes p i
    let s := if p = 2 then { s.ringSource true with lnk := { (s.ringSource true).lnk with ckLocked := true, holdover := none } } else s
    if 5 ≤ p then s.enterUp limp i.rxLanes i.txLanes
    else { s with lnk := { s.lnk with
      phase := p + 1, phaseAt := s.now, lastPhase := max s.lnk.lastPhase (p + 1), attempt := 1,
      state := if limp then .limpTrain else phaseState (p + 1) } }

/-- TRAIN_PHASE_DONE (R535). -/
def execTrainPhaseDone (dt : Nat) (info : TrainInfo) (s : State) : Host.Outcome State Fault Refusal :=
  done s (trainPhaseDone info (s.blk.elapse dt))

/-- A phase makes no progress for 10 ms (R535, R536): retried, then limp mode, then STANDALONE. -/
def lnkTrainTimeout (s : Blk) : Blk :=
  let limp := s.lnk.state = .limpTrain
  let phase := s.lnk.state = .clock || s.lnk.state = .align || s.lnk.state = .eq || s.lnk.state = .confirm
  if !(limp || phase) || s.now < s.lnk.phaseAt + 3125000 then s
  else
    let s := (s.bump Reg.LNK_TRAINS 31 16 1).raise 0x2021
    if limp then (if s.lnk.limpAttempt < 2 then s.startLimp 2 else s.standalone)
    else if s.lnk.attempt < 3 then { s with lnk := { s.lnk with attempt := s.lnk.attempt + 1, phaseAt := s.now } }
    else (s.raise 0x2022).startLimp 1

/-- LNK_TRAIN_TIMEOUT (R536). -/
def execLnkTrainTimeout (dt : Nat) (s : State) : Host.Outcome State Fault Refusal := done s (lnkTrainTimeout (s.blk.elapse dt))

/-- No ACK or NAK for 1 ms: the link goes down and retrains (R534). -/
def linkAckLoss (s : Blk) : Blk := if s.linkUp && s.lnk.lastAckIn + 312500 ≤ s.now then s.retrain else s

/-- LINK_ACK_LOSS (R534). -/
def execLinkAckLoss (dt : Nat) (s : State) : Host.Outcome State Fault Refusal := done s (linkAckLoss (s.blk.elapse dt))

/-- A write of 1 to LNK.CTL.retrain: training starts at DETECT, unless the link is held down (R537, R548). -/
def Blk.retrainByWrite (s : Blk) : Blk := if bitN (s.regN Reg.LNK_CTL) 1 then s else s.startTraining 1

/-- LNK.CTL.hold_down written (R548): the link goes down and stays down, or trains again; STANDALONE stays (R537). -/
def Blk.holdDown (s : Blk) (v : Bool) : Blk :=
  let old := bitN (s.regN Reg.LNK_CTL) 1
  let s := s.setF Reg.LNK_CTL 1 1 (b2n v)
  if v = old || s.lnk.state = .standalone then s
  else if v then
    let s := s.leaveUp.clearLanes.touch [6]
    { s with lnk := { s.lnk with state := .down } }
  else s.startTraining 1

/-! ### Clocks (R517, R537) -/

/-- The forwarded clock has stayed within tolerance for 20 µs; after 100 ms without it STANDALONE ends (R517, R537). -/
def clockPresent (s : Blk) : Blk :=
  if s.lnk.ckPresent then s
  else
    let long := match s.lnk.absentAt with | some t => decide (t + 31250000 ≤ s.now) | none => false
    let s := { s with lnk := { s.lnk with ckPresent := true, absentAt := none } }
    if s.lnk.state = .standalone && long && !bitN (s.regN Reg.LNK_CTL) 1 then s.startTraining 1 else s

/-- CLOCK_PRESENT (R517). -/
def execClockPresent (dt : Nat) (s : State) : Host.Outcome State Fault Refusal := done s (clockPresent (s.blk.elapse dt))

/-- The forwarded clock is lost (R517): holdover begins, and the link returns to DETECT but from STANDALONE and while it is
held down (R537, R548). -/
def lnkClockLost (s : Blk) : Blk :=
  if !s.lnk.ckPresent then s
  else
    let s := (s.bump Reg.LNKCK_CK_EVENTS 15 0 1).raise 0x2051
    let hold := if s.lnk.ckForward then some s.now else s.lnk.holdover
    let s := { s with lnk := { s.lnk with ckPresent := false, ckLocked := false, absentAt := some s.now, holdover := hold } }
    if s.lnk.state = .standalone || s.lnk.state = .down then s else s.startTraining 1

/-- LNK_CLOCK_LOST (R517). -/
def execLnkClockLost (dt : Nat) (s : State) : Host.Outcome State Fault Refusal := done s (lnkClockLost (s.blk.elapse dt))

/-- The ring leaves holdover for the crystal (R517). -/
def crystalSwitch (s : Blk) : Blk :=
  match s.lnk.holdover with
  | none => s
  | some t =>
    let s := (s.ringSource false).atLeast Reg.LNKCK_HOLDOVER 15 0 (s.now - t)
    { s with lnk := { s.lnk with holdover := none } }

/-- CRYSTAL_SWITCH (R517). -/
def execCrystalSwitch (dt : Nat) (s : State) : Host.Outcome State Fault Refusal := done s (crystalSwitch (s.blk.elapse dt))

/-! ### Lane failover (R540 to R543) -/

/-- The active set of a direction as a mask. -/
def Blk.activeMask (s : Blk) (tx : Bool) : Nat := ((s.lanesOf tx .active).map (2 ^ ·)).foldl (· + ·) 0

/-- An active lane of a direction leaves with a role, and the spare takes its place if there is one: whether it did. -/
def Blk.replaceLane (s : Blk) (tx : Bool) (l : Nat) (r : LaneRole) : Bool × Blk :=
  let s' := s.updLane l (fun x => x.setRole tx r)
  match s.lanesOf tx .spare with
  | k :: _ => (true, s'.updLane k (fun x => x.setRole tx .active))
  | [] => (false, s')

/-- A direction without a spare has lost a lane: it runs on 3 lanes; with fewer the link retrains (R537, R542). -/
def Blk.laneShort (s : Blk) (tx : Bool) (l : Nat) : Blk :=
  let s := s.exhausted .lane (if tx then 16 + l else l)
  if (s.lanesOf tx .active).length < 3 then s.retrain else s.raise 0x2013

/-- A failed receive lane in UP: the spare takes an active one's place, or the direction is short of lanes (R542); the spare's own
loss leaves the active set as it is. -/
def Blk.laneGone (s : Blk) (l : Nat) : Blk :=
  if (s.lane l).rx = .spare then s.updLane l (fun x => { x with rx := .failed })
  else
    let (spared, s) := s.replaceLane false l .failed
    if spared then (s.raise 0x2012).recoveryStats s.now else s.laneShort false l

/-- The RESTRIPE blocks that name the partner's new active set, one on every healthy transmit lane (R520, R540). -/
def Blk.restripeBlocks (s : Blk) (lost : Nat) : List Wire :=
  s.liveTx.map (fun k => .block k (le 1 0x55 ++ le 1 (s.activeMask false) ++ le 1 s.lnk.mapVer ++ le 1 lost ++ zeros 4))

/-- A re-stripe of the receive direction begins: a new map version and its RESTRIPE blocks. -/
def Blk.sendRestripe (s : Blk) (lost : Nat) : Blk :=
  let s := { s with lnk := { s.lnk with mapVer := (s.lnk.mapVer + 1) % 256 } }
  s.sendAll (s.restripeBlocks lost)

/-- A receive lane is lost (R540): 8 invalid headers, or its lock. In UP a RESTRIPE names the new set, and
a NAK the first lseq that is lacking (R541; log 65); in LIMP_UP limp training starts again. -/
def lnkLaneLost (l : Nat) (lock : Bool) (s : Blk) : Blk :=
  let role := (s.lane l).rx
  if !s.linkUp || 5 ≤ l || !(role = .active || role = .spare) then s
  else
    let s := if lock then s.bump (Reg.LNK_ERRORS l) 31 16 1 else s.bump (Reg.LNK_ERRORS l) 15 0 8
    let s := (s.raise 0x2011).updLane l (fun x => { x with lock := false, aligned := false })
    if s.lnk.state = .limpUp then (s.updLane l (fun x => { x with rx := .failed })).trainLimp
    else
      let s := s.laneGone l
      if !s.linkUp then s
      else
        let s := (s.bump Reg.LNK_FAILOVERS 7 0 1).sendRestripe l
        if role = .spare then s else ({ s with lnk := { s.lnk with faultAt := some s.now } } : Blk).sendNak

/-- LNK_LANE_LOST (R540). -/
def execLnkLaneLost (dt lane : Nat) (lock : Bool) (s : State) : Host.Outcome State Fault Refusal :=
  done s (lnkLaneLost lane lock (s.blk.elapse dt))

/-- A trained transmit lane under a new active set: active, or the spare (R515). -/
def LaneSt.restriped (x : LaneSt) (on : Bool) : LaneSt :=
  if x.tx = .active || x.tx = .spare then { x with tx := if on then .active else .spare } else x

/-- The lanes a RESTRIPE activates: those it names that are trained, four at most, the lowest first (R515, R541). -/
def Blk.restripeSet (s : Blk) (mask : Nat) : List Nat := (s.liveTx.filter (bitN mask)).take 4

/-- A RESTRIPE block from the partner (R541): the engine applies the named set to its transmit lanes with an
out-of-schedule ALIGN stripe; a lane that was lost stays failed until the next training, an exchanged one is the spare. -/
def restripe (mask ver lost : Nat) (s : Blk) : Blk :=
  if s.lnk.state != .up then s
  else
    let before := s.lanesOf true .active
    let s : Blk := if lost < 5 then s.updLane lost (fun x => { x with tx := .failed }) else s
    let on := s.restripeSet mask
    let lanes : List LaneSt := s.lnk.lanes.zipIdx.map (fun p => p.1.restriped (on.contains p.2))
    let s := ({ s with lnk := { s.lnk with txVer := ver, lanes := lanes } } : Blk).sendAlign
    let s : Blk := if lost = 0xFF then s.bump Reg.LNK_FAILOVERS 15 8 1 else s.bump Reg.LNK_FAILOVERS 7 0 1
    if on.any (fun l => !before.contains l) then (s.raise 0x2012).recoveryStats s.now
    else if before.contains lost then s.laneShort true lost
    else if on.length < 3 then s.retrain
    else s

/-- RESTRIPE (R541). -/
def execRestripe (dt mask ver lost : Nat) (s : State) : Host.Outcome State Fault Refusal :=
  done s (restripe mask ver lost (s.blk.elapse dt))

/-- A lane with a narrow eye is exchanged for the spare (R543): a RESTRIPE without a lane lost, and no packet is lost. -/
def Blk.exchangeLane (s : Blk) (l : Nat) : Bool × Blk :=
  if s.lnk.state != .up || (s.lane l).rx != .active then (false, s)
  else
    let (ok, t) := s.replaceLane false l .spare
    if !ok then (false, s) else (true, ((t.sendRestripe 0xFF).bump Reg.LNK_FAILOVERS 15 8 1).raise 0x2012)

end Sys2Proof.Machine
end

