-- ==== Sys2Proof/Machine/Starts.lean ====
section
/-! DEFINITION. Starts (17 R625 to R630; 18 R662, R664): what a reset ends and keeps, the time it carries over, the start
phases, failed starts and Coppice, the SYS page's commands, and the thermal limits (17 R640). -/
namespace Sys2Proof.Machine

/-! ### Time across a stop of the ring (16 R613 to R616) -/

/-- The bound of one sleep in ns (R614), from the ticks added. -/
def sleepBound (added : Nat) (trusted : Bool) : Nat :=
  (if trusted then ceilDiv (added * 16) 10000 else ceilDiv (added * 64) 1000) + 256

/-- The ring stops: timestamp and AON count are captured at the same AON edge (R601, R615). -/
def Blk.stopRing (s : Blk) : Blk :=
  if s.time.ringRuns then
    { s with time := { s.time with ringRuns := false, capT := s.now, capA := s.time.aon, capNominal := s.time.nominal, tempOk := true } }
  else s

/-- The ring runs again: the counter takes the time of R613, and the bound of R614 is kept; from 0 with time invalid after a
loss of VDD_AON (R616). The photodiode sampling epoch is fixed anew (07 R256). -/
def Blk.startRing (s : Blk) : Blk :=
  if s.time.ringRuns then s
  else
    let s := { s with pd := { s.pd with epoch := 4 * ceilDiv s.now 4 } }
    if s.time.lost then
      ({ s with time := { s.time with ringRuns := true, lost := false, valid := false, windowFrom := s.now } } : Blk).raise 0x1041
    else
      let t := s.time.at s.time.aon
      let added := t - s.time.capT
      let trusted := s.time.tempOk && !s.time.capNominal
      let b := sleepBound added trusted
      let s := { s with now := t,
                        time := { s.time with ringRuns := true, windowFrom := t, lastAdded := added, lastBound := b, uncert := sat 64 (s.time.uncert + b),
                                              excursion := !trusted } }
      if trusted then s else s.raise 0x1043

/-! ### What a reset keeps -/

/-- Registers a start leaves alone: those in the non-volatile store (17 R627, R628; 10 R373), readings of the outside, the
chain address (13 R497), and the pages Coppice keeps (17 R630). -/
def keptReg (a : Nat) : Bool :=
  a = Reg.SYS_FAILED_STARTS || a = Reg.SYS_STARTS || (Reg.SYS_START_HIST_A 0 ≤ a && a ≤ Reg.SYS_START_HIST_B 3) ||
  a = Reg.THM_POWER_CYCLES || a = Reg.TMB_TEMP || a = Reg.CHN_ADDR ||
  (Reg.ADM_CAL_LIT_REF 0 ≤ a && a ≤ Reg.ADM_CAL_LIT_REF 7) ||
  pageOf a = 0x1A || pageOf a = 0x1B || pageOf a = 0x33

/-- A Tally page. -/
def tallyPage (p : Nat) : Bool := p = 0x50 || p = 0x51 || p = 0x52

/-- The loops' schedules, the refresh windows and every other period of the block run from now (16 R601, R608). -/
def Blk.fromNow (s : Blk) : Blk :=
  let rank (k : RankSt) : RankSt := { k with nextDue := s.now + k.interval, winAt := s.now, touched := s.now, mr4At := s.now }
  let chan (c : MemCh) : MemCh := { c with ranks := c.ranks.map rank, chunkEnd := s.now }
  let loop (k : LitLoop) : LitLoop := { k with lastSlot := s.now, since := 0 }
  let dom (d : DomSt) : DomSt := { d with touched := s.now }
  { s with
    doms := s.doms.map dom,
    mem := { s.mem with chans := s.mem.chans.map chan },
    cal := { s.cal with origin := s.now, lastRun := [], waiting := [], shareWait := [], lit := s.cal.lit.map loop },
    lit := { s.lit with diagAt := s.now } }

/-- All work ends (18 R662): what remains is time, Tally, the keys, the non-volatile store, the levels on the pins and the
clock on the link. `tally` — Tally's own registers are reset with it. -/
def Blk.fresh (s : Blk) (tally : Bool) : Blk :=
  { now := s.now, free := s.free, time := s.time, tly := s.tly, wire := s.wire,
    regs := s.regs.filter (fun p => keptReg p.1 || (!tally && tallyPage (pageOf p.1))),
    ses := { opKey := s.ses.opKey, svcKey := s.ses.svcKey, sealKey := s.ses.sealKey, nonces := s.ses.nonces },
    ust := { keySpared := s.ust.keySpared },
    gpc := { level := s.gpc.level }, sns := { level := s.sns.level, levelAt := s.sns.levelAt },
    pd := { epoch := s.pd.epoch },
    pwr := { hotStop := s.pwr.hotStop },
    sys := { mode := .starting, phase := 0, coppiceStart := s.sys.coppiceStart },
    lnk := { state := .down, lanes := List.replicate 5 {}, phase := 1, lastPhase := 1, ckPresent := s.lnk.ckPresent, ckLocked := false,
             ckForward := false, absentAt := s.lnk.absentAt } }

/-- A start begins at S1 (17 R625). -/
def Blk.beginStart (s : Blk) (tally : Bool) : Blk :=
  let s := (s.fresh tally).startRing
  let s := { s with sys := { s.sys with phase := 1 } }
  (s.count Reg.SYS_STARTS 1).fromNow

/-! ### PORST_N and the supplies (17 R625; 18 R662, R664; 16 R610, R615, R616) -/

/-- PORST_N is asserted: all work ends, a start in progress is abandoned, time is captured (18 R662). After a halt the next
start is a Coppice start (17 R629); otherwise the failed-start count decides. -/
def Blk.holdReset (s : Blk) : Blk :=
  let s := s.stopRing
  let halted := decide (s.sys.mode = .halted)
  let s := (s.fresh true).setN Reg.CHN_ADDR 0
  { s with pwr := { s.pwr with mode := .reset }, sys := { s.sys with coppiceStart := halted } }

/-- PORST_ASSERT. -/
def porstAssert (s : Blk) : Blk := if s.pwr.mode = .reset then s else s.holdReset

/-- PORST_ASSERT (R662). -/
def execPorstAssert (dt : Nat) (s : State) : Host.Outcome State Fault Refusal := done s (porstAssert (s.blk.elapse dt))

/-- PORST_N is released: a start from S1 begins, the ring runs, and Tally restarts (R615, R625; 09 R328). -/
def porstRelease (storeOk : Bool) (s : Blk) : Blk :=
  if s.pwr.mode != .reset then s
  else
    let s := (s.beginStart true).count Reg.THM_POWER_CYCLES 1
    if s.tly.supplied then s.tallyRestart storeOk 1 else s

/-- PORST_RELEASE (R625). -/
def execPorstRelease (dt : Nat) (storeOk : Bool) (s : State) : Host.Outcome State Fault Refusal :=
  done s (porstRelease storeOk (s.blk.elapse dt))

/-- What leaves with the supplies (16 R610): everything but the non-volatile store and what VDD_TLY keeps; the measurement
store lies outside Tally's partition (09 R350). -/
def Blk.powerLost (s : Blk) : Blk :=
  let s := s.holdReset
  { s with regs := s.regs.filter (fun p => pageOf p.1 != 0x1A && pageOf p.1 != 0x1B && pageOf p.1 != 0x33),
           tly := { s.tly with store := [] } }

/-- VDD_AON rises after a loss: the counter will start from 0 with time invalid (R616). -/
def aonPowerOn (s : Blk) : Blk :=
  let s := s.powerLost
  { s with now := 0, time := { ringRuns := false, lost := true, valid := false, worked := s.time.worked }, sys := { s.sys with coppiceStart := false } }

/-- AON_POWER_ON (R616). -/
def execAonPowerOn (dt : Nat) (s : State) : Host.Outcome State Fault Refusal := done s (aonPowerOn (s.blk.elapse dt))

/-- A rail leaves its range (R664), numbered in the order of R659: 2 is VDD_TLY, whose loss Tally meets at the next start
(09 R347); every other has the effects of a removal without Off (R610). -/
def supplyOutOfRange (rail : Nat) (s : Blk) : Blk :=
  if rail = 2 then ({ s with tly := { s.tly with supplied := false, tampOwed := [] } } : Blk).closeSeal else if rail < 9 then s.powerLost else s

/-- SUPPLY_OUT_OF_RANGE (R664). -/
def execSupplyOutOfRange (dt rail : Nat) (s : State) : Host.Outcome State Fault Refusal :=
  done s (supplyOutOfRange rail (s.blk.elapse dt))

/-! ### The phases (R625 to R629) -/

/-- The outcome of a start enters the history (R628). -/
def Blk.noteStart (s : Blk) (phase attempts : Nat) (ready coppice : Bool) (code : Nat) : Blk :=
  let a := phase + 8 * b2n ready + 16 * b2n coppice + 256 * (attempts % 4) + 65536 * code
  let s := [3, 2, 1].foldl (fun s n =>
    (s.setN (Reg.SYS_START_HIST_A n) (s.regN (Reg.SYS_START_HIST_A (n - 1)))).setN (Reg.SYS_START_HIST_B n) (s.regN (Reg.SYS_START_HIST_B (n - 1)))) s
  let s := (s.setN (Reg.SYS_START_HIST_A 0) a).setN (Reg.SYS_START_HIST_B 0) (s.regN Reg.SYS_STARTS)
  { s with sys := { s.sys with phase := phase } }

/-- A failed start (R627): 0xA071, the count, and then another start after 100 ms, a Coppice start, or the halt (R629). -/
def Blk.failStart (s : Blk) (phase attempts : Nat) (coppice halts : Bool) (code : Nat) : Blk :=
  let s := ((s.raise code).raise 0xA071).bump Reg.SYS_FAILED_STARTS 7 0 1
  let s := s.noteStart phase attempts false coppice code
  if halts then { s with sys := { s.sys with mode := .halted } }.raise 0xA091
  else if s.regF Reg.SYS_FAILED_STARTS 7 0 < 3 then { s with sys := { s.sys with retryAt := some s.now } }
  else { s with sys := { s.sys with coppiceStart := true } }.beginStart false

/-- The code of a failed S3 (R625). -/
def s3Code (part : Nat) : Nat := match part with | 1 => 0x4031 | 2 => 0x4032 | _ => 0xA031

/-- The density that MR8 reports of a device, as JESD209-4 lays it out: 8 Gb a channel and rank (`false`) or 16 Gb (R554; log 105). -/
def mr8Dense (w : Nat) : Option Bool := match fld w 29 26 with | 4 => some false | 6 => some true | _ => none

/-- A device is listed in R554: its density, 16 bits wide, S16 SDRAM. -/
def mr8Listed (w : Nat) : Bool := (mr8Dense w).isSome && fld w 31 30 = 0 && fld w 25 24 = 0

/-- The devices found are supported (15 R554, R555): alike in density, and on both channels in rank count. -/
def trainable (m : MemTrain) : Bool :=
  m.lp4x && (m.ranksA.length = 1 || m.ranksA.length = 2) && m.ranksB.length = m.ranksA.length &&
  (m.ranksA ++ m.ranksB).all (fun w => mr8Listed w && mr8Dense w = mr8Dense (m.ranksA.headD 0))

/-- The data rates of R556, highest first. -/
def memRates : List Nat := [4266, 3733, 3200, 2400]

/-- How training ends (15 R580): 0 or the fault, the last step reached, the attempts at it, and how often the rate has fallen. -/
structure TrainEnd where
  fault : Nat
  step : Nat
  attempts : Nat
  falls : Nat
deriving DecidableEq, Repr

/-- Training at the rates from the one numbered `i` on, so many as there are left: a step that fails three times sends it to the next
lower rate; devices that are not supported end it in step 1. -/
def trainFrom (m : MemTrain) : Nat → Nat → TrainEnd
  | 0, i => { fault := 0x3041, step := 1, attempts := 3, falls := i }
  | n + 1, i =>
    let fail (k : Nat) : Nat := m.fails.getD (8 * i + k) 0
    if fail 0 < 3 && !trainable m then { fault := 0x3042, step := 1, attempts := fail 0 + 1, falls := i }
    else match (List.range 8).find? (fun k => 3 ≤ fail k) with
      | none => { fault := 0, step := 8, attempts := fail 7 + 1, falls := i }
      | some k => if n = 0 then { fault := 0x3041, step := k + 1, attempts := 3, falls := i } else trainFrom m n (i + 1)

/-- How training ends. -/
def trainEnd (m : MemTrain) : TrainEnd := trainFrom m 4 0

/-- S4 leaves its results (15 R555 to R557, R562, R580, R587): the organisation, the rate, what training found and wrote, and every rank's
refresh, disturbance window and MR4 reading from now on. -/
def Blk.memTrained (s : Blk) (m : MemTrain) : Blk :=
  let e := trainEnd m
  let rate := memRates.getD e.falls 2400
  let two := m.ranksA.length = 2
  let dense := (mr8Dense (m.ranksA.headD 0)).getD false
  let s := s.setN Reg.MEM_CONFIG ((if two then 2 else 1) + 4 * b2n dense + 65536 * rate)
  let s := (s.setN Reg.MEM_DEVICE_A (m.ranksA.headD 0)).setN Reg.MEM_DEVICE_B (m.ranksB.headD 0)
  let s := s.setN Reg.MEMT_TRAIN_STATUS (e.step + 16 * b2n (e.fault = 0) + 32 * e.attempts + 256 * e.falls)
  let s := (s.setN Reg.MEMT_TRAIN_TIME (sat 16 m.time)).setN Reg.MEMT_VREF m.vref
  let n := if two then 2 else 1
  let s := (s.setF Reg.MEMT_DQS_A 15 0 (m.dqs.getD 0 0)).setF Reg.MEMT_DQS_B 15 0 (m.dqs.getD n 0)
  let rank (i : Nat) : RankSt :=
    { nextDue := s.now + 1220, winAt := s.now, mr4At := s.now, touched := s.now, dqsDelay := (dqsDelayOf rate (m.dqs.getD i 0)).getD 0 }
  let chan (c : Nat) : MemCh := { ranks := (List.range n).map (fun r => rank (n * c + r)) }
  let slots := if two && dense then 362 else if two || dense then 163 else 63
  let (rl, wl, wr) := Config.memLatency rate
  let s := { s with mem := { s.mem with
    chans := [chan 0, chan 1], slots := slots, scrubFrom := s.now,
    modes := some { readLatency := rl, writeLatency := wl, nWR := wr } } }
  if e.falls != 0 then s.raise 0x3043 else s

/-- S5 ends (R626; 14 R535 to R539): the link's state, or training goes on at DETECT. -/
def Blk.linkPhase (s : Blk) (coppice : Bool) (link furthest : Nat) (i : TrainInfo) : Blk :=
  let s := s.startTraining 1
  let limp := link = 2 || (link = 1 && coppice)
  if link = 3 then
    let s := (s.bump Reg.LNK_TRAINS 31 16 (if coppice then 2 else 5)).raise 0x2021
    let s := (if coppice then s else s.raise 0x2022).standalone
    { s with lnk := { s.lnk with lastPhase := furthest, limpAttempt := 2 } }
  else if (link = 1 || link = 2) && enoughLanes limp i then
    let s : Blk := if limp && !coppice then ((s.bump Reg.LNK_TRAINS 31 16 3).raise 0x2021).raise 0x2022 else s
    let s := ((s.phaseLanes 2 i).phaseLanes 3 i).phaseLanes 4 i
    let s := { s with lnk := { s.lnk with ckPresent := true, ckLocked := true, ckForward := true, absentAt := none, lastPhase := 5,
                                          limpAttempt := b2n limp } }
    s.enterUp limp i.rxLanes i.txLanes
  else s

/-- The engines that pass their vectors enter service (R626): a spare takes the place of each of the 16 that fails. -/
def Blk.enginesTested (s : Blk) (pass : Nat) : Blk :=
  let drop (s : Blk) (e : Nat) : Blk := if bitN pass e then s else s.retireEngine e
  let take (s : Blk) (e : Nat) : Blk :=
    if bitN pass e then s
    else
      match s.spareEngines with
      | k :: _ =>
        let s := s.setN Reg.DECC_SPARE (putBit (s.regN Reg.DECC_SPARE) k false)
        (s.setN Reg.DECC_ACTIVE (putBit (s.regN Reg.DECC_ACTIVE) k true)).raiseAt (0x20 + e) 0x5021
      | [] => (s.raise 0x5022).exhausted .engine e
  let s := (List.range 18).foldl drop s
  (List.range 16).foldl take s

/-- A bad row of an SRAM macro takes one of its spare rows. -/
def Blk.sramRow (s : Blk) (m : Nat) : Blk :=
  let n := s.sramUsed m + 1
  ({ s with ust := { s.ust with sramUsed := (m, n) :: s.ust.sramUsed.filter (fun p => p.1 != m) } } : Blk).raise 0x3071

/-- Spare rows are left in a macro. -/
def Blk.sramLeft (s : Blk) (m : Nat) : Bool := s.sramUsed m < (Config.sramSpares m).toNat

/-- The march on the SRAM macros: none without spare rows fails, or 0xA061 (R626). -/
def Blk.sramMarch (s : Blk) (l : List Nat) : Bool × Blk :=
  l.foldl (fun p m => if !p.1 then p else if p.2.sramLeft m then (true, p.2.sramRow m) else (false, p.2)) (true, s)

/-- Each decode engine's domain is powered when it is one of `on`. -/
def Blk.powerEngines (s : Blk) (on : Nat) : Blk :=
  (List.range 18).foldl (fun s e => if bitN on e then (s.wakeDom (0x10 + e)).readyDom (0x10 + e) else s.gateDom (0x10 + e)) s

/-- S7: ready (R625; 11 R427), with the failed-start count at 0 (R627). -/
def Blk.startReady (s : Blk) : Blk :=
  let s := { s with regs := s.regs.filter (fun p => pageOf p.1 != 0x1A && pageOf p.1 != 0x1B && pageOf p.1 != 0x33) }
  let s := (s.setN Reg.SYS_FAILED_STARTS 0).noteStart 7 1 true false 0
  let s := s.powerEngines (s.regN Reg.DECC_ACTIVE)
  ({ s with sys := { s.sys with mode := .ready, coppiceStart := false } } : Blk).fromNow

/-- Coppice is entered on an engine (R629, R630). -/
def Blk.enterCoppice (s : Blk) (e : Nat) : Blk :=
  let s := s.noteStart 6 1 false true 0
  let s := (s.setN Reg.DECC_ACTIVE (2 ^ e)).setN Reg.DECC_SPARE 0
  let s := ((s.powerEngines (2 ^ e)).gateDom 3).gateDom 5
  ({ s with sys := { s.sys with mode := .coppice, coppiceStart := true, coppiceEng := e } } : Blk).fromNow.raise 0xA081

/-- S3 to S7 of a start in full (R625, R626). -/
def Blk.fullStart (s : Blk) (o : StartOutcome) : Blk :=
  if 3 ≤ o.s3 then s.failStart 3 3 false false (s3Code o.s3Part)
  else
    let s := s.memTrained o.mem
    if (trainEnd o.mem).fault != 0 then s.failStart 4 (trainEnd o.mem).attempts false false (trainEnd o.mem).fault
    else
      let s := s.linkPhase false o.link o.furthest o.info
      let s := s.enginesTested o.engines
      if popcount 18 o.engines < 4 then s.failStart 6 3 false false 0xA062
      else
        let (ok, s) := s.sramMarch o.macros
        if 3 ≤ o.s6 || !ok then s.failStart 6 3 false false 0xA061 else s.startReady

/-- S3, S5 and S6 of a Coppice start (R629). -/
def Blk.coppiceStart (s : Blk) (o : StartOutcome) : Blk :=
  if 3 ≤ o.s3 then s.failStart 3 3 true false (s3Code o.s3Part)
  else
    let s := s.linkPhase true o.link o.furthest o.info
    let s := (List.range 18).foldl (fun s e => if (o.engines % 2 ^ (e + 1)) = 0 then s.retireEngine e else s) s
    match lowestBit 18 o.engines with
    | some e => s.enterCoppice e
    | none => s.failStart 6 3 true true 0xA062

/-- Tally starts in parallel from S1 (17, *Start*): a new segment after the loss of VDD_TLY (09 R347), and its self-test,
which decides no start (09 R359). -/
def Blk.tallyStart (s : Blk) (selftest : Bool) : Blk :=
  let s : Blk := if s.tly.supplied then s
    else ({ s with tly := { s.tly with supplied := true } } : Blk).newSegment
  let s := s.startSegment.tamperOwed
  let s := { s with tly := { s.tly with selftestFailed := !selftest } }
  if selftest then s else s.raise 0x8051

/-- A start runs through its phases (R625 to R629); after a thermal shutdown not before the junction is below 110 °C
(R640). -/
def start (o : StartOutcome) (s : Blk) : Blk :=
  if s.sys.mode != .starting || s.pwr.mode != .run || s.sys.retryAt.isSome || s.sys.phase != 1 ||
      (s.pwr.hotStop && (28160 : Int) ≤ sgn 16 o.temp) then s
  else
    let s := { s with pwr := { s.pwr with hotStop := false } }
    let s := s.setN Reg.THM_TEMP (o.temp % 65536 + 65536 * (o.temp % 65536))
    let s := s.tallyStart o.selftest
    let coppice := s.sys.coppiceStart
    if 3 ≤ o.s1 then s.failStart 1 3 coppice coppice 0xA011
    else if o.nvBad then s.failStart 2 1 coppice coppice 0xA021
    else
      let s := if o.nvCopy then s.raise 0xA022 else s
      if coppice || 3 ≤ s.regF Reg.SYS_FAILED_STARTS 7 0 then s.coppiceStart o else s.fullStart o

/-- START (R625). -/
def execStart (dt : Nat) (o : StartOutcome) (s : State) : Host.Outcome State Fault Refusal := done s (start o (s.blk.elapse dt))

/-- 100 ms after a failed start the engine starts again from S1 (R627). -/
def startRetryDelay (s : Blk) : Blk :=
  match s.sys.retryAt with
  | none => s
  | some t => if s.now < t + 31250000 then s else s.beginStart false

/-- START_RETRY_DELAY (R627). -/
def execStartRetryDelay (dt : Nat) (s : State) : Host.Outcome State Fault Refusal := done s (startRetryDelay (s.blk.elapse dt))

/-! ### START_CTL (R645) -/

/-- START_CTL.clear_count: the count is 0; in Coppice 0xA084 is raised (R627, R630). -/
def Blk.clearCount (s : Blk) : Blk :=
  let s := s.setN Reg.SYS_FAILED_STARTS 0
  if s.coppice then s.raise 0xA084 else s

/-- START_CTL.restart: a full start from S1, refused while a job is live. -/
def Blk.restart (s : Blk) : Nat × Blk :=
  if s.jobLive then (0xA085, s.raise 0xA085)
  else (0, ({ s with sys := { s.sys with coppiceStart := false } } : Blk).beginStart false)

/-! ### Thermal limits (R640) -/

/-- A reading of the junction temperature; above THM.LIMITS.warn 0x1051 is raised once per crossing. -/
def thmHot (temp : Nat) (s : Blk) : Blk :=
  let warn : Int := 256 * s.regF Reg.THM_LIMITS 7 0
  let was := decide (warn < sgn 16 (s.regF Reg.THM_TEMP 15 0))
  let high := if sgn 16 (s.regF Reg.THM_TEMP 31 16) < sgn 16 temp then temp % 65536 else s.regF Reg.THM_TEMP 31 16
  let s := s.setN Reg.THM_TEMP (temp % 65536 + 65536 * high)
  if warn < sgn 16 temp && !was then s.raise 0x1051 else s

/-- THM_HOT (R640). -/
def execThmHot (dt temp : Nat) (s : State) : Host.Outcome State Fault Refusal := done s (thmHot temp (s.blk.elapse dt))

/-- Every pending delivery is forfeited (R640). -/
def Blk.forfeitAll (s : Blk) (fault : Nat) : Blk :=
  s.pendingDeliveries.foldl (fun s d => s.forfeitPend d fault) s

/-- At 125 °C: every conduction ends, no further trigger is taken, every pending delivery is forfeited, and the engine enters
the state of 16 R609 with every wake source disabled. -/
def thmShutdown (temp : Nat) (s : Blk) : Blk :=
  if s.pwr.mode = .reset || s.pwr.mode = .off || sgn 16 temp < (32000 : Int) then s
  else
    let s := (thmHot temp s).raise 0x1052
    let s := (s.lightsOff.forfeitAll 0x1052).closeAll.leaveUp
    let s := s.stopRing
    let s := { s with jobs := [], sns := { s.sns with frames := [] }, swp := { s.swp with sweeps := [] },
                      dec := { s.dec with running := [], queue := [] }, cal := { s.cal with units := [none, none] } }
    let s := domCodes.foldl (fun s d => if d = 0 || d = 1 then s else s.gateDom d) (s.setN Reg.CHN_ADDR 0)
    { s with pwr := { s.pwr with mode := .off, hotStop := true, latched := [], held := none } }

/-- THM_SHUTDOWN (R640). -/
def execThmShutdown (dt temp : Nat) (s : State) : Host.Outcome State Fault Refusal := done s (thmShutdown temp (s.blk.elapse dt))

end Sys2Proof.Machine
end

