-- ==== Sys2Proof/Machine/Power.lean ====
section
/-! DEFINITION. Power domains, Rosemary and Off, and the always-on timebase (16). What needs the chain's answers stands in
Wakes. -/
namespace Sys2Proof.Machine

/-! ### Gating (R590, R595 to R598) -/

/-- The engine is in Run or Idle after a start: it serves accesses (17 R625, R629, R630). -/
def Blk.serving (s : Blk) : Bool := s.pwr.mode = .run && (s.sys.mode = .ready || s.sys.mode = .coppice)

/-- A single access is served: in a start reads of the ID and SYS pages, in a halted engine reads of the ID page alone (17 R629,
R645). -/
def Blk.reaches (s : Blk) (wr : Bool) (a : Nat) : Bool :=
  s.serving || (s.pwr.mode = .run && !wr && (pageOf a = 0 || (pageOf a = 1 && s.sys.mode = .starting)))

/-- A stretch is owed to some position (11 R422, R432). -/
def Blk.stretchOwed (s : Blk) : Bool := s.lit.pos.any (fun p => p.owed)

/-- A domain's rule in the table of R590 lets it gate. -/
def Blk.mayGate (s : Blk) (d : Nat) : Bool :=
  match d with
  | 2 => !s.exposureLive
  | 3 => !s.sweepLive && s.enabledChs.isEmpty && s.pd.calNow.isEmpty
  | 4 => !(s.pat 0).running && !(s.pat 1).running && !(s.jobs.any (fun j => j.kind = 1 && j.light != 0)) && !s.stretchOwed
  | 6 => bitN (s.regN Reg.LNK_CTL) 1 || s.lnk.state = .standalone
  | d => if 0x10 ≤ d && d < 0x22 then !(s.engActive (d - 0x10)) || !s.exposureLive else false

/-- A calibration slot that uses a domain is running (R596). -/
def Blk.slotRuns (s : Blk) (d : Nat) : Bool :=
  (d = 3 && !s.pd.calNow.isEmpty) ||
  s.cal.lastRun.any (fun p => (loopUse p.1.1).1 = d && s.now < p.2 + (loopUse p.1.1).2)

/-- Transfers to and from the DRAM that have not ended (R596): a frame's readout from the locator, the tile reads of a decode
engine's task; of the memory itself also bursts and row copies (15 R582). -/
def Blk.transfers (s : Blk) (d : Nat) : Bool :=
  let readout := s.sns.frames.any (fun f => f.zero.isSome && !f.isOver && (!f.mapDone || f.converting.isSome || !f.bandQueue.isEmpty))
  (d = 2 && readout) || s.dec.running.any (fun t => t.eng + 0x10 = d) ||
  (d = 5 && (readout || !s.dec.running.isEmpty || s.mem.chans.any (fun c => c.burst || !c.copies.isEmpty)))

/-- A hold on a domain (R596): bundles, transfers, a calibration slot, a stalled access. Commits of groups, records and correction
packets, and accesses that do not stall, take no time here. -/
def Blk.held (s : Blk) (d : Nat) : Bool :=
  s.gateHeld d || s.chn.stalls.any (fun w => w.dom = d) || s.slotRuns d || s.transfers d

/-- A domain other than AON and TLY is held: an entry to Rosemary or Off waits (R597, R601). -/
def Blk.entryHeld (s : Blk) : Bool := domCodes.any (fun d => d != 0 && d != 1 && s.held d)

/-- A domain gates: its clamps engage, and its switch opens (R593); those of the illumination hold every sink off and release every
row (11 R432). -/
def Blk.gateOff (s : Blk) (d : Nat) : Blk := (if d = 4 then s.lightsOff else s).gateDom d

/-- PWR.GATE_DELAY in ticks. -/
def Blk.gateDelay (s : Blk) : Nat := ceilDiv (625 * s.regF Reg.PWR_GATE_DELAY 15 0) 2

/-- In Idle, a domain that may gate and that nothing has touched or held for PWR.GATE_DELAY gates (R595). -/
def domainGate (d : Nat) (s : Blk) : Blk :=
  let x := s.dom d
  if s.serving && bitN (s.regN Reg.PWR_CTL) 0 && x.ready && s.mayGate d && !s.held d && x.touched + s.gateDelay ≤ s.now then s.gateOff d
  else s

/-- DOMAIN_GATE (R595). -/
def execDomainGate (dt d : Nat) (s : State) : Host.Outcome State Fault Refusal := done s (domainGate d (s.blk.elapse dt))

/-- A domain asked to gate is still held after 5 ms: its bundles abort, and it gates (R597; 12 R464). SYS, which carries the
entry itself out, and MEM, which pays its debts first (15 R583), gate at the end of the entry. -/
def pwrGateWait (d : Nat) (s : Blk) : Blk :=
  match (s.dom d).gateAt with
  | none => s
  | some t =>
    if s.now < t + 1562500 || !s.gateHeld d then s
    else
      let s := ((s.abortDomain 0xB027 d).abortEng 0xB027 d).updDom d (fun x => { x with gateAt := none })
      (if d = 5 || d = 7 then s else s.gateOff d).raise 0x1011

/-- PWR_GATE_WAIT (R597). -/
def execPwrGateWait (dt d : Nat) (s : State) : Host.Outcome State Fault Refusal := done s (pwrGateWait d (s.blk.elapse dt))

/-- The photodiode chain runs again after its domain was off: every enabled channel starts as after a switch (07 R281). -/
def Blk.pdaBack (s : Blk) : Blk :=
  s.enabledChs.foldl (fun s ch => (s.restartCh ch).switchCh ch) s

/-- A domain's clamps are released, in the tick after its ready signal rose (R593), and what it carries goes on. -/
def Blk.domainUp (s : Blk) (d : Nat) : Blk :=
  let s := s.readyDom d
  if d = 3 then s.pdaBack else s

/-! ### Entry (R600 to R605, R609) -/

/-- The domains powered in Rosemary: AON, TLY, and LIT while a glow runs (R594, R601; 11 R432). -/
def Blk.sleepDoms (s : Blk) : List Nat := if s.sleepRun 0 || s.sleepRun 1 then [0, 1, 4] else [0, 1]

/-- Steps 1 and 2 of R601: the link goes down, waiting slots are discarded, pattern engines stop, held domains are asked to
gate. -/
def Blk.enterSleep (s : Blk) (off : Bool) : Blk :=
  let s := s.leaveUp.clearLanes
  let s := { s with pwr := { s.pwr with mode := if off then .enteringOff else .entering, latched := [], held := none, refused := [] },
                    lnk := { s.lnk with state := .down }, pd := { s.pd with calDue := [] },
                    cal := { s.cal with waiting := [], shareWait := [], columnIn := none, shadowIn := none } }
  let s := [0, 1].foldl (fun s e =>
    if (s.pat e).running && (off || !s.sleepRun e) then s.updPat e (fun p => { p with running := false, waiting := false }) else s) s
  let on := if off then [0, 1] else s.sleepDoms
  domCodes.foldl (fun s d => if !on.contains d && s.gateHeld d then s.updDom d (fun x => { x with gateAt := some s.now }) else s) s.litReview

/-- A write to PWR.CMD (R600, R609): the fault, or 0. -/
def Blk.pwrCmd (s : Blk) (v : Nat) : Nat × Blk :=
  if v != 1 && v != 2 then (0xB025, s.raise 0xB025)
  else if s.jobLive || s.coppice || s.enteringSleep then (0x1021, s.raise 0x1021)
  else (0, s.enterSleep (v = 2))

/-- MEM pays its debts, closes every row and enters self-refresh, with CKE low (15 R583); what the real-time masters had not written is
lost with their domains. -/
def Blk.selfRefresh (s : Blk) : Blk :=
  let bank (b : BankSt) : BankSt := { b with isOpen := false, row := none }
  let rank (k : RankSt) : RankSt := { k with debt := 0, insertDue := false, catchUp := none, down := true, banks := k.banks.map bank }
  let chan (c : MemCh) : MemCh := { c with burst := false, ranks := c.ranks.map rank }
  { s with mem := { s.mem with chans := s.mem.chans.map chan, owed := [] } }

/-- Every closed block is signed and its seal stored. -/
def Blk.signAll (s : Blk) : Blk := (List.range s.tly.toSign.length).foldl (fun s _ => blockSigned s) s

/-- A wake begins (R604 to R606): the first source and what it found. -/
def Blk.beginWake (s : Blk) (first seen : Nat) (replayed : Bool) : Blk :=
  let s := s.setN Reg.PWR_WAKE_SRC (first + 256 * seen + 65536 * b2n replayed)
  let s : Blk := if first = 0 then s.bump Reg.CHN_WAKES 15 0 1 else s
  { s with pwr := { s.pwr with mode := .waking 1, wakeFrom := s.now, stepFrom := s.now, latched := [] } }

/-- The wake sources of a list as the field `seen`. -/
def seenBits (l : List Nat) : Nat := l.foldl (fun m n => putBit m n true) 0

/-- Steps 3 and 4 of R601, once no hold is left: memory in self-refresh, time captured, clamps
engaged, domains off, the ring stopped. A latched wake source is replayed at once (R605). For Off, Tally's block is closed
and signed first, the sessions close, and no source wakes (R609; 13 R497, R504). -/
def rosemaryEntered (s : Blk) : Blk :=
  if !s.enteringSleep || s.entryHeld then s
  else
    let off := decide (s.pwr.mode = .enteringOff)
    -- the pads hold the levels they have then (R592)
    let s := s.selfRefresh.settle
    let s : Blk := if off then
        let s := if s.tly.supplied && s.tly.block.count != 0 then s.closeBlock 0x04 else s
        s.signAll.closeAll.setN Reg.CHN_ADDR 0
      else s.bump Reg.PWR_COUNTS 15 0 1
    let on := if off then [0, 1] else s.sleepDoms
    let s := domCodes.foldl (fun s d => if on.contains d then s else s.gateOff d) s
    let s := s.stopRing
    if off then { s with pwr := { s.pwr with mode := .off } }
    else
      let s := { s with pwr := { s.pwr with mode := .rosemary } }
      match s.pwr.latched with
      | [] => s
      | f :: t => s.beginWake f (seenBits (f :: t)) true

/-- ROSEMARY_ENTERED (R601). -/
def execRosemaryEntered (dt : Nat) (s : State) : Host.Outcome State Fault Refusal := done s (rosemaryEntered (s.blk.elapse dt))

/-! ### Wake sources (R603 to R605; 13 R498) -/

/-- A source is enabled: bits 0 and 5 always are. -/
def Blk.wakeEnabled (s : Blk) (src : Nat) : Bool := src = 0 || src = 5 || (src < 5 && bitN (s.regN Reg.PWR_WAKE_EN) src)

/-- The data bytes of a frame (13 R486). -/
def reqSize (r : Req) : Nat := 6 + r.payload.length + (if r.hasMac then 4 else 0)

/-- The front end takes a frame that needs the engine (13 R498): held when it is short and the first, otherwise refused later. -/
def Blk.takeWakeFrame (s : Blk) (c : Call) : Blk :=
  if s.pwr.held.isSome || !s.pwr.refused.isEmpty then { s with pwr := { s.pwr with refused := s.pwr.refused ++ [(c, 0x9022)] } }
  else if reqSize c.r ≤ 64 then { s with pwr := { s.pwr with held := some c } }
  else ({ s with pwr := { s.pwr with refused := [(c, 0x9023)] } } : Blk).bump Reg.CHN_WAKES 31 16 1

/-- The glow of 11 R432 ends. -/
def Blk.endGlow (s : Blk) : Blk :=
  ([0, 1].foldl (fun s e => s.updPat e (fun p => { p with running := false, waiting := false })) s).lightsOff.glowOver

/-- A wake source is seen in Rosemary, while entering it, or during a wake. -/
def Blk.wakeEvent (s : Blk) (src : Nat) : Blk :=
  if !s.wakeEnabled src then s
  else match s.pwr.mode with
    | .entering => { s with pwr := { s.pwr with latched := if s.pwr.latched.contains src then s.pwr.latched else s.pwr.latched ++ [src] } }
    | .rosemary => s.beginWake src (seenBits [src]) false
    | .waking _ => s.setF Reg.PWR_WAKE_SRC (8 + src) (8 + src) 1
    | _ => s

/-- The engine sleeps, is about to, or is waking: the front end takes frames over. -/
def Blk.asleep (s : Blk) : Bool :=
  match s.pwr.mode with
  | .entering => true
  | .rosemary => true
  | .waking _ => true
  | _ => false

/-! ### Wake steps (R606, R607) -/

/-- The time by which a wake step is ready, in ticks; step 2 with its fall-back when the forwarded clock is present. -/
def Blk.wakeBound (s : Blk) (step : Nat) : Nat :=
  match step with
  | 1 => 62500
  | 2 => if s.lnk.ckPresent then 562500 else 468750
  | 3 => 125000
  | _ => 15625

/-- A wake step misses its bound: 0x1031, and a start from S1 as after PORST_N; Tally continues its segment (R607). -/
def pwrWakeStep (storeOk : Bool) (s : Blk) : Blk :=
  match s.pwr.mode with
  | .waking k =>
    if s.now < s.pwr.stepFrom + s.wakeBound k then s
    else
      let s := (s.beginStart true).raise 0x1031
      if s.tly.supplied then s.tallyRestart storeOk 1 else s
  | _ => s

/-- PWR_WAKE_STEP (R607). -/
def execPwrWakeStep (dt : Nat) (storeOk : Bool) (s : State) : Host.Outcome State Fault Refusal :=
  done s (pwrWakeStep storeOk (s.blk.elapse dt))

/-- A wake step of `t` ticks, in units of `u` tenths of a µs, rounded up. -/
def stepTime (t u : Nat) : Nat := ceilDiv (32 * t) (1000 * u)

/-- A wake step is ready and the next begins (R606): its time is kept; step 2 restores time, step 3 the memory. -/
def Blk.wakeStepDone (s : Blk) (k : Nat) (fwd : Bool) : Blk :=
  let t := s.now - s.pwr.stepFrom
  let s : Blk :=
    match k with
    | 1 => s.setF Reg.PWR_WAKE_STEPS 7 0 (sat 8 (stepTime t 100))
    | 2 =>
      let fwd := fwd && s.lnk.ckPresent
      let s := s.setF Reg.PWR_WAKE_STEPS 15 8 (sat 8 (stepTime t 100))
      ((s.startRing.ringSource fwd).setF Reg.PWR_WAKE_SRC 17 17 (b2n fwd)).tamperOwed
    | 3 =>
      let s := s.setF Reg.PWR_WAKE_STEPS 23 16 (sat 8 (stepTime t 100))
      let us := sat 16 (stepTime t 10)
      ((s.setF Reg.MEMT_WAKE_TIME 15 0 us).atLeast Reg.MEMT_WAKE_TIME 31 16 us).wakeDom 5 |>.readyDom 5
    | _ =>
      let us := sat 16 (stepTime (s.now - s.pwr.wakeFrom) 10)
      let s := s.setF Reg.PWR_WAKE_STEPS 30 24 (sat 7 (stepTime t 10))
      (s.setF Reg.PWR_WAKE_TIME 15 0 us).atLeast Reg.PWR_WAKE_TIME 31 16 us
  { s with pwr := { s.pwr with stepFrom := s.now, mode := .waking (k + 1) } }

/-- Timers whose firing fell into the sleep go on as after a commit (12 R474): SYS was off. -/
def Blk.rearmTimers (s : Blk) : Blk :=
  (List.range 8).foldl (fun s n => match (s.gpc.timers.getD n {}).next with
    | some t => if t < s.now then s.armTimer n else s
    | none => s) s

/-- Logic is ready (R604, R606, R608): every domain but LOC and the engines out of service is powered, the link trains from
DETECT, every loop starts its schedule afresh. -/
def Blk.logicReady (s : Blk) : Blk :=
  let back (s : Blk) (d : Nat) : Blk :=
    if d = 2 || (0x10 ≤ d && !s.engActive (d - 0x10)) then s else (s.wakeDom d).domainUp d
  let s := domCodes.foldl back s
  let s := ({ s with pwr := { s.pwr with mode := .run }, pd := { s.pd with calDue := [] } } : Blk).fromNow.rearmTimers
  let s := if bitN (s.regN Reg.LNK_CTL) 1 then s else s.startTraining 1
  s.raise 0x1023

/-! ### The always-on timebase (R611, R612, R617, R618) -/

/-- A window of 100 ms ends: the AON period is measured (R611). -/
def aonWindow (cycles temp : Nat) (s : Blk) : Blk :=
  if !s.time.ringRuns || cycles = 0 || s.now < s.time.windowFrom + 31250000 then s
  else
    let p := sat 32 (roundHalfUp ((31250000 * 2 ^ 24 : Nat) : Int) cycles).toNat
    let s := { s with time := { s.time with period := p, nominal := false, windowAt := some s.now, windowFrom := s.now,
                                            aon := (s.time.aon + cycles) % 2 ^ 48 } }
    s.setN Reg.TMB_TEMP (temp % 65536 + 65536 * (temp % 65536))

/-- AON_WINDOW (R611). -/
def execAonWindow (dt cycles temp : Nat) (s : State) : Host.Outcome State Fault Refusal := done s (aonWindow cycles temp (s.blk.elapse dt))

/-- AON samples its temperature while the ring stands (R612): beyond 5 °C of its window's the sleep is an excursion (R614). -/
def aonTempSample (temp : Nat) (s : Blk) : Blk :=
  if s.time.ringRuns then s
  else
    let d := sgn 16 temp - sgn 16 (s.regF Reg.TMB_TEMP 31 16)
    let s := s.setF Reg.TMB_TEMP 15 0 temp
    { s with time := { s.time with tempOk := s.time.tempOk && decide (d.natAbs ≤ 1280) } }

/-- AON_TEMP_SAMPLE (R612). -/
def execAonTempSample (dt temp : Nat) (s : State) : Host.Outcome State Fault Refusal := done s (aonTempSample temp (s.blk.elapse dt))

/-- A waiting request's time moves with the counter. -/
def Pending.shift (d : Nat) (p : Pending) : Pending :=
  match p with
  | .req c k vals => .req { c with at_ := c.at_ + d } k vals
  | p => p

/-- Times kept in state move with the counter when it is set (R617), so that what runs keeps its length (00 R17). -/
def Blk.shiftTime (s : Blk) (d : Nat) : Blk :=
  let slot (k : SesSlot) : SesSlot := { k with since := k.since + d }
  let bundle (b : Bundle) : Bundle := { b with closedAt := b.closedAt + d }
  let dom (x : DomSt) : DomSt :=
    { x with wakeAt := x.wakeAt + d, touched := x.touched + d, restartAt := x.restartAt.map (· + d), gateAt := x.gateAt.map (· + d) }
  let rec_ (r : Recovery) : Recovery := { r with since := r.since + d }
  { s with
    now := s.now + d,
    ses := { s.ses with slots := s.ses.slots.map slot, backoff := s.ses.backoff.map (fun o => o.map (· + d)) },
    bnd := { s.bnd with waiting := s.bnd.waiting.map bundle },
    doms := s.doms.map dom,
    ust := { s.ust with queue := s.ust.queue.map rec_ },
    chn := { s.chn with sending := s.chn.sending.map (fun (k : HopSend) => { k with since := k.since + d }),
                        turned := s.chn.turned.map (fun o => o.map (· + d)), stalls := s.chn.stalls.map (fun (w : Stall) => { w with since := w.since + d, what := w.what.shift d }) },
    lnk := { s.lnk with stripeAt := s.lnk.stripeAt + d, phaseAt := s.lnk.phaseAt + d, replayFrom := s.lnk.replayFrom + d, replayedAt := s.lnk.replayedAt.map (· + d),
                        nakAt := s.lnk.nakAt.map (· + d), lastAckIn := s.lnk.lastAckIn + d, lastAckOut := s.lnk.lastAckOut + d,
                        faultAt := s.lnk.faultAt.map (· + d), holdover := s.lnk.holdover.map (· + d), absentAt := s.lnk.absentAt.map (· + d) },
    tly := { s.tly with block := { s.tly.block with since := s.tly.block.since + d } },
    pd := { s.pd with epoch := s.pd.epoch + d },
    dec := { s.dec with engMin := s.dec.engMin.map (fun l => l.map (fun p => (p.1 + d, p.2))),
                        eccLog := s.dec.eccLog.map (fun l => l.map (fun p => (p.1 + d, p.2))) },
    sns := { s.sns with levelAt := s.sns.levelAt.map (· + d), since := s.sns.since.map (fun o => o.map (fun p => (p.1 + d, p.2))) },
    mem := { s.mem with lastCorrEvt := s.mem.lastCorrEvt.map (· + d), scrubFrom := s.mem.scrubFrom + d },
    gpc := { s.gpc with timers := s.gpc.timers.map (fun (k : TimerSt) => { k with firedAt := k.firedAt + d }) },
    time := { s.time with windowAt := s.time.windowAt.map (· + d), windowFrom := s.time.windowFrom + d } }

/-- A write to TMB.SET_HI (R617): the counter is set, or 0x1042. -/
def Blk.setTime (s : Blk) (hi : Nat) : Nat × Blk :=
  let v := s.time.setLo + hi * 2 ^ 32
  if s.time.valid || s.jobLive || v < s.now then (0x1042, s.raise 0x1042)
  else
    let s := (s.shiftTime (v - s.now)).fromNow
    (0, { s with time := { s.time with valid := true, uncert := 0 } })

/-- The alarm fires (R618). -/
def Blk.fireAlarm (s : Blk) : Blk := ((s.setF Reg.TMB_ALARM_CTL 0 0 0).setF Reg.TMB_ALARM_CTL 1 1 1).raise 0x1044

/-- The alarm's time has come. -/
def Blk.alarmDue (s : Blk) : Bool := bitN (s.regN Reg.TMB_ALARM_CTL) 0 && s.pair Reg.TMB_ALARM_LO ≤ s.now

/-- A write to TMB.ALARM_HI arms the alarm; a time already past fires it at once (R618). -/
def Blk.armAlarm (s : Blk) (hi : Word) : Blk :=
  let s := (s.setReg Reg.TMB_ALARM_HI hi).setF Reg.TMB_ALARM_CTL 0 0 1
  if s.alarmDue then s.fireAlarm else s

/-- The alarm fires when the counter, or in Rosemary the predicted time, reaches it (R618); in Rosemary it wakes the engine
(R603). -/
def tmbAlarm (s : Blk) : Blk :=
  if s.pwr.mode = .reset || !s.alarmDue then s
  else
    let s := s.fireAlarm
    if s.asleep then s.wakeEvent 4 else s

/-- TMB_ALARM (R618). -/
def execTmbAlarm (dt : Nat) (s : State) : Host.Outcome State Fault Refusal := done s (tmbAlarm (s.blk.elapse dt))

end Sys2Proof.Machine
end

