-- ==== Sys2Proof/Machine/Spares.lean ====
section
/-! DEFINITION. Understory's commands (17 R631 to R638): offers, insertions at their safe points, escalation, domain restarts
and watchdogs. The end of a restart, which serves stalled accesses, stands in Wakes. -/
namespace Sys2Proof.Machine

/-! ### Offers (R633, R635; 13 R509) -/

/-- A key that cannot be corrected and that no spare holds is lost (13 R509): slot 0 Operator, 1 Service, 2 Seal. -/
def Blk.keyLost (s : Blk) (u : Nat) : Blk :=
  if s.ust.keySpared.contains u || 3 ≤ u then s
  else
    let s : Blk :=
      match u with
      | 0 => { s with ses := { s.ses with opKey := .empty } }
      | 1 => { s with ses := { s.ses with svcKey := .factory } }
      | _ => { s with ses := { s.ses with sealKey := .empty } }
    s.raise 0x9041

/-- A monitor that no other command carries offers its unit (R633): the local-store trend of an engine, with 0x5043; an SRAM
row; a key slot. A key slot offered as failed is uncorrectable (13 R509). Every other unit is offered by the command that
finds it. -/
def understoryOffer (kind u : Nat) (wear : Bool) (s : Blk) : Blk :=
  match SpareKind.ofCode kind with
  | some .engine =>
    if !wear || !s.engActive u || s.coppice then s
    else
      -- the errors of the trend that no task has brought yet
      let seen := (((s.dec.eccLog.getD u []).filter (fun p => s.now < p.1 + 27000000000000)).map (·.2)).foldl (· + ·) 0
      let s := (s.bump (Reg.DEC_STORE_ECC u) 15 0 (s.regF Reg.UST_LIMITS 19 12 - seen)).raiseAt (0x20 + u) 0x5043
      let s : Blk := { s with dec := { s.dec with eccLog := upd s.dec.eccLog u (fun _ => []) } }
      s.offer .engine u true
  | some .sram => if wear && u < 256 then s.offer .sram u true else s
  | some .key => if !wear then s.keyLost u else if u < 3 && !(s.ust.keySpared.contains u) then s.offer .key u true else s
  | _ => s

/-- UNDERSTORY_OFFER (R635). -/
def execUnderstoryOffer (dt kind u : Nat) (wear : Bool) (s : State) : Host.Outcome State Fault Refusal :=
  done s (understoryOffer kind u wear (s.blk.elapse dt))

/-! ### Insertions (R631, R632) -/

/-- A column lies dark: no conduction uses its sink (11 R426). -/
def Blk.sinkIdle (s : Blk) (c : Nat) : Bool :=
  match s.lit.cond with
  | some k => match k.cols[c]? with | some d => d.code = 0 | none => true
  | none => true

/-- The spare engine stands in for engine `u` (R631): 0x5021 on the page of the engine replaced; the spec does not say whether it is that
page or the spare's (DESIGN CHOICE, log 83). -/
def Blk.insertEngine (s : Blk) (u k : Nat) : Blk :=
  let s := s.retireEngine u
  let s := s.setN Reg.DECC_SPARE (putBit (s.regN Reg.DECC_SPARE) k false)
  let s := s.setN Reg.DECC_ACTIVE (putBit (s.regN Reg.DECC_ACTIVE) k true)
  let s := { s with ust := { s.ust with suspect := s.ust.suspect.filter (fun e => e != u) } }
  ((s.engTag (.spare .engine u)).raiseAt (0x20 + u) 0x5021).endRecovery

/-- The spare ADC is connected to a channel (07 R290): a channel switch. -/
def Blk.insertAdc (s : Blk) (ch : Nat) : Blk :=
  let s := (s.updPd ch (fun c => { c with adc := 8, adcBad := false })).restartCh ch
  (((s.switchCh ch).engTag (.spare .adc ch)).raise 0x6012).endRecovery

/-- One of the engine's own bundles applies at once, without waiting for its boundary. -/
def Blk.engNow (s : Blk) (a : EngAct) : Blk :=
  ((s.engDrop (fun b => b = a)).engRefill.engTag a).engApply a

/-- The copy of a row under recovery is complete (15 R578). -/
def Blk.copyDone (s : Blk) (u : Nat) : Bool :=
  let (ch, rank, bank, row) := unitRow u
  (s.memCh ch).copies.any (fun k => k.done && k.rank = rank && k.bank = bank && k.row = row)

/-- The insertion at a kind's safe point; `now` — at once, whatever its safe point (R632). A column's and a row's insertion waits for
its boundary in a bundle of the engine's own, staged again when it has aborted (R636). -/
def Blk.insert (s : Blk) (r : Recovery) (now : Bool) : Blk :=
  match r.kind with
  | .engine =>
    match s.spareEngines with
    | k :: _ => if s.domReady (0x10 + k) then s.insertEngine r.u k else s
    | [] => s
  | .adc => if now || s.adcSafe r.u then s.insertAdc r.u else s
  | .lane =>
    let (ok, t) := s.exchangeLane r.u
    if ok then (t.engTag (.spare .lane r.u)).endRecovery else s
  | .sram => ((s.sramRow r.u).engTag (.spare .sram r.u)).endRecovery
  | .key =>
    let s := { s with ust := { s.ust with keySpared := r.u :: s.ust.keySpared } }
    ((s.engTag (.spare .key r.u)).raise 0x9042).endRecovery
  | .sink => if now || s.sinkIdle (r.u / 2) then ((s.retireHalf r.u).engTag (.spare .sink r.u)).endRecovery else s
  | .column => if now then s.engNow (.spare .column r.u) else s.engStage 1 (.spare .column r.u)
  | .row => if !s.copyDone r.u then s else if now then s.engNow (.remap (r.u % 2)) else s.remapDue (r.u % 2)
  | .domain => s

/-- The recovery under way, when no domain restarts for it. -/
def Blk.recovery (s : Blk) : Option Recovery :=
  if s.ust.running && s.ust.restarting.isNone then s.ust.queue.head? else none

/-- The safe point of the recovery under way (R631): a column's and a row's insertion then waits for the boundary (03 R123; 15
R578). A channel that no spare is left for becomes unavailable at its own (07 R290). -/
def spareInsert (s : Blk) : Blk :=
  (match s.recovery with
   | some r => s.insert r false
   | none => s).loseAdcs

/-- SPARE_INSERT (R631). -/
def execSpareInsert (dt : Nat) (s : State) : Host.Outcome State Fault Refusal := done s (spareInsert (s.blk.elapse dt))

/-- 30 ms into the recovery of a failed unit the insertion is made at once (R632). -/
def safePointTimeout (s : Blk) : Blk :=
  match s.recovery with
  | some r => if r.wear || s.now < r.since + 9375000 then s else s.insert r true
  | none => s

/-- SAFE_POINT_TIMEOUT (R632). -/
def execSafePointTimeout (dt : Nat) (s : State) : Host.Outcome State Fault Refusal := done s (safePointTimeout (s.blk.elapse dt))

/-! ### Restarts (R637) -/

/-- Deliveries that depend on a domain: frames on LOC, LIT, MEM, SYS and the engines; sweeps on PDA, MEM, SYS and the engines;
campaigns on MEM and SYS. -/
def dependsOn (kind d : Nat) : Bool :=
  match kind with
  | 1 => d = 2 || d = 4 || d = 5 || d = 7 || 0x10 ≤ d
  | 2 => d = 3 || d = 5 || d = 7 || 0x10 ≤ d
  | _ => d = 5 || d = 7

/-- The fault of a restart is recorded against the deliveries that depend on the domain, unless one stands there already:
those that miss their deadline end with it (02 R79). -/
def Blk.recordFault (s : Blk) (d code : Nat) : Blk :=
  let fr (f : Frame) : Frame := if dependsOn 1 d && !f.isOver && f.fault = 0 then { f with fault := code } else f
  let sw (w : Sweep) : Sweep := if dependsOn 2 d && !w.isOver && w.fault = 0 then { w with fault := code } else w
  let ca (c : Campaign) : Campaign := if dependsOn 3 d && !c.isOver && c.fault = 0 then { c with fault := code } else c
  { s with sns := { s.sns with frames := s.sns.frames.map fr }, swp := { s.swp with sweeps := s.swp.sweeps.map sw },
           cal := { s.cal with units := s.cal.units.map (fun o => o.map ca) } }

/-- A domain restarts for a fault code (R637): what runs in it stops. -/
def Blk.restartFor (s : Blk) (d code : Nat) : Blk :=
  let s := s.recordFault d code
  let s : Blk :=
    if d = 3 then (s.pd.calNow.map (·.ch)).foldl Blk.dropMeas s
    else if d = 4 then s.lightsOff
    else if d = 6 then ({ s.leaveUp.clearLanes with lnk := { s.leaveUp.clearLanes.lnk with state := .down } } : Blk)
    else if 0x10 ≤ d && d < 0x22 then s.dropEngineWork (d - 0x10)
    else s
  s.restartDomain d

/-- A second fault in the unit under recovery (R637): 0xA102, and the restart of the domain that holds it. -/
def ustEscalated (s : Blk) : Blk :=
  match s.recovery with
  | some r =>
    let d := s.unitDom r.kind r.u
    let s := (s.raise 0xA102).bump Reg.UST_COUNTS 31 16 1
    let q := match s.ust.queue with | h :: t => { h with escalated := true } :: t | [] => []
    { s with ust := { s.ust with queue := q, restarting := some d } }.restartFor d 0xA102
  | none => s

/-- UST_ESCALATED (R637). -/
def execUstEscalated (dt : Nat) (s : State) : Host.Outcome State Fault Refusal := done s (ustEscalated (s.blk.elapse dt))

/-- A domain's watchdog expires (R637): 0xA112 and the same restart; AON and TLY are never restarted so. -/
def domainWatchdog (d : Nat) (s : Blk) : Blk :=
  if !s.serving || !(domCodes.contains d) || d = 0 || d = 1 || !(s.dom d).powered || (s.dom d).restartAt.isSome then s
  else (s.raise 0xA112).restartFor d 0xA112

/-- DOMAIN_WATCHDOG (R637). -/
def execDomainWatchdog (dt d : Nat) (s : State) : Host.Outcome State Fault Refusal := done s (domainWatchdog d (s.blk.elapse dt))

/-- The domain whose restart began first. -/
def Blk.restartingDom (s : Blk) : Option Nat :=
  (domCodes.filter (fun d => (s.dom d).restartAt.isSome)).foldl (fun m d =>
    match m with
    | none => some d
    | some k => if ((s.dom d).restartAt.getD 0) < ((s.dom k).restartAt.getD 0) then some d else some k) none

/-- A restart is complete (R637): ready, clamps released; a recovery it was for goes on from its first step, and one of its
own ends. -/
def Blk.restartDone (s : Blk) (d : Nat) : Blk :=
  let since := (s.dom d).restartAt.getD s.now
  let s := s.domainUp d
  let s := if d = 6 && !bitN (s.regN Reg.LNK_CTL) 1 then s.startTraining 1 else s
  if s.ust.restarting = some d then
    let s := { s with ust := { s.ust with restarting := none } }
    match s.recovery with
    | some r => s.beginRecovery r
    | none => s
  else s.recoveryStats since

end Sys2Proof.Machine
end

