-- ==== Sys2Proof/Machine/Views.lean ====
section
/-! DEFINITION. What a read shows (12 R444): the stored value of a register, or for the registers that report state the
value their tables give, page by page. -/
namespace Sys2Proof.Machine

/-- A number of one bit per entry that satisfies a condition, from bit 0. -/
def maskOf (n : Nat) (f : Nat → Bool) : Nat := ((List.range n).map (fun i => 2 ^ i * b2n (f i))).foldl (· + ·) 0

/-- How many of the first `n` satisfy a condition. -/
def countOf (n : Nat) (f : Nat → Bool) : Nat := ((List.range n).filter f).length

/-- Four bytes as a word, the first lowest. -/
def word4 (f : Nat → Nat) : Nat := f 0 % 256 + 256 * (f 1 % 256) + 65536 * (f 2 % 256) + 16777216 * (f 3 % 256)

/-! ### The page header (R446 to R448) -/

/-- Spares that serve a block: how many, whether none of its kind remains, and its bits of UST.DEGRADED; none for a block
without spares. -/
def Blk.spareUse (s : Blk) (page : Nat) : Option (Nat × Bool × List Nat) :=
  if (0x20 ≤ page && page ≤ 0x32) then some (popcount 2 (s.regN Reg.DECC_ACTIVE / 65536), s.spareEngines.isEmpty, [0])
  else if page = 0x1B then
    let n := countOf 8 (fun g => bitN (s.spareMap g) 7)
    some (n, n = 8, [1])
  else if (0x0A ≤ page && page ≤ 0x0F) then
    let full (tx : Bool) : Bool := !s.laneSpare tx && (s.lanesOf tx .active).length = 4
    some (b2n (full false) + b2n (full true), !s.laneSpare false && !s.laneSpare true, [2, 3])
  else if (0x38 ≤ page && page ≤ 0x41) then some (b2n (s.pd.chans.any (fun c => c.adc = 8)), s.adcGone, [4])
  else if page = 0x14 then
    let n := ((s.mem.chans.map (·.spares)).foldl (· + ·) 0)
    some (n, s.mem.chans.all (fun c => 64 ≤ c.spares), [5, 6])
  else if page = 0x08 then
    some (((s.ust.sramUsed.map (·.2)).foldl (· + ·) 0), (List.range 256).all (fun m => s.noSpare .sram m), [7])
  else if page = 0x02 then some (s.ust.keySpared.length, 2 ≤ s.ust.keySpared.length, [8])
  else if page = 0x49 then
    let n := countOf 24 (fun c => (s.sink c).half)
    some (n, n = 24, [9])
  else none

/-- A header register that reports state. -/
def Blk.viewHeader (s : Blk) (page off : Nat) (p : PageInfo) : Option Nat :=
  match off with
  | 0x000 => some (p.c1.toNat * 2 ^ 24 + p.c2.toNat * 2 ^ 16 + p.inst * 2 ^ 8 + 1)
  | 0x004 => some (b2n (p.evts != 0) + 2 * b2n (p.tbl.any (fun d => d.acc = .rwb)) + 4 * b2n p.instanced +
      8 * b2n (p.dom = 2 || p.dom = 3 || p.dom = 4 || p.dom = 6 || 0x10 ≤ p.dom))
  | 0x008 =>
    let d := s.dom p.dom
    let u := s.spareUse page
    some (b2n d.powered + 2 * b2n d.ready + 4 * b2n (s.gateHeld p.dom) + 8 * b2n (match u with | some x => x.1 != 0 | none => false) +
      16 * b2n (match u with | some x => x.2.2.any (bitN (s.regN Reg.UST_DEGRADED)) | none => false) +
      32 * b2n (s.regF (Reg.HDR_FAULT page) 23 16 != 0))
  | 0x020 => some p.dom
  | 0x024 => some (match s.spareUse page with | some x => sat 8 x.1 + 256 * b2n x.2.1 | none => 0)
  | 0x02C => some (if page = 0x58 then 33 + 256 * countOf 33 (fun r => s.owner r != 0) else 0)
  | _ => none

/-! ### SYS, SES, BND, EVT, PWR, TMB, UST, THM -/

/-- The state code of SYS.STATE (17 R645). -/
def SysMode.code : SysMode → Nat
  | .starting => 0
  | .ready => 1
  | .coppice => 2
  | .halted => 3

/-- The 16 bytes of an entry of the fault log (17 R642). -/
def FlogEntry.bytes (e : FlogEntry) : List Byte := le 2 e.code ++ le 1 e.page ++ le 1 e.count ++ le 8 e.time ++ le 4 e.start

/-- The SYS page (17 R645). -/
def Blk.viewSys (s : Blk) (a : Nat) : Option Nat :=
  if a = Reg.SYS_STATE then some (s.sys.mode.code + 16 * (s.sys.phase % 8) + 256 * b2n s.sys.coppiceStart)
  else if a = Reg.SYS_FLOG_DATA then
    let sel := s.regN Reg.SYS_FLOG_SEL
    some (match s.sys.flog[fld sel 5 0]? with | some e => getLe e.bytes (4 * fld sel 9 8) 4 | none => 0)
  else none

/-- The state code of SES.SLOTn (13 R513). -/
def SlotState.code : SlotState → Nat
  | .free => 0
  | .challenged => 1
  | .opened => 2

/-- The SES page (13 R513). -/
def Blk.viewSes (s : Blk) (who : Who) (a : Nat) : Option Nat :=
  if Reg.SES_SLOT 0 ≤ a ∧ a ≤ Reg.SES_SLOT 3 then
    let n := (a - Reg.SES_SLOT 0) / 4
    let k := s.slot n
    some (k.st.code + 4 * k.role + 16 * b2n k.link + 32 * b2n (slotOf who = n))
  else if Reg.SES_COUNTER 0 ≤ a ∧ a ≤ Reg.SES_COUNTER 3 then some (s.slot ((a - Reg.SES_COUNTER 0) / 4)).counter
  else if a = Reg.SES_FAILS then
    some (sat 8 (s.ses.fails.getD 1 0) + 2 ^ 8 * sat 8 (s.ses.fails.getD 2 0) + 2 ^ 16 * sat 8 (s.ses.fails.getD 3 0))
  else if a = Reg.SES_KEYS then
    some (b2n (s.ses.opKey != .empty) + 2 * b2n (s.ses.svcKey = .factory) + 4 * b2n (s.ses.sealKey != .empty) + 16 * s.ust.keySpared.length)
  else none

/-- BND.MINE of a slot (12 R477). -/
def Blk.bndMine (s : Blk) (slot : Nat) : Nat :=
  (match s.openBundle slot with | some b => 1 + 4 * b.writes.length | none => 0) + 2 ^ 12 * (s.waitingOf slot).length

/-- The BND page (12 R477). -/
def Blk.viewBnd (s : Blk) (who : Who) (a : Nat) : Option Nat :=
  let me := s.bnd.callers.getD (slotOf who) {}
  if a = Reg.BND_MINE then some (s.bndMine (slotOf who))
  else if a = Reg.BND_LAST then some me.last
  else if a = Reg.BND_LAST_ABORT then some me.lastAbort
  else if a = Reg.BND_ABORT_ADDR then some me.abortAddr
  else if Reg.BND_SLOT 0 ≤ a ∧ a ≤ Reg.BND_SLOT 3 then some (s.bndMine ((a - Reg.BND_SLOT 0) / 4))
  else if a = Reg.BND_ENGINE then some (sat 4 s.bnd.eng.length)
  else none

/-- The EVT page: PENDINGk (12 R476). -/
def Blk.viewEvt (s : Blk) (a : Nat) : Option Nat :=
  if Reg.EVT_PENDING 0 ≤ a ∧ a ≤ Reg.EVT_PENDING 7 then
    let k := (a - Reg.EVT_PENDING 0) / 4
    some (maskOf 32 (fun b => (s.reg (Reg.HDR_EVT_LATCH (32 * k + b)) &&& s.reg (Reg.HDR_EVT_ENABLE (32 * k + b))) != 0))
  else none

/-- The state code of PWR.STATE (16 R621); the states that no read reaches show 0. -/
def Blk.pwrState (s : Blk) : Nat :=
  match s.pwr.mode with
  | .run => b2n (bitN (s.regN Reg.PWR_CTL) 0)
  | .entering => 2
  | .waking _ => 3
  | .enteringOff => 4
  | _ => 0

/-- One bit per domain, laid out as PWR.POWERED (16 R620). -/
def domMask (f : Nat → Bool) : Nat := maskOf 8 f + 2 ^ 8 * maskOf 18 (fun n => f (0x10 + n))

/-- The PWR page (16 R620, R621). -/
def Blk.viewPwr (s : Blk) (a : Nat) : Option Nat :=
  if a = Reg.PWR_STATE then some (s.pwrState + 8 * b2n s.coppice)
  else if a = Reg.PWR_POWERED then some (domMask (fun d => (s.dom d).powered))
  else if a = Reg.PWR_HELD then some (domMask s.held)
  else if a = Reg.PWR_WAKE_EN then some ((s.regN a ||| 0x21) % 2 ^ 32)
  else none

/-- The TMB page (16 R623). -/
def Blk.viewTmb (s : Blk) (a : Nat) : Option Nat :=
  let t := s.time
  if a = Reg.TMB_STATUS then
    let disc := t.ringRuns && (match t.windowAt with | some w => s.now < w + 62500000 | none => false)
    some (b2n t.valid + 2 * b2n disc + 4 * b2n t.excursion + 8 * b2n t.nominal)
  else if a = Reg.TMB_TIME_LO then some (s.now % 2 ^ 32)
  else if a = Reg.TMB_TIME_HI then some (s.now / 2 ^ 32 % 2 ^ 32)
  else if a = Reg.TMB_AON_PERIOD then some t.period
  else if a = Reg.TMB_AON_COUNT then some (t.aon % 2 ^ 32)
  else if a = Reg.TMB_UNCERT_LO then some (t.uncert % 2 ^ 32)
  else if a = Reg.TMB_UNCERT_HI then some (t.uncert / 2 ^ 32 % 2 ^ 32)
  else if a = Reg.TMB_LAST_BOUND then some (sat 32 t.lastBound)
  else if a = Reg.TMB_LAST_ADDED_LO then some (t.lastAdded % 2 ^ 32)
  else if a = Reg.TMB_LAST_ADDED_HI then some (t.lastAdded / 2 ^ 32 % 2 ^ 32)
  else none

/-- UST.RECOVERY (17 R646): the recovery under way, or the domain restart that stands alone. -/
def Blk.recoveryView (s : Blk) : Nat :=
  let show_ (kind since queued : Nat) (esc : Bool) : Nat :=
    1 + 2 * kind + 128 * b2n esc + 2 ^ 8 * sat 4 queued + 2 ^ 16 * sat 16 ((s.now - since) / 3125)
  match s.ust.queue with
  | r :: t => show_ (match s.ust.restarting with | some _ => SpareKind.domain.code | none => r.kind.code) r.since t.length r.escalated
  | [] => match s.restartingDom with
    | some d => show_ SpareKind.domain.code ((s.dom d).restartAt.getD s.now) 0 false
    | none => 0

/-- The UST page (17 R646). -/
def Blk.viewUst (s : Blk) (a : Nat) : Option Nat :=
  if a = Reg.UST_SPARES_A then
    some (sat 2 s.spareEngines.length + 2 ^ 4 * maskOf 8 (fun g => !bitN (s.spareMap g) 7) + 2 ^ 12 * b2n (s.laneSpare false) +
      2 ^ 13 * b2n (s.laneSpare true) + 2 ^ 14 * b2n (!s.adcGone) + 2 ^ 16 * (2 - s.ust.keySpared.length) +
      2 ^ 24 * countOf 24 (fun c => (s.sink c).half))
  else if a = Reg.UST_SPARES_B then some ((64 - (s.memCh 0).spares) + 2 ^ 16 * (64 - (s.memCh 1).spares))
  else if a = Reg.UST_SRAM then
    let left := ((List.range 256).map (fun m => (Config.sramSpares m).toNat - s.sramUsed m)).foldl (· + ·) 0
    some (sat 16 left + 2 ^ 16 * sat 16 ((s.ust.sramUsed.map (·.2)).foldl (· + ·) 0))
  else if a = Reg.UST_RECOVERY then some s.recoveryView
  else none

/-- The junction stands above THM.LIMITS.warn (17 R640, R648). -/
def Blk.aboveWarn (s : Blk) : Bool := decide ((256 * s.regF Reg.THM_LIMITS 7 0 : Nat) < sgn 16 (s.regF Reg.THM_TEMP 15 0))

/-- The THM page (17 R648). -/
def Blk.viewThm (s : Blk) (a : Nat) : Option Nat :=
  if a = Reg.THM_HEALTH then
    some (b2n (s.regN Reg.UST_DEGRADED != 0) + 2 * b2n s.coppice + 4 * b2n s.aboveWarn + 8 * b2n (!s.time.valid) +
      16 * b2n (s.tly.sealSt != .closed || s.tly.unsealing))
  else if a = Reg.THM_VCORE then some s.vcore
  -- an hour is 1.125 × 10^12 ticks
  else if a = Reg.THM_HOURS then some (s.time.worked / 1125000000000 % 2 ^ 32)
  else none

/-! ### ADM (02 R85 to R90; 06 R247; 10 R395) -/

/-- ADM.PACE_NOW (02 R86). -/
def Blk.paceNow (s : Blk) : Nat :=
  let e := (s.slowest ((List.range 18).filter s.engActive)).getD 0
  s.dec.fabric % 65536 + 2 ^ 16 * e + 2 ^ 21 * (s.gaugeOf e / 32 % 2048)

/-- The 16 bytes of an entry of the admission history (02 R90). -/
def HistEntry.bytes (e : HistEntry) : List Byte :=
  le 4 e.tag ++ le 4 e.seq ++ le 1 e.verdict ++ le 1 e.state ++ le 2 e.fault ++ le 4 e.time

/-- The pool with the oldest record not yet released, and that record (06 R247). -/
def Blk.poolHead (s : Blk) : Option (Nat × Rec) :=
  (s.store.pools.zipIdx).foldl (fun m p =>
    match p.1.recs.head?, m with
    | none, _ => m
    | some r, none => some (p.2, r)
    | some r, some x => if r.order < x.2.order then some (p.2, r) else some x) none

/-- Slots that wait (10 R366, R395): for stage 0, for a share, or for a gap between sweeps. -/
def Blk.slotsWaiting (s : Blk) : Nat :=
  s.cal.waiting.length + s.cal.shareWait.length +
  (s.pd.calDue.filter (fun p => !s.cal.waiting.contains (.pd, p.1) && !s.cal.shareWait.contains (.pd, p.1))).length

/-- ADM.CAMPn (10 R395). -/
def Blk.campView (s : Blk) (u : Nat) : Nat :=
  match s.fitUnit u with
  | some c => sat 9 c.settled + 2 ^ 16 * sat 9 c.used
  | none => 0

/-- The ADM page. -/
def Blk.viewAdm (s : Blk) (who : Who) (a : Nat) : Option Nat :=
  if a = Reg.ADM_PACE_NOW then some s.paceNow
  else if a = Reg.ADM_CAPACITY then some (s.nEngines + 2 ^ 8 * s.txLanes)
  else if a = Reg.ADM_MEM_CAP then some (if s.coppice then 0 else s.memCap)
  else if a = Reg.ADM_LINK_CAP then some s.linkCap
  else if a = Reg.ADM_LOAD_ENG then some ((s.engineLoad s.jobs s.pacePlan).pct + 2 ^ 16 * (s.engineLoad s.jobs s.paceMeasured).pct)
  else if a = Reg.ADM_LOAD_MEM then some (if s.coppice then 0 else (s.dramLoad s.jobs).pct)
  else if a = Reg.ADM_LOAD_LINK then some (s.linkLoad s.jobs).pct
  else if a = Reg.ADM_LIVE then
    some (sat 8 s.jobs.length + 2 ^ 8 * sat 2 (s.jobs.filter (fun j => j.kind = 3)).length + 2 ^ 16 * (occupancySum s.jobs).pct)
  else if a = Reg.ADM_HIST_SEL then some (s.selector who 2)
  else if a = Reg.ADM_HIST_DATA then
    let sel := s.selector who 2
    some (match s.hist[fld sel 5 0]? with | some e => getLe e.bytes (4 * fld sel 9 8) 4 | none => 0)
  else if Reg.ADM_COST 0 ≤ a ∧ a ≤ Reg.ADM_COST 39 then
    let n := (a - Reg.ADM_COST 0) / 4
    some (if n % 8 = 7 then 0 else symCost (n / 8) (n % 8 + 1) % 65536)
  else if Reg.ADM_POOL 0 ≤ a ∧ a ≤ Reg.ADM_POOL 15 then
    let p := (a - Reg.ADM_POOL 0) / 4
    some (sat 16 (ceilDiv (s.poolReserved p) 64) + 2 ^ 16 * sat 16 (ceilDiv (s.pool p).held 64))
  else if a = Reg.ADM_POOL_HEAD then
    some (match s.poolHead with | some (p, r) => p + 2 ^ 16 * (r.seq % 65536) | none => 0)
  else if a = Reg.ADM_CAL_STATE then
    some (b2n (s.regF Reg.ADM_CAL_STATE 0 0 = 1 && s.regF Reg.ADM_SHORTFALL 1 0 < 2 && s.calShareLeft) + 2 ^ 8 * sat 8 s.slotsWaiting +
      2 ^ 16 * s.rollWindow.regF Reg.ADM_CAL_STATE 31 16)
  else if a = Reg.ADM_SPEC_USED then some (s.usedPct (s.lastUsed false))
  else if a = Reg.ADM_CAL_USED then some (s.usedPct (s.lastUsed true))
  else if a = Reg.ADM_CAMP0 then some (s.campView 0)
  else if a = Reg.ADM_CAMP1 then some (s.campView 1)
  else none

/-! ### The staring path (03, 04) -/

/-- A current trim as its byte: the factory trim and the difference the loop has made (03 R120, R139). -/
def Blk.trimByte (s : Blk) (c : Nat) : Nat := twos 8 ((Config.factoryTrim c).toInt + s.sns.trims.getD c 0)

/-- A frame can be taken by a trigger accepted now without an added delay (03 R103, R133): for some live job that takes triggers,
or, when there is none, as far as the previous frame's occupancy goes (log 83). -/
def Blk.sensorReady (s : Blk) : Bool :=
  let takers := s.jobs.filter Job.takes
  s.domReady 2 && s.sns.busy4 ≤ 4 * (s.now + 40) && (takers.isEmpty || takers.any (fun j => !s.sensorBusy j (s.now + 40)))

/-- LOCX.SPARE_STATUS: spares in use, groups with a degraded column, drift alarms (03 R139). -/
def Blk.spareStatus (s : Blk) : Nat :=
  maskOf 8 (fun g => bitN (s.spareMap g) 7) + 2 ^ 8 * maskOf 8 (fun g => s.regN (Reg.LOCX_DEGRADED g) != 0) +
  2 ^ 16 * s.regF Reg.LOCX_SPARE_STATUS 23 16

/-- SNS, ROI and LOCX (03 R128, R133, R139; 04 R174). -/
def Blk.viewLoc (s : Blk) (a : Nat) : Option Nat :=
  if a = Reg.SNS_EXP_STATUS then
    let fr := s.sns.frames
    some (b2n s.sensorReady + 2 * b2n (fr.any Frame.exposing) + 4 * b2n (fr.any (·.storage)) +
      8 * b2n s.mapping.isSome + 16 * b2n (tempOut (s.regF Reg.SNS_TEMP 15 0)))
  else if a = Reg.SNS_DEFECTS then some (min 400 s.sns.defects.length)
  else if a = Reg.LOCX_SPARE_STATUS then some s.spareStatus
  else if a = Reg.SNS_BLACK then some ((Config.reading a (s.regN Reg.SNS_FRAMES)).toNat % 2 ^ 12)
  else if a = Reg.ROI_STAGING then some (min 8191 s.staged)
  else if Reg.LOCX_TRIM 0 ≤ a ∧ a ≤ Reg.LOCX_TRIM 63 then some (word4 (fun b => s.trimByte (a - Reg.LOCX_TRIM 0 + b)))
  else if a = Reg.LOCX_SPARE_TRIM0 then some (word4 (fun b => s.trimByte (256 + b)))
  else if a = Reg.LOCX_SPARE_TRIM1 then some (word4 (fun b => s.trimByte (260 + b)))
  else if Reg.LOCX_FTRIM 0 ≤ a ∧ a ≤ Reg.LOCX_FTRIM 63 then
    some (word4 (fun b => (Config.factoryTrim (a - Reg.LOCX_FTRIM 0 + b)).toNat))
  else none

/-- DEC.STATE (04 R182). -/
def Blk.decState (s : Blk) (e : Nat) : Nat :=
  let role := if s.engActive e then 1 else if bitN (s.regN Reg.DECC_SPARE) e then 2 else if bitN (s.regN Reg.DECC_RETIRED) e then 3 else 0
  let task := match s.taskOn e with | none => 0 | some t => if t.shadow then 3 else if t.admitted then 1 else 2
  role + 16 * task + 256 * min 2 (s.slotsHeld e)

/-- DEC.PACE (04 R181): the gauge, and the lowest of the last second. -/
def Blk.decPace (s : Blk) (e : Nat) : Nat :=
  let low := (((s.dec.engMin.getD e []).filter (fun p => s.now < p.1 + 312500000)).map (·.2)).foldl min (s.gaugeOf e)
  s.gaugeOf e % 65536 + 2 ^ 16 * (low % 65536)

/-- DEC.BUSY (04 R181): the ticks of the tasks that have ended, and of the one that runs. -/
def Blk.decBusy (s : Blk) (e : Nat) : Nat :=
  (s.regN (Reg.DEC_BUSY e) + (match s.taskOn e with | some t => s.now - t.startedAt | none => 0)) % 2 ^ 32

/-- A speculation share of the window is used up (02 R71; 04 R176). -/
def Blk.specSpent (s : Blk) : Bool :=
  let sh := s.regN Reg.ADM_SHARES
  !(s.shareLeft (s.specUsed false) (fld sh 7 0) && s.memShareLeft s.rollWindow.dec.specBytes (fld sh 23 16))

/-- The DEC, DECC and CRU pages (04 R176, R179, R181). -/
def Blk.viewDec (s : Blk) (a : Nat) : Option Nat :=
  let e := pageOf a - 0x20
  if a = Reg.DECC_TASKS then
    some (sat 8 s.dec.queue.length + 2 ^ 8 * sat 8 (s.dec.running.filter (·.admitted)).length +
      2 ^ 16 * sat 8 (s.dec.running.filter (fun t => !t.admitted && !t.shadow)).length)
  else if a = Reg.CRU_STATE then
    let stopped := s.regF Reg.ADM_SHORTFALL 1 0 != 0
    some (b2n (bitN (s.regN Reg.CRU_SPEC_CTL) 0 && !stopped && s.dec.queue.isEmpty && !s.coppice && !s.specSpent) +
      2 * b2n stopped + 4 * b2n s.specSpent)
  else if 0x20 ≤ pageOf a ∧ e < 18 then
    (if a = Reg.DEC_STATE e then some (s.decState e) else if a = Reg.DEC_PACE e then some (s.decPace e)
     else if a = Reg.DEC_BUSY e then some (s.decBusy e) else none)
  else none

/-! ### The photodiode chain and sweeps (07, 08) -/

/-- The sweep whose window is open, or the one whose boundary passed last. -/
def Blk.currentSweep (s : Blk) : Option Sweep :=
  match s.swp.sweeps.find? (fun w => w.opened && !w.closed) with
  | some w => some w
  | none => (s.swp.sweeps.filter (fun w => !w.closed)).getLast?

/-- A channel is producing profile samples (07 R298): the window of a sweep has opened, its profile is not yet full, and the channel
runs or still has samples of the sweep to work on. -/
def Blk.producing (s : Blk) (ch : Nat) : Bool :=
  s.swp.sweeps.any (fun w => w.opened && !w.isOver &&
    w.chans.any (fun c => c.ch = ch && c.words.length < w.job.profileLen && (s.chRuns ch || !c.smps.isEmpty)))

/-- The settings that PDC.SETTLE, SETTLE_UNFREEZE and GROUP_DELAY follow, and the gain. -/
def Blk.pdcView (s : Blk) (ch off : Nat) : Option Nat :=
  let c := s.pdch ch
  match off with
  | 0x050 => some (settleN (s.regF (Reg.PDC_CFG ch) 2 0) c.preset % 2 ^ 24)
  | 0x054 => some (settleUnfreeze c.preset % 2 ^ 24)
  | 0x05C => some (groupDelay c.preset % 2 ^ 16)
  | 0x060 => some c.adc
  | _ => none

/-- The PDA, PDC, RSM and FIR pages (07 R292, R295, R297, R298; 08 R321). -/
def Blk.viewPd (s : Blk) (a : Nat) : Option Nat :=
  let p := pageOf a
  if a = Reg.PDA_STATUS then
    some (maskOf 8 s.chRuns + 2 ^ 8 * maskOf 8 (fun c => (s.pdch c).frozen) + 2 ^ 16 * maskOf 8 (fun c => (s.pdch c).suppressing) +
      2 ^ 24 * maskOf 8 (fun c => (s.pdch c).lost))
  else if 0x38 = p ∧ 0x100 ≤ offOf a ∧ offOf a % 16 = 8 ∧ offOf a < 0x180 then some (s.presetReg ((offOf a - 0x100) / 16)).k
  else if 0x39 ≤ p ∧ p ≤ 0x40 then s.pdcView (p - 0x39) (offOf a)
  else if a = Reg.PDC_ADC_MAP 8 then some (((List.range 8).find? (fun c => (s.pdch c).adc = 8)).getD 0xF)
  else if a = Reg.FIR_BANK_STATE then some s.bankState
  else if a = Reg.FIR_FADE_POS then some (s.fadePos % 2 ^ 13)
  else if a = Reg.RSM_STATUS then some (maskOf 8 s.producing)
  else if a = Reg.RSM_PITCH then some (match s.currentSweep with | some w => w.job.pitch | none => 0)
  else if a = Reg.RSM_KERNEL_DATA then
    let sel := s.regN Reg.RSM_KERNEL_SEL
    some (twos 19 ((kernel (fld sel 7 0)).getD (fld sel 11 8) 0))
  else if a = Reg.RSM_POS_FILL then some s.posFill
  else none

/-! ### Illumination (11 R434 to R439) -/

/-- The source code of LIT.STATUS.owner. -/
def LitSrc.owner : LitSrc → Nat
  | .strobe => 1
  | .pat0 => 2
  | .pat1 => 3

/-- LIT.STATUS (11 R435). -/
def Blk.litStatus (s : Blk) : Nat :=
  let (row, own) := match s.lit.cond, s.lit.prech with
    | some c, _ => (c.row, c.src.owner)
    | none, some (src, row, _) => (row, src.owner)
    | none, none => (0, 0)
  row % 8 + 8 * b2n s.lit.cond.isSome + 16 * own + 64 * b2n s.lit.prech.isSome +
    128 * b2n (match s.lit.cond with | some c => c.stretch | none => false)

/-- A running pattern engine is suspended on a column it uses (11 R417, R418). -/
def Blk.patSuspended (s : Blk) (e : Nat) : Bool :=
  let p := s.pat e
  let l := s.wants
  let me := LitSrc.pat e
  p.running && (s.patQuiet e || (p.rows != 0 && (List.range 24).any (s.patUses e) && (match s.top with
      | some w => (List.range 24).any (fun c => s.patUses e c && (match s.colSource w.row c w.src l with | some (x, _) => x != me | none => true))
      | none => true)))

/-- PAT.STATE, ROWS and ELAPSED (11 R438). -/
def Blk.patView (s : Blk) (e off : Nat) : Option Nat :=
  let p := s.pat e
  match off with
  | 0x048 => some (p.step % 64 + 2 ^ 8 * b2n p.running + 2 ^ 9 * b2n p.waiting + 2 ^ 10 * b2n (s.patSuspended e) +
      2 ^ 11 * b2n (!p.running) + 2 ^ 12 * b2n p.timedOut + 2 ^ 16 * (p.level % 4096))
  | 0x04C => some (p.rows % 256)
  | 0x050 => some (if p.running then sat 16 ((s.q - p.stepAt4) / s.unit4 e) else 0)
  | _ => none

/-- How many LED positions show a state (11 R439). -/
def Blk.ledCount (s : Blk) (st : Nat) : Nat := sat 8 (s.lit.pos.filter (fun p => p.st = st)).length

/-- LIT.LAST_FRAME.next_row: the row the chase lights next; 0 without a chase (11 R406; log 83). -/
def Blk.nextRowShown (s : Blk) : Nat :=
  let v := s.regN Reg.LIT_STROBE_CTL
  if bitN v 8 && fld v 7 0 != 0 then s.chaseRow else 0

/-- The LIT, PAT and LITD pages (11 R434 to R439). -/
def Blk.viewLit (s : Blk) (a : Nat) : Option Nat :=
  let p := pageOf a
  if a = Reg.LIT_THERM_STATUS then
    some (s.lit.temp % 65536 + 2 ^ 16 * (s.lit.factor % 512) + 2 ^ 28 * b2n s.lit.shutdown + 2 ^ 29 * b2n s.lit.ntcOpen +
      2 ^ 30 * b2n s.lit.ntcShort)
  else if a = Reg.LIT_STATUS then some s.litStatus
  else if a = Reg.LIT_LAST_FRAME then some (putFld (s.regN a) 10 8 s.nextRowShown)
  else if p = 0x4A ∨ p = 0x4B then s.patView (p - 0x4A) (offOf a)
  else if a = Reg.LITD_SUMMARY then some (s.ledCount 2 + 2 ^ 8 * s.ledCount 0 + 2 ^ 16 * s.ledCount 3 + 2 ^ 24 * s.ledCount 1)
  else if Reg.LITD_STATE_LO 0 ≤ a ∧ a ≤ Reg.LITD_STATE_HI 7 then
    let r := (a - Reg.LITD_STATE_LO 0) / 8
    let c0 := if offOf a % 8 = 0 then 0 else 16
    some (((List.range (if c0 = 0 then 16 else 8)).map (fun c => 4 ^ c * ((s.ledPos r (c0 + c)).st % 4))).foldl (· + ·) 0)
  else none

/-! ### Tally (09 R360 to R364) -/

/-- The ID page and the Tally pages. -/
def Blk.viewTly (s : Blk) (who : Who) (a : Nat) : Option Nat :=
  if Reg.ID_TALLY_PK 0 ≤ a ∧ a ≤ Reg.ID_TALLY_PK 7 then some (getLe tallyPublic (a - Reg.ID_TALLY_PK 0) 4)
  else if Reg.ID_TALLY_IDENT 0 ≤ a ∧ a ≤ Reg.ID_TALLY_IDENT 7 then some (getLe (identityOf s.activeBlock) (a - Reg.ID_TALLY_IDENT 0) 4)
  else if a = Reg.TLY_STATE then some s.tlyState
  else if a = Reg.TLY_SEGMENT then some (s.tly.segment % 2 ^ 32)
  else if a = Reg.TLY_NEXT_SEQ then some (s.tly.nextSeq % 2 ^ 32)
  else if a = Reg.TLY_BLOCKS then some (s.tly.signed % 2 ^ 32)
  else if a = Reg.TLY_STORE then some (sat 13 s.recordsHeld + 2 ^ 16 * sat 6 (s.tly.store.filter (·.isSeal)).length)
  else if a = Reg.TLYC_PARAM_SEL then some (s.selector who 0)
  else if a = Reg.TLYC_PARAM_DATA then some (s.paramRead who).1
  else if Reg.TLYC_STAGED_IDENT 0 ≤ a ∧ a ≤ Reg.TLYC_STAGED_IDENT 7 then
    some (getLe (identityOf s.stagedBlock) (a - Reg.TLYC_STAGED_IDENT 0) 4)
  else if a = Reg.TLYA_COUNTER then some (s.tly.counter % 2 ^ 24)
  else if a = Reg.TLYA_ENTRIES then some (s.tly.entries % 2 ^ 32)
  else if a = Reg.TLYA_LOG_SEL then some (s.selector who 1)
  else if a = Reg.TLYA_LOG_DATA then
    let sel := s.selector who 1
    some (getLe (s.logEntry (fld sel 7 0)) (4 * fld sel 11 8) 4)
  else none

/-! ### Chain, link and memory (14 R548 to R552; 15 R585, R588) -/

/-- LNK.STATE.state (14 R549). -/
def LinkState.code : LinkState → Nat
  | .down => 0
  | .detect => 1
  | .clock => 2
  | .align => 3
  | .eq => 4
  | .confirm => 5
  | .up => 6
  | .limpTrain => 7
  | .limpUp => 8
  | .standalone => 9

/-- The code of a lane's role (14 R551). -/
def LaneRole.code : LaneRole → Nat
  | .off => 0
  | .active => 1
  | .spare => 2
  | .failed => 3

/-- LNK.RX_MAP and TX_MAP: logical lane i is the i-th active physical lane (14 R548). -/
def Blk.laneMap (s : Blk) (tx : Bool) : Nat :=
  (((s.lanesOf tx .active).take 4).zipIdx.map (fun p => 16 ^ p.2 * (p.1 + 8))).foldl (· + ·) 0

/-- LNK.LANE_STATE (14 R551). -/
def Blk.laneState (s : Blk) (n : Nat) : Nat :=
  let l := s.lane n
  let idx := ((s.lanesOf false .active).filter (fun k => k < n)).length
  l.rx.code + 4 * l.tx.code + 16 * b2n l.lock + 32 * b2n l.aligned + 64 * b2n l.inverted +
    2 ^ 8 * (if l.rx = .active then idx else 0) + 2 ^ 12 * (l.partner % 8)

/-- A lane's page (14 R551). -/
def Blk.viewLane (s : Blk) (n off : Nat) : Option Nat :=
  match off with
  | 0x040 => some (s.laneState n)
  | 0x050 => some (s.regN (Reg.LNK_EYE_CTL n) + 2 ^ 16 * b2n (s.lane n).scanAsked)
  | 0x05C => some ((s.lane n).eye.getD (s.regF (Reg.LNK_EYE_SEL n) 6 0) 0).toNat
  | 0x064 => some ((Config.reading (Reg.LNK_SKEW n) (s.regN Reg.LNK_TRAINS)).toNat % 17)
  | _ => none

/-- The LNK, LNKn and LNKCK pages (14 R548 to R552). -/
def Blk.viewLnk (s : Blk) (a : Nat) : Option Nat :=
  let k := s.lnk
  let p := pageOf a
  if a = Reg.LNK_STATE then
    some (k.state.code + 16 * (k.lastPhase % 16) + 2 ^ 8 * (k.attempt % 4) + 2 ^ 10 * (k.limpAttempt % 4) +
      2 ^ 12 * (s.lanesOf false .active).length + 2 ^ 16 * (s.lanesOf true .active).length + 2 ^ 20 * b2n (s.laneSpare false) +
      2 ^ 21 * b2n (s.laneSpare true))
  else if a = Reg.LNK_RX_MAP then some (s.laneMap false)
  else if a = Reg.LNK_TX_MAP then some (s.laneMap true)
  else if a = Reg.LNK_RETRY_FILL then some (sat 11 (ceilDiv s.retryBytes 64) + 2 ^ 16 * sat 13 k.retry.length)
  else if a = Reg.LNK_CREDIT then some (sat 16 (k.creditLeft / 64) + 2 ^ 16 * sat 16 k.granted)
  else if 0x0B ≤ p ∧ p ≤ 0x0F then s.viewLane (p - 0x0B) (offOf a)
  else if a = Reg.LNKCK_CK_STATE then
    some (b2n k.ckPresent + 2 * b2n k.ckLocked + 4 * b2n k.ckForward + 8 * b2n k.holdover.isSome +
      16 * b2n (bitN (s.regN Reg.LNKCK_CK_CFG) 0 && k.ckForward && s.time.ringRuns))
  else if a = Reg.LNKCK_CK_FREQ then some ((Config.reading a s.now).toNat % 65536)
  else none

/-- MEM.CAPACITY: the usable data space in KiB (15 R561), less the slots retired (R579). -/
def Blk.memCapacity (s : Blk) : Nat :=
  let c := s.regN Reg.MEM_CONFIG
  2 ^ 21 * (fld c 1 0) * (if bitN c 2 then 2 else 1) * 7 / 8 - 256 - 18432 * s.mem.retiredSlots

/-- MEMF.REF_A and REF_B (15 R588). -/
def Blk.refView (s : Blk) (ch : Nat) : Nat :=
  let c := s.memCh ch
  let two := 2 ≤ c.ranks.length
  let k0 := c.rank 0
  let k1 := c.rank 1
  let least := if two then min (mr4Ceiling k0.mr4) (mr4Ceiling k1.mr4) else mr4Ceiling k0.mr4
  let iv := if least = 8 then 0 else if least = 4 then 1 else 2
  k0.mr4 % 8 + 16 * (if two then k1.mr4 % 8 else 0) + 2 ^ 8 * iv + 2 ^ 12 * least + 2 ^ 16 * twos 5 k0.debt +
    2 ^ 24 * (if two then twos 5 k1.debt else 0)

/-- The MEM and MEMF pages (15 R585, R588). -/
def Blk.viewMem (s : Blk) (a : Nat) : Option Nat :=
  if a = Reg.MEM_CAPACITY then some (s.memCapacity % 2 ^ 24)
  else if a = Reg.MEM_ARCHIVE then some (sat 9 s.mem.slots + 2 ^ 16 * sat 9 s.mem.held.length)
  else if a = Reg.MEMF_REF_A then some ((s.overdue 0).refView 0)
  else if a = Reg.MEMF_REF_B then some ((s.overdue 1).refView 1)
  else if a = Reg.MEMF_REF_COUNTS then some (((s.overdue 0).overdue 1).regN a)
  else none

/-- The level on general-purpose pin `i` as GP_IN shows it (12 R475): what the engine drives on the pin, else its input. -/
def Blk.pinLevel (s : Blk) (i : Nat) : Bool :=
  (s.pins.gp.getD i none).getD (s.gpc.level.getD i false)

/-! ### Every register -/

/-- The value a register reports that is not stored, by page. -/
def Blk.viewPage (s : Blk) (who : Who) (a : Nat) : Option Nat :=
  let p := pageOf a
  if p = 0x01 then s.viewSys a
  else if p = 0x02 then s.viewSes who a
  else if p = 0x03 then s.viewBnd who a
  else if p = 0x04 then s.viewAdm who a
  else if p = 0x05 then s.viewEvt a
  else if p = 0x06 then s.viewPwr a
  else if p = 0x07 then s.viewTmb a
  else if p = 0x08 then s.viewUst a
  else if 0x0A ≤ p ∧ p ≤ 0x10 then s.viewLnk a
  else if 0x11 ≤ p ∧ p ≤ 0x14 then s.viewMem a
  else if 0x18 ≤ p ∧ p ≤ 0x1B then s.viewLoc a
  else if 0x20 ≤ p ∧ p ≤ 0x33 then s.viewDec a
  else if 0x38 ≤ p ∧ p ≤ 0x43 then s.viewPd a
  else if 0x48 ≤ p ∧ p ≤ 0x4C then s.viewLit a
  else if p = 0 ∨ (0x50 ≤ p ∧ p ≤ 0x52) then s.viewTly who a
  else if p = 0x58 then (if a = Reg.GPC_GP_IN then some (maskOf 8 s.pinLevel) else none)
  else if p = 0x59 then s.viewThm a
  else none

/-- The value of a register as a read returns it (00 R21, R22; 12 R442, R444): a write-only register, a reserved one and an
unnamed offset read 0. -/
def Blk.regValue (s : Blk) (who : Who) (a : Nat) : Nat :=
  match pageInfo (pageOf a), regDef a with
  | some p, some d =>
    if d.acc = .wo ∨ d.acc = .rsv then 0
    else if offOf a < 0x40 then (s.viewHeader (pageOf a) (offOf a) p).getD (s.regN a)
    else (s.viewPage who a).getD (s.regN a)
  | _, _ => 0

end Sys2Proof.Machine
end

