-- ==== Sys2Proof/Machine/Access.lean ====
section
/-! DEFINITION. Single register accesses (12 R440 to R444, R455; 16 R599): a read and a write of one register with all they
set going, the claims (12 R467 to R471), the stall on a gated domain, and the commands that are one access. -/
namespace Sys2Proof.Machine

/-! ### Stalls (R443; 16 R599) -/

/-- An access finds its domain gated: the domain wakes, and a switch that closes for it is counted. -/
def Blk.demandWake (s : Blk) (d : Nat) : Blk :=
  let s : Blk := if (s.dom d).powered then s else s.bump Reg.PWR_COUNTS 31 16 1
  s.wakeDom d

/-- An access waits for its domain. -/
def Blk.park (s : Blk) (d : Nat) (what : Pending) : Blk :=
  { s with chn := { s.chn with stalls := s.chn.stalls ++ [{ dom := d, since := s.now, what := what }] },
           acc := { stalled := true, status := 0, value := 0 } }

/-! ### Reads (R440 to R444; 03 R129; 09 R363; 12 R475) -/

/-- The _HI register of a timestamp pair, by its _LO register (03 R129). -/
def hiOf (a : Nat) : Option Nat :=
  if a = Reg.SNS_TRIG_TIME_LO ∨ a = Reg.SNS_EOE_TIME_LO ∨ a = Reg.RSM_POS_LAST_LO ∨ a = Reg.TMB_TIME_LO then some (a + 4) else none

/-- A captured half, and the captures without it. -/
def takeCapture (a : Nat) (l : List (Nat × Word)) : Option Word × List (Nat × Word) := (lookupReg l a, eraseReg l a)

/-- A read that has passed its checks reaches the register: its value, and what the read itself changes. -/
def Blk.readNow (s : Blk) (who : Who) (a : Nat) : Nat × Blk :=
  match takeCapture a s.hiCapture with
  | (some w, rest) => (w.toNat, { s with hiCapture := rest })
  | (none, _) =>
    let v := s.regValue who a
    match hiOf a with
    | some h => (v, { s with hiCapture := insertReg s.hiCapture h (BitVec.ofNat 32 (s.regValue who h)) })
    | none =>
      if a = Reg.GPC_TIMERS then (v, s.setF a 15 8 0)
      else if a = Reg.TLYC_PARAM_DATA then s.paramRead who
      else (v, s)

/-- A read of one register: its status and value, or none when it must wait for its domain (R441, R443). -/
def Blk.readReg (s : Blk) (who : Who) (a : Nat) : Option (Nat × Nat) × Blk :=
  let c := s.readCheck who a
  if c != 0 then (some (c, 0), s.raise c)
  else
    let d := domOf a
    if !s.domReady d then (none, s.demandWake d)
    else
      let (v, s) := (s.touch [d]).readNow who a
      (some (0, v), s)

/-! ### Claims (R467 to R471) -/

/-- A live exposure job names a timer as its trigger. -/
def Blk.timerNamed (s : Blk) (n : Nat) : Bool := s.jobs.any (fun j => j.kind = 1 && j.trigger = 0x10 + n)

/-- A release is refused while the resource is in use (R470). -/
def Blk.claimInUse (s : Blk) (res : Nat) : Bool :=
  (8 ≤ res && res < 16 && s.timerNamed (res - 8)) || (16 ≤ res && res < 32 && s.poolBusy (res - 16))

/-- A take (R469); a pool taken anew numbers its records from 0 (06 R241). -/
def Blk.claimTake (s : Blk) (role res : Nat) : Nat × Blk :=
  let o := s.owner res
  if o = role then (0, s)
  else if o != 0 then (0xB010, s.raise 0xB010)
  else
    let s := s.setF (claimReg res) 7 0 role
    (0, if 16 ≤ res && res < 32 then s.updPool (res - 16) (fun p => { p with nextSeq := 0 }) else s)

/-- A release, ordinary or by force (R469, R470). -/
def Blk.claimRelease (s : Blk) (role res : Nat) (force : Bool) : Nat × Blk :=
  let o := s.owner res
  let code :=
    if o = 0x10 ∨ o = 0x11 then 0xB011
    else if force && role != 2 then 0xB003
    else if o = 0 ∨ (!force && o != role) then 0xB012
    else if s.claimInUse res then 0xB011
    else 0
  if code != 0 then (code, s.raise code) else (0, s.setF (claimReg res) 7 0 0)

/-- A value written to a claim register. -/
def Blk.claimWrite (s : Blk) (role res cmd : Nat) : Nat × Blk :=
  if cmd = 1 then s.claimTake role res else s.claimRelease role res (cmd = 3)

/-! ### Writes that set something going -/

/-- A write to ADM.CANCEL (02 R82): a host_tag that names no live job is ignored. -/
def Blk.cancel (s : Blk) (tag : Nat) : Blk :=
  match s.jobByTag tag with
  | some j => if j.kind = 1 then s.cancelExposure j else if j.kind = 2 then s.cancelSweep j else s.cancelCampaign j
  | none => s

/-- A write to CONTROL (R448, R450): fault_clear reads 0; a fault clear on the LIT page ends the lamp thermistor's latches
(log 31). -/
def Blk.writeControl (s : Blk) (page v : Nat) : Blk :=
  let s := s.setN (Reg.HDR_CONTROL page) (fld v 1 0)
  if bitN v 8 then
    let s := s.clearFault page
    if page = 0x48 then s.clearLtemp else s
  else s

/-- A write to BND.CMD (R453). -/
def Blk.bndCmd (s : Blk) (who : Who) (v : Nat) : Nat × Blk :=
  match fld v 3 0 with
  | 1 => s.bndOpen (slotOf who) (s.role who)
  | 2 => s.bndClose (slotOf who) (fld v 9 8)
  | _ => s.bndAbort (slotOf who)

/-- A write to SYS.START_CTL (17 R645). -/
def Blk.startCtl (s : Blk) (v : Nat) : Nat × Blk :=
  let s := if bitN v 0 then s.clearCount else s
  if bitN v 1 then s.restart else (0, s)

/-- A write to SES.CLOSE: the sessions of the mask close by force (13 R504, R513). -/
def Blk.forceClose (s : Blk) (v : Nat) : Blk :=
  (List.range 4).foldl (fun s n => if bitN v n && (s.slot n).st != .free then s.closeSlot n else s) s

/-- A write to LNK.CTL (14 R548). -/
def Blk.linkCtl (s : Blk) (v : Nat) : Blk :=
  let s := s.holdDown (bitN v 1)
  if bitN v 0 then s.retrainByWrite else s

/-- A write to LNK.EYE_CTL of a lane (14 R551): the trial setting, and a scan asked for. -/
def Blk.eyeCtl (s : Blk) (n v : Nat) : Blk :=
  let s := s.setN (Reg.LNK_EYE_CTL n) (putBit (putBit v 0 false) 16 false)
  if bitN v 0 then s.updLane n (fun l => { l with scanAsked := true }) else s

/-- A write to TMB.ALARM_CTL (16 R618, R623): 0 disarms. -/
def Blk.alarmCtl (s : Blk) (v : Nat) : Blk := if bitN v 0 then s else s.setF Reg.TMB_ALARM_CTL 0 0 0

/-- A coefficient write (07 R272); one that is refused aborts the bundle its writer has open. -/
def Blk.coefAccess (s : Blk) (who : Who) (a v : Nat) : Nat × Blk :=
  let (c, t) := s.coefWrite (decide (Reg.FIR_COEF_B 0 ≤ a)) ((a - Reg.FIR_COEF_A 0) / 4 % 32) v
  if c = 0 then (0, t)
  else match t.openBundle (slotOf who) with
    | some b => (c, t.abortBundle b c a 0)
    | none => (c, t.raise c)

/-- A write to a header register of a page (R448, R449). -/
def Blk.writeHeader (s : Blk) (page off v : Nat) : Blk :=
  match off with
  | 0x00C => s.writeControl page v
  | 0x014 => s.clearLatch page v
  | _ => s.setN (page * 0x400 + off) v

/-- A command register of the SYS, AON and SES pages. -/
def Blk.writeCmd (s : Blk) (a v : Nat) : Option (Nat × Blk) :=
  if a = Reg.SYS_START_CTL then some (s.startCtl v)
  else if a = Reg.SES_CLOSE then some (0, s.forceClose v)
  else if a = Reg.PWR_CMD then some (s.pwrCmd v)
  else if a = Reg.TMB_SET_LO then some (0, { s with time := { s.time with setLo := v } })
  else if a = Reg.TMB_SET_HI then some (s.setTime v)
  else if a = Reg.TMB_ALARM_HI then some (0, s.armAlarm (BitVec.ofNat 32 v))
  else if a = Reg.TMB_ALARM_CTL then some (0, s.alarmCtl v)
  else if a = Reg.TMB_CTL then some (0, if bitN v 0 then { s with time := { s.time with uncert := 0 } } else s)
  else if a = Reg.ADM_CANCEL then some (0, s.cancel v)
  else if a = Reg.ADM_SOFT_TRIG then some (s.softTrig v)
  else if a = Reg.ADM_CAL_LIT_CMD then some (0, s.armLit v)
  else if a = Reg.LNK_CTL then some (0, s.linkCtl v)
  else if a = Reg.LITD_RETEST then some (0, s.retest v)
  else none

/-- Pages of the exposure, locator, illumination, photodiode-chain and decode settings (01 R37). -/
def settingsPage (p : Nat) : Bool :=
  (0x18 ≤ p && p ≤ 0x1B) || (0x20 ≤ p && p ≤ 0x33) || (0x38 ≤ p && p ≤ 0x43) || (0x48 ≤ p && p ≤ 0x4C)

/-- A register whose direct write changes the configuration under what runs (01 R37): an RW register of a settings page, its header
included (log 83), but for the coefficients of the FIR banks and RSM.KERNEL_SEL (07 R272, R277). -/
def directSetting (a : Nat) : Bool :=
  accessOf a = .rw && settingsPage (pageOf a) && !(pageOf a = 0x43 && 0x100 ≤ offOf a) && a != Reg.RSM_KERNEL_SEL

/-- A direct write marks every frame and sweep in progress (01 R37; 06 R226, R235). -/
def Blk.markChanged (s : Blk) (a : Nat) : Blk :=
  if !directSetting a then s
  else { s with sns := { s.sns with frames := s.sns.frames.map (fun f => if f.isOver then f else { f with changed := true }) },
                swp := { s.swp with sweeps := s.swp.sweeps.map (fun w => if w.isOver then w else { w with changed := true }) } }

/-- A write of an RW, W1C, WO, RWS or claim register whose value keeps to its fields takes effect (R444). -/
def Blk.writeNow (s : Blk) (who : Who) (a v : Nat) : Nat × Blk :=
  let p := pageOf a
  if offOf a < 0x40 then (0, s.writeHeader p (offOf a) v)
  else if accessOf a = .claim then s.claimWrite (s.role who) ((a - claimReg 0) / 4) (fld v 9 8)
  else match s.writeCmd a v with
    | some r => r
    | none =>
      if a = Reg.BND_CMD then s.bndCmd who v
      else if a = Reg.ADM_HIST_SEL then (0, s.setSelector who 2 v)
      else if a = Reg.TLYC_PARAM_SEL then (0, s.setSelector who 0 v)
      else if a = Reg.TLYA_LOG_SEL then (0, s.setSelector who 1 v)
      else if a = Reg.TLYC_PARAM_DATA then s.paramWrite who v
      else if a = Reg.TLY_SEAL_CMD then
        let (c, t) := s.sealCmd v
        (c, if c = 0 then t.setN a v else t)
      else if 0x0B ≤ p ∧ p ≤ 0x0F ∧ a = Reg.LNK_EYE_CTL (p - 0x0B) then (0, s.eyeCtl (p - 0x0B) v)
      else if p = 0x43 then s.coefAccess who a v
      else (0, s.setN a v)

/-- A write of one register: its status, or none when it must wait for its domain (R441 to R444, R454, R455). A write that a
bundle stages reaches no domain yet. -/
def Blk.writeReg (s : Blk) (who : Who) (a : Nat) (v : Word) : Option Nat × Blk :=
  let c := s.writeCheck who a
  let acc := accessOf a
  let staged := acc = .rwb && (s.openBundle (slotOf who)).isSome
  if c != 0 && !(c = 0xB031 && staged) then (some c, s.raise c)
  else if staged then
    let (f, s) := s.rwbWrite who a v
    (some f, s)
  else
    let d := domOf a
    if !s.domReady d then (none, s.demandWake d)
    else
      let s := s.touch [d]
      if acc = .ro ∨ acc = .rsv then (some 0, s)
      else
        let (f, s) := if acc = .rwb then s.rwbWrite who a v
          else if valueOk a v.toNat then (s.markChanged a).writeNow who a v.toNat
          else (0xB025, s.raise 0xB025)
        (some f, s)

/-! ### One access -/

/-- A single read, with its outcome. -/
def Blk.read1 (s : Blk) (who : Who) (a : Nat) : Blk :=
  if !s.reaches false a then s
  else match s.readReg who a with
    | (some (c, v), s) => s.answer c v
    | (none, s) => s.park (domOf a) (.read who a)

/-- A single write, with its outcome. -/
def Blk.write1 (s : Blk) (who : Who) (a : Nat) (v : Word) : Blk :=
  if !s.reaches true a then s
  else match s.writeReg who a v with
    | (some c, s) => s.answer c 0
    | (none, s) => s.park (domOf a) (.write who a v)

/-! ### The commands that are one access -/

/-- CANCEL (02 R82). -/
def execCancel (dt : Nat) (who : Who) (tag : Word) (s : State) : Host.Outcome State Fault Refusal :=
  done s ((s.blk.elapse dt).write1 who Reg.ADM_CANCEL tag)

/-- SOFT_TRIG (02 R83). -/
def execSoftTrig (dt : Nat) (who : Who) (tag : Word) (s : State) : Host.Outcome State Fault Refusal :=
  done s ((s.blk.elapse dt).write1 who Reg.ADM_SOFT_TRIG tag)

/-- The address of a tap of a bank (07 R297). -/
def coefAddr (bank : Bool) (tap : Nat) : Nat := if bank then Reg.FIR_COEF_B (tap % 32) else Reg.FIR_COEF_A (tap % 32)

/-- COEF_WRITE (07 R272). -/
def execCoefWrite (dt : Nat) (who : Who) (bank : Bool) (tap : Nat) (v : Word) (s : State) : Host.Outcome State Fault Refusal :=
  done s ((s.blk.elapse dt).write1 who (coefAddr bank tap) v)

/-- UNSEAL: TLY.SEAL_CMD written with 0x01 (09 R353). -/
def execUnseal (dt : Nat) (who : Who) (s : State) : Host.Outcome State Fault Refusal :=
  done s ((s.blk.elapse dt).write1 who Reg.TLY_SEAL_CMD 1)

/-- RESEAL: TLY.SEAL_CMD written with 0x02 (09 R353). -/
def execReseal (dt : Nat) (who : Who) (s : State) : Host.Outcome State Fault Refusal :=
  done s ((s.blk.elapse dt).write1 who Reg.TLY_SEAL_CMD 2)

/-- PARAM_DATA_WRITE (09 R356). -/
def execParamDataWrite (dt : Nat) (who : Who) (v : Word) (s : State) : Host.Outcome State Fault Refusal :=
  done s ((s.blk.elapse dt).write1 who Reg.TLYC_PARAM_DATA v)

/-- PARAM_DATA_READ (09 R363). -/
def execParamDataRead (dt : Nat) (who : Who) (s : State) : Host.Outcome State Fault Refusal :=
  done s ((s.blk.elapse dt).read1 who Reg.TLYC_PARAM_DATA)

/-- CAL_LIT_CMD (10 R373). -/
def execCalLitCmd (dt : Nat) (who : Who) (v : Word) (s : State) : Host.Outcome State Fault Refusal :=
  done s ((s.blk.elapse dt).write1 who Reg.ADM_CAL_LIT_CMD v)

/-- LITD_RETEST (11 R424). -/
def execLitdRetest (dt : Nat) (who : Who) (v : Word) (s : State) : Host.Outcome State Fault Refusal :=
  done s ((s.blk.elapse dt).write1 who Reg.LITD_RETEST v)

/-- BND_OPEN: BND.CMD written with command 1 (12 R453). -/
def execBndOpen (dt : Nat) (who : Who) (s : State) : Host.Outcome State Fault Refusal :=
  done s ((s.blk.elapse dt).write1 who Reg.BND_CMD 1)

/-- BND_CLOSE: BND.CMD written with command 2 and a commit point (12 R453). -/
def execBndClose (dt : Nat) (who : Who) (point : Nat) (s : State) : Host.Outcome State Fault Refusal :=
  done s ((s.blk.elapse dt).write1 who Reg.BND_CMD (BitVec.ofNat 32 (2 + 256 * (point % 4))))

/-- BND_ABORT: BND.CMD written with command 3 (12 R453). -/
def execBndAbort (dt : Nat) (who : Who) (s : State) : Host.Outcome State Fault Refusal :=
  done s ((s.blk.elapse dt).write1 who Reg.BND_CMD 3)

/-- RWB_WRITE: a write to an RWB register, staged or made as a bundle of one write (12 R454). -/
def execRwbWrite (dt : Nat) (who : Who) (addr : Nat) (v : Word) (s : State) : Host.Outcome State Fault Refusal :=
  done s ((s.blk.elapse dt).write1 who addr v)

/-- EVT_LATCH_CLEAR (12 R449). -/
def execEvtLatchClear (dt : Nat) (who : Who) (page : Nat) (bits : Word) (s : State) : Host.Outcome State Fault Refusal :=
  done s ((s.blk.elapse dt).write1 who (Reg.HDR_EVT_LATCH page) bits)

/-- The value that clears FAULT of a page and leaves its event routing (12 R448). -/
def Blk.faultClearValue (s : Blk) (page : Nat) : Word := BitVec.ofNat 32 (s.regF (Reg.HDR_CONTROL page) 1 0 + 256)

/-- FAULT_CLEAR (12 R450). -/
def execFaultClear (dt : Nat) (who : Who) (page : Nat) (s : State) : Host.Outcome State Fault Refusal :=
  let b := s.blk.elapse dt
  done s (b.write1 who (Reg.HDR_CONTROL page) (b.faultClearValue page))

/-- CLAIM_TAKE (12 R469). -/
def execClaimTake (dt : Nat) (who : Who) (res : Nat) (s : State) : Host.Outcome State Fault Refusal :=
  done s ((s.blk.elapse dt).write1 who (claimReg (res % 33)) 0x100)

/-- CLAIM_RELEASE (12 R469). -/
def execClaimRelease (dt : Nat) (who : Who) (res : Nat) (s : State) : Host.Outcome State Fault Refusal :=
  done s ((s.blk.elapse dt).write1 who (claimReg (res % 33)) 0x200)

/-- CLAIM_FORCE_RELEASE (12 R469). -/
def execClaimForceRelease (dt : Nat) (who : Who) (res : Nat) (s : State) : Host.Outcome State Fault Refusal :=
  done s ((s.blk.elapse dt).write1 who (claimReg (res % 33)) 0x300)

/-- TIMERS_READ (12 R475). -/
def execTimersRead (dt : Nat) (who : Who) (s : State) : Host.Outcome State Fault Refusal :=
  done s ((s.blk.elapse dt).read1 who Reg.GPC_TIMERS)

/-- TIMESTAMP_LO_READ (03 R129). -/
def execTimestampLoRead (dt : Nat) (who : Who) (addr : Nat) (s : State) : Host.Outcome State Fault Refusal :=
  done s ((s.blk.elapse dt).read1 who addr)

/-- REG_WRITE_OTHER (12 R441). -/
def execRegWriteOther (dt : Nat) (who : Who) (addr : Nat) (v : Word) (s : State) : Host.Outcome State Fault Refusal :=
  done s ((s.blk.elapse dt).write1 who addr v)

/-- SES_FORCE_CLOSE (13 R504). -/
def execSesForceClose (dt : Nat) (who : Who) (v : Word) (s : State) : Host.Outcome State Fault Refusal :=
  done s ((s.blk.elapse dt).write1 who Reg.SES_CLOSE v)

/-- LNK_RETRAIN: LNK.CTL.retrain written, hold_down as it stands (14 R537, R548). -/
def execLnkRetrain (dt : Nat) (who : Who) (s : State) : Host.Outcome State Fault Refusal :=
  let b := s.blk.elapse dt
  done s (b.write1 who Reg.LNK_CTL (BitVec.ofNat 32 (1 + 2 * b.regF Reg.LNK_CTL 1 1)))

/-- LNK_HOLD_DOWN: LNK.CTL.hold_down written (14 R548). -/
def execLnkHoldDown (dt : Nat) (who : Who) (v : Bool) (s : State) : Host.Outcome State Fault Refusal :=
  done s ((s.blk.elapse dt).write1 who Reg.LNK_CTL (BitVec.ofNat 32 (2 * b2n v)))

/-- EYE_SCAN_START: LNK.EYE_CTL of a lane written with start 1 (14 R544, R551). -/
def execEyeScanStart (dt : Nat) (who : Who) (lane : Nat) (v : Word) (s : State) : Host.Outcome State Fault Refusal :=
  done s ((s.blk.elapse dt).write1 who (Reg.LNK_EYE_CTL (lane % 5)) (v ||| 1))

/-- DOMAIN_WAKE: the first access to a gated domain, a read (16 R599). -/
def execDomainWake (dt : Nat) (who : Who) (addr : Nat) (s : State) : Host.Outcome State Fault Refusal :=
  done s ((s.blk.elapse dt).read1 who addr)

/-- ENTER_ROSEMARY: PWR.CMD written with 0x1 (16 R600). -/
def execEnterRosemary (dt : Nat) (who : Who) (s : State) : Host.Outcome State Fault Refusal :=
  done s ((s.blk.elapse dt).write1 who Reg.PWR_CMD 1)

/-- ENTER_OFF: PWR.CMD written with 0x2 (16 R609). -/
def execEnterOff (dt : Nat) (who : Who) (s : State) : Host.Outcome State Fault Refusal :=
  done s ((s.blk.elapse dt).write1 who Reg.PWR_CMD 2)

/-- TMB_SET: TMB.SET_HI written (16 R617). -/
def execTmbSet (dt : Nat) (who : Who) (v : Word) (s : State) : Host.Outcome State Fault Refusal :=
  done s ((s.blk.elapse dt).write1 who Reg.TMB_SET_HI v)

/-- TMB_ALARM_ARM: TMB.ALARM_HI written (16 R618). -/
def execTmbAlarmArm (dt : Nat) (who : Who) (v : Word) (s : State) : Host.Outcome State Fault Refusal :=
  done s ((s.blk.elapse dt).write1 who Reg.TMB_ALARM_HI v)

/-- ALARM_DISARM: TMB.ALARM_CTL written (16 R618). -/
def execAlarmDisarm (dt : Nat) (who : Who) (v : Word) (s : State) : Host.Outcome State Fault Refusal :=
  done s ((s.blk.elapse dt).write1 who Reg.TMB_ALARM_CTL v)

/-- UNCERT_CLEAR: TMB.CTL written with 1 (16 R614). -/
def execUncertClear (dt : Nat) (who : Who) (s : State) : Host.Outcome State Fault Refusal :=
  done s ((s.blk.elapse dt).write1 who Reg.TMB_CTL 1)

/-- CLEAR_COUNT: SYS.START_CTL written with 1 (17 R627, R630). -/
def execClearCount (dt : Nat) (who : Who) (s : State) : Host.Outcome State Fault Refusal :=
  done s ((s.blk.elapse dt).write1 who Reg.SYS_START_CTL 1)

/-- RESTART: SYS.START_CTL written with 2 (17 R645). -/
def execRestart (dt : Nat) (who : Who) (s : State) : Host.Outcome State Fault Refusal :=
  done s ((s.blk.elapse dt).write1 who Reg.SYS_START_CTL 2)

/-! ### Timers (12 R474) -/

/-- A timer changed. -/
def Blk.updTimer (s : Blk) (n : Nat) (f : TimerSt → TimerSt) : Blk :=
  { s with gpc := { s.gpc with timers := upd s.gpc.timers n f } }

/-- Some pin is configured as a timer's output. -/
def Blk.timerPin (s : Blk) (n : Nat) : Bool :=
  (List.range 8).any (fun i => let v := s.regN (Reg.GPC_GP_CFG i); fld v 2 0 = 2 && fld v 10 8 = n)

/-- A timer reaches its firing time: it is shown, its pin's pulse starts, and it triggers the jobs that name it. -/
def timerFire (n : Nat) (s : Blk) : Blk :=
  match (s.gpc.timers.getD n {}).next with
  | none => s
  | some t =>
    if s.now < t || !s.serving then s
    else
      let next := if bitN (s.regN (Reg.GPC_T_CTL n)) 1 then some (t + max 1 (s.regN (Reg.GPC_T_PERIOD n))) else none
      let s := s.updTimer n (fun k => { k with next := next, pulse := s.timerPin n, firedAt := s.now })
      (s.setF Reg.GPC_TIMERS (8 + n) (8 + n) 1).acceptTrigger (s.now + 40) (s.jobsNaming (0x10 + n))

/-- TIMER_FIRE (R474). -/
def execTimerFire (dt n : Nat) (s : State) : Host.Outcome State Fault Refusal := done s (timerFire n (s.blk.elapse dt))

/-- A timer's pulse has lasted 313 ticks. -/
def timerPulseEnd (n : Nat) (s : Blk) : Blk :=
  let k := s.gpc.timers.getD n {}
  if k.pulse && k.firedAt + 313 ≤ s.now then s.updTimer n (fun k => { k with pulse := false }) else s

/-- TIMER_PULSE_END (R474). -/
def execTimerPulseEnd (dt n : Nat) (s : State) : Host.Outcome State Fault Refusal := done s (timerPulseEnd n (s.blk.elapse dt))

end Sys2Proof.Machine
end

