-- ==== Sys2Proof/Machine/Chain.lean ====
section
/-! DEFINITION. The Stolfin chain (13 R480 to R499) and what a request on either port goes through: the hops, repeating, the
kept answer, the session's checks, the answer (R485 to R493, R501 to R503; 14 R526). -/
namespace Sys2Proof.Machine

/-! ### Frames (R486, R487) -/

/-- The cmd byte. -/
def cmdByte (cmd slot : Nat) (mac : Bool) : Nat := cmd % 32 + 32 * (slot % 4) + 128 * b2n mac

/-- The data bytes of a request without its CRC: also the envelope of 14 R526. -/
def reqBytes (r : Req) (cmd : Nat) : List Byte :=
  le 1 (r.addr % 128) ++ le 1 (cmdByte cmd r.slot r.hasMac) ++ le 2 r.seq ++ r.payload ++ (if r.hasMac then le 4 r.mac else [])

/-- A frame: its data bytes with their CRC-16. -/
def frameOf (l : List Byte) : List Byte := l ++ le 2 (crc16 l)

/-- The commands of R494. -/
def listedCmd (cmd : Nat) : Bool := (1 ≤ cmd && cmd ≤ 0x0A) || (0x10 ≤ cmd && cmd ≤ 0x13)

/-- The commands the always-on front end serves itself: ENUM, PROBE and MODE (R494). -/
def aonCmd (cmd : Nat) : Bool := 1 ≤ cmd && cmd ≤ 3

/-- The commands a packet type may carry (14 R525, R526). -/
def linkCarries (ptype cmd : Nat) : Bool :=
  match ptype with
  | 0x01 => cmd = 0x06
  | 0x0A => cmd = 0x02 || cmd = 0x04
  | 0x0B => cmd = 0x05 || (0x10 ≤ cmd && cmd ≤ 0x13)
  | _ => false

/-- The packet types that carry an envelope to the engine. -/
def envelopeType (ptype : Nat) : Bool := ptype = 0x01 || ptype = 0x0A || ptype = 0x0B

/-- The packet type of an answer (14 R526). -/
def answerType (ptype : Nat) : Nat := if ptype = 0x01 then 0x02 else ptype

/-! ### Hops (R480 to R484, R490, R491) -/

/-- The chain front end lives: PORST_N is not asserted and the supplies stand. -/
def Blk.chainAlive (s : Blk) : Bool := s.pwr.mode != .reset

/-- The engine's own chain address. -/
def Blk.chainAddr (s : Blk) : Nat := s.regF Reg.CHN_ADDR 6 0

/-- Spur mode. -/
def Blk.spur (s : Blk) : Bool := bitN (s.regN Reg.CHN_MODE) 0

/-- A hop is marked broken. -/
def Blk.hopBroken (s : Blk) (cho : Bool) : Bool := bitN (s.regN Reg.CHN_HOP) (2 + b2n cho)

/-- The engine is the sender on a hop: CHO in its forward direction, CHI reversed. -/
def Blk.hopSends (s : Blk) (cho : Bool) : Bool := bitN (s.regN Reg.CHN_HOP) (b2n cho) != cho

/-- A hop turns (R484). -/
def Blk.flipHop (s : Blk) (cho : Bool) : Blk :=
  let v := s.regN Reg.CHN_HOP
  (s.setN Reg.CHN_HOP (putBit v (b2n cho) (!bitN v (b2n cho)))).bump Reg.CHN_TURNS 15 0 1

/-- The engine, the receiver of a hop, turns it (R484). -/
def Blk.turnHop (s : Blk) (cho : Bool) : Blk :=
  let s := s.flipHop cho
  { s with chn := { s.chn with turned := upd s.chn.turned (b2n cho) (fun _ => some s.now) } }

/-- The engine's own turn of a hop has not come to its end, 26 µs after its request (R484). -/
def Blk.turning (s : Blk) (cho : Bool) : Bool :=
  match s.chn.turned.getD (b2n cho) none with
  | some t => s.now < t + 8125
  | none => false

/-- CHN.HOP_LIMIT in ticks (R483). -/
def Blk.hopLimit (s : Blk) : Nat := ceilDiv (625 * s.regF Reg.CHN_HOP_LIMIT 16 0) 2

/-- A frame may still be on its way: each of its symbols has its acknowledge within the limit (R483). -/
def Blk.mayGo (s : Blk) (k : HopSend) : Bool := s.now ≤ k.since + k.symbols * s.hopLimit

/-- A frame is on its way out of a hop, and one of its symbols can have waited for its acknowledge as long as the limit. -/
def Blk.hopWaits (s : Blk) (cho : Bool) : Bool :=
  s.chn.sending.any (fun k => k.cho = cho && k.since + s.hopLimit ≤ s.now && s.mayGo k)

/-- A frame sets out on a hop that points away from the engine. -/
def Blk.putFrame (s : Blk) (cho : Bool) (bytes : List Byte) : Blk :=
  let k : HopSend := { cho := cho, since := s.now, symbols := 9 * (bytes.length + 2) }
  ({ s with chn := { s.chn with sending := s.chn.sending.filter s.mayGo ++ [k] } } : Blk).send (.chain cho bytes)

/-- The frames on their way out of a hop are lost. -/
def Blk.cutFrames (s : Blk) (cho : Bool) : Blk :=
  ({ s with chn := { s.chn with sending := s.chn.sending.filter (fun k => k.cho != cho) } } : Blk).send (.chainCut cho)

/-- A frame leaves by a hop, which turns first when it points the wrong way (R490); a broken hop is offered none (R483). -/
def Blk.chainOut (s : Blk) (cho : Bool) (bytes : List Byte) : Blk :=
  if s.hopBroken cho then s
  else (if s.hopSends cho then s else s.turnHop cho).putFrame cho bytes

/-- A frame that arrived on a side is repeated out of the other one (R490). -/
def Blk.repeatFrame (s : Blk) (cho : Bool) (bytes : List Byte) : Blk :=
  if s.hopBroken (!cho) then s else (s.chainOut (!cho) bytes).count Reg.CHN_REPEATED 1

/-- The engine acts on a request with this address and command (R489). -/
def Blk.actsOn (s : Blk) (addr cmd : Nat) : Bool := addr = s.chainAddr || addr = 0x7F || (addr = 0x7E && cmd = 1)

/-- A frame the engine does not act on, its data bytes with their CRC, arrives and is repeated (R489, R490). -/
def chainFrameRepeat (cho : Bool) (bytes : List Byte) (s : Blk) : Blk :=
  let a := getLe bytes 0 1
  if !s.chainAlive || (a < 128 && s.actsOn a (getLe bytes 1 1 % 32)) then s else s.repeatFrame cho bytes

/-- CHAIN_FRAME_REPEAT (R490). -/
def execChainFrameRepeat (dt : Nat) (cho : Bool) (bytes : List Byte) (s : State) : Host.Outcome State Fault Refusal :=
  done s (chainFrameRepeat cho bytes (s.blk.elapse dt))

/-- A frame is discarded without a response (R487): cause 0 its CRC, any other its length. -/
def frameDiscard (cause : Nat) (s : Blk) : Blk :=
  if !s.chainAlive then s else (s.bump Reg.CHN_ERRORS 15 0 1).raise (if cause = 0 then 0x9013 else 0x9014)

/-- FRAME_DISCARD (R487): the side of arrival changes nothing. -/
def execFrameDiscard (dt : Nat) (_cho : Bool) (cause : Nat) (s : State) : Host.Outcome State Fault Refusal :=
  done s (frameDiscard cause (s.blk.elapse dt))

/-- A rail error on a hop (R481, R485). -/
def railError (s : Blk) : Blk := if !s.chainAlive then s else (s.bump Reg.CHN_ERRORS 31 16 1).raise 0x9011

/-- RAIL_ERROR (R481): the side changes nothing. -/
def execRailError (dt : Nat) (_cho : Bool) (s : State) : Host.Outcome State Fault Refusal := done s (railError (s.blk.elapse dt))

/-- No acknowledge rises within CHN.HOP_LIMIT on a hop the engine is sending a frame on (R483): the frame is dropped, and the hop
marked broken. -/
def hopBroken (cho : Bool) (s : Blk) : Blk :=
  if !s.chainAlive || s.hopBroken cho || !s.hopSends cho || !s.hopWaits cho then s
  else ((s.cutFrames cho).setN Reg.CHN_HOP (putBit (s.regN Reg.CHN_HOP) (2 + b2n cho) true)).raise 0x9012

/-- HOP_BROKEN (R483). -/
def execHopBroken (dt : Nat) (cho : Bool) (s : State) : Host.Outcome State Fault Refusal := done s (hopBroken cho (s.blk.elapse dt))

/-- A turn request has won against a rail: the frame in progress is lost on that hop and counted (R484). -/
def Blk.turnCollision (s : Blk) : Blk := (s.bump Reg.CHN_TURNS 31 16 1).raise 0x9015

/-- A hop turns (R484). Within the engine's own turn, which it asked for as the receiver, the request can have met a rail of the
neighbour, whose frame is lost; otherwise the neighbour, as the receiver, turns a hop the engine sends on, and a request that met
a rail costs the engine's frame. -/
def hopTurn (cho collision : Bool) (s : Blk) : Blk :=
  if !s.chainAlive || !s.hopSends cho then s
  else if s.turning cho then (if collision then s.turnCollision else s)
  else (if collision then (s.cutFrames cho).turnCollision else s).flipHop cho

/-- HOP_TURN (R484). -/
def execHopTurn (dt : Nat) (cho collision : Bool) (s : State) : Host.Outcome State Fault Refusal :=
  done s (hopTurn cho collision (s.blk.elapse dt))

/-! ### Answers (R488, R491 to R493, R501; 14 R526) -/

/-- The slot whose kept answer a request concerns; 4 without a session (R493). -/
def keptIdx (r : Req) : Nat := if r.hasMac then r.slot % 4 else 4

/-- What identifies a request byte for byte, with the port and packet type it came by. -/
def askedBytes (c : Call) : List Byte := le 1 (b2n c.r.link) ++ le 1 c.r.ptype ++ reqBytes c.r c.cmd

/-- The first four bytes of the MAC of a frame (R501). -/
def macOf (ks : BitVec 128) (ctr addr cmd : Nat) (payload : List Byte) : List Byte :=
  (cmac (le 16 ks.toNat) (le 4 ctr ++ le 1 addr ++ le 1 cmd ++ payload)).take 4

/-- The response limit of a port, in ticks (R492; 14 R526). -/
def Blk.respLimit (s : Blk) (link : Bool) : Nat :=
  ceilDiv (625 * (if link then s.regF Reg.LNK_RESP_LIMIT 16 0 else s.regF Reg.CHN_RESP_LIMIT 16 0)) 2

/-- When a request's time ends. -/
def Blk.limitOf (s : Blk) (c : Call) : Nat := c.at_ + s.respLimit c.r.link

/-- An answer goes out on the port its request came by (R491; 14 R526); when the engine enters a sleep the answer leaves before
the link goes down (16 R600), and otherwise one for a link that is down is lost (14 R538). -/
def Blk.sendAnswer (s : Blk) (r : Req) (bytes : List Byte) : Blk :=
  if r.link then
    if s.linkUp then { s with lnk := { s.lnk with answers := s.lnk.answers ++ [(answerType r.ptype, bytes)] } }
    else if s.enteringSleep then s.send (.packet (answerType r.ptype) 0 s.lnk.txSeq bytes)
    else s
  else s.chainOut (if s.spur then r.cho else true) (frameOf bytes)

/-- The bytes of an answer: address with bit 7, cmd and seq as in the request, the prefix of R488, and the MAC where one is due. -/
def answerBytes (c : Call) (mac : Bool) (status wonBy : Nat) (body : List Byte) : List Byte :=
  let m := mac && c.r.hasMac
  let a := c.r.addr % 128 + 128
  let k := cmdByte c.cmd c.r.slot m
  let p := le 2 status ++ le 1 wonBy ++ zeros 1 ++ body
  le 1 a ++ le 1 k ++ le 2 c.r.seq ++ p ++ (if m then macOf c.ks c.ctr a k p else [])

/-- A request was broadcast: it receives no response (R489). -/
def isBroadcast (c : Call) : Bool := !c.r.link && 0x7E ≤ c.r.addr % 128

/-- An answer is kept and sent, unless the request was broadcast (R491, R493). -/
def Blk.answerWith (s : Blk) (c : Call) (bytes : List Byte) : Blk :=
  if isBroadcast c then s
  else
    let k : Kept := { asked := askedBytes c, answer := bytes, valid := true }
    ({ s with ses := { s.ses with kept := upd s.ses.kept (keptIdx c.r) (fun _ => k) } } : Blk).sendAnswer c.r bytes

/-- The session of an accepted request has come to the end of its counter: it closes once the request is answered (R502). -/
def Blk.counterEnd (s : Blk) (c : Call) : Blk :=
  if c.r.hasMac && 0xFFFF0000 ≤ c.ctr && (s.slot (c.r.slot % 4)).st = .opened && (s.slot (c.r.slot % 4)).ks = c.ks then
    (s.closeSlot (c.r.slot % 4)).raise 0x9039
  else s

/-- The answer to an accepted request, complete now (R488, R492). -/
def Blk.reply (s : Blk) (c : Call) (status : Nat) (body : List Byte) : Blk :=
  (s.answerWith c (answerBytes c true status (b2n (contested s.now (s.limitOf c))) body)).counterEnd c

/-- The answer to a request whose time ended first (R492). -/
def Blk.replyLate (s : Blk) (c : Call) (body : List Byte) : Blk :=
  (s.answerWith c (answerBytes c true (if c.r.link then 0x2041 else 0x9021) 2 body)).counterEnd c

/-- A refused request whose fault latches. -/
def Blk.replyFault (s : Blk) (c : Call) (code : Nat) : Blk := (s.raise code).reply c code []

/-- Who makes the accesses of a request. -/
def callWho (c : Call) : Who := if c.r.hasMac then some (Fin.ofNat 4 c.r.slot) else none

/-! ### Acceptance (R493, R501) -/

/-- The counter value a request carries, and whether it lies above the last one accepted, by no more than 32 768 (R501). -/
def counterOf (last seq : Nat) : Bool × Nat :=
  let d := (seq % 65536 + 65536 - last % 65536) % 65536
  if 1 ≤ d && d ≤ 32768 then (true, last + d) else (false, (last + d + 2 ^ 32 - (if d = 0 then 0 else 65536)) % 2 ^ 32)

/-- A request that has passed its checks runs; one whose time ended during the wake does not, and the register steps of REG_READ
and REG_WRITE keep the time themselves (R492, R498). -/
def Blk.runCall (s : Blk) (c : Call) (run : Call → Blk → Blk) : Blk :=
  if s.limitOf c < s.now && c.cmd != 0x04 && c.cmd != 0x05 then s.replyLate c [] else run c s

/-- A request with a MAC passes its session's checks, as the call that is then run; or it is refused and answered (R501). -/
def Blk.sessionCheck (s : Blk) (c : Call) : Option Call × Blk :=
  let i := c.r.slot % 4
  let k := s.slot i
  if k.st != .opened || k.link != c.r.link then (none, s.answerWith c (answerBytes c false 0x903A 0 []))
  else
    let (fresh, ctr) := counterOf k.counter c.r.seq
    let c := { c with ctr := ctr, ks := k.ks }
    if macOf k.ks ctr (c.r.addr % 128) (cmdByte c.cmd c.r.slot true) c.r.payload != le 4 c.r.mac then
      (none, ((s.bump Reg.CHN_SEC_ERRORS 15 0 1).raise 0x9033).answerWith c (answerBytes c false 0x9033 0 []))
    else if !fresh then
      (none, ((s.bump Reg.CHN_SEC_ERRORS 31 16 1).raise 0x9032).answerWith c (answerBytes c true 0x9032 0 []))
    else (some c, s.updSlot i (fun k => { k with counter := ctr, since := s.now }))

/-- A request passes the kept answer of its slot and the session's checks, and then runs (R493, R501). -/
def Blk.accept (s : Blk) (c : Call) (run : Call → Blk → Blk) : Blk :=
  let kept := s.ses.kept.getD (keptIdx c.r) {}
  if kept.valid && kept.asked = askedBytes c && !isBroadcast c then s.sendAnswer c.r kept.answer
  else if !c.r.hasMac then s.runCall c run
  else match s.sessionCheck c with
    | (some c, s) => s.runCall c run
    | (none, s) => s

/-- A request whose payload has no length that suits its command (R494). -/
def Blk.lengthFault (s : Blk) (c : Call) : Blk := s.reply c 0x9025 []

/-- The engine serves a request that needs it: after a start any; in a start register reads of the ID and SYS pages, in a
halted engine those of the ID page (17 R629, R645). -/
def Blk.servesCall (s : Blk) (c : Call) : Bool :=
  s.serving || (c.cmd = 0x04 && (List.range (getLe c.r.payload 4 1)).all (fun i => s.reaches false (getLe c.r.payload 0 4 % 2 ^ 18 + 4 * i)))

/-- A request that the chain front end has taken (R489): it runs when it is the front end's own or the engine is awake to serve
it, and wakes the engine otherwise (R498; 16 R601, R605). -/
def Blk.frontEnd (s : Blk) (c : Call) (run : Call → Blk → Blk) : Blk :=
  if aonCmd c.cmd then s.accept c run
  else if s.asleep then (s.takeWakeFrame c).wakeEvent 0
  else if s.servesCall c then s.accept c run
  else s

/-- A request frame arrives on the chain (R489). -/
def Blk.chainArrive (s : Blk) (c : Call) (run : Call → Blk → Blk) : Blk :=
  if !s.chainAlive then s
  else if !s.actsOn (c.r.addr % 128) c.cmd then s.repeatFrame c.r.cho (frameOf (reqBytes c.r c.cmd))
  else
    let s := s.count Reg.CHN_FRAMES 1
    let s := if isBroadcast c then s.repeatFrame c.r.cho (frameOf (reqBytes c.r c.cmd)) else s
    s.frontEnd c run

/-- A command that no table lists, or that its packet may not carry (R494; 14 R526). -/
def unknownCmd (c : Call) (s : Blk) : Blk := s.reply c 0x9024 []

/-- An envelope arrives on the link (14 R526, R529). -/
def Blk.linkArrive (s : Blk) (c : Call) (run : Call → Blk → Blk) : Blk :=
  if !s.linkUp || !envelopeType c.r.ptype then s
  else
    let s := s.linkAccept
    let c := { c with r := { c.r with addr := 0 } }
    if !s.servesCall c && !aonCmd c.cmd then s else s.accept c (if linkCarries c.r.ptype c.cmd then run else unknownCmd)

/-- A request arrives on its port. -/
def Blk.request (s : Blk) (r : Req) (cmd : Nat) (run : Call → Blk → Blk) : Blk :=
  let c : Call := { r := r, cmd := cmd, at_ := s.now }
  if r.link then s.linkArrive c run else s.chainArrive c run

/-- CHN_CMD_UNKNOWN (R494). -/
def execChnCmdUnknown (dt : Nat) (r : Req) (cmd : Nat) (s : State) : Host.Outcome State Fault Refusal :=
  let b := s.blk.elapse dt
  done s (if listedCmd (cmd % 32) then b else b.request r (cmd % 32) unknownCmd)

/-! ### The front end's own commands (R494, R497, R499) -/

/-- A session is open. -/
def Blk.anyOpen (s : Blk) : Bool := s.ses.slots.any (fun k => k.st = .opened)

/-- The engine acts on an enumeration frame (R497): the payload as it is sent on. -/
def Blk.enumerate (s : Blk) (p : List Byte) : List Byte × Blk :=
  let next := getLe p 0 1
  let s : Blk := if bitN (getLe p 2 1) 0 && !s.anyOpen then s.setN Reg.CHN_ADDR 0 else s
  if s.chainAddr != 0 then (p, s)
  else if next ≤ 0x20 then (le 1 (next + 1) ++ le 1 (getLe p 1 1 + 1) ++ p.drop 2, s.setN Reg.CHN_ADDR next)
  else (le 1 next ++ le 1 0xFF ++ p.drop 2, s)

/-- ENUM is acted on in ring mode, from port A, with a next of 1 or more (R497). -/
def Blk.enumActs (s : Blk) (r : Req) : Bool := !s.spur && !r.cho && r.payload.length = 4 && getLe r.payload 0 1 != 0

/-- An ENUM addressed to the engine alone is answered like any request. -/
def enumAlone (c : Call) (s : Blk) : Blk :=
  if c.r.payload.length != 4 then s.lengthFault c
  else (if s.enumActs c.r then (s.enumerate c.r.payload).2 else s).reply c 0 []

/-- An ENUM frame arrives (R489, R497); one in a session that fails its checks is not executed, and goes on unchanged (R501). -/
def enumFrame (r : Req) (s : Blk) : Blk :=
  let addr := r.addr % 128
  if r.link || addr < 0x7E then s.request r 0x01 enumAlone
  else if !s.chainAlive then s
  else if s.enumActs r then
    let s := s.count Reg.CHN_FRAMES 1
    let c : Call := { r := r, cmd := 0x01, at_ := s.now }
    let (ok, s) := if r.hasMac then s.sessionCheck c else (some c, s)
    match ok with
    | some c =>
      let (p, s) := s.enumerate r.payload
      (s.repeatFrame r.cho (frameOf (reqBytes { r with payload := p } 0x01))).counterEnd c
    | none => s.repeatFrame r.cho (frameOf (reqBytes r 0x01))
  else s.repeatFrame r.cho (frameOf (reqBytes r 0x01))

/-- ENUM (R497). -/
def execEnum (dt : Nat) (r : Req) (s : State) : Host.Outcome State Fault Refusal := done s (enumFrame r (s.blk.elapse dt))

/-- The power state of a PROBE: Run or Idle 0, Rosemary or the state of 16 R609 1, Coppice 2. -/
def Blk.probePower (s : Blk) : Nat :=
  match s.pwr.mode with
  | .rosemary => 1
  | .waking _ => 1
  | .off => 1
  | _ => if s.coppice then 2 else 0

/-- PROBE's answer (R494). -/
def probe (c : Call) (s : Blk) : Blk :=
  if c.r.payload.length != 0 then s.lengthFault c
  else s.reply c 0 (le 1 s.chainAddr ++ le 1 (b2n s.spur) ++ le 1 (s.regN Reg.CHN_HOP) ++ le 1 s.probePower ++ le 4 (s.regN Reg.CHN_FRAMES))

/-- PROBE (R494). -/
def execProbe (dt : Nat) (r : Req) (s : State) : Host.Outcome State Fault Refusal := done s ((s.blk.elapse dt).request r 0x02 probe)

/-- MODE takes effect at its EOF (R499); ring mode clears every broken flag (R483). -/
def modeSet (c : Call) (s : Blk) : Blk :=
  if c.r.payload.length != 4 then s.lengthFault c
  else
    let s : Blk := match getLe c.r.payload 0 1 with
      | 0 => (s.setN Reg.CHN_MODE 0).setF Reg.CHN_HOP 3 2 0
      | 1 => s.setN Reg.CHN_MODE 1
      | _ => s
    s.reply c 0 []

/-- MODE (R499). -/
def execMode (dt : Nat) (r : Req) (s : State) : Host.Outcome State Fault Refusal := done s ((s.blk.elapse dt).request r 0x03 modeSet)

end Sys2Proof.Machine
end

