-- ==== Sys2Proof/Machine/Requests.lean ====
section
/-! DEFINITION. The requests that reach the engine itself (13 R494 to R496, R506): registers, jobs, and what a host takes from
the engine's stores. -/
namespace Sys2Proof.Machine

/-! ### REG_READ and REG_WRITE (R492, R494) -/

/-- The part of the answer that reports the steps completed. -/
def doneBody (done : Nat) (vals : List Byte) : List Byte := le 1 done ++ zeros 3 ++ vals

/-- The address of a request's register step. -/
def stepAddr (c : Call) (k : Nat) : Nat := getLe c.r.payload 0 4 % 2 ^ 18 + 4 * k

/-- One register step: its status and the bytes it adds to the answer, or none when it must wait for its domain. -/
def Blk.regAccess (s : Blk) (c : Call) (k : Nat) : Option (Nat × List Byte) × Blk :=
  if c.cmd = 0x04 then
    match s.readReg (callWho c) (stepAddr c k) with
    | (some (st, v), s) => (some (st, le 4 v), s)
    | (none, s) => (none, s)
  else
    match s.writeReg (callWho c) (stepAddr c k) (BitVec.ofNat 32 (getLe c.r.payload (8 + 4 * k) 4)) with
    | (some st, s) => (some (st, []), s)
    | (none, s) => (none, s)

/-- The steps of a request from the one after `k`, `n` of them: until one is refused, must wait, or the time has ended. A step that
sets the timestamp counter (16 R617) moves the request's time with it. -/
def Blk.regRun : Nat → Call → Nat → List Byte → Blk → Blk
  | 0, c, k, vals, s => s.reply c 0 (doneBody k vals)
  | n + 1, c, k, vals, s =>
    if s.limitOf c < s.now then s.replyLate c (doneBody k vals)
    else match s.regAccess c k with
      | (none, s) =>
        let w : Stall := { dom := domOf (stepAddr c k), since := s.now, what := .req c k vals }
        { s with chn := { s.chn with stalls := s.chn.stalls ++ [w] } }
      | (some (0, b), s') => regRun n { c with at_ := c.at_ + (s'.now - s.now) } (k + 1) (vals ++ b) s'
      | (some (st, _), s) => s.reply c st (doneBody k vals)

/-- How many registers a request names. -/
def regCount (c : Call) : Nat := getLe c.r.payload 4 1

/-- A request goes on after `k` registers. -/
def Blk.regResume (s : Blk) (c : Call) (k : Nat) (vals : List Byte) : Blk := s.regRun (regCount c - k) c k vals

/-- A REG_READ's registers. -/
def regRead (c : Call) (s : Blk) : Blk :=
  if c.r.payload.length != 8 || regCount c < 1 || 64 < regCount c then s.lengthFault c else s.regResume c 0 []

/-- REG_READ (R494). -/
def execRegRead (dt : Nat) (r : Req) (s : State) : Host.Outcome State Fault Refusal := done s ((s.blk.elapse dt).request r 0x04 regRead)

/-- A REG_WRITE's registers. -/
def regWrite (c : Call) (s : Blk) : Blk :=
  if c.r.payload.length != 8 + 4 * regCount c || regCount c < 1 || 64 < regCount c then s.lengthFault c else s.regResume c 0 []

/-- REG_WRITE (R494). -/
def execRegWrite (dt : Nat) (r : Req) (s : State) : Host.Outcome State Fault Refusal := done s ((s.blk.elapse dt).request r 0x05 regWrite)

/-- The limit of R492 ends for a frame that the front end holds for an engine asleep or waking (R498): none of its steps runs, and
the front end, which has no session key, answers without a MAC. -/
def Blk.heldLate (s : Blk) (link : Bool) : Blk :=
  match s.pwr.held with
  | some c =>
    if c.r.link = link && s.limitOf c ≤ s.now then
      ({ s with pwr := { s.pwr with held := none } } : Blk).answerWith c (answerBytes c false 0x9021 2 [])
    else s
  | none => s

/-- The limit of R492 ends while a request of the port waits for a domain: the steps left are not run. -/
def chnRespTimeout (link : Bool) (s : Blk) : Blk :=
  let late (w : Stall) : Bool := match w.what with
    | .req c _ _ => c.r.link = link && decide (s.limitOf c ≤ s.now)
    | _ => false
  match s.chn.stalls.find? late with
  | some w =>
    let s := { s with chn := { s.chn with stalls := s.chn.stalls.erase w } }
    match w.what with
    | .req c k vals => s.replyLate c (doneBody k vals)
    | _ => s
  | none => s.heldLate link

/-- CHN_RESP_TIMEOUT (R492). -/
def execChnRespTimeout (dt : Nat) (link : Bool) (s : State) : Host.Outcome State Fault Refusal :=
  done s (chnRespTimeout link (s.blk.elapse dt))

/-! ### Jobs (02 R28; R506) -/

/-- The engines in service wake. -/
def Blk.wakeEngines (s : Blk) : Blk := (List.range 18).foldl (fun s e => if s.engActive e then s.wakeDom (0x10 + e) else s) s

/-- What an accepted job sets up at once: a campaign takes its fit unit, and the domains the job needs wake (16 R590). -/
def Blk.jobAccepted (s : Blk) (j : Job) : Blk :=
  let s := s.openCampaign j
  match j.kind with
  | 1 => if j.light != 0 then s.wakeEngines.wakeDom 4 else s.wakeEngines
  | 2 => s.wakeDom 3
  | _ => s

/-- A job of an Operator session reaches admission; any other is refused before it (02 R28). -/
def jobSubmit (c : Call) (s : Blk) : Blk :=
  if s.role (callWho c) != 1 then s.replyFault c 0xB003
  else
    let (out, s) := s.admitJob 1 c.r.payload
    let s := match s.jobBySeq (s.regN Reg.ADM_SEQ) with | some j => s.jobAccepted j | none => s
    s.reply c 0 out

/-- JOB_SUBMIT (02 R28). -/
def execJobSubmit (dt : Nat) (r : Req) (s : State) : Host.Outcome State Fault Refusal :=
  done s ((s.blk.elapse dt).request r 0x06 jobSubmit)

/-! ### The stores (06 R245; 09 R350; R495) -/

/-- RESULT_READ releases up to a pool_seq and returns the oldest record. -/
def resultRead (c : Call) (s : Blk) : Blk :=
  if c.r.payload.length != 4 then s.lengthFault c
  else if s.role (callWho c) != 1 && s.role (callWho c) != 2 then s.replyFault c 0xB003
  else
    let p := getLe c.r.payload 0 1
    let s := (s.updPool p (fun q => { q with recs := releaseUpTo (getLe c.r.payload 2 2) q.recs })).freeSlots
    s.reply c 0 (((s.pool p).recs.head?.map (·.bytes)).getD [])

/-- RESULT_READ (06 R245). -/
def execResultRead (dt : Nat) (r : Req) (s : State) : Host.Outcome State Fault Refusal :=
  done s ((s.blk.elapse dt).request r 0x07 resultRead)

/-- Items of the measurement store up to and including the one named released; nothing when it is not held. -/
def releaseMeas (isSeal : Bool) (n : Nat) (l : List MeasItem) : List MeasItem :=
  match l.findIdx? (fun m => m.isSeal = isSeal && (if isSeal then m.num = n else m.num % 2 ^ 32 = n % 2 ^ 32)) with
  | some i => l.drop (i + 1)
  | none => l

/-- MEAS_READ releases up to an item and returns the oldest one. -/
def measRead (c : Call) (s : Blk) : Blk :=
  if c.r.payload.length != 12 then s.lengthFault c
  else if s.role (callWho c) = 0 then s.replyFault c 0xB003
  else
    let s := s.updMeas (releaseMeas (getLe c.r.payload 0 1 = 1) (getLe c.r.payload 4 8))
    match s.tly.store.head? with
    | some m => s.reply c 0 (le 1 (b2n m.isSeal) ++ zeros 3 ++ m.bytes)
    | none => s.reply c 0 (zeros 4)

/-- MEAS_READ (09 R350). -/
def execMeasRead (dt : Nat) (r : Req) (s : State) : Host.Outcome State Fault Refusal :=
  done s ((s.blk.elapse dt).request r 0x08 measRead)

/-- CORR_READ releases an item and returns bytes of the oldest one (R495). -/
def corrRead (c : Call) (s : Blk) : Blk :=
  if c.r.payload.length != 8 then s.lengthFault c
  else if s.role (callWho c) != 1 && s.role (callWho c) != 2 then s.replyFault c 0xB003
  else
    let tag := getLe c.r.payload 0 4
    let s := if tag = 0 then s else s.releaseCorr tag
    match s.store.corr.head? with
    | some k => s.reply c 0 (le 4 k.tag ++ le 4 k.bytes.length ++ (k.bytes.drop (getLe c.r.payload 4 4)).take 4096)
    | none => s.reply c 0 (zeros 8)

/-- CORR_READ (R495). -/
def execCorrRead (dt : Nat) (r : Req) (s : State) : Host.Outcome State Fault Refusal :=
  done s ((s.blk.elapse dt).request r 0x09 corrRead)

/-- EVENT_READ releases notices and returns the oldest one held (R495, R496). -/
def eventRead (c : Call) (s : Blk) : Blk :=
  if c.r.payload.length != 4 then s.lengthFault c
  else if s.role (callWho c) != 1 && s.role (callWho c) != 2 then s.replyFault c 0xB003
  else
    let upTo := getLe c.r.payload 0 2
    let s : Blk := if bitN (getLe c.r.payload 2 1) 0
      then { s with evt := { s.evt with held := s.evt.held.filter (fun n => !seqCovers upTo n.seq) } } else s
    s.reply c 0 ((s.evt.held.head?.map Notice.bytes).getD [])

/-- EVENT_READ (R495). -/
def execEventRead (dt : Nat) (r : Req) (s : State) : Host.Outcome State Fault Refusal :=
  done s ((s.blk.elapse dt).request r 0x0A eventRead)

/-! ### Sessions (R500, R504, R505) -/

/-- A role's key as bytes, none when its slot is empty or the role has no slot (R507). Tally holds the Seal-role key itself and performs
the exchange, so without its supply no Seal-role session opens (R325); the answer, that of an empty key slot, is the model's (log 93). -/
def Blk.keyOf (s : Blk) (role : Nat) : Option (List Byte) :=
  let bytes (k : Key) : Option (List Byte) := match k with
    | .empty => none
    | .factory => some (le 16 Config.factoryServiceKey.toNat)
    | .value v => some (le 16 v.toNat)
  match role with
  | 1 => bytes s.ses.opKey
  | 2 => bytes s.ses.svcKey
  | 3 => if s.tly.supplied then bytes s.ses.sealKey else none
  | _ => none

/-- One second in ticks. -/
def second : Nat := 312500000

/-- A challenge reserves the lowest free slot (R500, R505). -/
def sesChallenge (c : Call) (s : Blk) : Blk :=
  let role := getLe c.r.payload 0 1
  if c.r.payload.length != 20 then s.lengthFault c
  else if (s.ses.backoff.getD role none).isSome then s.replyFault c 0x9034
  else match (List.range 4).find? (fun i => (s.slot i).st = .free) with
    | none => s.reply c 0x9031 []
    | some i =>
      if (s.keyOf role).isNone then s.reply c 0x9036 []
      else
        let nd := Config.freeNonce s.ses.nonces
        let k : SesSlot := { st := .challenged, role := role, link := c.r.link, nh := BitVec.ofNat 128 (getLe c.r.payload 4 16), nd := nd,
                             since := s.now }
        let s := { s with ses := { s.ses with nonces := s.ses.nonces + 1, expired := s.ses.expired.filter (fun j => j != i) } }
        (s.updSlot i (fun _ => k)).reply c 0 (le 1 i ++ zeros 3 ++ le 16 nd.toNat)

/-- SES_CHALLENGE (R500). -/
def execSesChallenge (dt : Nat) (r : Req) (s : State) : Host.Outcome State Fault Refusal :=
  done s ((s.blk.elapse dt).request r 0x10 sesChallenge)

/-- m(label) of R500. -/
def proofMsg (label addr : Nat) (k : SesSlot) : List Byte :=
  le 1 label ++ le 16 k.nd.toNat ++ le 16 k.nh.toNat ++ le 1 addr ++ le 1 k.role

/-- A failed proof: the slot is freed and counted; the fourth in a row, and each further one, starts the backoff (R505). -/
def Blk.proofFailed (s : Blk) (i role : Nat) : Blk :=
  let n := sat 8 (s.ses.fails.getD role 0 + 1)
  let s := (s.closeSlot i).bump Reg.SES_OPENS 31 16 1
  let s := { s with ses := { s.ses with fails := upd s.ses.fails role (fun _ => n) } }
  if 4 ≤ n then { s with ses := { s.ses with backoff := upd s.ses.backoff role (fun _ => some s.now) } } else s

/-- A session opens: its key, its counter at 0 (R500). -/
def Blk.proofPassed (s : Blk) (i role : Nat) (ks : List Byte) : Blk :=
  let s := (s.updSlot i (fun k => { k with st := .opened, counter := 0, ks := BitVec.ofNat 128 (unle ks), since := s.now })).bump Reg.SES_OPENS 15 0 1
  { s with ses := { s.ses with fails := upd s.ses.fails role (fun _ => 0) } }

/-- The times of a slot that have run out take effect: a challenge without a proof for 1 s frees it, a session without a request for
SES.IDLE_LIMIT closes (R500, R504). -/
def Blk.slotTimes (s : Blk) (i : Nat) : Blk :=
  let k := s.slot i
  if k.st = .challenged && k.since + second ≤ s.now then
    let s := s.closeSlot i
    { s with ses := { s.ses with expired := i :: s.ses.expired } }
  else if k.st = .opened && k.since + second * s.regF Reg.SES_IDLE_LIMIT 11 0 ≤ s.now then (s.closeSlot i).raise 0x9038
  else s

/-- The host's tag is checked (R500); a proof that comes later than 1 s finds its slot freed. -/
def sesProve (c : Call) (s : Blk) : Blk :=
  let i := c.r.slot % 4
  let s := if (s.slot i).st = .challenged && (s.slot i).since + second < s.now then s.slotTimes i else s
  let k := s.slot i
  if c.r.payload.length != 16 then s.lengthFault c
  else if k.st != .challenged || k.link != c.r.link then s.reply c (if s.ses.expired.contains i then 0x9037 else 0x903A) []
  else
    let addr := if c.r.link then 0 else s.chainAddr
    match s.keyOf k.role with
    | none => (s.closeSlot i).reply c 0x9036 []
    | some key =>
      if c.r.payload = cmac key (proofMsg 0x48 addr k) then
        (s.proofPassed i k.role (cmac key (proofMsg 0x53 addr k))).reply c 0 (cmac key (proofMsg 0x45 addr k))
      else (s.proofFailed i k.role).replyFault c 0x9035

/-- SES_PROVE (R500). -/
def execSesProve (dt : Nat) (r : Req) (s : State) : Host.Outcome State Fault Refusal :=
  done s ((s.blk.elapse dt).request r 0x11 sesProve)

/-- The session closes once its close is answered (R504). -/
def sesClose (c : Call) (s : Blk) : Blk :=
  if c.r.payload.length != 0 then s.lengthFault c
  else if s.role (callWho c) = 0 then s.replyFault c 0xB003
  else (s.reply c 0 []).closeSlot (c.r.slot % 4)

/-- SES_CLOSE (R504). -/
def execSesClose (dt : Nat) (r : Req) (s : State) : Host.Outcome State Fault Refusal :=
  done s ((s.blk.elapse dt).request r 0x12 sesClose)

/-- The permitted cases of R508; an empty Seal slot is filled by the first of them alone (R509). Tally's key is set in no case while Tally has no supply (R325). -/
def Blk.mayRekey (s : Blk) (role target : Nat) : Bool :=
  (role = 2 && (target = 1 || target = 2)) ||
  (role = 2 && target = 3 && s.tly.supplied && s.ses.sealKey = .empty && s.tly.counter = 0) ||
  (role = 3 && target = 3 && s.tly.supplied && s.ses.sealKey != .empty && s.tly.sealSt = .unsealed)

/-- A role's key replaced. -/
def Blk.setKey (s : Blk) (target : Nat) (k : Key) : Blk :=
  match target with
  | 1 => { s with ses := { s.ses with opKey := k } }
  | 2 => { s with ses := { s.ses with svcKey := k } }
  | _ => { s with ses := { s.ses with sealKey := k } }

/-- A role's key is set from a block wrapped under the session key (R508). -/
def sesKeySet (c : Call) (s : Blk) : Blk :=
  let role := s.role (callWho c)
  let target := getLe c.r.payload 0 1
  if c.r.payload.length != 24 then s.lengthFault c
  else if role != 2 && role != 3 then s.replyFault c 0xB003
  else if !s.mayRekey role target then s.replyFault c 0x9044
  else
    let key := (aesDec ((le 16 c.ks.toNat).map BitVec.toNat) ((slice c.r.payload 4 16).map BitVec.toNat)).map (BitVec.ofNat 8)
    if (cmac key (zeros 16)).take 4 != slice c.r.payload 20 4 then s.replyFault c 0x9043
    else ((s.setKey target (.value (BitVec.ofNat 128 (unle key)))).event 0x02 4 0x0000).reply c 0 []

/-- SES_KEY_SET (R508). -/
def execSesKeySet (dt : Nat) (r : Req) (s : State) : Host.Outcome State Fault Refusal :=
  done s ((s.blk.elapse dt).request r 0x13 sesKeySet)

/-- A session on which no request was accepted for SES.IDLE_LIMIT closes (R504). -/
def sesIdleClosed (i : Nat) (s : Blk) : Blk :=
  if s.serving && (s.slot i).st = .opened then s.slotTimes i else s

/-- SES_IDLE_CLOSED (R504). -/
def execSesIdleClosed (dt slot : Nat) (s : State) : Host.Outcome State Fault Refusal := done s (sesIdleClosed slot (s.blk.elapse dt))

/-- A reserved slot without a proof for 1 s is freed (R500). -/
def sesChallengeExpired (i : Nat) (s : Blk) : Blk :=
  if s.serving && (s.slot i).st = .challenged then s.slotTimes i else s

/-- SES_CHALLENGE_EXPIRED (R500). -/
def execSesChallengeExpired (dt slot : Nat) (s : State) : Host.Outcome State Fault Refusal :=
  done s (sesChallengeExpired slot (s.blk.elapse dt))

/-- 1 s after the failed proofs challenges for the role are accepted again (R505). -/
def sesBackoffEnd (role : Nat) (s : Blk) : Blk :=
  match s.ses.backoff.getD role none with
  | some t => if t + second ≤ s.now then { s with ses := { s.ses with backoff := upd s.ses.backoff role (fun _ => none) } } else s
  | none => s

/-- SES_BACKOFF_END (R505). -/
def execSesBackoffEnd (dt role : Nat) (s : State) : Host.Outcome State Fault Refusal := done s (sesBackoffEnd role (s.blk.elapse dt))

end Sys2Proof.Machine
end

