-- ==== Sys2Proof/Machine/Rows.lean ====
section
/-! DEFINITION. What is written to and read from the rows of the external memory (15 R559 to R568, R576, R577): chunks of the real-time
masters, accesses of the others, scrub reads. -/
namespace Sys2Proof.Machine

/-- What a read has found in a row shows in the candidates of the frame whose data it holds (R577; 04 R153). -/
def Blk.noteRow (s : Blk) (a : RowAt) : Blk :=
  match s.mem.rows.find? (fun r => r.at_ = a) with
  | some r => s.noteClipped r.of_.jobSeq r.of_.unit
  | none => s

/-- A chunk of a real-time master ends (R566): it belongs to the stream whose bytes the master has owed longest, lies in that stream's
open unit or its next one (R564), and ends the burst of another master. Its row and check row have been accessed and are closed, the burst
holds the channel, the longest wait is kept, and what waited for the boundary runs. A unit whose 2 048 bytes are all there has written its
row in full. While the memory is asked to gate only the burst that runs goes on (R582; 16 R597). -/
def rtChunk (a : RowAt) (mv : MemMove) (wait : Nat) (s : Blk) : Blk :=
  let c := s.memCh a.ch
  match s.nextStream mv.who with
  | none => s
  | some k =>
    let n := min mv.bytes (min (s.roomIn k) (s.owedOf k))
    if n = 0 || !s.mayPlace k a || (s.enteringSleep && !(c.burst && c.burstBy = mv.who)) then s
    else
      let late := c.chunkEnd + s.regF Reg.MEMF_BURST_GAP 9 0 ≤ s.now - s.busTicks (rawBytes n)
      let s := if c.burst && (c.burstBy != mv.who || late) then s.endBurst a.ch else s
      let s := (s.accessBoth a true).moveRaw (rawBytes n) true
      let s := ({ s with mem := { s.mem with owed := paid k n s.mem.owed } } : Blk).fillRow k a n
      let s := s.updMem a.ch (fun c => { c with burst := true, burstBy := mv.who, chunkEnd := s.now, chunkAt := (a.rank, a.bank) })
      let s := (s.atLeast Reg.MEM_RT_WAIT 15 0 wait).copyRestart a.ch a.rank a.bank a.row
      let s := if s.mem.rows.any (fun r => r.at_ = a && r.fill = 2048) then s.rowWritten a.ch a.rank a.bank a.row else s
      let s := (List.range (s.memCh a.ch).ranks.length).foldl (fun s r => s.rankBoundary a.ch r) s
      s.allNeighbours a.ch

/-- The stream of the fit store that the calibration engine fills: that of the first campaign which is not over. -/
def Blk.fitStream (s : Blk) : Option Stream :=
  ([0, 1].findSome? (fun u => (s.fitUnit u).bind (fun c => if c.isOver then none else some c))).map (fun c => { kind := .fit, jobSeq := c.jobSeq, unit := 0 })

/-- A write of the calibration engine into the fit store takes its place there (R563). -/
def Blk.storeFit (s : Blk) (a : RowAt) (mv : MemMove) : Blk :=
  match s.fitStream with
  | some k => if mv.who = .calibration && s.mayPlace k a then s.fillRow k a (min mv.bytes (s.roomIn k)) else s
  | none => s

/-- Another master accesses at most 256 bytes of a data row, where no real-time chunk waits for the channel (R568, R473). -/
def plainAccess (a : RowAt) (mv : MemMove) (e : RowSeen) (s : Blk) : Blk :=
  if mv.bytes = 0 || 256 < mv.bytes || isCheck a.row || s.rtWaits a.ch || s.enteringSleep then s
  else
    let s := (s.accessBoth a false).moveRaw (rawBytes mv.bytes) false
    if mv.write then (s.copyRestart a.ch a.rank a.bank a.row).storeFit a mv else (s.readRow a e).noteRow a

/-- A chunk or another access ends. -/
def chunkBoundary (ch rank bank row : Nat) (mv : MemMove) (wait : Nat) (e : RowSeen) (s : Blk) : Blk :=
  if !s.memRank ch rank || !s.rowExists ch rank bank row then s
  else
    let a : RowAt := { ch := ch, rank := rank, bank := bank, row := row }
    let s := s.overdue ch
    if realTime mv.who then rtChunk a mv wait s else plainAccess a mv e s

/-- CHUNK_BOUNDARY (R566). -/
def execChunkBoundary (dt ch rank bank row : Nat) (mv : MemMove) (wait : Nat) (e : RowSeen) (s : State) : Host.Outcome State Fault Refusal :=
  done s (chunkBoundary ch rank bank row mv wait e (s.blk.elapse dt))

/-! ### Scrub (R576) -/

/-- MEM.SCRUB_CFG.period in ticks. -/
def Blk.scrubPeriod (s : Blk) : Nat := 1125000000000 * max 1 (s.regF Reg.MEM_SCRUB_CFG 7 0)

/-- A new scrub period begins where one is over: every row is to be read again. -/
def Blk.scrubRoll (s : Blk) : Blk :=
  let n := (s.now - s.mem.scrubFrom) / s.scrubPeriod
  if n = 0 then s else { s with mem := { s.mem with scrubFrom := s.mem.scrubFrom + n * s.scrubPeriod, scrubbed := [], passDone := false } }

/-- The rows that hold data, and their check rows. -/
def Blk.rowsToScrub (s : Blk) : List RowAt :=
  s.mem.rows.flatMap (fun r => [r.at_, { r.at_ with bank := (r.at_.bank + 4) % 8, row := checkRow r.at_.row }])

/-- A scrub read of a row that holds data and has not been read in this period's pass, where no real-time chunk waits; the pass is
complete when every such row has been read (R576). -/
def scrubRead (ch rank bank row : Nat) (first again : List WordErr) (last : Bool) (s : Blk) : Blk :=
  if !s.memRank ch rank || !s.rowExists ch rank bank row || s.rtWaits ch || s.enteringSleep then s
  else
    let a : RowAt := { ch := ch, rank := rank, bank := bank, row := row }
    let s := (s.overdue ch).scrubRoll
    if s.mem.passDone || !s.holdsData a || s.mem.scrubbed.contains a then s
    else
      let e : RowSeen := { first := first, again := again }
      let s := (s.accessRow a).moveRaw (if isCheck row then 2048 else 2304) false
      let s := (s.bump Reg.MEM_SCRUB_STATUS 31 16 (fixedIn e)).readRow a e
      let s : Blk := ({ s with mem := { s.mem with scrubbed := a :: s.mem.scrubbed } } : Blk).noteRow a
      if last && s.rowsToScrub.all s.mem.scrubbed.contains then
        ({ s with mem := { s.mem with passDone := true } } : Blk).bump Reg.MEM_SCRUB_STATUS 15 0 1
      else s

/-- SCRUB_READ (R576). -/
def execScrubRead (dt ch rank bank row : Nat) (first again : List WordErr) (last : Bool) (s : State) : Host.Outcome State Fault Refusal :=
  done s (scrubRead ch rank bank row first again last (s.blk.elapse dt))

end Sys2Proof.Machine
end

