-- ==== Sys2Proof/Machine/Wakes.lean ====
section
/-! DEFINITION. What the ends of a wake and of a domain's wake set free: stalled accesses, frames the front end held (16 R599,
R604 to R607; 13 R498; 17 R637). -/
namespace Sys2Proof.Machine

/-! ### Frames taken over in sleep (13 R498; 16 R605) -/

/-- The meaning of a request by its command code. -/
def runCmd (c : Call) (s : Blk) : Blk :=
  match c.cmd with
  | 0x01 => enumAlone c s
  | 0x02 => probe c s
  | 0x03 => modeSet c s
  | 0x04 => regRead c s
  | 0x05 => regWrite c s
  | 0x06 => jobSubmit c s
  | 0x07 => resultRead c s
  | 0x08 => measRead c s
  | 0x09 => corrRead c s
  | 0x0A => eventRead c s
  | 0x10 => sesChallenge c s
  | 0x11 => sesProve c s
  | 0x12 => sesClose c s
  | 0x13 => sesKeySet c s
  | _ => unknownCmd c s

/-- An input of TRIG0 or TRIG1 has held its active edge level for 1 µs (R603). -/
def Blk.trigHeld (s : Blk) (pin : Nat) : Bool :=
  s.sns.level.getD pin false != bitN (s.regN (trigCfg pin)) 0 && s.sns.levelAt.getD pin 0 + 313 ≤ s.now

/-- A wake source (R603, R604): a chain frame is taken over; a trigger input has held its level, and the alarm is due; the report that
edges of the forwarded clock have persisted is the command's own; a lamp over-temperature, found only while LIT.THERM asks for it,
ends the glow (11 R432). -/
def wake (src : Nat) (frame : Option Req) (cmd : Nat) (s : Blk) : Blk :=
  if !s.asleep then s
  else match src, frame with
    | 0, some r => if r.link || aonCmd (cmd % 32) then s else s.chainArrive { r := r, cmd := cmd % 32, at_ := s.now } runCmd
    | 0, none => s
    | 1, _ => if s.trigHeld 0 then s.wakeEvent 1 else s
    | 2, _ => if s.trigHeld 1 then s.wakeEvent 2 else s
    | 4, _ => tmbAlarm s
    | 5, _ => if s.regF Reg.LIT_THERM 1 0 = 1 then s.endGlow.wakeEvent 5 else s
    | _, _ => s.wakeEvent src

/-- WAKE (R604). -/
def execWake (dt src : Nat) (frame : Option Req) (cmd : Nat) (s : State) : Host.Outcome State Fault Refusal :=
  done s (wake src frame cmd (s.blk.elapse dt))

/-- The front end hands its frame over once logic is ready, and answers those it could not hold, without a MAC (13 R498). The
challenges and sessions whose time ran out in sleep have ended before (13 R500, R504). -/
def Blk.handOver (s : Blk) : Blk :=
  let held := s.pwr.held
  let refused := s.pwr.refused
  let s := { s with pwr := { s.pwr with held := none, refused := [] } }
  let s := (List.range 4).foldl Blk.slotTimes s
  let s : Blk := match held with
    | some c => s.accept c runCmd
    | none => s
  refused.foldl (fun s p => s.answerWith p.1 (answerBytes p.1 false p.2 0 [])) s

/-- The memory's part of the wake on one rank (15 R583): out of self-refresh, its DQS oscillator checked against the delay in force, write
DQ training repeated beyond twice MEMT.DQS_LIMIT, and its MR4 read. -/
def Blk.rankWake (s : Blk) (ch rank count code : Nat) : Blk :=
  let s := s.updMem ch (fun c => c.updRank rank (fun k => { k with down := false, debt := 0 }))
  let s := if rank = 0 then s.setF (if ch = 0 then Reg.MEMT_DQS_A else Reg.MEMT_DQS_B) 31 16 (sat 16 count) else s
  let s := match dqsDelayOf (s.regF Reg.MEM_CONFIG 31 16) count with
    | some d =>
      if 2 * s.regF Reg.MEMT_DQS_LIMIT 6 0 < absDiff d ((s.memCh ch).rank rank).dqsDelay then
        (s.bump Reg.MEMT_RETRAINS 31 16 1).retrainDq ch rank d
      else s
    | none => s
  s.takeMr4 ch rank code

/-- The memory's part of the wake (15 R583). -/
def Blk.memWake (s : Blk) (m : MemWake) : Blk :=
  let n := (s.memCh 0).ranks.length
  (List.range (2 * n)).foldl (fun s i => s.rankWake (i / n) (i % n) (m.counts.getD i 0) (m.codes.getD i 0)) s

/-- A wake step reports ready within its bound (R606): after the fourth the engine runs. -/
def wakeStepReady (fwd : Bool) (m : MemWake) (s : Blk) : Blk :=
  match s.pwr.mode with
  | .waking k =>
    if s.pwr.stepFrom + s.wakeBound k < s.now then s
    else
      let s := s.wakeStepDone k fwd
      let s : Blk := if k = 3 then s.memWake m else s
      if k < 4 then s else s.logicReady.handOver
  | _ => s

/-- WAKE_STEP_READY (R606). -/
def execWakeStepReady (dt : Nat) (fwd : Bool) (mem : MemWake) (s : State) : Host.Outcome State Fault Refusal :=
  done s (wakeStepReady fwd mem (s.blk.elapse dt))

/-! ### Stalled accesses (R599; 12 R443) -/

/-- PWR.STALL keeps the longest stall, in µs, and its domain. -/
def Blk.noteStall (s : Blk) (w : Stall) : Blk :=
  let us := sat 16 (ceilDiv (2 * (s.now - w.since)) 625)
  if s.regF Reg.PWR_STALL 15 0 < us then s.setN Reg.PWR_STALL (us + 65536 * w.dom) else s

/-- A stalled access goes on. -/
def Blk.resume (s : Blk) (w : Stall) : Blk :=
  let s := s.noteStall w
  match w.what with
  | .read who a => s.read1 who a
  | .write who a v => s.write1 who a v
  | .req c k vals => s.regResume c k vals

/-- A stalled access is refused (R599). -/
def Blk.refuseStall (s : Blk) (w : Stall) : Blk :=
  let s := s.noteStall w
  match w.what with
  | .read _ _ => s.answer 0x1012 0
  | .write _ _ _ => s.answer 0x1012 0
  | .req c k vals => s.reply c 0x1012 (doneBody k vals)

/-- The accesses that wait for a domain, taken off the list and dealt with in order. -/
def Blk.eachStall (s : Blk) (d : Nat) (f : Blk → Stall → Blk) : Blk :=
  let (mine, rest) := s.chn.stalls.partition (fun w => w.dom = d)
  mine.foldl f { s with chn := { s.chn with stalls := rest } }

/-- A woken domain is ready: its clamps are released, and what waited for it goes on (R593, R599). -/
def domainReady (d : Nat) (s : Blk) : Blk :=
  let x := s.dom d
  if !(domCodes.contains d) || !x.powered || x.ready || x.restartAt.isSome then s
  else (s.domainUp d).eachStall d Blk.resume

/-- DOMAIN_READY (R599). -/
def execDomainReady (dt d : Nat) (s : State) : Host.Outcome State Fault Refusal := done s (domainReady d (s.blk.elapse dt))

/-- A domain is not ready within twice its bound: 0x1012, the waiting accesses are refused with it, and the domain restarts
(R599; 17 R637). -/
def pwrDomainLate (d : Nat) (s : Blk) : Blk :=
  let x := s.dom d
  if !(domCodes.contains d) || d = 0 || d = 1 || !x.powered || x.ready || x.restartAt.isSome || s.now < x.wakeAt + 2 * readyBound d then s
  else ((s.raise 0x1012).eachStall d Blk.refuseStall).restartFor d 0x1012

/-- PWR_DOMAIN_LATE (R599). -/
def execPwrDomainLate (dt d : Nat) (s : State) : Host.Outcome State Fault Refusal := done s (pwrDomainLate d (s.blk.elapse dt))

/-- The restart that began first is complete (17 R637), and what waited for its domain goes on. -/
def domainRestartDone (s : Blk) : Blk :=
  match s.restartingDom with
  | some d => (s.restartDone d).eachStall d Blk.resume
  | none => s

/-- DOMAIN_RESTART_DONE (17 R637). -/
def execDomainRestartDone (dt : Nat) (s : State) : Host.Outcome State Fault Refusal := done s (domainRestartDone (s.blk.elapse dt))

end Sys2Proof.Machine
end

