-- ==== Sys2Proof/Machine/Dispatch.lean ====
section
/-! DEFINITION. The dispatch: one arm per command, each a direct call of its meaning. -/
namespace Sys2Proof.Machine

def exec (i : Instr) (s : State) : Host.Outcome State Fault Refusal :=
  match i with
  | .jobSubmit dt r => Sys2Proof.Machine.execJobSubmit dt r s
  | .paceSample dt fabric gauges => Sys2Proof.Machine.execPaceSample dt fabric gauges s
  | .paceUpdate dt => Sys2Proof.Machine.execPaceUpdate dt s
  | .accountingWindow dt => Sys2Proof.Machine.execAccountingWindow dt s
  | .deliveryDeadline dt seq unit => Sys2Proof.Machine.execDeliveryDeadline dt seq unit s
  | .commitCut dt seq unit => Sys2Proof.Machine.execCommitCut dt seq unit s
  | .armTimeout dt seq => Sys2Proof.Machine.execArmTimeout dt seq s
  | .intervalEnd dt seq => Sys2Proof.Machine.execIntervalEnd dt seq s
  | .cancel dt who tag => Sys2Proof.Machine.execCancel dt who tag s
  | .softTrig dt who tag => Sys2Proof.Machine.execSoftTrig dt who tag s
  | .triggerInput dt pin level => Sys2Proof.Machine.execTriggerInput dt pin level s
  | .triggerAccept dt src => Sys2Proof.Machine.execTriggerAccept dt src s
  | .exposureStart dt => Sys2Proof.Machine.execExposureStart dt s
  | .exposureEnd dt => Sys2Proof.Machine.execExposureEnd dt s
  | .snsTransfer dt => Sys2Proof.Machine.execSnsTransfer dt s
  | .tileRowComplete dt tiles => Sys2Proof.Machine.execTileRowComplete dt tiles s
  | .locMapLate dt => Sys2Proof.Machine.execLocMapLate dt s
  | .bandConverted dt noise => Sys2Proof.Machine.execBandConverted dt noise s
  | .storageWindowEnd dt => Sys2Proof.Machine.execStorageWindowEnd dt s
  | .snsTempRange dt temp => Sys2Proof.Machine.execSnsTempRange dt temp s
  | .specTaskStart dt => Sys2Proof.Machine.execSpecTaskStart dt s
  | .taskAssign dt => Sys2Proof.Machine.execTaskAssign dt s
  | .decodeTaskEnd dt eng f more => Sys2Proof.Machine.execDecodeTaskEnd dt eng f more s
  | .decEngineFault dt eng store => Sys2Proof.Machine.execDecEngineFault dt eng store s
  | .groupCommit dt path => Sys2Proof.Machine.execGroupCommit dt path s
  | .resultRead dt r => Sys2Proof.Machine.execResultRead dt r s
  | .fadeEnd dt => Sys2Proof.Machine.execFadeEnd dt s
  | .coefWrite dt who bank tap v => Sys2Proof.Machine.execCoefWrite dt who bank tap v s
  | .pdBiasFault dt ch => Sys2Proof.Machine.execPdBiasFault dt ch s
  | .adcFault dt adc => Sys2Proof.Machine.execAdcFault dt adc s
  | .suppressEnd dt ch => Sys2Proof.Machine.execSuppressEnd dt ch s
  | .freezePinEdge dt pin level => Sys2Proof.Machine.execFreezePinEdge dt pin level s
  | .rsmOverspeed dt ch seq => Sys2Proof.Machine.execRsmOverspeed dt ch seq s
  | .posPacket dt payload => Sys2Proof.Machine.execPosPacket dt payload s
  | .sweepBoundary dt seq => Sys2Proof.Machine.execSweepBoundary dt seq s
  | .windowStart dt seq => Sys2Proof.Machine.execWindowStart dt seq s
  | .windowEnd dt seq => Sys2Proof.Machine.execWindowEnd dt seq s
  | .posLate dt seq ch j => Sys2Proof.Machine.execPosLate dt seq ch j s
  | .lineDecode dt seq levels => Sys2Proof.Machine.execLineDecode dt seq levels s
  | .tallyAppend dt m => Sys2Proof.Machine.execTallyAppend dt m s
  | .blockCloseAge dt => Sys2Proof.Machine.execBlockCloseAge dt s
  | .blockSigned dt => Sys2Proof.Machine.execBlockSigned dt s
  | .tamperChange dt isOpen => Sys2Proof.Machine.execTamperChange dt isOpen s
  | .unseal dt who => Sys2Proof.Machine.execUnseal dt who s
  | .unsealComplete dt => Sys2Proof.Machine.execUnsealComplete dt s
  | .reseal dt who => Sys2Proof.Machine.execReseal dt who s
  | .resealComplete dt => Sys2Proof.Machine.execResealComplete dt s
  | .paramDataWrite dt who v => Sys2Proof.Machine.execParamDataWrite dt who v s
  | .paramDataRead dt who => Sys2Proof.Machine.execParamDataRead dt who s
  | .measRead dt r => Sys2Proof.Machine.execMeasRead dt r s
  | .tallyWatchdog dt storeOk => Sys2Proof.Machine.execTallyWatchdog dt storeOk s
  | .litTrimSlot dt sector => Sys2Proof.Machine.execLitTrimSlot dt sector s
  | .calLitCmd dt who v => Sys2Proof.Machine.execCalLitCmd dt who v s
  | .pdCalPeriod dt => Sys2Proof.Machine.execPdCalPeriod dt s
  | .pdCalStart dt ch => Sys2Proof.Machine.execPdCalStart dt ch s
  | .pdCalEnd dt ch y0 y1 => Sys2Proof.Machine.execPdCalEnd dt ch y0 y1 s
  | .paceSlot dt => Sys2Proof.Machine.execPaceSlot dt s
  | .campaignClose dt seq => Sys2Proof.Machine.execCampaignClose dt seq s
  | .fitStart dt seq => Sys2Proof.Machine.execFitStart dt seq s
  | .fitEnd dt seq unitFault => Sys2Proof.Machine.execFitEnd dt seq unitFault s
  | .corrRead dt r => Sys2Proof.Machine.execCorrRead dt r s
  | .shadowDecode dt => Sys2Proof.Machine.execShadowDecode dt s
  | .laneEqScan dt points => Sys2Proof.Machine.execLaneEqScan dt points s
  | .dramZqSlot dt => Sys2Proof.Machine.execDramZqSlot dt s
  | .dramDqsSlot dt counts => Sys2Proof.Machine.execDramDqsSlot dt counts s
  | .prechargeStart dt => Sys2Proof.Machine.execPrechargeStart dt s
  | .conductionStart dt => Sys2Proof.Machine.execConductionStart dt s
  | .conductionEnd dt => Sys2Proof.Machine.execConductionEnd dt s
  | .ledTest dt col ia ib volt => Sys2Proof.Machine.execLedTest dt col ia ib volt s
  | .diagPeriodEnd dt => Sys2Proof.Machine.execDiagPeriodEnd dt s
  | .litdRetest dt who v => Sys2Proof.Machine.execLitdRetest dt who v s
  | .dutyClamp dt col => Sys2Proof.Machine.execDutyClamp dt col s
  | .ltempRead dt ohms vled => Sys2Proof.Machine.execLtempRead dt ohms vled s
  | .patStepExpiry dt e => Sys2Proof.Machine.execPatStepExpiry dt e s
  | .patRampUnit dt e => Sys2Proof.Machine.execPatRampUnit dt e s
  | .patWaitexpTimeout dt e => Sys2Proof.Machine.execPatWaitexpTimeout dt e s
  | .muxSlot dt e => Sys2Proof.Machine.execMuxSlot dt e s
  | .bndOpen dt who => Sys2Proof.Machine.execBndOpen dt who s
  | .bndClose dt who point => Sys2Proof.Machine.execBndClose dt who point s
  | .bndAbort dt who => Sys2Proof.Machine.execBndAbort dt who s
  | .rwbWrite dt who addr v => Sys2Proof.Machine.execRwbWrite dt who addr v s
  | .bundleCommitImmediate dt id => Sys2Proof.Machine.execBundleCommitImmediate dt id s
  | .bndWaitExpired dt id => Sys2Proof.Machine.execBndWaitExpired dt id s
  | .evtLatchClear dt who page bits => Sys2Proof.Machine.execEvtLatchClear dt who page bits s
  | .faultClear dt who page => Sys2Proof.Machine.execFaultClear dt who page s
  | .claimTake dt who res => Sys2Proof.Machine.execClaimTake dt who res s
  | .claimRelease dt who res => Sys2Proof.Machine.execClaimRelease dt who res s
  | .claimForceRelease dt who res => Sys2Proof.Machine.execClaimForceRelease dt who res s
  | .timerFire dt n => Sys2Proof.Machine.execTimerFire dt n s
  | .timerPulseEnd dt n => Sys2Proof.Machine.execTimerPulseEnd dt n s
  | .timersRead dt who => Sys2Proof.Machine.execTimersRead dt who s
  | .timestampLoRead dt who addr => Sys2Proof.Machine.execTimestampLoRead dt who addr s
  | .regWriteOther dt who addr v => Sys2Proof.Machine.execRegWriteOther dt who addr v s
  | .enum dt r => Sys2Proof.Machine.execEnum dt r s
  | .probe dt r => Sys2Proof.Machine.execProbe dt r s
  | .mode dt r => Sys2Proof.Machine.execMode dt r s
  | .regRead dt r => Sys2Proof.Machine.execRegRead dt r s
  | .regWrite dt r => Sys2Proof.Machine.execRegWrite dt r s
  | .eventRead dt r => Sys2Proof.Machine.execEventRead dt r s
  | .sesChallenge dt r => Sys2Proof.Machine.execSesChallenge dt r s
  | .sesProve dt r => Sys2Proof.Machine.execSesProve dt r s
  | .sesClose dt r => Sys2Proof.Machine.execSesClose dt r s
  | .sesKeySet dt r => Sys2Proof.Machine.execSesKeySet dt r s
  | .sesIdleClosed dt slot => Sys2Proof.Machine.execSesIdleClosed dt slot s
  | .sesChallengeExpired dt slot => Sys2Proof.Machine.execSesChallengeExpired dt slot s
  | .sesBackoffEnd dt role => Sys2Proof.Machine.execSesBackoffEnd dt role s
  | .sesForceClose dt who v => Sys2Proof.Machine.execSesForceClose dt who v s
  | .chainFrameRepeat dt cho bytes => Sys2Proof.Machine.execChainFrameRepeat dt cho bytes s
  | .frameDiscard dt cho cause => Sys2Proof.Machine.execFrameDiscard dt cho cause s
  | .railError dt cho => Sys2Proof.Machine.execRailError dt cho s
  | .hopBroken dt cho => Sys2Proof.Machine.execHopBroken dt cho s
  | .hopTurn dt cho collision => Sys2Proof.Machine.execHopTurn dt cho collision s
  | .chnRespTimeout dt link => Sys2Proof.Machine.execChnRespTimeout dt link s
  | .ackReceive dt lseq credit => Sys2Proof.Machine.execAckReceive dt lseq credit s
  | .nakReceive dt lseq credit => Sys2Proof.Machine.execNakReceive dt lseq credit s
  | .linkPacketBad dt sop data => Sys2Proof.Machine.execLinkPacketBad dt sop data s
  | .replayTimer dt => Sys2Proof.Machine.execReplayTimer dt s
  | .ackSend dt => Sys2Proof.Machine.execAckSend dt s
  | .linkAckLoss dt => Sys2Proof.Machine.execLinkAckLoss dt s
  | .detectCheck dt lanes => Sys2Proof.Machine.execDetectCheck dt lanes s
  | .trainPhaseDone dt info => Sys2Proof.Machine.execTrainPhaseDone dt info s
  | .lnkTrainTimeout dt => Sys2Proof.Machine.execLnkTrainTimeout dt s
  | .clockPresent dt => Sys2Proof.Machine.execClockPresent dt s
  | .lnkClockLost dt => Sys2Proof.Machine.execLnkClockLost dt s
  | .crystalSwitch dt => Sys2Proof.Machine.execCrystalSwitch dt s
  | .lnkLaneLost dt lane lock => Sys2Proof.Machine.execLnkLaneLost dt lane lock s
  | .restripe dt mask ver lost => Sys2Proof.Machine.execRestripe dt mask ver lost s
  | .lnkRetrain dt who => Sys2Proof.Machine.execLnkRetrain dt who s
  | .lnkHoldDown dt who v => Sys2Proof.Machine.execLnkHoldDown dt who v s
  | .eyeScanStart dt who lane v => Sys2Proof.Machine.execEyeScanStart dt who lane v s
  | .refreshDue dt ch rank idle => Sys2Proof.Machine.execRefreshDue dt ch rank idle s
  | .burstEnd dt ch => Sys2Proof.Machine.execBurstEnd dt ch s
  | .mr4Read dt ch rank code => Sys2Proof.Machine.execMr4Read dt ch rank code s
  | .refreshWindow dt ch rank => Sys2Proof.Machine.execRefreshWindow dt ch rank s
  | .neighbourRefresh dt ch rank bank row => Sys2Proof.Machine.execNeighbourRefresh dt ch rank bank row s
  | .scrubRead dt ch rank bank row first again last => Sys2Proof.Machine.execScrubRead dt ch rank bank row first again last s
  | .remapCopyDone dt ch => Sys2Proof.Machine.execRemapCopyDone dt ch s
  | .pageHoldExpiry dt ch rank bank => Sys2Proof.Machine.execPageHoldExpiry dt ch rank bank s
  | .rankPowerDown dt ch rank => Sys2Proof.Machine.execRankPowerDown dt ch rank s
  | .domainGate dt d => Sys2Proof.Machine.execDomainGate dt d s
  | .pwrGateWait dt d => Sys2Proof.Machine.execPwrGateWait dt d s
  | .domainWake dt who addr => Sys2Proof.Machine.execDomainWake dt who addr s
  | .domainReady dt d => Sys2Proof.Machine.execDomainReady dt d s
  | .pwrDomainLate dt d => Sys2Proof.Machine.execPwrDomainLate dt d s
  | .enterRosemary dt who => Sys2Proof.Machine.execEnterRosemary dt who s
  | .enterOff dt who => Sys2Proof.Machine.execEnterOff dt who s
  | .rosemaryEntered dt => Sys2Proof.Machine.execRosemaryEntered dt s
  | .wake dt src frame cmd => Sys2Proof.Machine.execWake dt src frame cmd s
  | .wakeStepReady dt fwd mem => Sys2Proof.Machine.execWakeStepReady dt fwd mem s
  | .pwrWakeStep dt storeOk => Sys2Proof.Machine.execPwrWakeStep dt storeOk s
  | .aonWindow dt cycles temp => Sys2Proof.Machine.execAonWindow dt cycles temp s
  | .aonTempSample dt temp => Sys2Proof.Machine.execAonTempSample dt temp s
  | .tmbSet dt who v => Sys2Proof.Machine.execTmbSet dt who v s
  | .tmbAlarmArm dt who v => Sys2Proof.Machine.execTmbAlarmArm dt who v s
  | .tmbAlarm dt => Sys2Proof.Machine.execTmbAlarm dt s
  | .alarmDisarm dt who v => Sys2Proof.Machine.execAlarmDisarm dt who v s
  | .uncertClear dt who => Sys2Proof.Machine.execUncertClear dt who s
  | .porstAssert dt => Sys2Proof.Machine.execPorstAssert dt s
  | .porstRelease dt storeOk => Sys2Proof.Machine.execPorstRelease dt storeOk s
  | .aonPowerOn dt => Sys2Proof.Machine.execAonPowerOn dt s
  | .supplyOutOfRange dt rail => Sys2Proof.Machine.execSupplyOutOfRange dt rail s
  | .start dt o => Sys2Proof.Machine.execStart dt o s
  | .startRetryDelay dt => Sys2Proof.Machine.execStartRetryDelay dt s
  | .clearCount dt who => Sys2Proof.Machine.execClearCount dt who s
  | .restart dt who => Sys2Proof.Machine.execRestart dt who s
  | .understoryOffer dt kind u wear => Sys2Proof.Machine.execUnderstoryOffer dt kind u wear s
  | .spareInsert dt => Sys2Proof.Machine.execSpareInsert dt s
  | .safePointTimeout dt => Sys2Proof.Machine.execSafePointTimeout dt s
  | .ustEscalated dt => Sys2Proof.Machine.execUstEscalated dt s
  | .domainRestartDone dt => Sys2Proof.Machine.execDomainRestartDone dt s
  | .domainWatchdog dt d => Sys2Proof.Machine.execDomainWatchdog dt d s
  | .thmHot dt temp => Sys2Proof.Machine.execThmHot dt temp s
  | .thmShutdown dt temp => Sys2Proof.Machine.execThmShutdown dt temp s
  | .chainSample dt ch codes => Sys2Proof.Machine.execChainSample dt ch codes s
  | .linkTransmit dt => Sys2Proof.Machine.execLinkTransmit dt s
  | .packetDiscard dt ptype => Sys2Proof.Machine.execPacketDiscard dt ptype s
  | .chnCmdUnknown dt r cmd => Sys2Proof.Machine.execChnCmdUnknown dt r cmd s
  | .chunkBoundary dt ch rank bank row mv wait seen => Sys2Proof.Machine.execChunkBoundary dt ch rank bank row mv wait seen s
  | .rowdrvAssert dt => Sys2Proof.Machine.execRowdrvAssert dt s
  | .syncPulseEnd dt => Sys2Proof.Machine.execSyncPulseEnd dt s

end Sys2Proof.Machine
end

