-- ==== Sys2Proof/WellFormed.lean ====
section
/-! DEFINITION. Which commands are well formed: every operand within the width or range the spec gives what it stands for.
The meanings are total and do not ask for it; what a command means out of these ranges is not the engine's (log 6). -/
namespace Sys2Proof

/-- A request frame within the layout of 13 R486. -/
def reqWf (r : Req) : Bool :=
  r.addr < 128 && r.slot < 4 && r.seq < 65536 && r.payload.length ≤ 4224 && r.mac < 2 ^ 32 && (r.hasMac || r.mac = 0) && r.ptype < 256

/-- The codes of the domains (12 R448). -/
def domCode (d : Nat) : Bool := d < 8 || (0x10 ≤ d && d < 0x22)

/-- A finding within the image, and a fit with four corners (05 R187; 06 R234). -/
def findingWf (f : Finding) : Bool :=
  f.rows < 256 && f.cols < 256 && f.stage < 3 && f.finders < 256 && f.quad.all (fun p => p.1 < 2 ^ 24 && p.2 < 2 ^ 24) &&
  (f.quad.length = 4 || f.seen = .nothing || f.seen = .other)

/-- The outcome of a training phase: five lanes (14 R515), at most 16 settings each of 16 × 16 points (R545). -/
def infoWf (i : TrainInfo) : Bool :=
  i.rxLanes < 32 && i.txLanes < 32 && i.inverted < 32 && i.partner.all (· < 5) && i.peaks.all (fun l => decide (l.length ≤ 16) && l.all (· ≤ 256))

/-- The outcome of a start: attempts within 17 R625, 18 engines. -/
def outcomeWf (o : StartOutcome) : Bool :=
  o.temp < 65536 && o.s1 ≤ 3 && o.s3 ≤ 3 && o.s3Part < 3 && o.s6 ≤ 3 && o.link < 4 && 2 ≤ o.furthest && o.furthest ≤ 5 && o.engines < 2 ^ 18 && infoWf o.info &&
  o.macros.all (· < 256) && o.mem.ranksA.length ≤ 2 && o.mem.ranksB.length ≤ 2 && o.mem.fails.all (· ≤ 3) && o.mem.fails.length ≤ 32

/-- A command whose operands lie in their ranges. -/
def Instr.wf : Instr → Bool
  | .jobSubmit _ r => reqWf r
  | .paceSample _ fabric gauges => fabric < 65536 && gauges.length = 18 && gauges.all (· < 65536)
  | .paceUpdate _ => true
  | .accountingWindow _ => true
  | .deliveryDeadline _ seq unit => seq < 2 ^ 32 && unit < 2 ^ 32
  | .commitCut _ seq unit => seq < 2 ^ 32 && unit < 2 ^ 32
  | .armTimeout _ seq => seq < 2 ^ 32
  | .intervalEnd _ seq => seq < 2 ^ 32
  | .cancel _ _ _ => true
  | .softTrig _ _ _ => true
  | .triggerInput _ pin _ => pin < 2
  | .triggerAccept _ src => (src < 2 || (0x10 ≤ src && src < 0x18))
  | .exposureStart _ => true
  | .exposureEnd x => x.img.all (fun p => p.1 < 49152 && p.2.length = 256)
  | .snsTransfer _ => true
  | .tileRowComplete _ tiles => tiles.length = 256
  | .locMapLate _ => true
  | .bandConverted _ noise => noise.all (fun p => p.1 < 49152 && p.2.length = 256)
  | .storageWindowEnd _ => true
  | .snsTempRange _ _ => true
  | .specTaskStart _ => true
  | .taskAssign _ => true
  | .decodeTaskEnd _ eng f m => eng < 18 && findingWf f && (match m.twin with | some g => findingWf g | none => true)
  | .decEngineFault _ eng _ => eng < 18
  | .groupCommit _ path => path < 3
  | .resultRead _ r => reqWf r
  | .fadeEnd _ => true
  | .coefWrite _ _ _ tap _ => tap < 32
  | .pdBiasFault _ ch => ch < 8
  | .adcFault _ adc => adc < 9
  | .suppressEnd _ ch => ch < 8
  | .freezePinEdge _ pin _ => pin < 8
  | .rsmOverspeed _ ch seq => ch < 8 && seq < 2 ^ 32
  | .posPacket _ payload => payload.length ≤ 4220
  | .sweepBoundary _ seq => seq < 2 ^ 32
  | .windowStart _ seq => seq < 2 ^ 32
  | .windowEnd _ seq => seq < 2 ^ 32
  | .posLate _ seq ch _ => seq < 2 ^ 32 && ch < 8
  | .lineDecode _ seq levels => seq < 2 ^ 32 && levels.length ≤ 8
  | .tallyAppend _ _ => true
  | .blockCloseAge _ => true
  | .blockSigned _ => true
  | .tamperChange _ _ => true
  | .unseal _ _ => true
  | .unsealComplete _ => true
  | .reseal _ _ => true
  | .resealComplete _ => true
  | .paramDataWrite _ _ _ => true
  | .paramDataRead _ _ => true
  | .measRead _ r => reqWf r
  | .tallyWatchdog _ _ => true
  | .litTrimSlot _ sector => sector < 8
  | .calLitCmd _ _ _ => true
  | .pdCalPeriod _ => true
  | .pdCalStart _ ch => ch < 8
  | .pdCalEnd _ ch y0 y1 => ch < 8 && (y0 ++ y1).all (fun c => decide (-8192 ≤ c ∧ c < 8192))
  | .paceSlot _ => true
  | .campaignClose _ seq => seq < 2 ^ 32
  | .fitStart _ seq => seq < 2 ^ 32
  | .fitEnd _ seq _ => seq < 2 ^ 32
  | .corrRead _ r => reqWf r
  | .shadowDecode _ => true
  | .laneEqScan _ points => points.length = 128
  | .dramZqSlot _ => true
  | .dramDqsSlot _ counts => counts.length ≤ 4
  | .prechargeStart _ => true
  | .conductionStart _ => true
  | .conductionEnd _ => true
  | .ledTest _ col _ _ _ => col < 24
  | .diagPeriodEnd _ => true
  | .litdRetest _ _ _ => true
  | .dutyClamp _ col => col < 24
  | .ltempRead _ _ _ => true
  | .patStepExpiry _ e => e < 2
  | .patRampUnit _ e => e < 2
  | .patWaitexpTimeout _ e => e < 2
  | .muxSlot _ e => e < 2
  | .bndOpen _ _ => true
  | .bndClose _ _ point => point < 4
  | .bndAbort _ _ => true
  | .rwbWrite _ _ addr _ => addr < 2 ^ 18
  | .bundleCommitImmediate _ _ => true
  | .bndWaitExpired _ _ => true
  | .evtLatchClear _ _ page _ => page < 256
  | .faultClear _ _ page => page < 256
  | .claimTake _ _ res => res < 33
  | .claimRelease _ _ res => res < 33
  | .claimForceRelease _ _ res => res < 33
  | .timerFire _ n => n < 8
  | .timerPulseEnd _ n => n < 8
  | .timersRead _ _ => true
  | .timestampLoRead _ _ addr => addr < 2 ^ 18
  | .regWriteOther _ _ addr _ => addr < 2 ^ 18
  | .enum _ r => reqWf r
  | .probe _ r => reqWf r
  | .mode _ r => reqWf r
  | .regRead _ r => reqWf r
  | .regWrite _ r => reqWf r
  | .eventRead _ r => reqWf r
  | .sesChallenge _ r => reqWf r
  | .sesProve _ r => reqWf r
  | .sesClose _ r => reqWf r
  | .sesKeySet _ r => reqWf r
  | .sesIdleClosed _ slot => slot < 4
  | .sesChallengeExpired _ slot => slot < 4
  | .sesBackoffEnd _ role => role < 4
  | .sesForceClose _ _ _ => true
  | .chainFrameRepeat _ _ bytes => 6 ≤ bytes.length && bytes.length ≤ 4234
  | .frameDiscard _ _ cause => cause < 3
  | .railError _ _ => true
  | .hopBroken _ _ => true
  | .hopTurn _ _ _ => true
  | .chnRespTimeout _ _ => true
  | .ackReceive _ lseq credit => lseq < 65536 && credit < 65536
  | .nakReceive _ lseq credit => lseq < 65536 && credit < 65536
  | .linkPacketBad _ sop data => sop.length = 8 && data.length ≤ 8232 && data.length % 8 = 0
  | .replayTimer _ => true
  | .ackSend _ => true
  | .linkAckLoss _ => true
  | .detectCheck _ lanes => lanes < 32
  | .trainPhaseDone _ info => infoWf info
  | .lnkTrainTimeout _ => true
  | .clockPresent _ => true
  | .lnkClockLost _ => true
  | .crystalSwitch _ => true
  | .lnkLaneLost _ lane _ => lane < 5
  | .restripe _ mask ver lost => mask < 32 && ver < 256 && (lost < 5 || lost = 0xFF)
  | .lnkRetrain _ _ => true
  | .lnkHoldDown _ _ _ => true
  | .eyeScanStart _ _ lane _ => lane < 5
  | .refreshDue _ ch rank _ => ch < 2 && rank < 2
  | .burstEnd _ ch => ch < 2
  | .mr4Read _ ch rank code => ch < 2 && rank < 2 && code < 8
  | .refreshWindow _ ch rank => ch < 2 && rank < 2
  | .neighbourRefresh _ ch rank bank row => ch < 2 && rank < 2 && bank < 8 && row < 131072
  | .scrubRead _ ch rank bank row first again _ =>
    ch < 2 && rank < 2 && bank < 8 && row < 131072 && (first ++ again).all (fun e => e.word < 256 && e.bits.all (· < 72))
  | .remapCopyDone _ ch => ch < 2
  | .pageHoldExpiry _ ch rank bank => ch < 2 && rank < 2 && bank < 8
  | .rankPowerDown _ ch rank => ch < 2 && rank < 2
  | .domainGate _ d => domCode d
  | .pwrGateWait _ d => domCode d
  | .domainWake _ _ addr => addr < 2 ^ 18
  | .domainReady _ d => domCode d
  | .pwrDomainLate _ d => domCode d
  | .enterRosemary _ _ => true
  | .enterOff _ _ => true
  | .rosemaryEntered _ => true
  | .wake _ src frame cmd => src < 6 && (match frame with | some r => reqWf r | none => true) && cmd < 32
  | .wakeStepReady _ _ m => m.counts.length ≤ 4 && m.codes.length ≤ 4 && m.codes.all (· < 8)
  | .pwrWakeStep _ _ => true
  | .aonWindow _ _ temp => temp < 65536
  | .aonTempSample _ temp => temp < 65536
  | .tmbSet _ _ _ => true
  | .tmbAlarmArm _ _ _ => true
  | .tmbAlarm _ => true
  | .alarmDisarm _ _ _ => true
  | .uncertClear _ _ => true
  | .porstAssert _ => true
  | .porstRelease _ _ => true
  | .aonPowerOn _ => true
  | .supplyOutOfRange _ rail => rail < 9
  | .start _ o => outcomeWf o
  | .startRetryDelay _ => true
  | .clearCount _ _ => true
  | .restart _ _ => true
  | .understoryOffer _ kind _ _ => (1 ≤ kind && kind ≤ 9)
  | .spareInsert _ => true
  | .safePointTimeout _ => true
  | .ustEscalated _ => true
  | .domainRestartDone _ => true
  | .domainWatchdog _ d => domCode d
  | .thmHot _ temp => temp < 65536
  | .thmShutdown _ temp => temp < 65536
  | .chainSample _ ch codes => ch < 8 && codes.all (fun c => decide (-8192 ≤ c ∧ c < 8192))
  | .linkTransmit _ => true
  | .packetDiscard _ ptype => ptype < 256
  | .chnCmdUnknown _ r cmd => reqWf r && cmd < 32
  | .chunkBoundary _ ch rank bank row mv _ seen =>
    ch < 2 && rank < 2 && bank < 8 && row < 131072 && mv.bytes ≤ 2048 && (seen.first ++ seen.again).all (fun e => e.word < 256 && e.bits.all (· < 72))
  | .rowdrvAssert _ => true
  | .syncPulseEnd _ => true

end Sys2Proof
end

