-- ==== Sys2Proof/Safety.lean ====
section
/-! DEFINITION. What a safe state and a safe run are, in the terms the statements use: the pins the engine drives show what
its registers say, the register file stands in its one form, and commands are carried out, not refused. -/
namespace Sys2Proof.Machine

/-- EVT_N, the GP pins and SYNC_OUT show what the registers and blocks behind them say (12 R449, R475; 03 R132), as far as the domains
that drive them are not clamped; a clamped SYNC_OUT stands at its idle level, and clamped lanes are not driven (16 R592). -/
def Blk.pinsAgree (s : Blk) : Prop :=
  ((s.dom 7).clamped = false → s.pins.evtLow = evtLow s.regs ∧
    s.pins.gp = (List.range 8).map (gpDrive s.regs s.gpc.timers (evtLow s.regs))) ∧
  ((s.dom 2).clamped = false → s.pins.sync = syncLevel (s.regN Reg.SNS_SYNC_CFG) s.sns.frames s.lit.cond s.sns.syncPulse) ∧
  ((s.dom 2).clamped = true → s.pins.sync = bitN (s.regN Reg.SNS_SYNC_CFG) 2) ∧
  s.pins.lanes = !(s.dom 6).clamped ∧ ((s.dom 6).clamped = true → s.pins.fcko = false)

/-- The register file is in canonical form: addresses rising, no register at its reset value listed. -/
def Blk.regsCanonical (s : Blk) : Prop := regsWf s.regs = true

/-- A state in which the pins tell the truth. -/
def State.Safe (s : State) : Prop := s.blk.pinsAgree

/-- A step that carries a command out. -/
def Completes (s : State) : Prop := ∃ t, step s = .next t

/-- The state a command leaves: the queue as it was, the engine `b` with its pins up to date. -/
def State.after (s : State) (b : Blk) : State := { s with blk := b.settle }

/-- A command ends in a next state that keeps the queue and whose engine satisfies `P`. -/
def Leaves (i : Instr) (s : State) (P : Blk → Prop) : Prop :=
  ∃ t, exec i s = .next t ∧ t.pending = s.pending ∧ P t.blk

/-- The engine is in Run or Idle and its start is complete: accesses and requests are served (16 R594; 17 R629). -/
def Blk.inRun (b : Blk) : Prop := b.pwr.mode = .run ∧ b.sys.mode = .ready

/-- An access reaches register `a`: the gate delay of its domain starts again (16 R595). -/
def Blk.reached (b : Blk) (a : Nat) : Blk := b.updDom (domOf a) (fun x => { x with touched := b.now })

/-- `c` differs from `b` in the register file alone, the pins apart. -/
def Blk.onlyRegs (b c : Blk) : Prop := c = { b with regs := c.regs, pins := c.pins }

/-- Every register but those listed, the page headers and the two counters a raised code moves holds in `c` what it held
in `b`. -/
def Blk.regsKept (b c : Blk) (l : List Nat) : Prop :=
  ∀ a, a ∉ l → 0x40 ≤ offOf a → a ≠ Reg.EVT_LOST → a ≠ Reg.SYS_FLOG_COUNT → c.reg a = b.reg a

/-- The engine `b` takes the chain request `r` with command `cmd` as the call `c` and runs it in `f`: it is addressed to the
engine alone, is not the request answered last, and either carries no session or passes the checks of its own: a MAC under
the session's key and a counter value above the last one accepted (13 R489, R493, R501). -/
def Blk.accepts (b : Blk) (r : Req) (cmd : Nat) (c : Call) (f : Blk) : Prop :=
  b.inRun ∧ r.link = false ∧ r.addr % 128 = b.chainAddr ∧ b.chainAddr < 0x7E ∧
  (b.ses.kept.getD (keptIdx r) {}).valid = false ∧
  ((r.hasMac = false ∧ c = { r := r, cmd := cmd, at_ := b.now } ∧ f = b.count Reg.CHN_FRAMES 1) ∨
   (r.hasMac = true ∧ ∃ ctr,
      (b.slot (r.slot % 4)).st = .opened ∧ (b.slot (r.slot % 4)).link = false ∧
      counterOf (b.slot (r.slot % 4)).counter r.seq = (true, ctr) ∧
      macOf (b.slot (r.slot % 4)).ks ctr (r.addr % 128) (cmdByte cmd r.slot true) r.payload = le 4 r.mac ∧
      c = { r := r, cmd := cmd, at_ := b.now, ctr := ctr, ks := (b.slot (r.slot % 4)).ks } ∧
      f = (b.count Reg.CHN_FRAMES 1).updSlot (r.slot % 4) (fun k => { k with counter := ctr, since := b.now })))

/-- The engine `b` takes the request `r` with command `cmd`, on either port and broadcast or not, as the call `c` and runs it in `f`:
it is not the request answered last on its slot, and either carries no session or passes the session's checks (13 R489, R493, R501;
14 R526). -/
def Blk.takes (b : Blk) (r : Req) (cmd : Nat) (c : Call) (f : Blk) : Prop :=
  b.inRun ∧ ∃ (q : Req) (g : Blk),
    ((r.link = false ∧ q = r ∧ b.actsOn (r.addr % 128) cmd = true ∧
        g = (let x := b.count Reg.CHN_FRAMES 1
             if 0x7E ≤ r.addr % 128 then x.repeatFrame r.cho (frameOf (reqBytes r cmd)) else x)) ∨
      (r.link = true ∧ q = { r with addr := 0 } ∧ b.linkUp = true ∧ linkCarries r.ptype cmd = true ∧ g = b.linkAccept)) ∧
    (let c0 : Call := { r := q, cmd := cmd, at_ := b.now }
     let kept := g.ses.kept.getD (keptIdx q) {}
     (kept.valid = true → kept.asked = askedBytes c0 → isBroadcast c0 = true) ∧
     ((r.hasMac = false ∧ c = c0 ∧ f = g) ∨ (r.hasMac = true ∧ g.sessionCheck c0 = (some c, f))))

end Sys2Proof.Machine
end

