-- ==== Sys2Proof/Certificates/Slice0/Obligations.lean ====
section
/-! DEFINITION. The statements for the provers. `b` is always the engine at the tick of the command: the engine before it
after `dt` ticks have passed. -/
open Sys2Proof Sys2Proof.Machine

/-! ### The machine as a whole -/

/-- A step takes the command at the front of the queue and carries it out on the state with the queue's rest. -/
def Obligations.StepRunsTheFrontCommand : Prop :=
  ∀ (c : Instr) (l : List Instr) (s : State), step { s with pending := c :: l } = exec c { s with pending := l }

/-- The engine right after reset: no session, no job, no result, nothing sent; every register reads its reset value. -/
def Obligations.ResetLeavesTheStartComplete : Prop :=
  let b := State.reset.blk
  State.reset.pending = [] ∧ b.inRun ∧ b.sys.phase = 7 ∧ b.now = 0 ∧ b.regs = [] ∧ (∀ a, b.reg a = resetOf a) ∧
  b.jobs = [] ∧ b.hist = [] ∧ b.wire = [] ∧ b.bundles = [] ∧ b.sys.flog = [] ∧
  (∀ i : Fin 4, (b.slot i.val).st = .free) ∧ b.ses.opKey = .empty ∧ b.ses.svcKey = .factory ∧ b.ses.sealKey = .empty ∧
  b.store.pools.all (fun p => p.recs.isEmpty && p.nextSeq == 0) = true ∧ b.tly.store = [] ∧ b.store.corr = []

/-- At reset the pins show what the registers say. -/
def Obligations.PinsAgreeAtReset : Prop := State.reset.Safe

/-- Whatever state a step starts from, the pins it leaves show what the registers and blocks behind them say. -/
def Obligations.PinsAgreeAfterEveryStep : Prop := ∀ (s t : State), step s = .next t → t.Safe

/-- Every waiting command is carried out, in its order: as many steps as commands wait empty the queue, and no step
stops on the way. -/
def Obligations.TheQueueRunsOut : Prop :=
  ∀ (s : State), s.Safe → ∃ t, core.run s.pending.length s = .next t ∧ (t : State).pending = [] ∧ (t : State).Safe

/-- After a register is set it reads its new value, every other register what it read before; the file keeps its one
canonical form; and two files in that form that read the same everywhere are the same list. -/
def Obligations.RegisterFileReadsBack : Prop :=
  (∀ (b : Blk) (a : Nat) (v : Word),
    (b.setReg a v).reg a = v ∧ (∀ c, c ≠ a → (b.setReg a v).reg c = b.reg c) ∧
    (b.regsCanonical → (b.setReg a v).regsCanonical)) ∧
  (∀ (b c : Blk), b.regsCanonical → c.regsCanonical → (∀ a, b.reg a = c.reg a) → b.regs = c.regs)

/-- While the ring runs, `dt` ticks advance the timestamp counter by `dt`; EVT_RAW of every page reads 0 again; every
other register, and every other part of the engine, is as it was. With no command waiting, one tick passes and nothing
else happens: the model's own choice (log 1). -/
def Obligations.TimePasses : Prop :=
  (∀ (b : Blk) (dt : Nat), b.time.ringRuns = true → 0 < dt →
     b.elapse dt = { b with now := b.now + dt, wire := [], regs := (b.elapse dt).regs } ∧
     (∀ a, offOf a ≠ 0x010 → (b.elapse dt).reg a = b.reg a) ∧
     (∀ page, page < 256 → (b.elapse dt).reg (Reg.HDR_EVT_RAW page) = resetOf (Reg.HDR_EVT_RAW page))) ∧
  (∀ (b : Blk), step { pending := [], blk := b } = .next (State.after { pending := [], blk := b } (b.elapse 1)))

/-! ### Events, faults and EVT_N -/

/-- An event sets its bit in EVT_RAW and in EVT_LATCH and clears no other bit of them; the rest of the register file
but EVT.LOST, and everything but the notices, is as before. EVT_N is low exactly while some page has a bit set in both
EVT_LATCH and EVT_ENABLE and has CONTROL.evt_pin set. -/
def Obligations.EventsShowInRegistersAndOnEvtN : Prop :=
  (∀ (b : Blk) (page bit code : Nat), bit < 32 →
     let c := b.event page bit code
     c = { b with regs := c.regs, evt := c.evt } ∧
     c.reg (Reg.HDR_EVT_RAW page) = BitVec.ofNat 32 (putBit (b.regN (Reg.HDR_EVT_RAW page)) bit true) ∧
     c.reg (Reg.HDR_EVT_LATCH page) = BitVec.ofNat 32 (putBit (b.regN (Reg.HDR_EVT_LATCH page)) bit true) ∧
     bitN (c.regN (Reg.HDR_EVT_RAW page)) bit = true ∧ bitN (c.regN (Reg.HDR_EVT_LATCH page)) bit = true ∧
     (∀ a, a ≠ Reg.HDR_EVT_RAW page → a ≠ Reg.HDR_EVT_LATCH page → a ≠ Reg.EVT_LOST → c.reg a = b.reg a)) ∧
  (∀ (b : Blk), (b.dom 7).clamped = true → b.settle.pins.evtLow = b.pins.evtLow ∧ b.settle.pins.gp = b.pins.gp) ∧
  (∀ (b : Blk), (b.dom 7).clamped = false → (b.settle.pins.evtLow = true ↔
     ∃ page, (b.reg (Reg.HDR_EVT_LATCH page) &&& b.reg (Reg.HDR_EVT_ENABLE page)) ≠ 0 ∧
       bitN (b.regN (Reg.HDR_CONTROL page)) 0 = true))

/-- A fault stands in its page's FAULT register with the count, saturating at 255, and in front of the fault log, which keeps
64 entries; SYS.FLOG_COUNT rises. -/
def Obligations.FaultsLatchAndAreLogged : Prop :=
  ∀ (b : Blk) (page code : Nat), code < 65536 → page < 256 →
    let c := b.latch page code
    let n := min (b.regF (Reg.HDR_FAULT page) 23 16 + 1) 255
    c = { b with regs := c.regs, sys := { b.sys with flog := c.sys.flog } } ∧
    c.regN (Reg.HDR_FAULT page) = code + n * 65536 ∧
    c.sys.flog.head? = some { code := code, page := page, count := n, time := b.now, start := b.regN Reg.SYS_STARTS } ∧
    c.sys.flog = ((c.sys.flog.take 1) ++ b.sys.flog).take 64 ∧
    c.regN Reg.SYS_FLOG_COUNT = min (b.regN Reg.SYS_FLOG_COUNT + 1) (2 ^ 32 - 1) ∧
    (∀ a, a ≠ Reg.HDR_FAULT page → a ≠ Reg.SYS_FLOG_COUNT → c.reg a = b.reg a)

/-- A newly latched enabled event of a page whose CONTROL.evt_packet is 1 makes a notice that carries its page, bit,
code and time and the next event number: held for EVENT_READ when EVT.ROUTE is 1 and fewer than 64 are held, queued for
the link when EVT.ROUTE is 0 and the link is up, otherwise counted in EVT.LOST. -/
def Obligations.EnabledEventsMakeNotices : Prop :=
  ∀ (b : Blk) (page bit code : Nat), bit < 32 →
    bitN (b.regN (Reg.HDR_EVT_LATCH page)) bit = false → bitN (b.regN (Reg.HDR_EVT_ENABLE page)) bit = true →
    bitN (b.regN (Reg.HDR_CONTROL page)) 1 = true → page < 256 →
    let c := b.event page bit code
    let n : Notice := { seq := b.evt.nextSeq, code := code, page := page, bit := bit, time := b.now }
    c.evt.nextSeq = (b.evt.nextSeq + 1) % 65536 ∧
    (bitN (b.regN Reg.EVT_ROUTE) 0 = true → b.evt.held.length < 64 →
      c.evt.held = b.evt.held ++ [n] ∧ c.evt.toLink = b.evt.toLink ∧ c.reg Reg.EVT_LOST = b.reg Reg.EVT_LOST) ∧
    (bitN (b.regN Reg.EVT_ROUTE) 0 = false → b.linkUp = true →
      c.evt.held = b.evt.held ∧ c.evt.toLink = b.evt.toLink ++ [n] ∧ c.reg Reg.EVT_LOST = b.reg Reg.EVT_LOST) ∧
    ((bitN (b.regN Reg.EVT_ROUTE) 0 = true ∧ 64 ≤ b.evt.held.length ∨ bitN (b.regN Reg.EVT_ROUTE) 0 = false ∧ b.linkUp = false) →
      c.evt.held = b.evt.held ∧ c.evt.toLink = b.evt.toLink ∧
      c.regF Reg.EVT_LOST 15 0 = min (b.regF Reg.EVT_LOST 15 0 + 1) 65535)

/-! ### Register accesses (12) -/

/-- A write is refused with the first cause of R441 that holds, in the table's order; its status is that fault, which
latches, and nothing else changes. -/
def Obligations.WritesAreCheckedInOrder : Prop :=
  ∀ (dt : Nat) (who : Who) (a : Nat) (v : Word) (s : State), let b := s.blk.elapse dt
    b.inRun → (∀ c, c ∈ [0xB001, 0xB002, 0xB003, 0xB012] → b.writeCheck who a = c →
      exec (.regWriteOther dt who a v) s = .next (s.after (b.refuse c))) ∧
    (a % 4 ≠ 0 → b.writeCheck who a = 0xB001) ∧
    (a % 4 = 0 → b.pageListed (pageOf a) = false → b.writeCheck who a = 0xB002) ∧
    (a % 4 = 0 → b.pageListed (pageOf a) = true → mayWrite (b.role who) a = false → b.writeCheck who a = 0xB003) ∧
    (a % 4 = 0 → b.pageListed (pageOf a) = true → mayWrite (b.role who) a = true →
      (configResource a).any (fun r => b.owner r != b.role who) = true → b.writeCheck who a = 0xB012)

/-- A write to a register with no behaviour of its own: an RW register takes the value at once, also while a bundle is
open; a write to an RO or RSV register or an unnamed offset is ignored. Status 0, and nothing else changes. A direct write of a
value that its register's fields do not allow is refused with 0xB025 and changes nothing. -/
def Obligations.DirectWritesTakeEffectOrAreIgnored : Prop :=
  ∀ (dt : Nat) (i : Fin 4) (a : Nat) (v : Word) (s : State), let b := s.blk.elapse dt
    b.inRun → b.writeCheck (some i) a = 0 → b.domReady (domOf a) = true → 0x40 ≤ offOf a →
    (accessOf a = .rw → pageOf a ≠ 0x43 → ¬ (0x0B ≤ pageOf a ∧ pageOf a ≤ 0x0F) →
      a ∉ [Reg.ADM_HIST_SEL, Reg.TLYC_PARAM_SEL, Reg.TLYA_LOG_SEL, Reg.LNK_CTL, Reg.TMB_ALARM_HI, Reg.TMB_ALARM_CTL,
        Reg.TMB_CTL] → valueOk a v.toNat = true →
      exec (.regWriteOther dt (some i) a v) s = .next (s.after (((b.reached a).setReg a v).answer 0 0))) ∧
    (accessOf a = .ro ∨ accessOf a = .rsv →
      exec (.regWriteOther dt (some i) a v) s = .next (s.after ((b.reached a).answer 0 0))) ∧
    ((accessOf a = .rw ∨ accessOf a = .w1c ∨ accessOf a = .wo) → valueOk a v.toNat = false →
      exec (.regWriteOther dt (some i) a v) s = .next (s.after ((b.reached a).refuse 0xB025)))

/-- While its session has a bundle open, a write to an RWB register is staged in it, a later one to the same register in
place of the earlier; no register changes, and a read still returns the value in force. -/
def Obligations.OpenBundlesStageWrites : Prop :=
  ∀ (dt : Nat) (i : Fin 4) (a : Nat) (v : Word) (s : State) (u : Bundle), let b := s.blk.elapse dt
    b.inRun → b.writeCheck (some i) a = 0 → accessOf a = .rwb → b.openBundle i.val = some u →
    valueOk a v.toNat = true → (u.writes.length < 256 ∨ ∃ w ∈ u.writes, w.1 = a) →
    exec (.rwbWrite dt (some i) a v) s = .next (s.after
      ({ b with bnd := { b.bnd with opened := upd b.bnd.opened i.val (fun _ =>
          some { u with writes := placeWrite a v u.writes }) } }.answer 0 0))

/-- BND.CMD opens, closes and aborts the bundle of the writer's session. An open gives the slot an empty bundle; a close
puts it behind the waiting ones with its commit point, and the domains it writes wake; an abort ends it with 0xB020.
An open beside an open bundle is refused with 0xB022, one without room with 0xB024, a close or abort with none open with 0xB023. -/
def Obligations.BundlesOpenCloseAndAbort : Prop :=
  ∀ (dt : Nat) (i : Fin 4) (point : Nat) (s : State) (u : Bundle), let b := s.blk.elapse dt
    let r := b.reached Reg.BND_CMD
    b.inRun → b.domReady 7 = true → (b.role (some i) = 1 ∨ b.role (some i) = 2) → point < 3 →
    (b.openBundle i.val = none → b.bundleRoom i.val = true →
      exec (.bndOpen dt (some i)) s = .next (s.after ({ r with bnd := { b.bnd with
        opened := upd b.bnd.opened i.val (fun _ =>
          some { id := b.bnd.nextId, slot := i.val, writes := [], role := b.role (some i) }),
        nextId := b.bnd.nextId + 1 } }.answer 0 0))) ∧
    (b.openBundle i.val = some u →
      exec (.bndClose dt (some i) point) s = .next (s.after ((({ r with bnd := { b.bnd with
        opened := upd b.bnd.opened i.val (fun _ => none),
        waiting := b.bnd.waiting ++ [{ u with point := point, closedAt := b.now }] } } : Blk).wakeFor u.writes).answer 0 0)) ∧
      exec (.bndAbort dt (some i)) s = .next (s.after ((r.abortBundle u 0xB020 0 0).answer 0 0))) ∧
    -- and the three refusals
    (b.openBundle i.val = some u → exec (.bndOpen dt (some i)) s = .next (s.after (r.refuse 0xB022))) ∧
    (b.openBundle i.val = none → b.bundleRoom i.val = false →
      exec (.bndOpen dt (some i)) s = .next (s.after (r.refuse 0xB024))) ∧
    (b.openBundle i.val = none → exec (.bndClose dt (some i) point) s = .next (s.after (r.refuse 0xB023)) ∧
      exec (.bndAbort dt (some i)) s = .next (s.after (r.refuse 0xB023)))

/-- An RWB register whose commit only changes its own value and meets no condition. -/
def plainRwb (a : Nat) : Bool :=
  accessOf a = .rwb && 0x40 ≤ offOf a && pageOf a != 0x38 && pageOf a != 0x58 && pageOf a != 0x4A && pageOf a != 0x4B &&
  !(0x39 ≤ pageOf a && pageOf a ≤ 0x41) &&
  !([Reg.ADM_SHARES, Reg.ADM_POOL_ROUTE, Reg.ADM_CAL_CTL, Reg.TLY_ROUTE, Reg.LIT_THERM, Reg.FIR_BANK_REQ,
    Reg.LIT_STROBE_CTL].contains a)

/-- An immediate bundle of such registers whose domains are ready commits: every staged value stands at once, the tag
of the count stands in the BUNDLE_TAG of every page written with the slot's source code, BND.LAST of its slot shows
the tag and 'committed', the bundle no longer waits, and every other register keeps its value. Nothing else changes, but for
the settings that frames and strobes in progress take over at once (`FrameCfg.follow`: the model's reading, log 83). A bundle
that has waited for BND.WAIT_LIMIT aborts with 0xB026 and applies nothing. -/
def Obligations.BundlesCommitAllAtOnceOrExpire : Prop :=
  (∀ (dt : Nat) (s : State) (u : Bundle), let b := s.blk.elapse dt
     b.bnd.waiting.find? (fun w => w.id = u.id) = some u → u.point = 0 → b.readyFor u.writes = true → u.slot < 4 →
     b.bnd.callers.length = 4 → b.bnd.nextTag < 65536 →
     (u.writes.map (·.1)).Nodup → (∀ w ∈ u.writes, plainRwb w.1 = true) →
     Leaves (.bundleCommitImmediate dt u.id) s (fun c =>
       (∀ w ∈ u.writes, c.reg w.1 = w.2) ∧
       (∀ w ∈ u.writes, c.regN (Reg.HDR_BUNDLE_TAG (pageOf w.1)) = b.bnd.nextTag + (u.slot + 1) * 65536) ∧
       b.regsKept c (Reg.BND_COUNTS :: u.writes.map (·.1)) ∧
       c.bnd.waiting = b.bnd.waiting.filter (fun w => w.id != u.id) ∧
       (c.bnd.callers[u.slot]?).map (·.last) = some (b.bnd.nextTag + 65536) ∧
       c.bnd.nextTag = (if b.bnd.nextTag = 65535 then 1 else b.bnd.nextTag + 1) ∧
       c.sns = { b.sns with frames := b.sns.frames.map (fun f =>
         if f.isOver then f else { f with cfg := u.writes.foldl (fun k w => k.follow w.1 w.2.toNat) f.cfg }) } ∧
       c.lit = { b.lit with strobes := b.lit.strobes.map (fun k =>
         if u.writes.any (fun w => w.1 = Reg.LIT_ROW_LEAD) then { k with lead4 := c.lead4 } else k) } ∧
       c = { b with regs := c.regs, doms := c.doms, bnd := c.bnd, evt := c.evt, pins := c.pins, sns := c.sns, lit := c.lit })) ∧
  (∀ (dt : Nat) (s : State) (u : Bundle), let b := s.blk.elapse dt
     b.bnd.waiting.find? (fun w => w.id = u.id) = some u → b.waitEnd u ≤ b.now → u.slot < 4 → b.bnd.callers.length = 4 →
     b.bnd.nextTag < 65536 →
     Leaves (.bndWaitExpired dt u.id) s (fun c =>
       c.bnd.waiting = b.bnd.waiting.filter (fun w => w.id != u.id) ∧ b.regsKept c [Reg.BND_COUNTS] ∧
       (c.bnd.callers[u.slot]?).map (fun k => (k.last, k.lastAbort, k.abortAddr)) =
         some (b.bnd.nextTag + 2 * 65536, 0xB026 + b.bnd.nextTag * 65536, 0) ∧
       c.regF (Reg.HDR_FAULT 0x03) 15 0 = 0xB026 ∧
       c = { b with regs := c.regs, doms := c.doms, bnd := c.bnd, evt := c.evt, sys := c.sys, pins := c.pins }))

/-- Writing 1 to bits of EVT_LATCH clears them, and CONTROL.fault_clear clears FAULT and keeps the page's routing; nothing
else changes, but that a direct write to CONTROL of a settings page marks the frames and sweeps in progress
(`Blk.markChanged`). (The LIT page's clear also ends the thermistor's latches: log 31.) -/
def Obligations.LatchesAndFaultsClear : Prop :=
  ∀ (dt : Nat) (i : Fin 4) (page : Nat) (bits : Word) (s : State), let b := s.blk.elapse dt
    b.inRun → (pageInfo page).isSome = true → b.domReady (domOf (page * 0x400)) = true →
    (b.role (some i) = 2 ∨ b.role (some i) = 1 ∧ page ≠ 0x08) →
    (bits &&& ~~~(BitVec.ofNat 32 (evtMask page)) = 0 →
      exec (.evtLatchClear dt (some i) page bits) s = .next (s.after (((b.reached (Reg.HDR_EVT_LATCH page)).setReg
        (Reg.HDR_EVT_LATCH page) (b.reg (Reg.HDR_EVT_LATCH page) &&& ~~~bits)).answer 0 0))) ∧
    (page ≠ 0x48 →
      exec (.faultClear dt (some i) page) s = .next (s.after (((((b.reached (Reg.HDR_CONTROL page)).markChanged
        (Reg.HDR_CONTROL page)).setReg (Reg.HDR_CONTROL page) (BitVec.ofNat 32 (b.regF (Reg.HDR_CONTROL page) 1 0))).setReg
        (Reg.HDR_FAULT page) 0).answer 0 0)))

/-- A take of a free resource makes the writer's role its owner, a pool's records then counting from 0; a take of one's own
has no effect and no fault; a take of another's, or of a hardware feature's, is refused with 0xB010. A release of one's own frees
it; of a hardware feature's, or of a resource in use, it is refused with 0xB011; otherwise by a role that does not own the
resource with 0xB012. A release by force frees it for Service alone, and is refused with 0xB003 for any other role. -/
def Obligations.ClaimsChangeHands : Prop :=
  ∀ (dt : Nat) (i : Fin 4) (res : Nat) (s : State), let b := s.blk.elapse dt
    let r := b.reached (claimReg res)
    let own (n : Nat) : Blk := r.setF (claimReg res) 7 0 n
    let hw : Bool := b.owner res = 0x10 || b.owner res = 0x11
    b.inRun → b.domReady 7 = true → res < 33 → b.role (some i) ∈ [1, 2, 3] →
    -- a take
    (b.owner res = 0 → exec (.claimTake dt (some i) res) s = .next (s.after
      ((if 16 ≤ res ∧ res < 32 then (own (b.role (some i))).updPool (res - 16) (fun p => { p with nextSeq := 0 })
        else own (b.role (some i))).answer 0 0))) ∧
    (b.owner res = b.role (some i) → exec (.claimTake dt (some i) res) s = .next (s.after (r.answer 0 0))) ∧
    (b.owner res ≠ 0 → b.owner res ≠ b.role (some i) →
      exec (.claimTake dt (some i) res) s = .next (s.after (r.refuse 0xB010))) ∧
    -- a release
    (b.owner res = b.role (some i) → b.claimInUse res = false →
      exec (.claimRelease dt (some i) res) s = .next (s.after ((own 0).answer 0 0))) ∧
    (hw = true ∨ (b.owner res = b.role (some i) ∧ b.claimInUse res = true) →
      exec (.claimRelease dt (some i) res) s = .next (s.after (r.refuse 0xB011))) ∧
    (hw = false → b.owner res ≠ b.role (some i) →
      exec (.claimRelease dt (some i) res) s = .next (s.after (r.refuse 0xB012))) ∧
    -- a release by force
    (b.role (some i) = 2 → hw = false → b.owner res ≠ 0 → b.claimInUse res = false →
      exec (.claimForceRelease dt (some i) res) s = .next (s.after ((own 0).answer 0 0))) ∧
    (b.role (some i) ≠ 2 → hw = false →
      exec (.claimForceRelease dt (some i) res) s = .next (s.after (r.refuse 0xB003))) ∧
    (hw = true ∨ (b.role (some i) = 2 ∧ b.owner res ≠ 0 ∧ b.claimInUse res = true) →
      exec (.claimForceRelease dt (some i) res) s = .next (s.after (r.refuse 0xB011)))

/-- A timer fires at its time: TIMERS shows it, a periodic one has its next firing a period later, and the pin
configured for it goes high for 313 ticks; with no job that names it nothing else changes. A read of TIMERS restarts
the firings. A read of a _LO timestamp register answers the register's value and captures its _HI half; the next read
of that half answers the captured value and uses the capture up. -/
def Obligations.TimersAndTimestampsAreRead : Prop :=
  (∀ (dt : Nat) (i : Fin 4) (n : Nat) (s : State) (k : TimerSt) (t : Nat), let b := s.blk.elapse dt
     let put (x : TimerSt) : Blk := { b with gpc := { b.gpc with timers := b.gpc.timers.set n x } }
     let next := if bitN (b.regN (Reg.GPC_T_CTL n)) 1 then some (t + max 1 (b.regN (Reg.GPC_T_PERIOD n))) else none
     n < 8 → b.gpc.timers[n]? = some k →
     (b.inRun → k.next = some t → t ≤ b.now → b.jobsNaming (0x10 + n) = [] →
       exec (.timerFire dt n) s = .next (s.after ((put { next := next, pulse := b.timerPin n, firedAt := b.now }).setF
         Reg.GPC_TIMERS (8 + n) (8 + n) 1))) ∧
     (k.pulse = true → k.firedAt + 313 ≤ b.now →
       exec (.timerPulseEnd dt n) s = .next (s.after (put { k with pulse := false }))) ∧
     (b.inRun → b.role (some i) ≠ 0 → b.domReady 7 = true → lookupReg b.hiCapture Reg.GPC_TIMERS = none →
       exec (.timersRead dt (some i)) s = .next (s.after
         (((b.reached Reg.GPC_TIMERS).setF Reg.GPC_TIMERS 15 8 0).answer 0 (b.regN Reg.GPC_TIMERS))))) ∧
  (∀ (dt : Nat) (i : Fin 4) (lo hi : Nat) (s : State), let b := s.blk.elapse dt
     b.inRun → b.role (some i) ≠ 0 → hiOf lo = some hi → b.domReady (domOf lo) = true →
     (lookupReg b.hiCapture lo = none →
       exec (.timestampLoRead dt (some i) lo) s = .next (s.after
         (({ b.reached lo with hiCapture := insertReg b.hiCapture hi (BitVec.ofNat 32 ((b.reached lo).regValue (some i) hi)) }
           : Blk).answer 0 ((b.reached lo).regValue (some i) lo)))) ∧
     (∀ w, lookupReg b.hiCapture hi = some w →
       exec (.timestampLoRead dt (some i) hi) s = .next (s.after
         (({ b.reached hi with hiCapture := eraseReg b.hiCapture hi } : Blk).answer 0 w.toNat))))

/-! ### The Stolfin chain (13) -/

/-- What the front end does by itself: it repeats a frame that is not its own out of the other side and counts it;
counts a discarded frame by its cause and a rail error; drops the frame on a hop that gives no acknowledge and marks the hop broken;
lets a neighbour turn a hop, counting a collision, and counts a collision of its own turn. A frame leaves by a hop that points the engine's way at once; by one that points the
other way after a turn, which is counted; a broken hop is offered nothing. -/
def Obligations.FramesTravelTheChain : Prop :=
  (∀ (dt : Nat) (cho : Bool) (cause : Nat) (bytes : List Byte) (s : State), let b := s.blk.elapse dt
     let v := b.regN Reg.CHN_HOP
     let cut : Blk := { b with wire := b.wire ++ [.chainCut cho], chn := { b.chn with sending := b.chn.sending.filter (fun k => k.cho != cho) } }
     b.pwr.mode ≠ .reset →
     (b.hopBroken (!cho) = false → (128 ≤ getLe bytes 0 1 ∨ b.actsOn (getLe bytes 0 1) (getLe bytes 1 1 % 32) = false) →
       exec (.chainFrameRepeat dt cho bytes) s = .next (s.after ((b.chainOut (!cho) bytes).count Reg.CHN_REPEATED 1))) ∧
     exec (.frameDiscard dt cho cause) s = .next (s.after ((b.bump Reg.CHN_ERRORS 15 0 1).raise
       (if cause = 0 then 0x9013 else 0x9014))) ∧
     exec (.railError dt cho) s = .next (s.after ((b.bump Reg.CHN_ERRORS 31 16 1).raise 0x9011)) ∧
     (b.hopBroken cho = false → b.hopSends cho = true → b.hopWaits cho = true →
       exec (.hopBroken dt cho) s = .next (s.after ((cut.setN Reg.CHN_HOP (putBit v (2 + b2n cho) true)).raise 0x9012))) ∧
     (b.hopSends cho = true → b.turning cho = true →
       exec (.hopTurn dt cho false) s = .next (s.after b) ∧
       exec (.hopTurn dt cho true) s = .next (s.after ((b.bump Reg.CHN_TURNS 31 16 1).raise 0x9015))) ∧
     (b.hopSends cho = true → b.turning cho = false →
       exec (.hopTurn dt cho false) s = .next (s.after
         ((b.setN Reg.CHN_HOP (putBit v (b2n cho) (!bitN v (b2n cho)))).bump Reg.CHN_TURNS 15 0 1)) ∧
       exec (.hopTurn dt cho true) s = .next (s.after (((cut.bump Reg.CHN_TURNS 31 16 1).raise 0x9015).flipHop cho)))) ∧
  (∀ (b : Blk) (cho : Bool) (bytes : List Byte),
     let v := b.regN Reg.CHN_HOP
     let k : HopSend := { cho := cho, since := b.now, symbols := 9 * (bytes.length + 2) }
     let put (c : Blk) : Blk := { c with wire := c.wire ++ [.chain cho bytes], chn := { c.chn with sending := c.chn.sending.filter c.mayGo ++ [k] } }
     let turned (c : Blk) : Blk := { c with chn := { c.chn with turned := upd c.chn.turned (b2n cho) (fun _ => some c.now) } }
     (b.hopBroken cho = true → b.chainOut cho bytes = b) ∧
     (b.hopBroken cho = false → b.hopSends cho = true → b.chainOut cho bytes = put b) ∧
     (b.hopBroken cho = false → b.hopSends cho = false →
       b.chainOut cho bytes =
         put (turned ((b.setN Reg.CHN_HOP (putBit v (b2n cho) (!bitN v (b2n cho)))).bump Reg.CHN_TURNS 15 0 1))))

/-- The enumeration frame gives an engine without an address the next one, and goes on with next and count one higher;
one that has an address, and no order to clear it, passes it on unchanged, and so does one to which it comes in a session that does
not take it. PROBE answers address, mode, hop state,
power state and CHN.FRAMES; MODE sets spur mode, or ring mode, which clears the broken flags; a command that R494 does
not list is answered with 0x9024 and changes nothing else. -/
def Obligations.FrontEndCommandsAreCarriedOut : Prop :=
  (∀ (dt : Nat) (r : Req) (s : State), let b := s.blk.elapse dt
     let next := getLe r.payload 0 1
     let count := getLe r.payload 1 1
     let onward (p : List Byte) : List Byte := frameOf (reqBytes { r with payload := p } 0x01)
     b.pwr.mode ≠ .reset → r.link = false → r.cho = false → r.addr % 128 = 0x7E → b.spur = false → b.hopBroken true = false →
     r.payload.length = 4 → 1 ≤ next → bitN (getLe r.payload 2 1) 0 = false →
     (∀ g, r.hasMac = true → (b.count Reg.CHN_FRAMES 1).sessionCheck { r := r, cmd := 0x01, at_ := b.now } = (none, g) →
       exec (.enum dt r) s = .next (s.after ((g.chainOut true (onward r.payload)).count Reg.CHN_REPEATED 1))) ∧
     (r.hasMac = false → b.chainAddr = 0 → next ≤ 0x20 →
       exec (.enum dt r) s = .next (s.after ((((b.count Reg.CHN_FRAMES 1).setN Reg.CHN_ADDR next).chainOut true
         (onward (le 1 (next + 1) ++ le 1 (count + 1) ++ r.payload.drop 2))).count Reg.CHN_REPEATED 1))) ∧
     (r.hasMac = false → b.chainAddr = 0 → 0x20 < next →
       exec (.enum dt r) s = .next (s.after (((b.count Reg.CHN_FRAMES 1).chainOut true
         (onward (le 1 next ++ le 1 0xFF ++ r.payload.drop 2))).count Reg.CHN_REPEATED 1))) ∧
     (r.hasMac = false → b.chainAddr ≠ 0 →
       exec (.enum dt r) s = .next (s.after (((b.count Reg.CHN_FRAMES 1).chainOut true
         (onward r.payload)).count Reg.CHN_REPEATED 1)))) ∧
  (∀ (dt : Nat) (r : Req) (cmd : Nat) (c : Call) (s : State) (f : Blk), let b := s.blk.elapse dt
     (b.accepts r 0x02 c f → r.payload = [] →
       exec (.probe dt r) s = .next (s.after (f.reply c 0 (le 1 f.chainAddr ++ le 1 (b2n f.spur) ++ le 1 (f.regN Reg.CHN_HOP) ++
         le 1 0 ++ le 4 (f.regN Reg.CHN_FRAMES))))) ∧
     (b.accepts r 0x03 c f → r.payload.length = 4 → getLe r.payload 0 1 = 0 →
       exec (.mode dt r) s = .next (s.after (((f.setN Reg.CHN_MODE 0).setF Reg.CHN_HOP 3 2 0).reply c 0 []))) ∧
     (b.accepts r 0x03 c f → r.payload.length = 4 → getLe r.payload 0 1 = 1 →
       exec (.mode dt r) s = .next (s.after ((f.setN Reg.CHN_MODE 1).reply c 0 []))) ∧
     (listedCmd (cmd % 32) = false → b.accepts r (cmd % 32) c f →
       exec (.chnCmdUnknown dt r cmd) s = .next (s.after (f.reply c 0x9024 []))))

/-- The answer to an accepted request: address with bit 7, cmd and seq as in the request, the prefix of R488 with its
status, the body, and a MAC over the counter accepted where the request had one; with its CRC it leaves by the CHO
side in ring mode and by the side of arrival in spur mode, and it is kept for a repetition. A request that repeats the
one answered last is not executed again: the kept answer is sent once more. -/
def Obligations.AnswersAreKeptForRepeatedRequests : Prop :=
  (∀ (f : Blk) (c : Call) (status : Nat) (body : List Byte),
     c.r.link = false → c.r.addr % 128 < 0x7E → contested f.now (f.limitOf c) = false →
     (c.r.hasMac = true → c.ctr < 0xFFFF0000) → keptIdx c.r < f.ses.kept.length →
     let p := le 2 status ++ le 1 0 ++ zeros 1 ++ body
     let a := c.r.addr % 128 + 128
     let k := c.cmd % 32 + 32 * (c.r.slot % 4) + 128 * b2n c.r.hasMac
     let bytes := le 1 a ++ le 1 k ++ le 2 c.r.seq ++ p ++ (if c.r.hasMac then macOf c.ks c.ctr a k p else [])
     let kept : Kept := { asked := askedBytes c, answer := bytes, valid := true }
     f.reply c status body = ({ f with ses := { f.ses with kept := f.ses.kept.set (keptIdx c.r) kept } } : Blk).chainOut
       (if f.spur then c.r.cho else true) (bytes ++ le 2 (crc16 bytes))) ∧
  (∀ (dt : Nat) (r : Req) (s : State) (k : Kept), let b := s.blk.elapse dt
     b.inRun → r.link = false → r.addr % 128 = b.chainAddr → b.chainAddr < 0x7E → b.ses.kept[keptIdx r]? = some k →
     k.valid = true → k.asked = askedBytes { r := r, cmd := 0x05, at_ := b.now } →
     exec (.regWrite dt r) s = .next (s.after ((b.count Reg.CHN_FRAMES 1).sendAnswer r k.answer)))

/-- In a session a request whose MAC fails is answered with 0x9033 and does not advance the counter; one whose counter
value is not above the last accepted is answered with 0x9032; both are counted; neither is executed. The counter value
a request carries is the smallest above the last accepted one that has its low 16 bits, if that lies no more than 32
768 above; otherwise the request is a replay. -/
def Obligations.SessionsRefuseForgedAndReplayedRequests : Prop :=
  (∀ (dt : Nat) (r : Req) (s : State), let b := s.blk.elapse dt
     let f := b.count Reg.CHN_FRAMES 1
     let k := b.slot (r.slot % 4)
     let ctr := (counterOf k.counter r.seq).2
     let c : Call := { r := r, cmd := 0x05, at_ := b.now, ctr := ctr, ks := k.ks }
     let mac := macOf k.ks ctr (r.addr % 128) (cmdByte 0x05 r.slot true) r.payload
     b.inRun → r.link = false → r.addr % 128 = b.chainAddr → b.chainAddr < 0x7E → r.hasMac = true →
     (b.ses.kept.getD (keptIdx r) {}).valid = false → k.st = .opened → k.link = false →
     (mac ≠ le 4 r.mac →
       exec (.regWrite dt r) s = .next (s.after (((f.bump Reg.CHN_SEC_ERRORS 15 0 1).raise 0x9033).answerWith c
         (answerBytes c false 0x9033 0 [])))) ∧
     (mac = le 4 r.mac → (counterOf k.counter r.seq).1 = false →
       exec (.regWrite dt r) s = .next (s.after (((f.bump Reg.CHN_SEC_ERRORS 31 16 1).raise 0x9032).answerWith c
         (answerBytes c true 0x9032 0 []))))) ∧
  (∀ (last seq : Nat), seq < 65536 →
     ((counterOf last seq).1 = true →
       let v := (counterOf last seq).2
       last < v ∧ v ≤ last + 32768 ∧ v % 65536 = seq ∧ ∀ w, last < w → w % 65536 = seq → v ≤ w) ∧
     ((counterOf last seq).1 = false → ∀ w, last < w → w ≤ last + 32768 → w % 65536 ≠ seq))

/-- REG_READ of one register answers its value; REG_WRITE of one plain RW register sets it; either stops at a refused
access with its fault and no register done. A request that still waits for a domain when the limit of its port ends is
answered with 0x9021, or 0x2041 on the link, and the registers completed; the steps left are not run. -/
def Obligations.RegisterRequestsReachRegisters : Prop :=
  (∀ (dt : Nat) (r : Req) (c : Call) (s : State) (f : Blk), let b := s.blk.elapse dt
     let a := getLe r.payload 0 4 % 2 ^ 18
     let v := BitVec.ofNat 32 (getLe r.payload 8 4)
     getLe r.payload 4 1 = 1 →
     (b.accepts r 0x04 c f → r.payload.length = 8 → f.readCheck (callWho c) a = 0 → f.domReady (domOf a) = true →
       lookupReg f.hiCapture a = none → hiOf a = none → a ≠ Reg.GPC_TIMERS → a ≠ Reg.TLYC_PARAM_DATA →
       exec (.regRead dt r) s = .next (s.after ((f.reached a).reply c 0
         (le 1 1 ++ zeros 3 ++ le 4 ((f.reached a).regValue (callWho c) a))))) ∧
     (b.accepts r 0x04 c f → r.payload.length = 8 → f.readCheck (callWho c) a ≠ 0 →
       exec (.regRead dt r) s = .next (s.after ((f.raise (f.readCheck (callWho c) a)).reply c (f.readCheck (callWho c) a)
         (le 1 0 ++ zeros 3)))) ∧
     (b.accepts r 0x05 c f → r.payload.length = 12 → f.writeCheck (callWho c) a = 0 → f.domReady (domOf a) = true →
       a ∈ [Reg.SYS_FLOG_SEL, Reg.EVT_ROUTE, Reg.PWR_CTL, Reg.BND_WAIT_LIMIT, Reg.SES_IDLE_LIMIT, Reg.CHN_HOP_LIMIT,
         Reg.CHN_RESP_LIMIT] → valueOk a v.toNat = true →
       exec (.regWrite dt r) s = .next (s.after (((f.reached a).setReg a v).reply c 0 (le 1 1 ++ zeros 3)))) ∧
     (b.accepts r 0x05 c f → r.payload.length = 12 → f.writeCheck (callWho c) a ∈ [0xB001, 0xB002, 0xB003, 0xB012] →
       exec (.regWrite dt r) s = .next (s.after ((f.raise (f.writeCheck (callWho c) a)).reply c (f.writeCheck (callWho c) a)
         (le 1 0 ++ zeros 3))))) ∧
  (∀ (dt : Nat) (s : State) (d t k : Nat) (c : Call) (vals : List Byte), let b := s.blk.elapse dt
     b.chn.stalls = [{ dom := d, since := t, what := .req c k vals }] → b.limitOf c ≤ b.now →
     exec (.chnRespTimeout dt c.r.link) s = .next (s.after
       (({ b with chn := { b.chn with stalls := [] } } : Blk).replyLate c (le 1 k ++ zeros 3 ++ vals))))

/-! ### Stores read over the chain (06, 09, 10, 13) -/

/-- RESULT_READ, MEAS_READ, CORR_READ and EVENT_READ release what the request names and answer the oldest item left, whole,
or nothing; a release of result records takes exactly those up to and including the one named, and none when none bears that
number. A release from the measurement store lets the epoch records that waited for a slot follow (`Blk.flushed`, log 92). -/
def Obligations.StoresAreReadAndReleased : Prop :=
  ∀ (dt : Nat) (r : Req) (c : Call) (s : State) (f : Blk), let b := s.blk.elapse dt
    (b.accepts r 0x07 c f → r.payload.length = 4 → f.role (callWho c) ∈ [1, 2] →
      let p := getLe r.payload 0 1
      let g := (f.updPool p (fun q => { q with recs := releaseUpTo (getLe r.payload 2 2) q.recs })).freeSlots
      exec (.resultRead dt r) s = .next (s.after (g.reply c 0 (((g.pool p).recs.head?.map (·.bytes)).getD [])))) ∧
    (b.accepts r 0x08 c f → r.payload.length = 12 → f.role (callWho c) ∈ [1, 2, 3] →
      let l := releaseMeas (getLe r.payload 0 1 = 1) (getLe r.payload 4 8) f.tly.store
      let g : Blk := ({ f with tly := { f.tly with store := l } } : Blk).flushed
      (∀ m t, l = m :: t → exec (.measRead dt r) s = .next (s.after (g.reply c 0 (le 1 (b2n m.isSeal) ++ zeros 3 ++ m.bytes)))) ∧
      (l = [] → f.tly.taken = [] → exec (.measRead dt r) s = .next (s.after (g.reply c 0 (zeros 4)))) ∧
      (f.tly.taken = [] → g = { f with tly := { f.tly with store := l } }) ∧
      (∀ m t, g.tly.store = m :: t → exec (.measRead dt r) s = .next (s.after (g.reply c 0 (le 1 (b2n m.isSeal) ++ zeros 3 ++ m.bytes)))) ∧
      (g.tly.store = [] → exec (.measRead dt r) s = .next (s.after (g.reply c 0 (zeros 4))))) ∧
    (b.accepts r 0x09 c f → r.payload.length = 8 → f.role (callWho c) ∈ [1, 2] → getLe r.payload 0 4 = 0 →
      (∀ m t, f.store.corr = m :: t → exec (.corrRead dt r) s = .next (s.after (f.reply c 0
        (le 4 m.tag ++ le 4 m.bytes.length ++ (m.bytes.drop (getLe r.payload 4 4)).take 4096)))) ∧
      (f.store.corr = [] → exec (.corrRead dt r) s = .next (s.after (f.reply c 0 (zeros 8))))) ∧
    (b.accepts r 0x0A c f → r.payload.length = 4 → f.role (callWho c) ∈ [1, 2] →
      let l := if bitN (getLe r.payload 2 1) 0 then f.evt.held.filter (fun n => !seqCovers (getLe r.payload 0 2) n.seq)
        else f.evt.held
      let g : Blk := { f with evt := { f.evt with held := l } }
      exec (.eventRead dt r) s = .next (s.after (g.reply c 0 ((l.head?.map Notice.bytes).getD [])))) ∧
    (∀ (l k : List Rec) (m : Rec), (∀ x ∈ l, x.seq ≠ m.seq) →
      releaseUpTo m.seq (l ++ m :: k) = k ∧ releaseUpTo m.seq l = l)

/-! ### Sessions (13) -/

/-- SES_CHALLENGE and SES_PROVE complete for every request taken, on the chain and on the link. SES_CHALLENGE reserves the lowest free
slot for a role whose key is set, and answers the slot and a fresh nonce; otherwise its answer is 0x9025 for its length, 0x9034 in the
role's backoff, 0x9031 without a free slot, 0x9036 without a key. SES_PROVE with the tag of that slot's challenge, on the port of
the challenge, opens the session with its session key, its counter at 0 and the
role's failures cleared, and answers tag_e; any other tag frees the slot, counts a failure, and is answered with
0x9035; without a challenge the answer is 0x903A, or 0x9037 when the last one expired, also by this proof's own lateness. What a passed
and a failed proof leave: the slot open with the session key and its counter at 0, and the
role's count of failures 0; or the slot free, the failure counted, and from the fourth in a row the backoff. -/
def Obligations.SessionsOpenByProof : Prop :=
  (∀ (dt : Nat) (r : Req) (c : Call) (s : State) (f : Blk), let b := s.blk.elapse dt
     let role := getLe r.payload 0 1
     let nd := Config.freeNonce f.ses.nonces
     let x : SesSlot := { st := .challenged, role := role, link := r.link, nh := BitVec.ofNat 128 (getLe r.payload 4 16),
                          nd := nd, since := f.now }
     let ses (i : Nat) : SesSt := { f.ses with nonces := f.ses.nonces + 1, expired := f.ses.expired.filter (fun j => j != i) }
     b.takes r 0x10 c f → exec (.sesChallenge dt r) s = .next (s.after (
       if r.payload.length ≠ 20 then f.reply c 0x9025 []
       else if f.ses.backoff.getD role none ≠ none then (f.raise 0x9034).reply c 0x9034 []
       else match (List.range 4).find? (fun i => decide ((f.slot i).st = .free)) with
         | none => f.reply c 0x9031 []
         | some i =>
           if f.keyOf role = none then f.reply c 0x9036 []
           else (({ f with ses := ses i } : Blk).updSlot i (fun _ => x)).reply c 0 (le 1 i ++ zeros 3 ++ le 16 nd.toNat)))) ∧
  (∀ (dt : Nat) (r : Req) (c : Call) (s : State) (f : Blk), let b := s.blk.elapse dt
     let i := r.slot % 4
     let late : Bool := decide ((f.slot i).st = .challenged) && decide ((f.slot i).since + 312500000 < f.now)
     let freed := f.closeSlot i
     let g : Blk := if late then { freed with ses := { freed.ses with expired := i :: freed.ses.expired } } else f
     let y := g.slot i
     let m (label : Nat) : List Byte := le 1 label ++ le 16 y.nd.toNat ++ le 16 y.nh.toNat ++ le 1 (if r.link then 0 else g.chainAddr) ++ le 1 y.role
     b.takes r 0x11 c f → exec (.sesProve dt r) s = .next (s.after (
       if r.payload.length ≠ 16 then g.reply c 0x9025 []
       else if y.st ≠ .challenged ∨ y.link ≠ r.link then g.reply c (if g.ses.expired.contains i then 0x9037 else 0x903A) []
       else match g.keyOf y.role with
         | none => (g.closeSlot i).reply c 0x9036 []
         | some key =>
           if r.payload = cmac key (m 0x48) then (g.proofPassed i y.role (cmac key (m 0x53))).reply c 0 (cmac key (m 0x45))
           else ((g.proofFailed i y.role).raise 0x9035).reply c 0x9035 []))) ∧
  (∀ (b : Blk) (i role : Nat) (ks : List Byte), i < 4 → b.ses.slots.length = 4 → b.ses.fails.length = 4 →
     b.ses.backoff.length = 4 → role < 4 → b.openBundle i = none →
     let p := b.proofPassed i role ks
     let q := b.proofFailed i role
     let n := min (b.ses.fails.getD role 0 + 1) 255
     p.slot i = { b.slot i with st := .opened, counter := 0, ks := BitVec.ofNat 128 (unle ks), since := b.now } ∧
     p.ses.fails.getD role 0 = 0 ∧ p.regF Reg.SES_OPENS 15 0 = min (b.regF Reg.SES_OPENS 15 0 + 1) 65535 ∧
     q.slot i = { counter := (b.slot i).counter } ∧ q.ses.fails.getD role 0 = n ∧
     q.regF Reg.SES_OPENS 31 16 = min (b.regF Reg.SES_OPENS 31 16 + 1) 65535 ∧
     (4 ≤ n → q.ses.backoff.getD role none = some b.now) ∧ (n < 4 → q.ses.backoff = b.ses.backoff))

/-- A session closes on SES_CLOSE, when it has idled for SES.IDLE_LIMIT (0x9038), or by a Service write to SES.CLOSE; a
challenge without a proof for 1 s frees its slot; a backoff ends after 1 s. -/
def Obligations.SessionsEnd : Prop :=
  ∀ (dt : Nat) (r : Req) (c : Call) (s : State) (f : Blk) (i : Fin 4) (n role t : Nat), let b := s.blk.elapse dt
    (b.accepts r 0x12 c f → r.hasMac = true → r.payload = [] → (f.slot (r.slot % 4)).role ≠ 0 →
      exec (.sesClose dt r) s = .next (s.after ((f.reply c 0 []).closeSlot (r.slot % 4)))) ∧
    (b.inRun → n < 4 → (b.slot n).st = .opened → (b.slot n).since + 312500000 * b.regF Reg.SES_IDLE_LIMIT 11 0 ≤ b.now →
      exec (.sesIdleClosed dt n) s = .next (s.after ((b.closeSlot n).raise 0x9038))) ∧
    (b.inRun → n < 4 → (b.slot n).st = .challenged → (b.slot n).since + 312500000 ≤ b.now → b.openBundle n = none →
      exec (.sesChallengeExpired dt n) s = .next (s.after { b with ses := { b.ses with
        slots := upd b.ses.slots n (fun k => { counter := k.counter }), expired := n :: b.ses.expired } })) ∧
    (b.ses.backoff.getD role none = some t → t + 312500000 ≤ b.now →
      exec (.sesBackoffEnd dt role) s = .next (s.after { b with ses := { b.ses with
        backoff := upd b.ses.backoff role (fun _ => none) } })) ∧
    (b.inRun → b.domReady 7 = true → b.role (some i) = 2 → n < 4 → (b.slot n).st ≠ .free →
      exec (.sesForceClose dt (some i) (BitVec.ofNat 32 (2 ^ n))) s = .next (s.after
        (((b.reached Reg.SES_CLOSE).closeSlot n).answer 0 0)))

/-- SES_KEY_SET in a permitted case with a good check sets the key of the named role to the block decrypted under the session
key, and shows the event; a bad check is refused with 0x9043 and sets nothing, a case not permitted with 0x9044. -/
def Obligations.KeysAreSetFromWrappedBlocks : Prop :=
  ∀ (dt : Nat) (r : Req) (c : Call) (s : State) (f : Blk), let b := s.blk.elapse dt
    let role := f.role (callWho c)
    let target := getLe r.payload 0 1
    let key := (aesDec ((le 16 c.ks.toNat).map BitVec.toNat) ((slice r.payload 4 16).map BitVec.toNat)).map (BitVec.ofNat 8)
    b.accepts r 0x13 c f → r.payload.length = 24 → role ∈ [2, 3] →
    (f.mayRekey role target = true → (cmac key (zeros 16)).take 4 = slice r.payload 20 4 →
      exec (.sesKeySet dt r) s = .next (s.after (((f.setKey target (.value (BitVec.ofNat 128 (unle key)))).event 0x02 4 0x0000).reply
        c 0 []))) ∧
    (f.mayRekey role target = true → (cmac key (zeros 16)).take 4 ≠ slice r.payload 20 4 →
      exec (.sesKeySet dt r) s = .next (s.after ((f.raise 0x9043).reply c 0x9043 []))) ∧
    (f.mayRekey role target = false →
      exec (.sesKeySet dt r) s = .next (s.after ((f.raise 0x9044).reply c 0x9044 [])))

/-! ### Jobs and admission (02) -/

/-- An Operator's job that passes the thirteen tests is live from its acceptance under the next admission sequence
number, stands in front of the history as accepted, wakes the domains it needs, and is answered with the ADMIT
payload. One that fails a test is numbered, counted, shown as an event and in the history, and answered; no job
becomes live. A session of another role, or none, is refused before admission with 0xB003. The failing test lies from 1
to 13: test 1 exactly for an offending descriptor, and only it gives an offset; test 2, with 0xB102, for a tag in use. -/
def Obligations.JobsAreAdmittedOrRefused : Prop :=
  (∀ (dt : Nat) (r : Req) (c : Call) (s : State) (f : Blk), let b := s.blk.elapse dt
     let seq := if f.regN Reg.ADM_SEQ = 0xFFFFFFFF then 1 else f.regN Reg.ADM_SEQ + 1
     let j : Job := { seq := seq, desc := r.payload, acceptedAt := f.now, armAt := f.now }
     let h (verdict state fault : Nat) : HistEntry :=
       { tag := j.tag, seq := seq, verdict := verdict, state := state, fault := fault, time := f.now % 2 ^ 32 }
     let g (x : HistEntry) : Blk := { f.setN Reg.ADM_SEQ seq with hist := (x :: f.hist).take 64 }
     b.accepts r 0x06 c f → (∀ k ∈ f.jobs, k.seq ≠ seq) →
     (f.role (callWho c) = 1 → f.judge 1 j = none →
       let live : Blk := { g (h 1 0 0) with jobs := f.jobs ++ [j] }
       exec (.jobSubmit dt r) s = .next (s.after (((if j.kind = 1 then live.wakeDom 2 else live).jobAccepted j).reply c 0
         (f.admitPayload j none)))) ∧
     (∀ fault test off, f.role (callWho c) = 1 → f.judge 1 j = some (fault, test, off) →
       exec (.jobSubmit dt r) s = .next (s.after ((((g (h 2 4 fault)).bump Reg.ADM_COUNTS 15 0 1).event 0x04 0 0x0000).reply c 0
         (f.admitPayload j (some (fault, test, off)))))) ∧
     (f.role (callWho c) ≠ 1 → exec (.jobSubmit dt r) s = .next (s.after ((f.raise 0xB003).reply c 0xB003 [])))) ∧
  (∀ (b : Blk) (role : Nat) (j : Job) (fault test off : Nat), b.judge role j = some (fault, test, off) →
     1 ≤ test ∧ test ≤ 13 ∧ (test = 1 ↔ descOffence j ≠ none) ∧ (off ≠ 0xFFFF → test = 1) ∧
     (test ≠ 1 → (test = 2 ↔ b.jobs.any (fun k => k.tag = j.tag) = true)) ∧ (test = 2 → fault = 0xB102) ∧
     (test = 3 → 128 ≤ b.jobs.length ∧ fault = 0xB104) ∧ (test = 7 → 2 ≤ b.regF Reg.ADM_SHORTFALL 1 0 ∧ fault = 0xB118))

/-- A write to ADM.CANCEL ends an exposure job's right to triggers, and the job itself when no frame of it is owed; a
write to ADM.SOFT_TRIG takes a frame for a job that names the software trigger, 40 ticks on, and is refused with
0xB105 for any other live job. The end of a job's minimum interval makes its next trigger on time; an arm timeout ends
its right to triggers with 0xB131, and the job when no frame of it is owed. Once no exposure or sweep job is live, what waited for a
boundary of one commits. -/
def Obligations.JobsAreCancelledTriggeredAndTimed : Prop :=
  (∀ (dt : Nat) (i : Fin 4) (tag : Word) (j : Job) (s : State), let b := s.blk.elapse dt
     let cancelled : Blk := (b.reached Reg.ADM_CANCEL).updJob j.seq (fun k =>
       if k.stopped = .live then { k with stopped := .cancelled } else k)
     let r := b.reached Reg.ADM_SOFT_TRIG
     b.inRun → b.role (some i) = 1 → b.domReady 7 = true → b.jobByTag tag.toNat = some j → b.jobBySeq j.seq = some j →
     (j.kind = 1 → b.framesOwed j.seq ≠ 0 →
       exec (.cancel dt (some i) tag) s = .next (s.after (cancelled.jobsOver.answer 0 0))) ∧
     (j.kind = 1 → b.framesOwed j.seq = 0 →
       exec (.cancel dt (some i) tag) s = .next (s.after ((cancelled.endJob j.seq).jobsOver.answer 0 0))) ∧
     (j.takes = true → j.trigger = 2 → b.domReady 2 = true → b.sensorBusy j (b.now + 40) = false →
       (j.nextOk = 0 ∨ j.nextOk < b.now) →
       exec (.softTrig dt (some i) tag) s = .next (s.after ((r.takeFrame j (b.now + 40)).answer 0 0))) ∧
     (j.kind ≠ 1 ∨ j.trigger ≠ 2 → exec (.softTrig dt (some i) tag) s = .next (s.after (r.refuse 0xB105)))) ∧
  (∀ (dt : Nat) (j : Job) (s : State), let b := s.blk.elapse dt
     let armed : Blk := (b.updJob j.seq (fun k => { k with stopped := .armTimeout })).raise 0xB131
     b.jobBySeq j.seq = some j → (∀ k ∈ b.jobs, k.seq = j.seq → k = j) →
     (j.nextOk ≤ b.now →
       exec (.intervalEnd dt j.seq) s = .next (s.after (b.updJob j.seq (fun k => { k with nextOk := 0 })))) ∧
     (j.takes = true → j.armTimeout ≠ 0 → j.armAt + ceilDiv (j.armTimeout * 625) 2 ≤ b.now →
       (b.framesOwed j.seq ≠ 0 → exec (.armTimeout dt j.seq) s = .next (s.after armed.jobsOver)) ∧
       (b.framesOwed j.seq = 0 → exec (.armTimeout dt j.seq) s = .next (s.after (armed.endJob j.seq).jobsOver))))

/-! ### Pace and deliveries (02, 04, 06) -/

/-- Every 3 125 ticks the gauges are sampled into the lowest samples; every 31 250 ticks, with no shortfall, the measured pace is the
lowest of them over the fabric and the engines in service, the planning pace that less the guard, and the samples
start afresh; every 312 500 ticks a new accounting window starts with the last one's use shown, the ticks of tasks that began
in it and still run included; one that a command of the same tick has started already goes on. The shortfall stage
rises at once to the stage whose range holds the load and falls one stage at a time, past the hysteresis of each. -/
def Obligations.PaceIsSampledAndAccounted : Prop :=
  (∀ (dt fabric : Nat) (gauges : List Nat) (s : State), let b := s.blk.elapse dt
     let act := (List.range 18).filter b.engActive
     let m := act.foldl (fun m e => min m (lowOr (b.dec.engLow.getD e 0xFFFF) (b.gaugeOf e))) (lowOr b.dec.fabricLow b.dec.fabric)
     (b.now % 3125 = 0 → Leaves (.paceSample dt fabric gauges) s (fun c =>
       c.dec.fabric = min fabric 65535 ∧ c.dec.fabricLow = min b.dec.fabricLow (min fabric 65535) ∧
       (∀ e, e < 18 → c.gaugeOf e = min (gauges.getD e (b.gaugeOf e)) 65535) ∧
       (b.dec.engLow.length = 18 → ∀ e, e < 18 → c.dec.engLow.getD e 0 = min (b.dec.engLow.getD e 0) (c.gaugeOf e)) ∧
       c = { b with dec := c.dec, pins := c.pins })) ∧
     (b.now % 31250 = 0 → m < 65536 → nextStage (b.regF Reg.ADM_SHORTFALL 1 0) ((b.setN Reg.ADM_PACE_PLAN
         ((m - b.regF Reg.ADM_PACE_GUARD 15 0) + m * 65536)).engineLoad b.jobs m) = 0 → b.regF Reg.ADM_SHORTFALL 1 0 = 0 →
       exec (.paceUpdate dt) s = .next (s.after { b.setN Reg.ADM_PACE_PLAN ((m - b.regF Reg.ADM_PACE_GUARD 15 0) + m * 65536) with
         dec := { b.dec with fabricLow := 0xFFFF, engLow := List.replicate 18 0xFFFF } }.columnSlot)) ∧
     (b.now % 312500 = 0 → b.dec.win = b.now / 312500 → exec (.accountingWindow dt) s = .next (s.after
       ((b.setF Reg.ADM_CAL_STATE 0 0 1).memFigures.columnSlot))) ∧
     (b.now % 312500 = 0 → b.dec.win + 1 = b.now / 312500 → Leaves (.accountingWindow dt) s (fun c =>
       c.regValue none Reg.ADM_SPEC_USED = c.usedPct (c.lastUsed false) ∧
       c.regValue none Reg.ADM_CAL_USED = c.usedPct (c.lastUsed true) ∧ c.dec.winN = b.nEngines ∧
       c.dec.lastN = b.dec.winN ∧ c.dec.lastSpec = b.dec.specTicks ∧ c.dec.lastCal = b.dec.calTicks ∧
       c.dec.running = b.dec.running ∧ c.dec.specTicks = 0 ∧ c.dec.specBytes = 0 ∧ c.dec.calBytes = 0 ∧
       (b.cal.columnIn = none → c.dec.calTicks = 0 ∧ c.cal.slotsRun = 0) ∧ c.jobs = b.jobs ∧ c.store = b.store))) ∧
  (∀ (stage : Nat) (l : Frac), stage ≤ 3 →
     let low := [0, 83, 95, 98].getD stage 0
     (stage < stageOf l → nextStage stage l = stageOf l) ∧
     (stageOf l ≤ stage → 0 < stage → l.num * 100 ≤ low * l.den → nextStage stage l = stage - 1) ∧
     (stageOf l ≤ stage → (stage = 0 ∨ low * l.den < l.num * 100) → nextStage stage l = stage) ∧
     (stageOf l = 0 ↔ l.num * 100 ≤ 85 * l.den) ∧ (2 ≤ stageOf l ↔ 97 * l.den < l.num * 100) ∧
     (stageOf l = 3 ↔ 100 * l.den < l.num * 100))

/-- A group that fits its job's reservation is stored whole: its records stand behind those of its pool, for its job and unit
and in the order of commit, and nothing else changes; one that does not fit is lost: the store is unchanged, and the job's
and the engine's counts of lost groups say so. -/
def Obligations.GroupsAreStoredWholeOrLost : Prop :=
  ∀ (b : Blk) (j : Job) (unit : Nat) (recs : List (List Byte)), j.pool < b.store.pools.length →
    (b.groupFits j recs = true →
      let c := b.storeGroup j unit recs
      ((c.pool j.pool).recs.map (fun x => (x.jobSeq, x.unitSeq, x.order))).drop (b.pool j.pool).recs.length =
        (List.range recs.length).map (fun k => (j.seq, unit, b.store.nextOrder + k)) ∧
      (c.pool j.pool).recs.take (b.pool j.pool).recs.length = (b.pool j.pool).recs ∧
      c.store.nextOrder = b.store.nextOrder + recs.length ∧ c.store.bulk = b.store.bulk ∧ c.store.corr = b.store.corr ∧
      (∀ p, p ≠ j.pool → c.pool p = b.pool p) ∧
      c = { b with store := c.store, jobs := c.jobs }) ∧
    (b.groupFits j recs = false →
      let c := b.storeGroup j unit recs
      c.store = b.store ∧ c.jobs = b.jobs.map (fun k => if k.seq = j.seq then { k with lost := min (k.lost + 1) 65535 } else k) ∧
      c.regF Reg.ADM_POOL_LOST 15 0 = min (b.regF Reg.ADM_POOL_LOST 15 0 + 1) 65535 ∧
      c.regF Reg.ADM_POOL_LOST 19 16 = j.pool % 16)

/-- The oldest ready and unblocked group commits; at the deadline an uncommitted delivery ends with a forfeit record won by
the timer, contested when the commit could have come within 20 ns of it; at the commit cut its speculative tasks are squashed. -/
def Obligations.DeliveriesCommitOrAreForfeited : Prop :=
  ∀ (dt path u : Nat) (j : Job) (f : Frame) (w : Sweep) (c : Campaign) (s : State), let b := s.blk.elapse dt
    (b.committingFrame = some f → b.jobBySeq f.jobSeq = some j →
      exec (.groupCommit dt 0) s = .next (s.after (b.commitFrame j f))) ∧
    (path ≠ 0 → b.committingSweep = some w → b.jobBySeq w.jobSeq = some j →
      exec (.groupCommit dt path) s = .next (s.after (b.commitSweep j w))) ∧
    (b.jobBySeq f.jobSeq = some j → j.kind = 1 → b.frame f.jobSeq f.unit = some f → f.zero.isSome = true → f.isOver = false →
      f.deadline ≤ b.now →
      exec (.deliveryDeadline dt f.jobSeq f.unit) s = .next (s.after ((((b.forfeitFrame f.jobSeq f.unit
        (if f.fault = 0 then 0xB122 else f.fault) 2 (lostRace (b.frameReady f && !b.frameBlocked f) (b.frameSoon f) b.now f.deadline
          f.jobSeq f.unit)).closeAccount f.jobSeq f.unit).pruneFrames).freeSlots.jobsOver))) ∧
    (b.jobBySeq w.jobSeq = some j → j.kind = 2 → b.sweep w.jobSeq = some w → w.closed = true → w.isOver = false →
      w.deadline ≤ b.now →
      exec (.deliveryDeadline dt w.jobSeq w.unit) s = .next (s.after (b.forfeitSweep w.jobSeq
        (if w.fault = 0 then 0xB122 else w.fault) 2 (lostRace (w.ready j && !b.sweepBlocked w) (w.profiled j) b.now w.deadline
          w.jobSeq w.unit)))) ∧
    (b.jobBySeq j.seq = some j → j.kind ≠ 1 → j.kind ≠ 2 → b.campaign j.seq = some (u, c) → c.start.isSome = true →
      c.isOver = false → c.deadline ≤ b.now →
      exec (.deliveryDeadline dt j.seq 0) s = .next (s.after (b.forfeitCampaign j.seq
        (if c.fault = 0 then 0xB122 else c.fault) 2 (lostRace false c.fitAt.isSome b.now c.deadline j.seq 0)))) ∧
    (b.frame f.jobSeq f.unit = some f → f.zero.isSome = true → f.isOver = false → f.cut = false → f.deadline ≤ b.now + 3125 →
      exec (.commitCut dt f.jobSeq f.unit) s = .next (s.after
        ((b.dec.running.filter (fun t => !t.admitted && !t.shadow && t.jobSeq = f.jobSeq && t.unit = f.unit)).foldl
          (fun c t => (c.squashTask Reg.CRU_SQ_OTHER t).afterSquash t)
          (b.updFrame f.jobSeq f.unit (fun g => { g with cut := true })))))

/-! ### Triggers, frames and the locator (03) -/

/-- An edge on TRIGn becomes active two ticks later and holds from there; a return before the hold is over ends it, one
after it does not. A trigger accepted after its hold, with the delay set at its edge, does nothing when no job names it, is missed while LOC is gated,
while the sensor is occupied and inside the interval of every job that names it and takes frames, and otherwise takes one
frame for the first of those whose interval has ended. Of jobs that take no more frames a trigger is early (log 86). A frame taken for a job is numbered and timed, stands last among the frames with its exposure and
occupancy as R101 gives them, and advances the job; it runs under what the bundles of its boundary leave in force. -/
def Obligations.TriggersAreQualifiedAndTakeFrames : Prop :=
  (∀ (dt : Nat) (pin : Fin 2) (level : Bool) (rest : List (Nat × Nat)) (t0 d : Nat) (s : State), let b := s.blk.elapse dt
     let v := b.regN (trigCfg pin.val)
     let hold := fld v 15 8
     let met := (b.sns.since.getD pin.val []).filter (fun e => decide (e.1 < b.now + 2))
     let set (x : List (Nat × Nat)) : Blk := { b with sns := { b.sns with since := upd b.sns.since pin.val (fun _ => x) } }
     let levels := upd b.sns.level pin.val (fun _ => level)
     let input (x : List (Nat × Nat)) : Blk := { b with sns := { b.sns with level := levels, since := upd b.sns.since pin.val (fun _ => x) } }
     let named := b.jobsNaming pin.val
     let start := b.now + 40 + d
     let takers := named.filter Job.takes
     (b.sns.level.getD pin.val false ≠ level →
       (bitN v 1 = true → level ≠ bitN v 0 →
         exec (.triggerInput dt pin.val level) s = .next (s.after (input (met ++ [(b.now + 2 + hold, b.trigDelay pin.val)])))) ∧
       (bitN v 1 = false ∨ level = bitN v 0 →
         exec (.triggerInput dt pin.val level) s = .next (s.after (input met)))) ∧
     (b.sns.since.getD pin.val [] = (t0, d) :: rest → t0 ≤ b.now →
       let c := set rest
       (named = [] → exec (.triggerAccept dt pin.val) s = .next (s.after c)) ∧
       (named ≠ [] → b.domReady 2 = false →
         exec (.triggerAccept dt pin.val) s = .next (s.after ((c.raise 0x4022).bump Reg.SNS_MISSED 15 0 1))) ∧
       (∀ j l, takers.filter b.intervalEnded = j :: l → b.domReady 2 = true →
         (b.sensorBusy j start = true →
           exec (.triggerAccept dt pin.val) s = .next (s.after ((c.raise 0xB132).bump Reg.SNS_MISSED 15 0 1))) ∧
         (b.sensorBusy j start = false →
           exec (.triggerAccept dt pin.val) s = .next (s.after (c.takeFrame j start)))) ∧
       (∀ j l, takers ++ named = j :: l → takers.filter b.intervalEnded = [] → b.domReady 2 = true →
         exec (.triggerAccept dt pin.val) s = .next (s.after
           ((c.raise (if b.sensorBusy j start = true then 0xB132 else 0xB130)).bump Reg.SNS_MISSED 15 0 1))))) ∧
  (∀ (b : Blk) (j : Job) (start : Nat), j.readout ≠ 1 →
     let c := b.boundary 1
     let x := b.takeFrame j start
     let unit := (c.regN Reg.SNS_FRAMES + 1) % 2 ^ 32
     let f : Frame :=
       { jobSeq := j.seq, unit := unit, desc := j.desc, trigAt := c.now, audit := c.tly.counter, light := j.light, expStart := start,
         expEnd4 := 4 * start + 25 * j.exposure, busyUntil4 := 4 * start + 25 * j.occupancy20, cfg := c.frameCfg, archive := false }
     x.sns.frames = c.sns.frames ++ [f] ∧
     x.regN Reg.SNS_FRAMES = unit ∧ x.reg Reg.SNS_TRIG_TIME_LO = BitVec.ofNat 32 c.now ∧
     x.reg Reg.SNS_TRIG_TIME_HI = BitVec.ofNat 32 (c.now / 2 ^ 32) ∧
     x.sns.busy4 = f.busyUntil4 ∧ x.sns.storeEnd = ceilDiv f.expEnd4 4 + 62500 ∧
     x.jobs = c.jobs.map (fun k => if k.seq = j.seq then
       { k with taken := k.taken + 1, nextOk := c.now + k.interval, armAt := c.now } else k) ∧
     (j.light = 1 → x.lit.strobes.length = c.lit.strobes.length + 1) ∧ (j.light ≠ 1 → x.lit = c.lit) ∧
     (∀ a, a ∉ [Reg.SNS_FRAMES, Reg.SNS_TRIG_TIME_LO, Reg.SNS_TRIG_TIME_HI] → x.reg a = c.reg a) ∧
     x.store = c.store ∧ x.dec = c.dec ∧ x.mem = c.mem)

/-- An exposure starts: a stretched pulse gives way, SYNC_OUT's pulse begins in mode 2 and ends 1 µs later, and the light
follows. It ends: the frame has its zero, its deadline and the charges of its pixels, and the storage window of the newest frame runs
from there. Without a storage transfer in time the frame is forfeited with
0x4042. A storage window ends: the charges are gone, and tiles not transferred are missing. The sensor's temperature is shown, and its leaving or re-entering 0 °C to +60 °C raised. -/
def Obligations.ExposuresRunAndEnd : Prop :=
  ∀ (dt : Nat) (f : Frame) (temp : Word) (img : List (Nat × List Nat)) (s : State), let b := s.blk.elapse dt
    let put (e : Nat) (st : Bool) (img : List (Nat × List Nat)) : Blk :=
      (((b.litExposureEnd f).holdStorage f e).updFrame f.jobSeq f.unit (fun g =>
        { g with zero := some e, deadline := e + f.job.latency, storage := st, img := img })).setPair Reg.SNS_EOE_TIME_LO e
    let inRange (t : Int) : Bool := 0 ≤ t && t ≤ 60 * 256
    (b.firstFrame (fun g => !g.started && g.expStart ≤ b.now) = some f →
      let v := b.voidStretch.updFrame f.jobSeq f.unit (fun g => { g with started := true })
      exec (.exposureStart dt) s = .next (s.after (({ v with sns := { v.sns with
        syncPulse := fld f.cfg.syncCfg 1 0 = 2 } } : Blk).litExposureStart f.light))) ∧
    (b.firstFrame (fun g => g.exposing && ceilDiv g.expEnd4 4 ≤ b.now) = some f → f.fault ≠ 0x3061 → b.coppice = false →
      (f.job.full = false → exec (.exposureEnd { dt := dt, img := img }) s = .next (s.after (put b.now true img))) ∧
      (f.job.full = true → exec (.exposureEnd { dt := dt, img := img }) s = .next (s.after ((put b.now true img).fullFigures b.now)))) ∧
    (b.firstFrame (fun g => g.exposing && ceilDiv (g.expEnd4 + 2500) 4 ≤ b.now) = some f →
      exec (.snsTransfer dt) s = .next (s.after
        ((((put f.dueEnd false []).raise 0x4042).forfeitFrame f.jobSeq f.unit 0x4042 0 false).pruneFrames.jobsOver))) ∧
    ((∀ g ∈ b.sns.frames, g.started = true → 4 * g.expStart + 1250 ≤ 4 * b.now) →
      exec (.syncPulseEnd dt) s = .next (s.after { b with sns := { b.sns with syncPulse := false } })) ∧
    (b.firstFrame (fun g => g.zero.any (fun e => g.storage && decide (e + storageTicks g.job.readout ≤ b.now))) = some f →
      exec (.storageWindowEnd dt) s = .next (s.after (((b.updFrame f.jobSeq f.unit (fun g =>
        { (if g.job.full && g.archive then g.archiveRest b.sns.defects else g) with
          storage := false, bandQueue := [], converting := none, img := [] })).noteClipped f.jobSeq f.unit).pruneFrames))) ∧
    (let c := b.setF Reg.SNS_TEMP 15 0 temp.toNat
     exec (.snsTempRange dt temp) s = .next (s.after
       (if inRange (sgn 16 (b.regF Reg.SNS_TEMP 15 0)) = inRange (sgn 16 (temp.toNat % 65536)) then c else c.raise 0x4051)))

/-- A tile row of the frame being mapped is read: its 256 tile words stand behind the rows before; LOC.MAP_STATUS shows row,
end and seeds; the map is complete with row 191. A band's conversion ends: it counts as converted with the pixel rows it
lost, and the first queued band that is still needed begins its own. A tile row past its bound forfeits the frame with 0x4041. -/
def Obligations.TilesAndBandsAreRead : Prop :=
  ∀ (dt : Nat) (tiles : List TileIn) (noise : List (Nat × List Int)) (f : Frame) (n t e : Nat) (s : State),
    let b := s.blk.elapse dt
    let r := f.rows.length
    let words := ((List.range 256).map (fun k => f.readTile b.sns.defects (256 * r + k) (tiles.getD k noTile))).zipIdx.map
      (fun (x, c) => tileWord f.job f.cfg r c x)
    let seeds := ((f.rows ++ [words]).flatten.filter (fun w => bitN w 22)).length
    (b.firstFrame (fun g => g.zero.isSome && !g.mapDone && g.storage && (!g.isOver || g.fault = 0x3061)) = some f → r < 192 →
      Leaves (.tileRowComplete dt tiles) s (fun c =>
        (∃ h, c.frame f.jobSeq f.unit = some h ∧ h.rows = f.rows ++ [words] ∧ (h.mapDone = true ↔ r = 191)) ∧
        c.regN Reg.LOC_MAP_STATUS = r + (if r = 191 then 256 else 0) + min seeds 65535 * 65536 ∧
        c.jobs = b.jobs ∧ c.store = b.store ∧ c.ses = b.ses ∧ c.swp = b.swp ∧ c.doms = b.doms)) ∧
    (b.firstFrame (fun g => g.storage && g.zero.any (fun z => g.converting.any (fun k =>
        k.2 + 20 * (16 - lostRows z k.2) ≤ b.now))) = some f → b.frame f.jobSeq f.unit = some f →
      f.zero = some e → f.converting = some (n, t) →
      Leaves (.bandConverted dt noise) s (fun c =>
        (∃ h, c.frame f.jobSeq f.unit = some h ∧ h.converted = n :: f.converted ∧ h.lostRows = f.lostRows + lostRows e t ∧
          h.late = f.late + (if f.lateQ.contains n then 1 else 0) ∧ h.rows = f.rows ∧
          ((∀ k ∈ f.bandQueue, f.needsBand k = false) → h.converting = none) ∧
          (∀ u k l, f.bandQueue = u ++ k :: l → (∀ q ∈ u, f.needsBand q = false) → f.needsBand k = true →
            h.converting = some (k, b.now))) ∧
        c.regF Reg.ROI_LAST_END 16 0 = min (b.now - e) 0x1FFFF ∧
        c.regF Reg.ROI_PEAK_END 16 0 = max (b.regF Reg.ROI_PEAK_END 16 0) (min (b.now - e) 0x1FFFF) ∧
        c.jobs = b.jobs ∧ c.store = b.store ∧ c.dec = b.dec)) ∧
    (b.firstFrame (fun g => g.zero.any (fun z => !g.mapDone && !g.isOver && g.storage &&
        decide (z + 1000 + 240 * g.rows.length ≤ b.now))) = some f →
      exec (.locMapLate dt) s = .next (s.after
        (((((if f.rows = [] then b.setN Reg.LOC_MAP_STATUS 0x200 else b.setF Reg.LOC_MAP_STATUS 9 9 1) : Blk).raise 0x4041).forfeitFrame f.jobSeq f.unit 0x4041 0 false).pruneFrames.jobsOver)))

/-! ### Decode tasks (04, 17) -/

/-- Cruiser starts one speculative task of the first waiting candidate that may have one; the admitted task at the
head of the queue takes the free engine with the highest gauge, or the engine of the last started speculative task,
which is squashed; a shadow slot decodes a listed candidate again on another engine; an engine that fails its check
leaves service. The engine with the highest gauge is one of those offered that no other exceeds, the first of its
equals; the lowest likewise. -/
def Obligations.TasksFindTheirEngines : Prop :=
  (∀ (dt eng : Nat) (store : Bool) (l : List (Frame × Cluster)) (f : Frame) (c : Cluster) (j : Job) (e fam : Nat) (t u : Task)
     (rest : List Task) (o : Outcome) (x : Blk) (s : State), let b := s.blk.elapse dt
     (b.waitingCands = (f, c) :: l → b.jobBySeq f.jobSeq = some j →
       (b.primaryStart j f c = some (e, fam) → exec (.specTaskStart dt) s = .next (s.after (b.startSpec f c false fam e))) ∧
       (b.primaryStart j f c = none → f.mapDone = false → (b.taskOf f c.id false).isSome = true →
         b.secondaryStart j f c = some (e, fam) → exec (.specTaskStart dt) s = .next (s.after (b.startSpec f c true fam e)))) ∧
     (b.dec.queue = t :: rest →
       (b.fastest ((List.range 18).filter b.freeAdmitted) = some e →
         exec (.taskAssign dt) s = .next (s.after (({ b with dec := { b.dec with queue := rest } } : Blk).startTask t e))) ∧
       (b.fastest ((List.range 18).filter b.freeAdmitted) = none → b.lastSpec = some u →
         let q := b.squashTask Reg.CRU_SQ_PREEMPT u
         let put (x : Blk) : Blk := ({ x with dec := { x.dec with queue := rest } } : Blk).startTask t u.eng
         exec (.taskAssign dt) s = .next (s.after ((put (q.slotAgain u)).afterSquash u)) ∧
         (u.shadow = false → u.secondary = false →
           exec (.taskAssign dt) s = .next (s.after (put q))))) ∧
     (b.coppice = false → b.lastSlot .shadow 0 + 312500000 * b.regF Reg.DECC_SHADOW 15 0 ≤ b.now → b.ust.suspect = [] →
       b.cal.shadowIn = none → b.shadowable.head? = some (f, c, o) →
       (b.specEngines.filter (fun k => k != o.eng)).find? (fun k => b.cal.shadowNext ≤ k) = some e →
       b.slotMay .shadow 0 = (true, x) →
       let r := x.slotRun .shadow 0 0
       let y := ({ r with cal := { r.cal with shadowNext := (e + 1) % 18 } } : Blk).rollWindow
       let z : Blk := { y with cal := { y.cal with shadowIn := none },
                               dec := { y.dec with calBytes := y.dec.calBytes + (if f.job.full = true then 384 else 320) * c.region.length } }
       let ref : ShadowRef := { codes := r.regionCodes f.job f c, syms := enabledSyms f.job f.cfg, sizeClass := f.job.sizeClass,
                                eng := o.eng, status := o.status, reading := o.f }
       let k : Task := { jobSeq := f.jobSeq, unit := f.unit, cand := c.id, secondary := false, family := o.family, admitted := false,
                         shadow := true, ref := some ref }
       exec (.shadowDecode dt) s = .next (s.after (z.startTask k e))) ∧
     (eng < 18 → bitN (b.regN Reg.DECC_ACTIVE) eng = true →
       let r := b.rollWindow.raiseAt (0x20 + eng) 0x5011
       let q := (if store = true then r.bump (Reg.DEC_STORE_ECC eng) 31 16 1 else r).dropEngineWork eng
       exec (.decEngineFault dt eng store) s = .next (s.after
         ((q.setN Reg.DECC_ACTIVE (putBit (q.regN Reg.DECC_ACTIVE) eng false)).offer .engine eng false)))) ∧
  (∀ (b : Blk) (l : List Nat) (e : Nat), l.Pairwise (fun x y => x < y) →
     (b.fastest l = some e ↔ e ∈ l ∧ (∀ k ∈ l, b.gaugeOf k ≤ b.gaugeOf e) ∧ (∀ k ∈ l, k < e → b.gaugeOf k < b.gaugeOf e)) ∧
     (b.slowest l = some e ↔ e ∈ l ∧ (∀ k ∈ l, b.gaugeOf e ≤ b.gaugeOf k) ∧ (∀ k ∈ l, k < e → b.gaugeOf e < b.gaugeOf k)) ∧
     (b.fastest l = none ↔ l = []) ∧ (b.slowest l = none ↔ l = []))

/-- The task on an engine ends: its engine is free, its outcome with the status that what it read gives stands at its candidate,
the engine's counters move, and the candidate's hypotheses are resolved as far as they can be. The task of the other
hypothesis may end in the same tick: the primary passes first, and of two that decode the secondary still runs when they are resolved
and is squashed; what its reads of the external memory find has its effects first, so that a tile with an uncorrectable word reads as the
black level; corrected errors of the engine's local store are counted. The end
of a shadow task goes to the comparison of R634, that of a search in Coppice to its candidates. -/
def Obligations.DecodeTasksEnd : Prop :=
  ∀ (dt eng ecc : Nat) (rows : List (RowAt × RowSeen)) (g g2 : Finding) (t u : Task) (j : Job) (f0 : Frame) (c : Cluster) (s : State),
    let b := s.blk.elapse dt
    let y := b.storeErrors eng ecc
    let z := rows.foldl (fun x p => if y.rowExists p.1.ch p.1.rank p.1.bank p.1.row = true then x.readRow p.1 p.2 else x) y
    let f := (z.frame t.jobSeq t.unit).getD f0
    -- a task of the frame has ended with a finding
    let found (x : Blk) (k : Task) (h : Finding) : Blk :=
      let r := x.readRegion j f c k h
      let st := outcomeStatus k.family (enabledSyms j f.cfg) j.sizeClass r
      let cost := taskCost j (enabledSyms j f.cfg) k.family r
      let o : Outcome := { f := r, family := k.family, status := st, eng := k.eng, startedAt := k.startedAt, endedAt := x.now,
                           gauge := k.gauge, inSlot := !k.admitted }
      let p := if st = 0 then x.stopTask k else (x.stopTask k).count (Reg.DEC_FAILED k.eng) 1
      let q := if k.admitted = true then ((p.count (Reg.DEC_DONE k.eng) 1).spend f.jobSeq f.unit cost).noteRatio o cost else p
      q.updFrame f.jobSeq f.unit (fun h => h.updCluster k.cand (fun d =>
        if k.secondary = true then { d with sec := some o } else { d with prim := some o }))
    let after_ (x : Blk) : State := s.after ((x.resolve f.jobSeq f.unit t.cand).noteClipped f.jobSeq f.unit)
    b.taskOn eng = some t → y.jobBySeq t.jobSeq = some j → y.frame t.jobSeq t.unit = some f0 →
    (t.shadow = false → t.family ≠ 0 → f0.cluster t.cand = some c → f0.bandsIn j.full b.now c = true →
      exec (.decodeTaskEnd dt eng g { rows := rows, ecc := ecc }) s = .next (after_ (found z t g)) ∧
      (z.otherTask t = some u → u.cand = t.cand ∧
        (let ok (k : Task) (h : Finding) : Bool :=
           decide (outcomeStatus k.family (enabledSyms j f.cfg) j.sizeClass (z.readRegion j f c k h) = 0)
         let first := if t.secondary = true then found z u g2 else found z t g
         let second := if t.secondary = true then found first t g else found first u g2
         exec (.decodeTaskEnd dt eng g { twin := some g2, rows := rows, ecc := ecc }) s =
           .next (after_ (if ok t g = true ∧ ok u g2 = true then first else second)))) ∧
      (z.otherTask t = none →
        exec (.decodeTaskEnd dt eng g { twin := some g2, rows := rows, ecc := ecc }) s = .next (after_ (found z t g)))) ∧
    (t.shadow = true → exec (.decodeTaskEnd dt eng g { rows := rows, ecc := ecc }) s = .next (s.after (y.shadowEnd t g))) ∧
    (rows = [] → z = y ∧ f = f0) ∧
    (t.shadow = false → t.family = 0 →
      exec (.decodeTaskEnd dt eng g { rows := rows, ecc := ecc }) s = .next (s.after (y.coppiceFind j f0 t g))) ∧
    (ecc = 0 → y = b) ∧
    (eng < 18 → y.regF (Reg.DEC_STORE_ECC eng) 15 0 = min (b.regF (Reg.DEC_STORE_ECC eng) 15 0 + ecc) 65535)

/-! ### The photodiode chain and the resampler (07) -/

/-- A coefficient write to the bank that is not active, while no cross-fade runs, takes effect at once; any other is
refused with 0x6021 or 0x6022, counted, and changes no coefficient. A cross-fade ends with its target bank active, and
a pending request follows. A bias fault, a failing ADC and the end of a suppression do what R253, R290 and R283 say.
An edge on a freeze pin freezes and unfreezes exactly the channels whose preset names it: the accumulator of a frozen
channel stands still, and the unfreezing of a frozen channel disturbs it for PDC.SETTLE_UNFREEZE chain samples. -/
def Obligations.PhotodiodeSettingsChange : Prop :=
  (∀ (dt tap ch adc len : Nat) (i : Fin 4) (bank t t2 hard : Bool) (v : Word) (s : State), let b := s.blk.elapse dt
     let a := coefAddr bank tap
     let f := b.pd.fir
     let chans := b.pd.chans.map (fun c => { c with fade := none })
     let ended : Blk := ({ b with pd := { b.pd with fir := { active := t }, chans := chans } } : Blk).bump Reg.FIR_CHANGES 15 0 1
     (b.inRun → b.writeCheck (some i) a = 0 → b.domReady 3 = true → valueOk a v.toNat = true →
       let r := b.reached a
       (f.fade = none → bank ≠ f.active →
         exec (.coefWrite dt (some i) bank tap v) s = .next (s.after ((r.setReg a v).answer 0 0))) ∧
       (∀ code, (code = 0x6021 ∧ f.fade ≠ none ∨ code = 0x6022 ∧ f.fade = none ∧ bank = f.active) →
         b.openBundle i.val = none →
         exec (.coefWrite dt (some i) bank tap v) s = .next (s.after ((r.bump Reg.FIR_REFUSED 15 0 1).refuse code)))) ∧
     (f.fade = some (t, len) → (∀ k < 8, ((b.pdch k).fade.all (fun m => decide (len ≤ m)) || !b.chRuns k) = true) →
       (f.pending.all (fun q => q.1 == t) = true → exec (.fadeEnd dt) s = .next (s.after ended)) ∧
       (f.pending = some (t2, hard) → t2 ≠ t → exec (.fadeEnd dt) s = .next (s.after (ended.startBank t2 hard)))) ∧
     (ch < 8 → exec (.pdBiasFault dt ch) s = .next (s.after ((b.updPd ch (fun c => { c with biasOff := true })).raise 0x6051))) ∧
     (b.regN (Reg.PDC_SUPPRESS ch) = 0 →
       exec (.suppressEnd dt ch) s = .next (s.after (b.updPd ch (fun c => { c with suppressing := false })))) ∧
     (adc < 9 →
       (b.pd.chans.findIdx? (fun c => c.adc = adc && !c.lost) = some ch →
         exec (.adcFault dt adc) s = .next (s.after
           ((((((b.raise 0x6011).dropMeas ch).updPd ch (fun c => { c with adcBad := true, fade := none })).offer .adc ch
             false).loseAdcs).carrySweeps))) ∧
       (b.pd.chans.findIdx? (fun c => c.adc = adc && !c.lost) = none →
         (adc ≠ 8 → exec (.adcFault dt adc) s = .next (s.after (b.raise 0x6011))) ∧
         (adc = 8 → let r := b.raise 0x6011
           exec (.adcFault dt adc) s = .next (s.after (({ r with pd := { r.pd with spareBad := true } } : Blk).offer .adc 8 false)))))) ∧
  (∀ (dt : Nat) (pin : Fin 8) (level : Bool) (s : State), let b := s.blk.elapse dt
     b.pd.chans.length = 8 → b.gpc.level.length = 8 → b.gpc.level.getD pin.val false ≠ level →
     Leaves (.freezePinEdge dt pin.val level) s (fun c =>
       c.gpc.level.getD pin.val false = level ∧
       (∀ ch < 8, let p := (b.pdch ch).preset
         (p.mode = 3 ∧ p.pin = pin.val → (c.pdch ch).frozen = level) ∧
         (¬ (p.mode = 3 ∧ p.pin = pin.val) →
           c.pdch ch = b.pdch ch ∧ c.reg (Reg.PDC_SUPPRESS ch) = b.reg (Reg.PDC_SUPPRESS ch)) ∧
         (p.mode = 3 ∧ p.pin = pin.val ∧ level = false ∧ (b.pdch ch).frozen = true →
           (c.pdch ch).suppressing = true ∧
           c.regN (Reg.PDC_SUPPRESS ch) = max (b.regN (Reg.PDC_SUPPRESS ch)) (min (settleUnfreeze p) (2 ^ 24 - 1)))) ∧
       c.swp = b.swp ∧ c.jobs = b.jobs ∧ c.store = b.store))

/-- A channel that runs takes its next chain sample when its newest ADC sample has been taken: the sample carries its
number and times, its value fits 18 bits, it is suppressed while the channel's count lasts, and the count runs down by
one. It enters the channel's delay line; what leaves the line, in order, the channel's sweeps keep, and they are carried on. The 16 taps of every phase of the kernel sum to 131 072,
and phase 0 passes one input through; a profile sample keeps clear of the code that marks no value. -/
def Obligations.ChainSamplesAreTaken : Prop :=
  (∀ (dt ch : Nat) (codes : List Int) (s : State), let b := s.blk.elapse dt
     let c := b.pdch ch
     let t := sampleTime b.pd.epoch c.preset.d c.nextJ
     let m := (b.chainStep ch codes).1
     let x := (b.chainStep ch codes).2
     let at_ (l : List Smp) : List Smp := l.map (fun q => { q with arr := t })
     b.chRuns ch = true → b.pd.chans.length = 8 → t ≤ 1024 * (b.now : Int) →
     exec (.chainSample dt ch codes) s = .next (s.after (((x.noteClips ch t m.2.2.1 m.2.2.2).keepSmps ch m.1).carrySweeps)) ∧
     (∃ q : Smp, q.j = c.nextJ ∧ q.t = t ∧ q.tau = attributed c.preset c.phase t ∧
       -131072 ≤ q.y ∧ q.y ≤ 131071 ∧ (q.sup = true ↔ c.suppressing = true ∧ b.regN (Reg.PDC_SUPPRESS ch) ≠ 0) ∧
       at_ (m.1 ++ (x.pdch ch).line.reverse) = at_ (c.line.reverse ++ [q])) ∧
     at_ m.1 = m.1 ∧ (x.pdch ch).line.length = min (c.phase / 256) (c.line.length + 1) ∧
     x.regN (Reg.PDC_SUPPRESS ch) = b.regN (Reg.PDC_SUPPRESS ch) - 1 ∧ (x.pdch ch).nextJ = c.nextJ + 1 ∧
     (x.pdch ch).nextN = c.preset.d * (c.nextJ + 1) ∧
     (c.frozen = true → (x.pdch ch).base = c.base) ∧ (∀ k, k ≠ ch → x.pdch k = b.pdch k) ∧
     x = { b with regs := x.regs, pd := x.pd }) ∧
  ((∀ phase < 256, (kernel phase).length = 16 ∧ (kernel phase).sum = 131072) ∧
   (∀ (phase : Nat) (x : List Int), -32767 ≤ (resample phase x).1 ∧ (resample phase x).1 ≤ 32767) ∧
   (∀ (x : List Int), x.length = 16 → (resample 0 x).1 = clampI (-32767) 32767 ((x.getD 7 0 + 2) / 4)))

/-! ### Sweeps and positions (08) -/

/-- A sweep boundary, its bundles committed, sets every channel's phase delay, applies the job's preset to each of its channels
that keeps no other (`Blk.presetKept`; there it is held back until that window has closed) and to no other, and counts the sweep,
which stands with its boundary, its deadline and the POS_GAP and POS_LATE of that moment; the
other boundaries of that tick with lower sequence numbers are taken first, in their order. Its window opens, which freezes its
channels under freeze_mode 1, shuts a third window and marks a channel that runs under another open window's preset, and closes; the
line decoder then reads its marks. -/
def Obligations.SweepsPassTheirBoundaries : Prop :=
  ∀ (dt : Nat) (j : Job) (w : Sweep) (levels : List Int) (s : State), let b := s.blk.elapse dt
    b.jobBySeq j.seq = some j → b.pd.chans.length = 8 →
    (j.kind = 2 → j.stopped = .live → b.sweep j.seq = none → b.sweepDue j ≤ b.now →
     let same := b.jobs.filter (fun k => b.boundaryOpen k && b.sweepDue k = b.sweepDue j && k.seq < j.seq)
     exec (.sweepBoundary dt j.seq) s = .next (s.after
       ((same.mergeSort (fun k l => k.seq ≤ l.seq) ++ [j]).foldl Blk.takeSweep b)) ∧
     (same = [] → exec (.sweepBoundary dt j.seq) s = .next (s.after (b.takeSweep j)))) ∧
    (∀ z : Blk, let x := z.sweepBundles j.channels
     let c := z.takeSweep j
     let phased (ch : Nat) : PdCh := { x.pdch ch with phase := x.regF (Reg.PDC_PHASE ch) 13 0 }
     z.pd.chans.length = 8 →
      (∃ v : Sweep, c.swp.sweeps = x.swp.sweeps ++ [v] ∧ v.jobSeq = j.seq ∧ v.unit = (x.regN Reg.RSM_SWEEPS + 1) % 2 ^ 32 ∧
        v.boundary = x.now ∧ v.desc = j.desc ∧ v.deadline = j.windowEnd + j.latency ∧
        v.chans = j.channelList.map (fun ch =>
          { ch := ch, owed := if x.presetKept j ch then some (x.presetReg j.filterSet) else none }) ∧
        v.posGap = x.regF Reg.RSM_POS_GAP 11 0 ∧ v.posLate = x.regF Reg.RSM_POS_LATE 14 0 ∧ c.regN Reg.RSM_SWEEPS = v.unit ∧
        v.opened = false ∧ v.closed = false) ∧
      (∀ ch ∈ j.channelList,
        (x.presetKept j ch = false → (c.pdch ch).preset = x.presetReg j.filterSet ∧ (c.pdch ch).phase = (phased ch).phase) ∧
        (x.presetKept j ch = true → c.pdch ch = phased ch)) ∧
      (∀ ch < 8, ch ∉ j.channelList → c.pdch ch = phased ch)) ∧
    (b.sweep j.seq = some w → w.isOver = false → w.jobSeq = j.seq → (w.chans.map (·.ch)).Nodup → (∀ k ∈ w.chans, k.ch < 8) →
      (w.opened = false → j.windowStart ≤ b.now → Leaves (.windowStart dt j.seq) s (fun c =>
        (∃ v, c.sweep j.seq = some v ∧ v.opened = true ∧ v.closed = w.closed ∧ v.unit = w.unit ∧ v.chans.map (·.ch) = w.chans.map (·.ch) ∧
          (∀ k ∈ v.chans, (2 ≤ b.windowsOn k.ch → k.shut = true) ∧
            (b.windowsOn k.ch < 2 → b.windowsOpen k.ch ≠ 0 → (b.pdch k.ch).preset.n ≠ j.filterSet → k.conflict = true) ∧
            (b.windowsOpen k.ch = 0 → (∀ q ∈ w.chans, q.ch = k.ch → q.conflict = false ∧ q.shut = false) →
              k.conflict = false ∧ k.shut = false))) ∧
        (∀ k ∈ w.chans, (b.pdch k.ch).preset.mode = 1 → (c.pdch k.ch).frozen = true) ∧ c.jobs = b.jobs)) ∧
      (w.opened = true → w.closed = false → j.windowEnd ≤ b.now → Leaves (.windowEnd dt j.seq) s (fun c =>
        (∃ v, c.sweep j.seq = some v ∧ v.closed = true ∧ v.opened = true ∧ v.unit = w.unit ∧ v.deadline = w.deadline) ∧
        c.jobs = b.jobs)) ∧
      (j.decoder = 1 → w.decodedAt = none → w.closed = true → w.profiled j = true →
        let r := readMarks w j levels
        Leaves (.lineDecode dt j.seq levels) s (fun c =>
          (∃ v, c.sweep j.seq = some v ∧ v.decodedAt = some b.now ∧ v.unlisted = r.2.1 ∧ v.merged = r.2.2 ∧
            v.marks.map (fun m => (m.index, m.ch, m.status, m.bits, m.a, m.b)) =
              r.1.map (fun m => (m.index, m.ch, m.status, m.bits, m.a, m.b)) ∧
            r.1.map (·.index) = List.range r.1.length ∧ r.1.length ≤ j.maxMarks) ∧
          c.regF Reg.RSM_LINE 7 0 = min (r.1.length + r.2.1) 255 ∧
          c.regF Reg.RSM_LINE 15 8 = min (r.1.filter (fun m => m.status = 0)).length 255 ∧
          c.jobs = b.jobs ∧ c.store = b.store)))

/-- The samples of a POS packet, accepted on the link, are taken in order at their times: one not later than the last accepted
is discarded and counted, one no live sweep's span holds is dropped, one beyond the 4 096 held is discarded, counted and raised, any other is
accepted. A gap in the packet numbers is counted, and raised once for each sweep whose span meets the times it may have held.
A position whose samples came too late is invalid; an overspeed profile sample takes its place in the profile, marked. -/
def Obligations.PositionsAreAcceptedInOrder : Prop :=
  ∀ (dt ch seq n : Nat) (payload : List Byte) (w : Sweep) (k : SwCh) (m : Smp) (s : State), let b := s.blk.elapse dt
    let a := b.linkAccept
    let ofs := sgn 32 (a.regN Reg.RSM_TIME_OFS)
    let l := (List.range n).map (fun i => ((getLe payload (16 + 16 * i) 8 : Int) + ofs,
      sgn 32 (getLe payload (8 + 16 * i) 4), sgn 32 (getLe payload (12 + 16 * i) 4)))
    let newest := l.foldl (fun (x : Int) t => max x t.1) (l.headD (0, 0, 0)).1
    (b.linkUp = true → n = getLe payload 4 2 →
      (1 ≤ n → n ≤ 64 → payload.length = 8 + 16 * n →
        let oldest := l.foldl (fun (x : Int) t => min x t.1) (a.swp.pos.lastTime.getD newest)
        let g := if b.swp.pos.lastSeq.all (fun q => getLe payload 0 4 == (q + 1) % 2 ^ 32) = true then a
          else (a.bump Reg.RSM_POS_SEQ_GAP 31 0 1).onceEach 0x6066 (a.sweepsOver oldest newest)
        let x : Blk := { g with swp := { g.swp with pos := { g.swp.pos with lastSeq := some (getLe payload 0 4) } } }
        exec (.posPacket dt payload) s = .next (s.after
          ((l.foldl (fun c t => c.acceptPos t.1 t.2.1 t.2.2) ((x.setN Reg.RSM_POS_AGE (posAge b.now newest)).prunePos)).carrySweeps))) ∧
      (n = 0 ∨ 64 < n ∨ payload.length ≠ 8 + 16 * n →
        exec (.posPacket dt payload) s = .next (s.after (a.bump Reg.LNK_RX_DISCARD 15 0 1)))) ∧
    (∀ (c : Blk) (t x y : Int),
      (c.swp.pos.lastTime.any (fun u => decide (t ≤ u)) = true → c.acceptPos t x y = c.bump Reg.RSM_POS_DISCARD 15 0 1) ∧
      (c.swp.pos.lastTime.all (fun u => decide (u < t)) = true →
        (c.sweepsAt t = [] → c.acceptPos t x y = c) ∧
        (c.sweepsAt t ≠ [] → 4096 ≤ c.samplesNeeded.length →
          c.acceptPos t x y = (c.bump Reg.RSM_POS_DISCARD 31 16 1).onceEach 0x6065 (c.sweepsAt t)) ∧
        (c.sweepsAt t ≠ [] → c.samplesNeeded.length < 4096 →
          (c.acceptPos t x y).swp.pos.samples = c.swp.pos.samples ++ [{ time := t, x := x, y := y, arrival := c.now }] ∧
          (c.acceptPos t x y).swp.pos.lastTime = some t ∧ (c.acceptPos t x y).swp.sweeps = c.swp.sweeps))) ∧
    (b.sweep seq = some w → w.chans.find? (fun c => c.ch = ch) = some k →
      (k.smps.find? (fun x => x.j = m.j) = some m → m.pos = .undecided → lateLimit w.posLate m.tau ≤ b.now →
        exec (.posLate dt seq ch m.j) s = .next (s.after
          (((b.updSweep seq (fun v => v.updCh ch (fun c => { c with smps := c.smps.map (fun x =>
            if x.j = m.j then { x with pos := .invalid } else x) }))).notePos seq { dec := .invalid, late := true }).carrySweeps))) ∧
      (∀ v, k.late = some v →
        let x := b.updSweep seq (fun w => w.updCh ch (fun c => { c with late := none, words := c.words ++ [v] }))
        exec (.rsmOverspeed dt ch seq) s = .next (s.after
          (((((x.count Reg.RSM_OUT_COUNT 1).count Reg.RSM_OVERSPEED 1).capture w ch 1).once seq 0x6042).carrySweeps))))

/-! ### Tally (09) -/

/-- The candidate at the head of Tally's queue is measured and its record appended: to the chain, whose value becomes the
SHA-256 of the old one and the record, to the open block, which closes when it holds 256, and to the measurement store. A
block of 10 ms closes; the oldest closed block is signed and its seal stored behind its last record; neither happens after a loss of
VDD_TLY. A watchdog restart goes
on with a start record, or begins a new segment. -/
def Obligations.RecordsAreChainedAndSealed : Prop :=
  ∀ (dt : Nat) (m : TallyMeas) (c : TlyCand) (t : List TlyItem) (k : TlySeal) (l : List TlySeal) (s : State),
    let b := s.blk.elapse dt
    let x : Blk := { b with tly := { b.tly with taken := t } }
    let r : Measured := if c.sweep = true then
        ((x.sweep c.jobSeq).map (fun w => x.measureSweep w w.job c)).getD { status := 0x04 }
      else (x.measureStaring c m).1
    let bytes := b.recordBytes c r
    (b.tly.supplied = true → b.tly.taken = .cand c :: t → t.head?.all (fun y => match y with | .cand _ => true | .epoch _ _ => false) = true → b.tly.block.count ≤ 255 →
      Leaves (.tallyAppend dt m) s (fun y =>
        y.tly.taken = t ∧ y.tly.store = b.tly.store ++ [{ isSeal := false, num := c.seq, bytes := bytes, seg := b.tly.segment }] ∧
        y.tly.chain = some (sha256 (b.chainValue ++ bytes)) ∧
        (b.tly.block.count = 255 → y.tly.block = {} ∧ y.tly.toSign.length = b.tly.toSign.length + 1) ∧
        (0 < b.tly.block.count → b.tly.block.count < 255 →
          y.tly.block = { b.tly.block with count := b.tly.block.count + 1 } ∧ y.tly.toSign = b.tly.toSign) ∧
        (b.tly.block.count = 0 → y.tly.block = { count := 1, first := c.seq, since := b.now, hPrev := b.chainValue }) ∧
        y.tly.counter = b.tly.counter ∧ y.tly.sealSt = b.tly.sealSt ∧ y.tly.log = b.tly.log ∧ y.store = b.store)) ∧
    (b.tly.supplied = false → exec (.blockCloseAge dt) s = .next (s.after b) ∧ exec (.blockSigned dt) s = .next (s.after b)) ∧
    (b.tly.supplied = true → b.tly.block.count ≠ 0 → b.tly.block.since + 3125000 ≤ b.now →
      let k : TlySeal := { first := b.tly.block.first, last := b.tly.block.first + b.tly.block.count - 1, bytes := sealBody b 0x02,
                           seg := b.tly.segment }
      let tly : TlySt := { b.tly with toSign := b.tly.toSign ++ [k], block := {}, blockNo := b.tly.blockNo + 1 }
      exec (.blockCloseAge dt) s = .next (s.after { b with tly := tly })) ∧
    (b.tly.supplied = true → b.tly.toSign = k :: l → (b.tly.store.filter (fun i => i.isSeal)).length < 32 →
      let store := placeSeal k (k.bytes ++ edSign tallySeedBytes k.bytes) b.tly.store
      exec (.blockSigned dt) s = .next (s.after { b with tly := { b.tly with toSign := l, store := store, signed := b.tly.signed + 1 } })) ∧
    (b.tly.supplied = true →
      exec (.tallyWatchdog dt true) s = .next (s.after (((b.epoch 0x21 0xFFFFFFFF 2).raise 0x8021).dropMarks)) ∧
      exec (.tallyWatchdog dt false) s = .next (s.after (((b.raise 0x8023).newSegment).dropMarks)))

/-- The seal state goes from closed over unsealed and resealing to closed. An unseal is accepted from closed with the right
counter, an untouched case and a counter not at its end: the counter rises and the active block is staged; a
reseal from unsealed with a staged block that passes its checks, and its completion, once no candidate waits for its record, makes
that block the active one. Anything else is refused with its code, counted, and changes nothing else. PARAM_DATA is written only in the unsealed state. Changes of TAMP_N are logged, at once
or once the ring runs and no seal command does. -/
def Obligations.TheSealStateChangesAsCommanded : Prop :=
  ∀ (dt : Nat) (i : Fin 4) (isOpen : Bool) (v : Word) (s : State), let b := s.blk.elapse dt
    let r := b.reached Reg.TLY_SEAL_CMD
    let p := b.reached Reg.TLYC_PARAM_DATA
    let sel := b.selector (some i) 0
    let right : Prop := b.regF Reg.TLY_SEAL_ARG 23 0 = b.tly.counter
    let refused (code : Nat) : Blk := (r.sealRefused code).answer code 0
    (b.inRun → b.writeCheck (some i) Reg.TLY_SEAL_CMD = 0 → b.domReady 1 = true →
      (b.tly.sealSt = .closed → b.tly.unsealing = false → right → b.tly.tampOpen = false → b.tly.counter ≠ 0xFFFFFE →
        let x := r.closeBlock 0x03
        let tly : TlySt := { x.tly with counter := b.tly.counter + 1, unsealing := true, staged := some b.activeBlock }
        exec (.unseal dt (some i)) s = .next (s.after (((({ x with tly := tly } : Blk).setN Reg.TLY_SEAL_RESULT 1).setN
          Reg.TLY_SEAL_CMD 1).answer 0 0))) ∧
      (b.tly.sealSt ≠ .closed ∨ b.tly.unsealing = true ∨ ¬ right → exec (.unseal dt (some i)) s = .next (s.after (refused 0x8031))) ∧
      (b.tly.sealSt = .closed → b.tly.unsealing = false → right → b.tly.tampOpen = true →
        exec (.unseal dt (some i)) s = .next (s.after (refused 0x8032))) ∧
      (b.tly.sealSt = .closed → b.tly.unsealing = false → right → b.tly.tampOpen = false → b.tly.counter = 0xFFFFFE →
        exec (.unseal dt (some i)) s = .next (s.after (refused 0x8034))) ∧
      (b.tly.sealSt = .unsealed → right → b.tly.tampOpen = false → paramOk b.stagedBlock = true →
        exec (.reseal dt (some i)) s = .next (s.after (((({ r with tly := { b.tly with sealSt := .resealing } } : Blk).setN
          Reg.TLY_SEAL_RESULT 1).setN Reg.TLY_SEAL_CMD 2).answer 0 0))) ∧
      (b.tly.sealSt ≠ .unsealed ∨ ¬ right → exec (.reseal dt (some i)) s = .next (s.after (refused 0x8031))) ∧
      (b.tly.sealSt = .unsealed → right → b.tly.tampOpen = true →
        exec (.reseal dt (some i)) s = .next (s.after (refused 0x8032))) ∧
      (b.tly.sealSt = .unsealed → right → b.tly.tampOpen = false → paramOk b.stagedBlock = false →
        exec (.reseal dt (some i)) s = .next (s.after (refused 0x8033)))) ∧
    (b.tly.unsealing = true →
      let x : Blk := { b with tly := { b.tly with unsealing := false, sealSt := .unsealed } }
      exec (.unsealComplete dt) s = .next (s.after
        (((x.logged 0x22).setF Reg.TLY_SEAL_RESULT 0 0 0).event 0x50 3 0x0000).tamperOwed)) ∧
    (b.tly.sealSt = .resealing → b.candWaits = true → exec (.resealComplete dt) s = .next (s.after b)) ∧
    (b.tly.sealSt = .resealing → b.candWaits = false →
      let c := b.closeBlock 0x03
      let x : Blk := { c with tly := { c.tly with sealSt := .closed, active := some b.stagedBlock, counter := b.tly.counter + 1 } }
      exec (.resealComplete dt) s = .next (s.after
        ((((x.logged 0x23).setF Reg.TLY_SEAL_RESULT 0 0 0).event 0x50 3 0x0000).engTag .tallyParam).tamperOwed)) ∧
    (b.inRun → b.writeCheck (some i) Reg.TLYC_PARAM_DATA = 0 → b.domReady 1 = true →
      (b.tly.sealSt = .unsealed →
        let x : Blk := { p with tly := { b.tly with staged := some (setWord b.stagedBlock (fld sel 13 0) v.toNat) } }
        exec (.paramDataWrite dt (some i) v) s = .next (s.after ((x.setSelector (some i) 0 (nextParamSel sel)).answer 0 0))) ∧
      (b.tly.sealSt ≠ .unsealed → exec (.paramDataWrite dt (some i) v) s = .next (s.after (p.refuse 0x8035)))) ∧
    (b.inRun → b.readCheck (some i) Reg.TLYC_PARAM_DATA = 0 → b.domReady 1 = true → lookupReg b.hiCapture Reg.TLYC_PARAM_DATA = none →
      exec (.paramDataRead dt (some i)) s = .next (s.after ((p.setSelector (some i) 0 (nextParamSel sel)).answer 0
        (getLe (if bitN sel 16 then b.stagedBlock else b.activeBlock) (fld sel 13 0) 4)))) ∧
    (b.tly.supplied = true → isOpen ≠ b.tly.tampOpen →
      let x : Blk := { b with tly := { b.tly with tampOpen := isOpen } }
      (b.time.ringRuns = true → b.tly.unsealing = false → b.tly.sealSt ≠ .resealing → b.tly.tampOwed = [] →
        exec (.tamperChange dt isOpen) s = .next (s.after
        ((x.logged (if isOpen = true then 0x24 else 0x25)).raise (if isOpen = true then 0x8041 else 0x8042)))) ∧
      (b.time.ringRuns = false ∨ b.tly.unsealing = true ∨ b.tly.sealSt = .resealing → exec (.tamperChange dt isOpen) s = .next (s.after
        { b with tly := { b.tly with tampOpen := isOpen, tampOwed := b.tly.tampOwed ++ [isOpen] } })))

/-! ### Calibration, fits and campaigns (10) -/

/-- The illumination loop's slot moves a sector's trim towards its reference, within 0.8 to 1.25; a command arms the latches
of the sectors it names. The photodiode loop notes each enabled channel as due, connects the injector to one, and at the
end of the measurement, when the channel's own decimator outputs have been summed without and with charge, stages the trims they
give, or latches 0x6071, and connects the input that was set. -/
def Obligations.CalibrationLoopsAdjustTheirUnits : Prop :=
  ∀ (dt n ch o g : Nat) (i : Fin 4) (v : Word) (y0 y1 : List Int) (m : PdMeas) (x : Blk) (s : State), let b := s.blk.elapse dt
    let k := b.cal.lit.getD n {}
    let ref := b.regN (Reg.ADM_CAL_LIT_REF n)
    (n < 8 → bitN (b.regN Reg.ADM_CAL_CTL) 0 = true → ref ≠ 0 → k.since ≠ 0 → k.num ≠ 0 →
      k.lastSlot + 3125000 * b.regF Reg.ADM_CAL_LIT_CFG 23 16 ≤ b.now → b.slotMay .lit n = (true, x) →
      let y := x.slotRun .lit n 938
      let lit := upd y.cal.lit n (fun q => { q with since := 0, lastSlot := b.now })
      let z : Blk := { y with cal := { y.cal with lit := lit } }
      let next := nextTrim ⟨ref * k.den, 65536 * k.num⟩ (b.regF (Reg.ADM_CAL_LIT_TRIM n) 15 0) (b.regF Reg.ADM_CAL_LIT_CFG 15 12)
      (next = none → exec (.litTrimSlot dt n) s = .next (s.after z)) ∧
      (∀ t, next = some t → trimLimit t = false →
        exec (.litTrimSlot dt n) s = .next (s.after (z.engReplace 1 (.litTrim n t)))) ∧
      (∀ t, next = some t → trimLimit t = true →
        exec (.litTrimSlot dt n) s = .next (s.after ((z.engReplace 1 (.litTrim n t)).raise 0x7081)))) ∧
    (∀ (q : Q) (trim step t : Nat), 0 < q.d → 0 < trim → nextTrim q trim step = some t → 26214 ≤ t ∧ t ≤ 40960) ∧
    (b.inRun → b.writeCheck (some i) Reg.ADM_CAL_LIT_CMD = 0 → b.domReady 7 = true → valueOk Reg.ADM_CAL_LIT_CMD v.toNat = true →
      Leaves (.calLitCmd dt (some i) v) s (fun c => c.acc = { stalled := false, status := 0, value := 0 } ∧ c.regs = b.regs ∧
        (b.cal.lit.length = 8 → ∀ e < 8, (c.cal.lit.getD e {}).armed = ((b.cal.lit.getD e {}).armed || bitN v.toNat e)))) ∧
    (bitN (b.regN Reg.ADM_CAL_CTL) 1 = true → b.slotDue .pd 8 (312500 * b.regF Reg.ADM_CAL_PD_CFG 15 0) = true →
      Leaves (.pdCalPeriod dt) s (fun c =>
        c.pd.calDue.map (·.1) = b.enabledChs ∧ (∀ q ∈ c.pd.calDue, q.2 = 0 ∨ (q.1, q.2 - 1) ∈ b.pd.calDue) ∧
        c.pd.chans = b.pd.chans ∧ ((∀ q ∈ c.pd.calDue, q.2 ≠ 10) → c.regs = b.regs))) ∧
    (let gain := b.regF (Reg.PDC_CFG ch) 2 0
     let d := (b.pdch ch).preset
     let len := 2 ^ (10 + b.regF Reg.ADM_CAL_PD_CFG 18 16)
     let wait := nAna gain d.d + nCic d.d
     let ticks := b.sampleTicks ch (2 * (wait + len))
     bitN (b.regN Reg.ADM_CAL_CTL) 1 = true → b.chRuns ch = true → b.pd.calDue.any (fun q => q.1 == ch) = true →
      b.pd.calNow.any (fun q => q.ch == ch) = false →
      b.injectorMay ch ticks (b.sampleTicks ch (settleN gain d)) = true → b.slotMay .pd ch = (true, x) →
      let y := x.slotRun .pd ch 1875
      let now : PdMeas := { ch := ch, since := b.now, input := b.regF (Reg.PDC_CFG ch) 5 4, k := len, code := chargeCode gain, wait := wait }
      let z : Blk := { y with pd := { y.pd with calNow := y.pd.calNow ++ [now], calDue := y.pd.calDue.filter (fun q => q.1 != ch) } }
      exec (.pdCalStart dt ch) s = .next (s.after
        ((((((z.setF Reg.PDA_INJ_STATUS 7 0 (chargeCode gain)).setF Reg.PDA_INJ_STATUS 11 8 ch).bump Reg.PDA_INJ_STATUS 31 16 1).setF
          (Reg.PDC_CFG ch) 5 4 1).switchCh ch)))) ∧
    (let e := Blk.moreSamples ch (y0.length + y1.length) (y0 ++ y1) b
     (y0 = [] → y1 = [] → e = b) ∧
     (e.pd.calNow.find? (fun q => q.ch = ch) = some m → 2 * (m.wait + m.k) ≤ m.seen →
      let z := ({ e with pd := { e.pd with calNow := e.pd.calNow.filter (fun q => q.ch != ch) } } : Blk).touch [3]
      let sums := pdTrims m.k m.code (e.regF (Reg.PDC_CFG ch) 2 0) m.sum0 m.sum1
      let back (c : Blk) : Blk := if e.regF (Reg.PDC_CFG ch) 5 4 = 1 then (c.setF (Reg.PDC_CFG ch) 5 4 m.input).switchCh ch else c
      (sums = some (o, g) → exec (.pdCalEnd dt ch y0 y1) s = .next (s.after (back (z.engReplace 2 (.pdTrim ch o g))))) ∧
      (sums = none → exec (.pdCalEnd dt ch y0 y1) s = .next (s.after (back (z.raise 0x6071)))))) ∧
    (∀ (q : PdMeas) (y : Int), (q.take y).seen = q.seen + 1 ∧ (q.seen < q.wait → (q.take y).sum0 = q.sum0) ∧
      (q.wait ≤ q.seen → q.seen < q.wait + q.k → (q.take y).sum0 = q.sum0 + y) ∧
      (2 * q.wait + q.k ≤ q.seen → q.seen < 2 * (q.wait + q.k) → (q.take y).sum1 = q.sum1 + y))

/-- The slots of the pace gauges, of lane equalisation (a scan a write asked for first), of ZQ and of DQS tracking run when
they are due and their share is left. -/
def Obligations.SlotsRunWhenDue : Prop :=
  ∀ (dt l : Nat) (pts : List Word) (counts : List Nat) (x : Blk) (s : State), let b := s.blk.elapse dt
    let asked := (List.range 5).find? (fun k => (b.lane k).scanAsked)
    (bitN (b.regN Reg.ADM_CAL_CTL) 2 = true → b.slotDue .pace 0 312500000 = true → b.slotMay .pace 0 = (true, x) →
      exec (.paceSlot dt) s = .next (s.after ((List.range 18).foldl Blk.paceEngine (x.slotRun .pace 0 625)))) ∧
    (asked = some l → b.slotMay .eye l = (true, x) →
      let v := b.regN (Reg.LNK_EYE_CTL l)
      exec (.laneEqScan dt pts) s = .next (s.after
        (((x.slotRun .eye l 12500).updLane l (fun k => { k with scanAsked := false })).eyeResult l
          (if bitN v 8 then fld v 7 4 else b.regF (Reg.LNK_CTLE l) 3 0) pts))) ∧
    (asked = none → nextLane b.eqLanes b.lnk.eqLane = some l → b.linkUp = true → b.lastEq + 3125000000 ≤ b.now →
      b.slotMay .eq l = (true, x) →
      let y := x.slotRun .eq l 12500
      exec (.laneEqScan dt pts) s = .next (s.after (({ y with lnk := { y.lnk with eqLane := l + 1 } } : Blk).eqScan l pts))) ∧
    (b.domReady 5 = true → b.slotDue .zq 0 40000000 = true → b.slotMay .zq 0 = (true, x) →
      let y := x.slotRun .zq 0 313
      exec (.dramZqSlot dt) s = .next (s.after (({ y with mem := { y.mem with zqWaiting := true } } : Blk).stageSoon .zqLatch))) ∧
    (b.domReady 5 = true → b.slotDue .dqs 0 5000000 = true → b.slotMay .dqs 0 = (true, x) →
      let n := (b.memCh 0).ranks.length
      exec (.dramDqsSlot dt counts) s = .next (s.after ((List.range (2 * n)).foldl (fun c i =>
        c.dqsRank (i / n) (i % n) (counts.getD i 0)) (x.slotRun .dqs 0 313))))

/-- A campaign without its last mark has its zero at close_time; its fit starts, and ends with its packet in the correction
store behind the ones there. A fit unit that fails its check hands the fit over once, in time, to the free one; otherwise
the delivery is forfeited with 0xB151. -/
def Obligations.CampaignsAreFitted : Prop :=
  ∀ (dt u : Nat) (j : Job) (c : Campaign) (s : State), let b := s.blk.elapse dt
    let id := (identityOf b.activeBlock).take 16
    let f := b.raise 0xB151
    b.jobBySeq j.seq = some j → b.campaign j.seq = some (u, c) → c.isOver = false →
    (c.start = none → j.closeTime ≠ 0 → j.closeTime ≤ b.now →
      exec (.campaignClose dt j.seq) s = .next (s.after (b.updCampaign j.seq (fun k =>
        { k with start := some j.closeTime, deadline := j.closeTime + 625000, byClose := true, identity := id })))) ∧
    (c.start.isSome = true → c.fitAt = none →
      exec (.fitStart dt j.seq) s = .next (s.after (b.updCampaign j.seq (fun k => { k with fitAt := some b.now })))) ∧
    (c.fitAt.isSome = true → b.now ≤ c.deadline →
      Leaves (.fitEnd dt j.seq false) s (fun e =>
        e.store.corr = b.store.corr ++ [{ tag := j.tag, jobSeq := j.seq, bytes := corrPacket b j c }] ∧
        e.campaign j.seq = some (u, { c with isOver := true }) ∧ e.regs = b.regs ∧ e.hist = b.hist ∧
        e.jobs.length = b.jobs.length ∧ e.store.pools = b.store.pools) ∧
      ((b.fitUnit (1 - u) ≠ none ∨ c.deadline ≤ b.now + b.fitBound j + 3125) →
        exec (.fitEnd dt j.seq true) s = .next (s.after (f.forfeitCampaign j.seq 0xB151 0 false))) ∧
      (b.fitUnit (1 - u) = none → b.now + b.fitBound j + 3125 < c.deadline →
        exec (.fitEnd dt j.seq true) s = .next (s.after
          ((f.setUnit u none).setUnit (1 - u) (some { c with fitAt := some b.now })))))

/-! ### Illumination (11) -/

/-- The source that chooses the row pre-charges, asserts the row ROW_LEAD before it conducts, and conducts with what each
column latches at that tick, those apart that would draw no current in it; the row then counts for every exposing frame. A conduction ends at its tick and its row is
released. No drive exceeds its sink's limit by more than the rounding to a step; a sink that spends 200 µs above the
continuous limit is lowered to it at once. -/
def Obligations.RowsConductForTheirSource : Prop :=
  ∀ (dt row since col e4 : Nat) (src : LitSrc) (w : Want) (k : Conduct) (s : State), let b := s.blk.elapse dt
    let r := b.litReview
    let open_ (q : Nat) : Prop := w.ce.all (fun e => decide (q < e)) = true
    (r.top = some w → r.lit.prech = none → r.lit.cond = none → r.dueQ w.ps = true → (w.src = .strobe → open_ r.q) →
      exec (.prechargeStart dt) s = .next (s.after
        { r with lit := { r.lit with prech := some (w.src, w.row, r.at4 w.ps), rowdrv := none } })) ∧
    (b.lit.prech = some (src, row, since) → b.top = some w → b.dueQ (max since (b.condAt w since - b.leadOf w)) = true →
      exec (.rowdrvAssert dt) s = .next (s.after { b with lit := { b.lit with rowdrv := some row } })) ∧
    (r.lit.prech = some (src, row, since) → r.top = some w → r.dueQ (r.condAt w since) = true → open_ (r.condAt w since) →
      let l := r.latchCols row src r.wants
      let p := l.2.dropIdle row l.1 (w.ce.map (fun e => e - l.2.at4 (r.condAt w since)))
      (p.1.all (fun d => d.code = 0) = true → exec (.conductionStart dt) s = .next (s.after
        { p.2 with lit := { p.2.lit with prech := none, rowdrv := none } })) ∧
      (p.1.any (fun d => d.code != 0) = true → Leaves (.conductionStart dt) s (fun c =>
        (∃ x, c.lit.cond = some x ∧ x.src = src ∧ x.row = row ∧ x.start4 = r.at4 (r.condAt w since) ∧ x.cols.length = 24 ∧
          (x.stretch = false → x.cols = p.1 ∧ x.end4 = w.ce) ∧ (x.stretch = true → x.end4 = some (x.start4 + 2500))) ∧
        c.lit.prech = none ∧ c.lit.rowdrv = some row ∧
        c.sns.frames = r.sns.frames.map (fun f => if f.exposing then { f with sectors := putBit f.sectors row true } else f) ∧
        c.jobs = b.jobs ∧ c.store = b.store))) ∧
    (b.lit.cond = some k → k.end4 = some e4 → b.dueQ e4 = true →
      exec (.conductionEnd dt) s = .next (s.after b.endCond) ∧ b.endCond.lit.cond = none ∧ b.endCond.lit.rowdrv = none) ∧
    (∀ (x : Blk) (c : Nat) (i : Nat × Nat), 0 < i.2 →
      3 * (x.colDrive c i).1.code ≤ sinkLimit (x.sink c).half ((x.sink c).lowered || x.pwr.mode = .rosemary) + 1) ∧
    (let d := k.cols.getD col {}
     let lim := if (b.sink col).half then 533 else 1067
     b.lit.cond = some k → col < 24 → (b.sink col).lowered = false → hotCode (b.sink col).half d = true →
      250000 ≤ (b.hotTime col).1 → b.lit.clampAt.any (fun t => decide (b.now < t + 625000)) = true →
      let x := b.updSink col (fun q => { q with lowered := true, hot := (d.start k.start4 + d.cut4, b.q) :: q.hot })
      let cols := upd k.cols col (fun y => { y with code := lim })
      exec (.dutyClamp dt col) s = .next (s.after ((({ x with lit := { x.lit with cond := some { k with cols := cols } } } : Blk).setF
        (Reg.LITC_COL_STAT col) 11 0 lim).bump Reg.LIT_CLAMPS 15 0 1)))

/-- A position is read 1.6 µs into its conduction, and judged by the class of the reading once the conduction has lasted 2 µs; two
open results in a row, or two short ones, exclude it, and its column goes off. A diagnostic period ends for every position and every sink. RETEST
makes positions unknown. The thermistor's open and short ends, and 95 °C, put every lamp out. -/
def Obligations.LampsAreTestedAndProtected : Prop :=
  ∀ (dt col ia ib volt ohms vled : Nat) (i : Fin 4) (v : Word) (k : Conduct) (s : State), let b := s.blk.elapse dt
    let d := k.cols.getD col {}
    let p := b.ledPos k.row col
    let q := p.judge (b.testClass (375 * d.code) (ia + ib) volt)
    let start := d.start k.start4
    let th := b.setF Reg.LIT_VLED 15 0 (min vled 65535)
    let dark (x : Blk) : Prop := x.lit.shutdown = true ∧ x.lit.cond = none ∧ x.lit.prech = none ∧ x.lit.rowdrv = none
    (b.lit.cond = some k → col < 24 → k.row < 8 → b.lit.pos.length = 192 → k.cols.length = 24 → d.code ≠ 0 → d.cut4 < 2000 →
      col ∉ k.tested → k.readings = [] →
      k.end4.all (fun e => decide (start + 2500 ≤ d.until e)) = true → (k.end4 = none → d.stop4 = none) → b.dueQ (start + 2000) = true →
      bitN (b.regN Reg.LITD_DIAG) 8 = true → 100 * b.regF Reg.LITD_THRESH 23 16 ≤ b.regF Reg.LIT_VLED 15 0 →
      (b.q < start + 2500 →
        let x : Conduct := { k with tested := col :: k.tested, readings := [{ col := col, ia := ia, ib := ib, volt := volt }] }
        exec (.ledTest dt col ia ib volt) s = .next (s.after { b with lit := { b.lit with cond := some x } })) ∧
      (start + 2500 ≤ b.q → d.live b.q = true → q.st < 2 → Leaves (.ledTest dt col ia ib volt) s (fun c =>
        c.ledPos k.row col = q ∧ (∃ x, c.lit.cond = some x ∧ x.tested = col :: k.tested ∧ x.cols = k.cols ∧ x.readings = []) ∧
        c.regs = b.regs ∧ c.sns = b.sns)) ∧
      (start + 2500 ≤ b.q → q.st ≠ p.st → 2 ≤ q.st → Leaves (.ledTest dt col ia ib volt) s (fun c =>
        (c.ledPos k.row col).st = q.st ∧ (c.ledPos k.row col).opens = q.opens ∧ (c.ledPos k.row col).shorts = q.shorts ∧
        c.lit.cond.all (fun x => x.row = k.row && !(x.cols.getD col {}).live b.q) = true))) ∧
    (∀ (x : LedPos) (n : Nat), (x.judge n).completed = true ∧ (x.judge n).owed = false ∧
      (n = 1 → (x.judge n).st = 1 ∧ (x.judge n).opens = 0 ∧ (x.judge n).shorts = 0) ∧
      (n = 2 → 1 ≤ x.opens → (x.judge n).st = 2) ∧ (n = 3 → 1 ≤ x.shorts → (x.judge n).st = 3) ∧
      (n = 2 → x.opens = 0 → (x.judge n).st = x.st ∧ (x.judge n).opens = 1) ∧
      (n = 3 → x.shorts = 0 → (x.judge n).st = x.st ∧ (x.judge n).shorts = 1)) ∧
    (b.lit.diagAt + 31250000 * b.regF Reg.LITD_DIAG 7 0 ≤ b.now →
      exec (.diagPeriodEnd dt) s = .next (s.after ((List.range 24).foldl Blk.endPeriodSink
        ((List.range 192).foldl Blk.endPeriodPos { b with lit := { b.lit with diagAt := b.now } })))) ∧
    (b.inRun → b.writeCheck (some i) Reg.LITD_RETEST = 0 → b.domReady 4 = true → valueOk Reg.LITD_RETEST v.toNat = true →
      Leaves (.litdRetest dt (some i) v) s (fun c => c.acc = { stalled := false, status := 0, value := 0 } ∧ c.regs = b.regs ∧
        (∀ n < 192, b.lit.pos.length = 192 →
          c.lit.pos.getD n {} = (if bitN v.toNat 12 = true ∨ n = 24 * fld v.toNat 2 0 + fld v.toNat 8 4 then
            { b.lit.pos.getD n {} with st := 0, opens := 0, shorts := 0 } else b.lit.pos.getD n {})))) ∧
    (b.regF Reg.LIT_THERM 1 0 = 1 → b.domReady 4 = true →
      (1000000 < ohms → b.lit.ntcOpen = false → Leaves (.ltempRead dt ohms vled) s (fun c => dark c ∧ c.lit.ntcOpen = true ∧
        c.regF (Reg.HDR_FAULT 0x48) 15 0 = 0x7043)) ∧
      (ohms < 200 → b.lit.ntcShort = false → Leaves (.ltempRead dt ohms vled) s (fun c => dark c ∧ c.lit.ntcShort = true ∧
        c.regF (Reg.HDR_FAULT 0x48) 15 0 = 0x7044)) ∧
      (200 ≤ ohms → ohms ≤ 1000000 → exec (.ltempRead dt ohms vled) s = .next (s.after
        (th.lampTemp ((ntcKelvin ohms (b.regF Reg.LIT_THERM 15 4)).sub ⟨5463, 20⟩))))) ∧
    (∀ (x : Blk) (t : Q), Q.le ⟨95, 1⟩ t = true → dark (x.lampTemp t) ∧ (x.lampTemp t).lit.factor = 0)

/-- A pattern engine leaves a HOLD or RAMP when its duration is over, a RAMP with its level at the target; a RAMP's level
moves unit by unit on the straight line, rounded, and meets the target in the last; a WAITEXP that times out goes on; a
multiplex slot gives way to the next row of the mask, pre-charged first. -/
def Obligations.PatternsRunTheirPrograms : Prop :=
  ∀ (dt e : Nat) (s : State), let b := s.blk.elapse dt
    let p := b.pat e
    let w := b.patWord e
    let n := fld w 15 0
    let end4 := p.stepAt4 + n * b.unit4 e
    p.running = true →
    (b.dueQ end4 = true → fld w 31 28 = 3 →
      exec (.patStepExpiry dt e) s = .next (s.after (b.patNext e end4 (fun x => x)))) ∧
    (b.dueQ end4 = true → fld w 31 28 = 2 →
      exec (.patStepExpiry dt e) s = .next (s.after (b.patNext e end4 (fun x => { x with level := fld w 27 16 })))) ∧
    (fld w 31 28 = 2 → p.elapsed < n → b.dueQ (p.stepAt4 + (p.elapsed + 1) * b.unit4 e) = true →
      let lv := (p.lev0 : Int) + Q.rhaz ⟨((fld w 27 16 : Int) - p.lev0) * (p.elapsed + 1 : Nat), n⟩
      exec (.patRampUnit dt e) s = .next (s.after
        ((b.updPat e (fun x => { x with elapsed := p.elapsed + 1, level := lv.toNat })).patMoved e p)) ∧
      (p.elapsed + 1 = n → lv = fld w 27 16)) ∧
    (p.waiting = true → n ≠ 0 → b.dueQ end4 = true →
      exec (.patWaitexpTimeout dt e) s = .next (s.after (b.patNext e end4 (fun x => { x with timedOut := true })))) ∧
    (2 ≤ popcount 8 p.rows → b.dueQ (p.slotAt4 + b.mux4) = true →
      let x := match b.lit.cond with
        | some c => if c.src = LitSrc.pat e then b.endCond else b
        | none => b
      exec (.muxSlot dt e) s = .next (s.after (prechargeStart (x.updPat e (fun y =>
        { y with slotAt4 := p.slotAt4 + b.mux4, slotRow := nextRow y.rows y.slotRow })))))

/-! ### The lane link (14) -/

/-- While the link is up: an ACK takes the packets it covers out of the retry buffer; a NAK and the replay timer send every
packet they name again, in order, with the replay flag, as far as the credit goes, and the rest before anything new; a packet that fails its CRC or its number is answered with a NAK or
an ACK and changes no number; an ACK goes out with the last number accepted; the next packet in order of precedence leaves
when credit and retry buffer allow, and a packet of no known type counts as accepted and is discarded. -/
def Obligations.PacketsAreAcknowledgedAndReplayed : Prop :=
  ∀ (dt lseq credit ptype : Nat) (sop data : List Byte) (s : State), let b := s.blk.elapse dt
    let again (l : List Pkt) (have_ : Nat) (c : Blk) : Prop := let n := affordable have_ l
      c.wire = b.wire ++ (l.take n).map (fun p => .packet p.ptype 1 p.lseq p.payload) ∧ c.lnk.replayQ = (l.drop n).map (·.lseq) ∧
      c.lnk.creditLeft = have_ - pktBytes (l.take n) ∧ c.lnk.retry.map (·.lseq) = b.lnk.retry.map (·.lseq)
    let nak : Wire := .packet 0x0D 0 b.lnk.rxSeq (le 4 512)
    let ack : Wire := .packet 0x0C 0 ((b.lnk.rxSeq + 65535) % 65536) (le 4 512)
    let d := b.behind sop
    b.linkUp = true →
    (let rest := b.lnk.retry.filter (fun p => !seqCovers lseq p.lseq)
     Leaves (.ackReceive dt lseq credit) s (fun c => c.lnk.retry = rest ∧ c.lnk.lastAckIn = b.now ∧
       c.lnk.creditLeft = 64 * (credit % 65536) - c.bytesOut ∧ (b.lnk.replayQ = [] → c.bytesOut = c.retryBytes) ∧ c.lnk.txSeq = b.lnk.txSeq ∧ c.lnk.rxSeq = b.lnk.rxSeq ∧
       (rest ≠ b.lnk.retry → c.lnk.replayFrom = b.now) ∧ (rest = b.lnk.retry → c.store = b.store ∧ c.tly = b.tly ∧ c.regs = b.regs))) ∧
    (let l := b.lnk.retry.filter (fun p => seqCovers p.lseq lseq)
     let before := b.lnk.retry.filter (fun p => !(l.map (·.lseq)).contains p.lseq)
     l ≠ [] → Leaves (.nakReceive dt lseq credit) s (fun c => again l (64 * (credit % 65536) - pktBytes before) c ∧ c.regF Reg.LNK_REPLAYS 31 16 = min (b.regF Reg.LNK_REPLAYS 31 16 + 1) 65535 ∧
       c.store = b.store ∧ c.tly = b.tly)) ∧
    (b.lnk.retry ≠ [] → b.replayEnd ≤ b.now → Leaves (.replayTimer dt) s (fun c => again b.lnk.retry b.lnk.creditLeft c ∧ c.regF Reg.LNK_REPLAYS 15 0 = min (b.regF Reg.LNK_REPLAYS 15 0 + 1) 65535 ∧
      c.lnk.replayFrom = b.now ∧ c.store = b.store ∧ c.tly = b.tly)) ∧
    (b.lnk.nakAt = none →
      (packetCrcOk sop data = false → Leaves (.linkPacketBad dt sop data) s (fun c => c.wire = b.wire ++ [nak] ∧ c.lnk.rxSeq = b.lnk.rxSeq ∧ c.lnk.nakAt = some b.now ∧
        c.lnk.txSeq = b.lnk.txSeq ∧ c.lnk.retry = b.lnk.retry ∧
        c.regF Reg.LNK_RX_ERRORS 15 0 = min (b.regF Reg.LNK_RX_ERRORS 15 0 + 1) 65535)) ∧
      (packetCrcOk sop data = true → 4096 < d → Leaves (.linkPacketBad dt sop data) s (fun c => c.wire = b.wire ++ [nak] ∧ c.lnk.rxSeq = b.lnk.rxSeq ∧
        c.lnk.txSeq = b.lnk.txSeq ∧ c.lnk.retry = b.lnk.retry ∧ c.lnk.nakAt = some b.now ∧ c.regF Reg.LNK_RX_ERRORS 31 16 = min (b.regF Reg.LNK_RX_ERRORS 31 16 + 1) 65535))) ∧
    (∀ t, b.lnk.nakAt = some t → b.now < t + b.regF Reg.LNK_REPLAY_LIMIT 11 0 → packetCrcOk sop data = true → 4096 < d →
      exec (.linkPacketBad dt sop data) s = .next (s.after (b.bump Reg.LNK_RX_ERRORS 31 16 1))) ∧
    (packetCrcOk sop data = true → 0 < d → d ≤ 4096 → Leaves (.linkPacketBad dt sop data) s (fun c => c.wire = b.wire ++ [ack] ∧
      c.lnk = { b.lnk with unacked := 0, lastAckOut := b.now, granted := 512 } ∧ c.regs = b.regs)) ∧
    (0 < b.lnk.unacked ∨ b.lnk.lastAckOut + 3125 ≤ b.now → Leaves (.ackSend dt) s (fun c => c.wire = b.wire ++ [ack] ∧
      c.lnk = { b.lnk with unacked := 0, lastAckOut := b.now, granted := 512 } ∧ c.regs = b.regs)) ∧
    (b.lnk.replayQ ≠ [] → exec (.linkTransmit dt) s = .next (s.after (b.replay b.replays))) ∧
    (∀ turn r, b.lnk.replayQ = [] → b.nextPacket = some (turn, r) →
      let size := packetSize r.payload.length
      ((b.lnk.creditLeft < size ∨ 65536 < b.retryBytes + size) → exec (.linkTransmit dt) s = .next (s.after b)) ∧
      (size ≤ b.lnk.creditLeft → b.retryBytes + size ≤ 65536 → Leaves (.linkTransmit dt) s (fun c =>
        c.wire = b.wire ++ [.packet r.ptype 0 b.lnk.txSeq r.payload] ∧ c.lnk.txSeq = (b.lnk.txSeq + 1) % 65536 ∧
        c.lnk.creditLeft = b.lnk.creditLeft - size ∧ c.lnk.turn = (turn.map (fun k => (k + 1) % 18)).getD b.lnk.turn ∧
        c.lnk.retry = b.lnk.retry ++ [{ lseq := b.lnk.txSeq, ptype := r.ptype, payload := r.payload, sentAt := b.now, src := r.src }] ∧
        c.regN Reg.LNK_TX_PACKETS = (b.regN Reg.LNK_TX_PACKETS + 1) % 2 ^ 32))) ∧
    ((∀ t p l, b.lnk.answers = (t, p) :: l → b.nextPacket = some (none, { ptype := t, payload := p, src := .answer })) ∧
     (∀ n l, b.lnk.answers = [] → b.evt.toLink = n :: l →
       b.nextPacket = some (none, { ptype := 0x09, payload := n.bytes, src := .event })) ∧
     (∀ k r, b.lnk.answers = [] → b.evt.toLink = [] → b.readyTurn b.lnk.turn = some r → b.lnk.turn = k → k < 18 →
       b.nextPacket = some (some k, r))) ∧
    (inboundType ptype = false → exec (.packetDiscard dt ptype) s = .next (s.after (b.linkAccept.bump Reg.LNK_RX_DISCARD 15 0 1)))

/-- Training: DETECT ends with the clock and termination on 3 lanes; a phase ends with 3 lanes of each direction (lane 0 in
limp mode), EQ with the setting of the most open points on each aligned lane that has no fixed one, CONFIRM with the link up and its
lanes given their roles; a phase that stands for 10 ms is counted and
tried three times, then limp mode twice, then STANDALONE. A link that leaves UP closes its sessions and keeps nothing
unacknowledged; 1 ms without an answer makes it train from CLOCK. -/
def Obligations.TheLinkTrains : Prop :=
  ∀ (dt lanes : Nat) (i : TrainInfo) (s : State), let b := s.blk.elapse dt
    let k := b.lnk
    let x := (b.bump Reg.LNK_TRAINS 31 16 1).raise 0x2021
    let limp : Bool := k.state = .limpTrain
    let phase : Prop := k.state = .clock ∨ k.state = .align ∨ k.state = .eq ∨ k.state = .confirm
    (k.state = .detect → k.ckPresent = true → 3 ≤ popcount 5 lanes → b.domReady 6 = true →
      (b.coppice = false → b.sys.coppiceStart = false → exec (.detectCheck dt lanes) s = .next (s.after
        { b with lnk := { k with state := .clock, phase := 2, phaseAt := b.now, lastPhase := max 2 k.lastPhase, attempt := 1 } })) ∧
      (b.coppice = true → Leaves (.detectCheck dt lanes) s (fun c => c.lnk.state = .limpTrain ∧ c.lnk.phase = 2 ∧
        c.lnk.limpAttempt = 1 ∧ c.lnk.phaseAt = b.now ∧ c.regs = b.regs))) ∧
    (phase ∨ limp = true → enoughLanes limp i = true → Leaves (.trainPhaseDone dt i) s (fun c =>
      (k.phase < 5 → c.lnk.phase = k.phase + 1 ∧ c.lnk.phaseAt = b.now ∧ c.lnk.attempt = 1 ∧
        c.lnk.state = (if limp then .limpTrain else phaseState (k.phase + 1))) ∧
      (k.phase = 2 → c.lnk.ckForward = true ∧ c.lnk.ckLocked = true ∧ c.lnk.holdover = none) ∧
      (k.phase = 4 → k.lanes.length = 5 → ∀ n < 5, (k.lanes.getD n {}).aligned = true → bitN i.rxLanes n = true → bitN (b.regN (Reg.LNK_CTLE_CFG n)) 4 = false →
        c.regF (Reg.LNK_CTLE n) 3 0 = eqSetting (i.peaks.getD n [])) ∧
      (k.phase = 5 → k.lanes.length = 5 → c.lnk.state = (if limp then .limpUp else .up) ∧ c.lnk.txSeq = 0 ∧ c.lnk.rxSeq = 0 ∧
        c.lnk.retry = [] ∧ c.linkUp = true ∧
        (limp = false → ∀ n < 5,
          ((c.lane n).rx = .active ↔ bitN i.rxLanes n = true ∧ popcount n i.rxLanes < 4) ∧
          ((c.lane n).tx = .active ↔ bitN i.txLanes n = true ∧ popcount n i.txLanes < 4) ∧
          ((c.lane n).rx = .failed ↔ bitN i.rxLanes n = false)) ∧
        (limp = true → (c.lane 0).rx = .active ∧ (c.lane 0).tx = .active ∧ ∀ n < 5, 0 < n → (c.lane n).rx = .off)))) ∧
    (k.phaseAt + 3125000 ≤ b.now →
      (phase → k.attempt < 3 → exec (.lnkTrainTimeout dt) s = .next (s.after
        { x with lnk := { x.lnk with attempt := k.attempt + 1, phaseAt := b.now } })) ∧
      (phase → 3 ≤ k.attempt → exec (.lnkTrainTimeout dt) s = .next (s.after ((x.raise 0x2022).startLimp 1))) ∧
      (limp = true → k.limpAttempt < 2 → exec (.lnkTrainTimeout dt) s = .next (s.after (x.startLimp 2))) ∧
      (limp = true → 2 ≤ k.limpAttempt → Leaves (.lnkTrainTimeout dt) s (fun c => c.lnk.state = .standalone ∧
        c.lnk.ckForward = false ∧ c.lnk.ckLocked = false ∧ c.regF (Reg.HDR_FAULT 0x0A) 15 0 = 0x2023))) ∧
    (b.linkUp = true → k.lastAckIn + 312500 ≤ b.now → k.ckPresent = true → b.coppice = false →
      exec (.linkAckLoss dt) s = .next (s.after (b.startTraining 2))) ∧
    (b.linkUp = true → let c := b.leaveUp
      c.lnk.state = .down ∧ c.lnk.retry = [] ∧ c.lnk.answers = [] ∧ c.evt.toLink = [] ∧ c.linkUp = false ∧
      (b.ses.slots.length = 4 → ∀ n < 4, (b.slot n).link = true → (c.slot n).st = .free) ∧
      c.store.pools.all (fun p => p.recs.all (fun r => !r.sent)) = true ∧
      c.store.pools.map (fun p => p.recs.map (fun r => r.bytes)) = b.store.pools.map (fun p => p.recs.map (fun r => r.bytes)) ∧
      (c.tly.store.map (·.bytes)).take b.tly.store.length = b.tly.store.map (·.bytes) ∧
      (b.tly.taken = [] → c.tly.store.map (·.bytes) = b.tly.store.map (·.bytes)) ∧ c.jobs = b.jobs) ∧
    (∀ (a : Blk) (p : Nat), let c := a.startTraining p
      c.lnk.state = (if p = 1 then .detect else .clock) ∧ c.lnk.phase = p ∧ c.lnk.phaseAt = a.now ∧ c.lnk.attempt = 1 ∧
      c.lnk.retry = (if a.linkUp then [] else a.lnk.retry) ∧ c.lnk.lanes.all (fun l => l.rx == .off && l.tx == .off && !l.aligned) = true ∧
      c.regF Reg.LNK_TRAINS 15 0 = min (a.regF Reg.LNK_TRAINS 15 0 + 1) 65535)

/-- The forwarded clock's presence and loss, the switch to the crystal, lane failover by the engine (a RESTRIPE, and behind it a NAK
unless one has just gone out: log 65) and by its partner, and the writes that train the link, hold it down and start an eye scan. -/
def Obligations.ClocksAndLanesComeAndGo : Prop :=
  ∀ (dt l mask ver : Nat) (i : Fin 4) (v : Word) (s : State), let b := s.blk.elapse dt
    let x := ((b.bump Reg.LNKCK_CK_EVENTS 15 0 1).raise 0x2051)
    let nak : List Wire := if (match b.lnk.nakAt with | some t => decide (b.now < t + b.regF Reg.LNK_REPLAY_LIMIT 11 0) | none => false) then []
      else [.packet 0x0D 0 b.lnk.rxSeq (le 4 512)]
    let named (c : Blk) : List Wire := c.liveTx.map (fun k => .block k ([0x55] ++ le 1 (c.activeMask false) ++ le 1 c.lnk.mapVer ++ le 1 l ++ zeros 4))
    let lost : Blk := { x with lnk := { x.lnk with ckPresent := false, ckLocked := false, absentAt := some b.now, holdover := (if b.lnk.ckForward then some b.now else b.lnk.holdover) } }
    let quiet : Prop := b.lnk.state = .standalone ∨ b.lnk.state = .down
    let held := bitN (b.regN Reg.LNK_CTL) 1
    let ctl (n : Nat) : Blk := (b.reached Reg.LNK_CTL).setF Reg.LNK_CTL 1 1 n
    let found : Blk := { b with lnk := { b.lnk with ckPresent := true, absentAt := none } }
    (b.lnk.ckPresent = true →
      (quiet → exec (.lnkClockLost dt) s = .next (s.after lost)) ∧
      (¬ quiet → exec (.lnkClockLost dt) s = .next (s.after (lost.startTraining 1)))) ∧
    (∀ t, b.lnk.ckPresent = false → b.lnk.absentAt = some t →
      (b.lnk.state = .standalone → t + 31250000 ≤ b.now → held = false → exec (.clockPresent dt) s = .next (s.after (found.startTraining 1))) ∧
      ((b.lnk.state ≠ .standalone ∨ b.now < t + 31250000) → exec (.clockPresent dt) s = .next (s.after found))) ∧
    (∀ t, b.lnk.holdover = some t → Leaves (.crystalSwitch dt) s (fun c => c.lnk = { b.lnk with holdover := none, ckForward := false } ∧
      c.regF Reg.LNKCK_HOLDOVER 15 0 = max (b.regF Reg.LNKCK_HOLDOVER 15 0) (min (b.now - t) 65535))) ∧
    (b.lnk.state = .up → l < 5 → b.lnk.lanes.length = 5 → (b.lane l).rx = .active →
      (∀ k, b.lanesOf false .spare = [k] → Leaves (.lnkLaneLost dt l true) s (fun c =>
        (c.lane l).rx = .failed ∧ (c.lane k).rx = .active ∧ c.lnk.state = .up ∧ c.lnk.mapVer = (b.lnk.mapVer + 1) % 256 ∧
        c.wire = b.wire ++ named c ++ nak ∧ c.lnk.faultAt = some b.now ∧ c.jobs = b.jobs)) ∧
      (b.lanesOf false .spare = [] → (b.lanesOf false .active).length = 4 → Leaves (.lnkLaneLost dt l true) s (fun c =>
        (c.lane l).rx = .failed ∧ c.lnk.state = .up ∧ c.wire = b.wire ++ named c ++ nak ∧
        c.regF (Reg.HDR_FAULT 0x0A) 15 0 = 0x2013)) ∧
      (b.lanesOf false .spare = [] → (b.lanesOf false .active).length ≤ 3 →
        Leaves (.lnkLaneLost dt l true) s (fun c => c.linkUp = false ∧ c.lnk.retry = []))) ∧
    (b.lnk.state = .up → b.lnk.lanes.length = 5 → l < 5 → (b.lane l).rx = .spare → Leaves (.lnkLaneLost dt l true) s (fun c =>
      (c.lane l).rx = .failed ∧ c.activeMask false = b.activeMask false ∧ c.lnk.state = .up ∧ c.wire = b.wire ++ named c)) ∧
    (b.lnk.state = .up → b.lnk.lanes.length = 5 → l < 5 → (b.lane l).tx = .active → (b.lanesOf true .active).length ≤ 4 → bitN mask l = false →
      (∀ k, k < 5 → b.lanesOf true .spare = [k] → bitN mask k = true → (∀ n < 5, n ≠ l → (b.lane n).tx = .active → bitN mask n = true) →
        Leaves (.restripe dt mask ver l) s (fun c => (c.lane l).tx = .failed ∧ (c.lane k).tx = .active ∧
          (∀ n < 5, n ≠ l → (b.lane n).tx = .active → (c.lane n).tx = .active) ∧
          c.wire = b.wire ++ c.liveTx.map (fun n => .block n (c.alignBlock n b.stripeNow)) ∧ c.lnk.txVer = ver ∧ c.lnk.state = .up ∧ c.lnk.txSeq = b.lnk.txSeq ∧ c.lnk.retry = b.lnk.retry))) ∧
    (b.inRun → b.domReady 6 = true →
      (b.writeCheck (some i) Reg.LNK_CTL = 0 →
        (held = false → exec (.lnkRetrain dt (some i)) s = .next (s.after (((ctl 0).startTraining 1).answer 0 0)) ∧
          Leaves (.lnkHoldDown dt (some i) true) s (fun c => c.lnk.state = .down ∧ bitN (c.regN Reg.LNK_CTL) 1 = true ∧
            c.acc = { stalled := false, status := 0, value := 0 } ∧ c.jobs = b.jobs)) ∧
        (held = true → exec (.lnkRetrain dt (some i)) s = .next (s.after ((ctl 1).answer 0 0)) ∧
          exec (.lnkHoldDown dt (some i) false) s = .next (s.after (((ctl 0).startTraining 1).answer 0 0)))) ∧
      (let a := Reg.LNK_EYE_CTL (l % 5)
       let w := (v ||| 1).toNat
       b.writeCheck (some i) a = 0 → valueOk a w = true → exec (.eyeScanStart dt (some i) l v) s = .next (s.after
        ((((b.reached a).setN a (putBit (putBit w 0 false) 16 false)).updLane (l % 5) (fun k => { k with scanAsked := true })).answer 0 0))))

/-! ### External memory (15) -/

/-- The external memory's refresh, for every form of REFRESH_DUE, BURST_END, MR4_READ and REFRESH_WINDOW. A catch-up that has met no chunk
boundary within 625 ticks has run before anything else (R573): it left the debt at half the ceiling. A due time raises the debt by one
within a burst, with a refresh to be inserted where that takes it above the ceiling, and outside a burst the refresh is issued at once,
where the channel is idle with others pulled in down to the credit of the ceiling (R571); before its time nothing is due. Four milliseconds
after its last reading MR4 is read (R572): 111 and a shorter interval are counted and raised, a changed code takes effect at once with its
interval and ceiling (R570), a credit is cut to the new ceiling, and a debt above it is caught up to half of it, at once or, in a burst,
from the next chunk boundary (R573). A window's end keeps its highest entry and clears the rank's tables (R574). A burst's end pays every
debt of its channel back to 0 (R571). -/
def Obligations.RefreshDebtIsPaid : Prop :=
  ∀ (dt ch r code : Nat) (idle : Bool) (s : State), let b := s.blk.elapse dt
    let c := b.overdue ch
    let k := (c.memCh ch).rank r
    let put (x : Blk) (q : RankSt) : Blk := x.updMem ch (fun c => c.updRank r (fun _ => q))
    let own (x : Blk) : RankSt := (x.memCh ch).rank r
    let m := code % 8
    let iv : Nat := if m ≤ 3 then 1220 else if m = 4 then 610 else 305
    let cl : Int := if m ≤ 3 then 8 else if m = 4 then 4 else 2
    let hot := if m = 7 then (c.bump Reg.MEMF_HOT 31 16 1).raise 0x3032 else c
    let hot2 := if iv < k.interval then (hot.bump Reg.MEMF_HOT 15 0 1).raise 0x3031 else hot
    b.mem.chans.length = 2 → b.domReady 5 = true → ch < 2 →
    ((∀ i < (b.memCh ch).ranks.length, ∀ t, ((b.memCh ch).rank i).catchUp = some t → b.now ≤ t + 625) → c = b) ∧
    (r < (b.memCh ch).ranks.length →
      (∀ t, (own b).catchUp = some t → t + 625 < b.now → k = { own b with debt := (own b).ceiling / 2, catchUp := none, insertDue := false }) ∧
      (b.now < k.nextDue → exec (.refreshDue dt ch r idle) s = .next (s.after c)) ∧
      (k.nextDue ≤ b.now →
        ((c.memCh ch).burst = true → exec (.refreshDue dt ch r idle) s = .next (s.after (put (c.noteDebt (k.debt + 1))
          { k with debt := k.debt + 1, nextDue := k.nextDue + k.interval, insertDue := k.insertDue || decide (k.ceiling < k.debt + 1) }))) ∧
        ((c.memCh ch).burst = false → exec (.refreshDue dt ch r idle) s = .next (s.after (put (c.noteDebt (k.debt + 1))
          { k with debt := (if idle then -k.ceiling else k.debt), nextDue := k.nextDue + k.interval })))) ∧
      (b.now < (own b).mr4At + 1250000 → exec (.mr4Read dt ch r code) s = .next (s.after b)) ∧
      ((own b).mr4At + 1250000 ≤ b.now →
        (m = k.mr4 → exec (.mr4Read dt ch r code) s = .next (s.after (put hot { k with mr4At := b.now }))) ∧
        (m ≠ k.mr4 → k.debt ≤ cl → exec (.mr4Read dt ch r code) s = .next (s.after (put hot2
          { k with mr4At := b.now, mr4 := m, nextDue := b.now + iv, debt := max k.debt (-cl), catchUp := none }))) ∧
        (m ≠ k.mr4 → cl < k.debt → (c.memCh ch).burst = true → exec (.mr4Read dt ch r code) s = .next (s.after (put hot2
          { k with mr4At := b.now, mr4 := m, nextDue := b.now + iv, catchUp := some b.now }))) ∧
        (m ≠ k.mr4 → cl < k.debt → (c.memCh ch).burst = false → exec (.mr4Read dt ch r code) s = .next (s.after
          (put (hot2.bump Reg.MEMF_REF_COUNTS 23 12 1)
            { k with mr4At := b.now, mr4 := m, nextDue := b.now + iv, debt := cl / 2, catchUp := none, insertDue := false })))) ∧
      ((own b).winAt + 8192 * (own b).interval ≤ b.now → exec (.refreshWindow dt ch r) s = .next (s.after
        (put (b.setF Reg.MEMF_DIST_COUNTS 31 16 (min (own b).distMax 65535))
          { own b with winAt := b.now, distMax := 0, banks := (own b).banks.map (fun q => { q with dist := [] }) }))) ∧
      (b.now < (own b).winAt + 8192 * (own b).interval → exec (.refreshWindow dt ch r) s = .next (s.after b))) ∧
    ((b.memCh ch).burst = true → (b.memCh ch).chunkEnd + b.regF Reg.MEMF_BURST_GAP 9 0 ≤ b.now →
      exec (.burstEnd dt ch) s = .next (s.after (c.endBurst ch)) ∧
      Leaves (.burstEnd dt ch) s (fun x => (x.memCh ch).burst = false ∧
        (∀ i < (b.memCh ch).ranks.length, let q := (c.memCh ch).rank i
          ((x.memCh ch).rank i).debt = (if q.catchUp.isSome then 0 else min q.debt 0) ∧ ((x.memCh ch).rank i).insertDue = false ∧
          ((x.memCh ch).rank i).catchUp = none ∧ ((x.memCh ch).rank i).nextDue = q.nextDue ∧ ((x.memCh ch).rank i).mr4 = q.mr4) ∧
        x.mem.owed = b.mem.owed ∧ x.mem.rows = b.mem.rows ∧ x.mem.moved = b.mem.moved)) ∧
    (b.now < (b.memCh ch).chunkEnd + b.regF Reg.MEMF_BURST_GAP 9 0 → exec (.burstEnd dt ch) s = .next (s.after b))

/-- A chunk of a real-time master carries what the master has owed longest, in that stream's open unit or its next one: it ends another
master's burst, closes its row and its check row and keeps its own burst running, with the bytes it moved and its wait noted; at its
boundary a waiting catch-up brings its rank's debt to half the ceiling, and an inserted refresh pays one. A master that owes nothing runs
none. Another master's access of up to 256 bytes moves them, and reads or writes its row, where no real-time chunk waits for the channel:
one wrong bit of a word is corrected and counted, two are counted as uncorrectable with 0x3012 when they stand at the second reading. A
neighbour refresh, outside a burst, is counted, waits no more and clears its row's entry. A scrub read of a row that holds data moves it
with its check row and counts what it corrected, and the end of its pass when every such row has been read; it offers no row while it finds
no uncorrectable word and the row's errors stay below the limit. A row copy takes its place at once, or at the next boundary while an
exposure or sweep job is live. A row held open past its time closes, and an idle rank powers down. -/
def Obligations.RowsAreReadCorrectedAndMoved : Prop :=
  ∀ (dt ch r bk row w : Nat) (mv : MemMove) (e : RowSeen) (first again : List WordErr) (last : Bool) (st : Stream) (s : State),
    let b := s.blk.elapse dt
    let k := (b.memCh ch).rank r
    let a : RowAt := { ch := ch, rank := r, bank := bk, row := row }
    let c := b.overdue ch
    b.mem.chans.length = 2 → b.domReady 5 = true → ch < 2 → r < (b.memCh ch).ranks.length →
    (b.rowExists ch r bk row = true →
      (realTime mv.who = true →
        (c.nextStream mv.who = none → exec (.chunkBoundary dt ch r bk row mv w e) s = .next (s.after c)) ∧
        (let n := min mv.bytes (min (c.roomIn st) (c.owedOf st))
         let late := (c.memCh ch).chunkEnd + b.regF Reg.MEMF_BURST_GAP 9 0 ≤ b.now - c.busTicks (rawBytes n)
         let d := if (c.memCh ch).burst = true ∧ ((c.memCh ch).burstBy ≠ mv.who ∨ late) then c.endBurst ch else c
         k.banks.length = 8 → c.nextStream mv.who = some st → 0 < n → c.mayPlace st a = true → b.enteringSleep = false →
         Leaves (.chunkBoundary dt ch r bk row mv w e) s (fun x =>
          (x.memCh ch).burst = true ∧ (x.memCh ch).burstBy = mv.who ∧ (x.memCh ch).chunkEnd = b.now ∧
          x.mem.moved = b.mem.moved + ceilDiv (n * 9) 8 ∧ x.mem.rtMoved = b.mem.rtMoved + ceilDiv (n * 9) 8 ∧
          x.mem.owed = paid st n b.mem.owed ∧ x.mem.hits + x.mem.misses = b.mem.hits + b.mem.misses + 2 ∧
          x.regF Reg.MEM_RT_WAIT 15 0 = max (b.regF Reg.MEM_RT_WAIT 15 0) (min w 65535) ∧
          (((x.memCh ch).rank r).bank bk).isOpen = false ∧ (((x.memCh ch).rank r).bank ((bk + 4) % 8)).isOpen = false ∧
          (x.memCh ch).ranks.all (fun q => q.catchUp.isNone) = true ∧ ((x.memCh ch).rank r).down = false ∧
          (∀ i < (b.memCh ch).ranks.length, let q := (d.memCh ch).rank i
            ((x.memCh ch).rank i).debt =
              (if q.catchUp.isSome then q.ceiling / 2 else if q.insertDue then q.debt - 1 else q.debt))))) ∧
      (realTime mv.who = false → 0 < mv.bytes → mv.bytes ≤ 256 → row % 8 ≠ 7 → b.enteringSleep = false →
        (c.rtWaits ch = true → exec (.chunkBoundary dt ch r bk row mv w e) s = .next (s.after c)) ∧
        (c.rtWaits ch = false → mv.write = true → mv.who ≠ .calibration → exec (.chunkBoundary dt ch r bk row mv w e) s =
          .next (s.after (((c.accessBoth a false).moveRaw (ceilDiv (mv.bytes * 9) 8) false).copyRestart ch r bk row))) ∧
        (c.rtWaits ch = false → mv.write = false →
          exec (.chunkBoundary dt ch r bk row mv w e) s =
            .next (s.after ((((c.accessBoth a false).moveRaw (ceilDiv (mv.bytes * 9) 8) false).readRow a e).noteRow a)) ∧
          (∀ i p, i < 256 → p < 72 → e = { first := [{ word := i, bits := [p] }] } →
            Leaves (.chunkBoundary dt ch r bk row mv w e) s (fun x =>
              x.regF Reg.MEM_ECC_CORR (16 * ch + 15) (16 * ch) = min (b.regF Reg.MEM_ECC_CORR (16 * ch + 15) (16 * ch) + 1) 65535 ∧
              x.mem.moved = b.mem.moved + ceilDiv (mv.bytes * 9) 8 + 9)) ∧
          (∀ i p q, i < 256 → p < 72 → q < 72 → p ≠ q → e = { first := [{ word := i, bits := [p, q] }], again := [{ word := i, bits := [p, q] }] } →
            Leaves (.chunkBoundary dt ch r bk row mv w e) s (fun x =>
              x.regF Reg.MEM_ECC_UNCORR (16 * ch + 15) (16 * ch) = min (b.regF Reg.MEM_ECC_UNCORR (16 * ch + 15) (16 * ch) + 1) 65535)))) ∧
      (b.rtWaits ch = true → exec (.scrubRead dt ch r bk row first again last) s = .next (s.after b)) ∧
      (let y := c.scrubRoll
       let o : RowSeen := { first := first, again := again }
       b.rtWaits ch = false → b.enteringSleep = false → y.mem.passDone = false → y.holdsData a = true → a ∉ y.mem.scrubbed →
        Leaves (.scrubRead dt ch r bk row first again last) s (fun x =>
          x.regF Reg.MEM_SCRUB_STATUS 15 0 = min (b.regF Reg.MEM_SCRUB_STATUS 15 0 +
            b2n (last && y.rowsToScrub.all (a :: y.mem.scrubbed).contains)) 65535 ∧
          x.regF Reg.MEM_SCRUB_STATUS 31 16 = min (b.regF Reg.MEM_SCRUB_STATUS 31 16 + fixedIn o) 65535 ∧
          x.mem.moved = b.mem.moved + (if row % 8 = 7 then 2048 else 2304) + 9 * (fixedIn o + (wordsSeen first .bad).length) ∧
          x.mem.scrubbed = a :: y.mem.scrubbed ∧
          (lostIn o = [] → (fixedIn o = 0 ∨ (b.memCh ch).errorsOf (r, bk, row) + fixedIn o < b.regF Reg.MEMX_REMAP_LIMIT 7 0) →
            x.regF Reg.MEM_ECC_CORR (16 * ch + 15) (16 * ch) = min (b.regF Reg.MEM_ECC_CORR (16 * ch + 15) (16 * ch) + fixedIn o) 65535 ∧
            x.ust = b.ust)))) ∧
    ((b.memCh ch).burst = false → (r, bk, row) ∈ (b.memCh ch).neighbours →
      exec (.neighbourRefresh dt ch r bk row) s = .next (s.after (b.refreshNeighbours ch (r, bk, row))) ∧
      Leaves (.neighbourRefresh dt ch r bk row) s (fun c =>
        (r, bk, row) ∉ (c.memCh ch).neighbours ∧ ((((c.memCh ch).rank r).bank bk).dist.all (fun p => p.1 != row)) = true ∧
        c.regF Reg.MEMF_DIST_COUNTS 15 0 = min (b.regF Reg.MEMF_DIST_COUNTS 15 0 + 1) 65535)) ∧
    (∀ q, (b.memCh ch).copies.find? (fun x => !x.done) = some q →
      let z := (b.access ch q.rank q.bank q.row false).moveRaw 4608 false
      let z := if q.retire = true then z
        else z.access ch q.rank q.bank (topRow z.rowsPerBank (((z.memCh ch).rank q.rank).bank q.bank).sparesUsed) false
      let y := z.updMem ch (fun c => { c with copies := c.copies.map (fun x => if x = q then { x with done := true } else x) })
      ((b.exposureLive || b.sweepLive) = true → exec (.remapCopyDone dt ch) s = .next (s.after (y.engStage 3 (.remap ch)))) ∧
      ((b.exposureLive || b.sweepLive) = false →
        exec (.remapCopyDone dt ch) s = .next (s.after ((y.engTag (.remap ch)).remapCommit ch)))) ∧
    ((k.bank bk).isOpen = true → (k.bank bk).touched + 4 * b.regF Reg.MEM_PRED_CFG 7 0 ≤ b.now → bk < k.banks.length →
      Leaves (.pageHoldExpiry dt ch r bk) s (fun c => (((c.memCh ch).rank r).bank bk) = { k.bank bk with isOpen := false } ∧
        c.regs = b.regs ∧ ∀ m, m ≠ bk → ((c.memCh ch).rank r).bank m = k.bank m)) ∧
    (k.touched + b.regF Reg.MEM_PD_CFG 11 0 ≤ b.now → Leaves (.rankPowerDown dt ch r) s (fun c =>
      (c.memCh ch).rank r = { k with down := true } ∧ c.regs = b.regs))

/-! ### Power, sleep and time (16) -/

/-- A domain that may gate and that nothing touches or holds gates after GATE_DELAY; one still held 5 ms after it was
asked to gate has its bundles aborted and gates; LOC does not gate while an exposure job is live. A woken domain's
ready signal releases its clamps and lets the waiting access go on; one that is late refuses it and restarts. The
first access to a gated domain closes its switch, is counted, and waits for the domain's ready signal. -/
def Obligations.DomainsGateAndWake : Prop :=
  (∀ (dt d t a : Nat) (w : Stall) (who : Who) (s : State), let b := s.blk.elapse dt
     d ∈ domCodes → b.doms.length = 26 →
     (b.inRun → bitN (b.regN Reg.PWR_CTL) 0 = true → (b.dom d).ready = true → (b.dom d).touched + b.gateDelay ≤ b.now → b.held d = false →
       (b.mayGate d = true → Leaves (.domainGate dt d) s (fun c => (d ≠ 4 → c.regs = b.regs) ∧
         c.dom d = { b.dom d with powered := false, ready := false, clamped := true, gateAt := none } ∧
         (∀ e ∈ domCodes, e ≠ d → c.dom e = b.dom e) ∧ (d = 4 → c.lit.cond = none ∧ c.lit.prech = none ∧ c.lit.rowdrv = none)))) ∧
     (b.exposureLive = true → exec (.domainGate dt 2) s = .next (s.after b)) ∧
     (d ≠ 5 → d ≠ 7 → (b.dom d).gateAt = some t → t + 1562500 ≤ b.now → b.gateHeld d = true →
       exec (.pwrGateWait dt d) s = .next (s.after (((((b.abortDomain 0xB027 d).abortEng 0xB027 d).updDom d (fun x =>
         { x with gateAt := none })).gateOff d).raise 0x1011))) ∧
     ((b.dom d).powered = true → (b.dom d).ready = false → (b.dom d).restartAt = none →
       (b.chn.stalls = [] → d ≠ 3 → Leaves (.domainReady dt d) s (fun c => c.regs = b.regs ∧
         c.dom d = { b.dom d with ready := true, clamped := false, touched := b.now })) ∧
       (b.chn.stalls = [w] → w.dom = d → w.what = .read who a → exec (.domainReady dt d) s = .next (s.after
         ((({ b.domainUp d with chn := { (b.domainUp d).chn with stalls := [] } } : Blk).noteStall w).read1 who a))) ∧
       (d ≠ 0 → d ≠ 1 → (b.dom d).wakeAt + 2 * readyBound d ≤ b.now →
         (b.chn.stalls = [w] → w.dom = d → w.what = .read who a →
           exec (.pwrDomainLate dt d) s = .next (s.after ((({ b.raise 0x1012 with chn := { b.chn with stalls := [] } } : Blk).noteStall w |>.answer 0x1012 0).restartFor d 0x1012))) ∧
         (b.chn.stalls = [] → exec (.pwrDomainLate dt d) s = .next (s.after ((b.raise 0x1012).restartFor d 0x1012)))))) ∧
  (∀ (dt : Nat) (i : Fin 4) (a : Nat) (s : State), let b := s.blk.elapse dt
     b.inRun → b.readCheck (some i) a = 0 → b.domReady (domOf a) = false → (b.dom (domOf a)).powered = false →
     exec (.domainWake dt (some i) a) s = .next (s.after
       (((b.bump Reg.PWR_COUNTS 31 16 1).updDom (domOf a) (fun x =>
         { x with powered := true, ready := false, wakeAt := b.now, touched := b.now })).park (domOf a) (.read (some i) a))))

/-- PWR.CMD starts the entry to Rosemary or Off, or is refused with 0x1021 while a job is live and in Coppice. Entry ends, once no
hold is left, with time captured, the ring stopped and every domain off but AON and TLY (and LIT under a running pattern); in Off
the sessions are closed and the chain address is 0; a wake source latched on the way is replayed. An enabled wake source starts
the wake, is latched during entry and noted during a wake; a lamp over-temperature also puts the lamps out, and a frame for the
engine is held and wakes it. The steps follow one another as they are ready, time goes on as predicted from step 2, and after the
fourth the engine runs; a step that is late ends in a start. -/
def Obligations.TheEngineSleepsAndWakes : Prop :=
  ∀ (dt src k cmd_ : Nat) (n : MemWake) (i : Fin 4) (r : Req) (fwd ok off : Bool) (s : State), let b := s.blk.elapse dt
    let x := b.reached Reg.PWR_CMD
    let cmd : Instr := if off then .enterOff dt (some i) else .enterRosemary dt (some i)
    let found : Prop := src = 3 ∨ b.trigHeld (src - 1) = true
    (b.inRun → b.writeCheck (some i) Reg.PWR_CMD = 0 → b.domReady 0 = true →
      (b.jobs = [] → exec cmd s = .next (s.after ((x.enterSleep off).answer 0 0)) ∧
        Leaves cmd s (fun c => c.pwr.mode = (if off then .enteringOff else .entering) ∧ c.linkUp = false ∧
          c.cal.waiting = [] ∧ c.cal.shareWait = [] ∧ c.lnk.retry = (if b.linkUp then [] else b.lnk.retry) ∧
          c.tly.block = b.tly.block)) ∧
      (b.jobs ≠ [] → exec cmd s = .next (s.after ((x.raise 0x1021).answer 0x1021 0)))) ∧
    (b.pwr.mode = .run → b.sys.mode = .coppice → b.writeCheck (some i) Reg.PWR_CMD = 0 → b.domReady 0 = true →
      exec cmd s = .next (s.after ((x.raise 0x1021).answer 0x1021 0))) ∧
    (b.entryHeld = true → exec (.rosemaryEntered dt) s = .next (s.after b)) ∧
    (b.pwr.mode = (if off then .enteringOff else .entering) → b.entryHeld = false →
      b.time.ringRuns = true → b.doms.length = 26 →
      Leaves (.rosemaryEntered dt) s (fun c =>
        c.time = { b.time with ringRuns := false, capT := b.now, capA := b.time.aon, capNominal := b.time.nominal, tempOk := true } ∧
        c.pwr.mode = (if off then .off else if b.pwr.latched = [] then .rosemary else .waking 1) ∧ c.now = b.now ∧
        (∀ l m, off = false → b.pwr.latched = l :: m → (∀ q ∈ b.pwr.latched, q < 6) → c.regF Reg.PWR_WAKE_SRC 3 0 = l ∧ bitN (c.regN Reg.PWR_WAKE_SRC) 16 = true) ∧
        (∀ d ∈ domCodes, d ≠ 0 → d ≠ 1 → (d = 4 → off = true ∨ (b.sleepRun 0 = false ∧ b.sleepRun 1 = false)) →
          (c.dom d).powered = false ∧ (c.dom d).clamped = true) ∧
        (off = true → b.tly.supplied = true → c.tly.block.count = 0) ∧
        (off = true → c.regN Reg.CHN_ADDR = 0 ∧ (b.ses.slots.length = 4 → ∀ q < 4, (c.slot q).st = .free)) ∧
        (off = false → c.regF Reg.PWR_COUNTS 15 0 = min (b.regF Reg.PWR_COUNTS 15 0 + 1) 65535 ∧ c.store = b.store))) ∧
    (b.pwr.mode = .rosemary → 0 < src → src < 4 →
      (bitN (b.regN Reg.PWR_WAKE_EN) src = true → found → Leaves (.wake dt src none 0) s (fun c =>
        c.regN Reg.PWR_WAKE_SRC = src + 256 * 2 ^ src ∧ c.pwr.mode = .waking 1 ∧ c.pwr.wakeFrom = b.now ∧ c.pwr.stepFrom = b.now ∧
        c.doms = b.doms ∧ c.time = b.time)) ∧
      (bitN (b.regN Reg.PWR_WAKE_EN) src = false ∨ ¬ found → exec (.wake dt src none 0) s = .next (s.after b))) ∧
    (b.pwr.mode = .rosemary → b.alarmDue = false → exec (.wake dt 4 none 0) s = .next (s.after b)) ∧
    (0 < src → src < 4 → bitN (b.regN Reg.PWR_WAKE_EN) src = true → found →
      (b.pwr.mode = .entering → exec (.wake dt src none 0) s = .next (s.after { b with pwr := { b.pwr with
        latched := if b.pwr.latched.contains src then b.pwr.latched else b.pwr.latched ++ [src] } })) ∧
      (b.pwr.mode = .waking k → exec (.wake dt src none 0) s = .next (s.after (b.setF Reg.PWR_WAKE_SRC (8 + src) (8 + src) 1)))) ∧
    (b.pwr.mode = .rosemary →
      (b.regF Reg.LIT_THERM 1 0 ≠ 1 → exec (.wake dt 5 none 0) s = .next (s.after b)) ∧
      (b.regF Reg.LIT_THERM 1 0 = 1 → Leaves (.wake dt 5 none 0) s (fun c => c.regN Reg.PWR_WAKE_SRC = 5 + 256 * 32 ∧ c.pwr.mode = .waking 1 ∧ c.lit.cond = none ∧
        c.lit.prech = none ∧ (c.pat 0).running = false ∧ (c.pat 1).running = false)) ∧
      (r.link = false → r.addr % 128 = b.chainAddr → b.chainAddr < 0x7E → aonCmd (cmd_ % 32) = false → b.pwr.held = none →
        b.pwr.refused = [] → reqSize r ≤ 64 →
        Leaves (.wake dt 0 (some r) cmd_) s (fun c => c.pwr.held = some { r := r, cmd := cmd_ % 32, at_ := b.now } ∧
          c.pwr.mode = .waking 1 ∧ c.regN Reg.PWR_WAKE_SRC = 256 ∧
          c.regF Reg.CHN_WAKES 15 0 = min (b.regF Reg.CHN_WAKES 15 0 + 1) 65535))) ∧
    (b.pwr.mode = .waking k →
      (b.now ≤ b.pwr.stepFrom + b.wakeBound k →
        (k < 4 → k ≠ 3 → exec (.wakeStepReady dt fwd n) s = .next (s.after (b.wakeStepDone k fwd))) ∧
        (4 ≤ k → exec (.wakeStepReady dt fwd n) s = .next (s.after ((b.wakeStepDone k fwd).logicReady.handOver))) ∧
        (k = 1 → Leaves (.wakeStepReady dt fwd n) s (fun c => c.pwr.mode = .waking 2 ∧ c.pwr.stepFrom = b.now ∧ c.now = b.now ∧
          c.time = b.time ∧ c.doms = b.doms)) ∧
        (k = 3 → exec (.wakeStepReady dt fwd n) s = .next (s.after ((b.wakeStepDone 3 fwd).memWake n)) ∧
          (b.mem.chans.length = 2 → (b.memCh 1).ranks.length = (b.memCh 0).ranks.length →
            Leaves (.wakeStepReady dt fwd n) s (fun c => ∀ h < 2, ∀ q < (b.memCh 0).ranks.length, let u := (c.memCh h).rank q
              u.debt = 0 ∧ u.down = false ∧ u.mr4At = b.now ∧ u.mr4 = n.codes.getD (h * (b.memCh 0).ranks.length + q) 0 % 8))) ∧
        (k = 2 → b.time.ringRuns = false → b.time.lost = false → Leaves (.wakeStepReady dt fwd n) s (fun c =>
          c.now = b.time.capT + (2 * ((b.time.aon + 2 ^ 48 - b.time.capA) % 2 ^ 48 * b.time.period) + 2 ^ 24) / 2 ^ 25 ∧
          c.time.ringRuns = true ∧ c.pwr.mode = .waking 3 ∧ c.time.valid = b.time.valid)) ∧
        (k = 4 → b.pwr.held = none → b.pwr.refused = [] → b.linkUp = false → Leaves (.wakeStepReady dt fwd n) s (fun c =>
          c.pwr.mode = .run ∧ (bitN (b.regN Reg.LNK_CTL) 1 = false → c.lnk.state = .detect) ∧ c.jobs = b.jobs ∧ c.store = b.store))) ∧
      (b.pwr.stepFrom + b.wakeBound k ≤ b.now →
        (b.tly.supplied = true → exec (.pwrWakeStep dt ok) s = .next (s.after (((b.beginStart true).raise 0x1031).tallyRestart ok 1))) ∧
        (b.tly.supplied = false → exec (.pwrWakeStep dt ok) s = .next (s.after ((b.beginStart true).raise 0x1031))) ∧
        Leaves (.pwrWakeStep dt ok) s (fun c => c.sys.mode = .starting ∧ c.pwr.mode = .run ∧ c.jobs = [] ∧
          c.regN Reg.SYS_STARTS = (b.regN Reg.SYS_STARTS + 1) % 2 ^ 32)))

/-- The AON period is the ticks of its window over its cycles, rounded; a temperature sample beyond 5 °C marks the sleep;
TMB.SET_HI sets the counter, or is refused with 0x1042; the alarm is armed, fires and is disarmed; UNCERT is cleared. -/
def Obligations.TimeIsKeptAndSet : Prop :=
  ∀ (dt cycles temp : Nat) (i : Fin 4) (v : Word) (s : State), let b := s.blk.elapse dt
    let reach (a : Nat) : Prop := b.inRun ∧ b.writeCheck (some i) a = 0 ∧ b.domReady 0 = true
    let acked (c : Blk) : Prop := c.acc = { stalled := false, status := 0, value := 0 }
    let at_ := b.time.setLo + v.toNat * 2 ^ 32
    (b.time.ringRuns = true → cycles ≠ 0 → b.time.windowFrom + 31250000 ≤ b.now → Leaves (.aonWindow dt cycles temp) s (fun c =>
      c.time = { b.time with period := min ((31250000 * 2 ^ 25 + cycles) / (2 * cycles)) (2 ^ 32 - 1), nominal := false,
                             windowAt := some b.now, windowFrom := b.now, aon := (b.time.aon + cycles) % 2 ^ 48 } ∧
      c.regF Reg.TMB_TEMP 15 0 = temp % 65536 ∧ c.regF Reg.TMB_TEMP 31 16 = temp % 65536 ∧ c.now = b.now)) ∧
    (b.time.ringRuns = false → temp < 65536 → Leaves (.aonTempSample dt temp) s (fun c => c.regF Reg.TMB_TEMP 15 0 = temp ∧
      c.regF Reg.TMB_TEMP 31 16 = b.regF Reg.TMB_TEMP 31 16 ∧
      c.time = { b.time with tempOk := b.time.tempOk && decide ((sgn 16 temp - sgn 16 (b.regF Reg.TMB_TEMP 31 16)).natAbs ≤ 1280) })) ∧
    (reach Reg.TMB_SET_HI →
      (b.time.valid = false → b.jobs = [] → b.now ≤ at_ → Leaves (.tmbSet dt (some i) v) s (fun c =>
        c.now = at_ ∧ c.time.valid = true ∧ c.time.uncert = 0 ∧ c.regs = b.regs ∧ acked c)) ∧
      (b.time.valid = true ∨ b.jobs ≠ [] ∨ at_ < b.now →
        exec (.tmbSet dt (some i) v) s = .next (s.after (((b.reached Reg.TMB_SET_HI).raise 0x1042).answer 0x1042 0)))) ∧
    (reach Reg.TMB_ALARM_HI → Leaves (.tmbAlarmArm dt (some i) v) s (fun c => acked c ∧ c.reg Reg.TMB_ALARM_HI = v ∧
      (b.now < b.regN Reg.TMB_ALARM_LO + v.toNat * 2 ^ 32 → bitN (c.regN Reg.TMB_ALARM_CTL) 0 = true) ∧
      (b.regN Reg.TMB_ALARM_LO + v.toNat * 2 ^ 32 ≤ b.now →
        bitN (c.regN Reg.TMB_ALARM_CTL) 0 = false ∧ bitN (c.regN Reg.TMB_ALARM_CTL) 1 = true))) ∧
    (bitN (b.regN Reg.TMB_ALARM_CTL) 0 = true → b.pair Reg.TMB_ALARM_LO ≤ b.now → b.pwr.mode = .run →
      Leaves (.tmbAlarm dt) s (fun c => bitN (c.regN Reg.TMB_ALARM_CTL) 0 = false ∧ bitN (c.regN Reg.TMB_ALARM_CTL) 1 = true ∧
        bitN (c.regN (Reg.HDR_EVT_LATCH 0x07)) 3 = true ∧ c.now = b.now ∧ c.jobs = b.jobs)) ∧
    (reach Reg.TMB_ALARM_CTL → valueOk Reg.TMB_ALARM_CTL v.toNat = true → bitN v.toNat 0 = false →
      exec (.alarmDisarm dt (some i) v) s = .next (s.after (((b.reached Reg.TMB_ALARM_CTL).setF Reg.TMB_ALARM_CTL 0 0 0).answer 0 0))) ∧
    (reach Reg.TMB_CTL → Leaves (.uncertClear dt (some i)) s (fun c => c.time = { b.time with uncert := 0 } ∧ acked c ∧ c.regs = b.regs))

/-! ### Starts, spares and faults (17, 18) -/

/-- PORST_N or a lost rail ends all work and keeps the keys and Tally; its release, a retry and a restart begin a start at S1;
a start whose phases pass ends ready with the failed-start count at 0; one that fails is counted, recorded and, the third
time, followed by a Coppice start, which ends in Coppice on the first engine that passes, or halted when none does. -/
def Obligations.StartsRunThroughTheirPhases : Prop :=
  ∀ (dt rail t e : Nat) (i : Fin 4) (ok : Bool) (o : StartOutcome) (s : State), let b := s.blk.elapse dt
    let x := b.reached Reg.SYS_START_CTL
    let ended (c : Blk) : Prop := c.pwr.mode = .reset ∧ c.jobs = [] ∧ c.bundles = [] ∧ c.lit.cond = none ∧ c.linkUp = false ∧
      c.time.ringRuns = false ∧ c.regN Reg.CHN_ADDR = 0 ∧ c.ses.opKey = b.ses.opKey ∧ c.ses.svcKey = b.ses.svcKey ∧
      c.ses.sealKey = b.ses.sealKey ∧ (∀ n < 4, (c.slot n).st = .free)
    let begun (c : Blk) : Prop := c.sys.mode = .starting ∧ c.sys.phase = 1 ∧ c.pwr.mode = .run ∧ c.jobs = [] ∧ c.time.ringRuns = true ∧
      c.regN Reg.SYS_STARTS = (b.regN Reg.SYS_STARTS + 1) % 2 ^ 32 ∧ c.regN Reg.SYS_FAILED_STARTS = b.regN Reg.SYS_FAILED_STARTS
    (b.pwr.mode ≠ .reset → Leaves (.porstAssert dt) s (fun c => ended c ∧ c.now = b.now ∧ c.tly = b.tly)) ∧
    (rail ≠ 2 → rail < 9 → Leaves (.supplyOutOfRange dt rail) s (fun c => ended c ∧ c.tly = { b.tly with store := [] })) ∧
    (exec (.supplyOutOfRange dt 2) s = .next (s.after (({ b with tly := { b.tly with supplied := false, tampOwed := [] } } : Blk).closeSeal))) ∧
    Leaves (.aonPowerOn dt) s (fun c => ended c ∧ c.now = 0 ∧ c.time.valid = false ∧ c.time.lost = true) ∧
    (b.pwr.mode = .reset → Leaves (.porstRelease dt ok) s (fun c => begun c ∧
      c.regN Reg.THM_POWER_CYCLES = (b.regN Reg.THM_POWER_CYCLES + 1) % 2 ^ 32)) ∧
    (b.sys.retryAt = some t → t + 31250000 ≤ b.now → Leaves (.startRetryDelay dt) s begun) ∧
    (b.writeCheck (some i) Reg.SYS_START_CTL = 0 → b.domReady 7 = true →
      (b.inRun → exec (.clearCount dt (some i)) s = .next (s.after ((x.setN Reg.SYS_FAILED_STARTS 0).answer 0 0))) ∧
      (b.pwr.mode = .run → b.sys.mode = .coppice →
        exec (.clearCount dt (some i)) s = .next (s.after (((x.setN Reg.SYS_FAILED_STARTS 0).raise 0xA084).answer 0 0))) ∧
      (b.inRun → b.jobs = [] → Leaves (.restart dt (some i)) s (fun c => begun c ∧ c.sys.coppiceStart = false)) ∧
      (b.inRun → b.jobs ≠ [] → exec (.restart dt (some i)) s = .next (s.after ((x.raise 0xA085).answer 0xA085 0)))) ∧
    (b.sys.mode = .starting → b.pwr.mode = .run → b.sys.phase = 1 → b.sys.retryAt = none → b.pwr.hotStop = false → b.tly.supplied = true →
      let n := b.regF Reg.SYS_FAILED_STARTS 7 0
      (b.sys.coppiceStart = false → n < 3 →
        (o.s1 < 3 → o.nvBad = false → o.s3 < 3 → (trainEnd o.mem).fault = 0 → 4 ≤ popcount 18 o.engines → o.macros = [] → o.s6 < 3 →
          Leaves (.start dt o) s (fun c => c.inRun ∧ c.sys.phase = 7 ∧ c.regN Reg.SYS_FAILED_STARTS = 0 ∧
            c.regN (Reg.SYS_START_HIST_A 0) = 271 ∧ c.regN (Reg.SYS_START_HIST_B 0) = b.regN Reg.SYS_STARTS ∧
            c.regF Reg.THM_TEMP 15 0 = o.temp % 65536)) ∧
        (o.s1 < 3 → o.nvBad = false → o.s3 < 3 → (trainEnd o.mem).fault ≠ 0 → n < 2 → Leaves (.start dt o) s (fun c =>
          c.sys.mode = .starting ∧ c.sys.retryAt = some b.now ∧ c.regF Reg.SYS_FAILED_STARTS 7 0 = n + 1 ∧
          c.regN (Reg.SYS_START_HIST_A 0) = 4 + 256 * ((trainEnd o.mem).attempts % 4) + 65536 * (trainEnd o.mem).fault)) ∧
        (3 ≤ o.s1 → n < 2 → Leaves (.start dt o) s (fun c => c.sys.mode = .starting ∧ c.sys.retryAt = some b.now ∧
          c.regF Reg.SYS_FAILED_STARTS 7 0 = n + 1 ∧ c.regN (Reg.SYS_START_HIST_A 0) = 0xA0110301 ∧
          c.regN (Reg.SYS_START_HIST_B 0) = b.regN Reg.SYS_STARTS)) ∧
        (3 ≤ o.s1 → n = 2 → Leaves (.start dt o) s (fun c => c.sys.mode = .starting ∧ c.sys.phase = 1 ∧ c.sys.coppiceStart = true ∧
          c.sys.retryAt = none ∧ c.regF Reg.SYS_FAILED_STARTS 7 0 = 3))) ∧
      ((b.sys.coppiceStart = true ∨ 3 ≤ n) → o.s1 < 3 → o.nvBad = false → o.s3 < 3 →
        (lowestBit 18 o.engines = some e → Leaves (.start dt o) s (fun c => c.sys.mode = .coppice ∧ c.sys.coppiceEng = e ∧
          c.regN Reg.DECC_ACTIVE = 2 ^ e ∧ c.regN (Reg.SYS_START_HIST_A 0) = 0x116 ∧ c.regF (Reg.HDR_FAULT 0x01) 15 0 = 0xA081)) ∧
        (lowestBit 18 o.engines = none → Leaves (.start dt o) s (fun c => c.sys.mode = .halted ∧ c.regF (Reg.HDR_FAULT 0x01) 15 0 = 0xA091))))

/-- An offer starts a recovery or queues, a failed unit's before a worn one's. A spare engine takes a failed one's place, the spare
ADC an ADC's at its safe point, or after 30 ms at once for a failed one, the spare key slot a slot's; the recovery then ends.
A second fault, or a watchdog, restarts the domain; the restart's end makes it ready again. -/
def Obligations.SparesTakeOver : Prop :=
  ∀ (dt u k d : Nat) (r h : Recovery) (l : List Recovery) (q : List Nat) (s : State), let b := s.blk.elapse dt
    let ended (c : Blk) : Prop := c.ust.queue = [] ∧ c.ust.running = false ∧
      c.regF Reg.UST_COUNTS 15 0 = min (b.regF Reg.UST_COUNTS 15 0 + 1) 65535
    let restarted (c : Blk) : Prop := (c.dom d).ready = false ∧ (c.dom d).clamped = true ∧ (c.dom d).restartAt = some b.now
    (b.coppice = false → u < 3 → b.ust.keySpared = [] →
      (b.ust.queue = [] → exec (.understoryOffer dt 7 u true) s = .next (s.after
        { b with ust := { b.ust with running := true, queue := [{ kind := .key, u := u, wear := true, since := b.now }] } })) ∧
      (b.ust.queue = h :: l → (h :: l).any (fun x => x.kind == .key && x.u == u) = false →
        exec (.understoryOffer dt 7 u true) s = .next (s.after (({ b with ust := { b.ust with queue :=
          h :: l ++ [{ kind := .key, u := u, wear := true, since := b.now }] } } : Blk).raise 0xA101)))) ∧
    (b.ust.keySpared.contains 0 = false → Leaves (.understoryOffer dt 7 0 false) s (fun c => c.ses.opKey = .empty ∧
      c.ses.svcKey = b.ses.svcKey ∧ c.ses.sealKey = b.ses.sealKey)) ∧
    (∀ (x : Recovery) (m : List Recovery), x.wear = false → (∀ y ∈ m, y.wear = true) → placeOffer x m = x :: m) ∧
    (b.recovery = some r → b.ust.queue = [r] →
      (r.kind = .engine → r.u = u → u < 18 → k < 18 → u ≠ k → b.spareEngines = k :: q → b.domReady (0x10 + k) = true →
        Leaves (.spareInsert dt) s (fun c => bitN (c.regN Reg.DECC_ACTIVE) k = true ∧ bitN (c.regN Reg.DECC_ACTIVE) u = false ∧
          bitN (c.regN Reg.DECC_RETIRED) u = true ∧ bitN (c.regN Reg.DECC_SPARE) k = false ∧ ended c)) ∧
      (r.kind = .key → Leaves (.spareInsert dt) s (fun c => c.ust.keySpared = r.u :: b.ust.keySpared ∧ ended c)) ∧
      (r.kind = .adc → r.u = u → u < 8 → b.pd.chans.length = 8 →
        (b.adcSafe u = false → exec (.spareInsert dt) s = .next (s.after b.loseAdcs)) ∧
        (b.adcSafe u = true → Leaves (.spareInsert dt) s (fun c => (c.pdch u).adc = 8 ∧ (c.pdch u).adcBad = false ∧ ended c)) ∧
        (r.wear = false → r.since + 9375000 ≤ b.now → Leaves (.safePointTimeout dt) s (fun c =>
          (c.pdch u).adc = 8 ∧ (c.pdch u).adcBad = false ∧ ended c))) ∧
      (b.doms.length = 26 → d = b.unitDom r.kind r.u → d ∈ domCodes → Leaves (.ustEscalated dt) s (fun c => restarted c ∧
        c.ust.restarting = some d ∧ c.ust.queue = [{ r with escalated := true }] ∧
        c.regF Reg.UST_COUNTS 31 16 = min (b.regF Reg.UST_COUNTS 31 16 + 1) 65535))) ∧
    (b.inRun → d ∈ domCodes → b.doms.length = 26 → d ≠ 0 → d ≠ 1 → (b.dom d).powered = true → (b.dom d).restartAt = none →
      exec (.domainWatchdog dt d) s = .next (s.after ((b.raise 0xA112).restartFor d 0xA112)) ∧ Leaves (.domainWatchdog dt d) s restarted) ∧
    (b.restartingDom = some d → d ∈ domCodes → b.doms.length = 26 → (b.dom d).powered = true → b.chn.stalls = [] →
      (d ≠ 3 → d ≠ 6 → b.ust.restarting = none → Leaves (.domainRestartDone dt) s (fun c => (c.dom d).ready = true ∧ (c.dom d).clamped = false ∧
        (c.dom d).restartAt = none ∧ c.regF Reg.UST_COUNTS 15 0 = min (b.regF Reg.UST_COUNTS 15 0 + 1) 65535)))

/-- Above THM.LIMITS.warn 0x1051 is raised once per crossing; at 125 °C every conduction ends, every job and session is gone,
and the engine enters the state of Off. -/
def Obligations.HeatIsWatched : Prop :=
  ∀ (dt temp : Nat) (s : State), let b := s.blk.elapse dt
    let warn : Int := 256 * (b.regF Reg.THM_LIMITS 7 0 : Nat)
    let high := if sgn 16 (b.regF Reg.THM_TEMP 31 16) < sgn 16 temp then temp % 65536 else b.regF Reg.THM_TEMP 31 16
    let seen := b.setN Reg.THM_TEMP (temp % 65536 + 65536 * high)
    (warn < sgn 16 temp → sgn 16 (b.regF Reg.THM_TEMP 15 0) ≤ warn → exec (.thmHot dt temp) s = .next (s.after (seen.raise 0x1051))) ∧
    (sgn 16 temp ≤ warn ∨ warn < sgn 16 (b.regF Reg.THM_TEMP 15 0) → exec (.thmHot dt temp) s = .next (s.after seen)) ∧
    (b.pwr.mode = .run → (32000 : Int) ≤ sgn 16 temp → Leaves (.thmShutdown dt temp) s (fun c =>
      c.pwr.mode = .off ∧ c.pwr.hotStop = true ∧ c.jobs = [] ∧ c.sns.frames = [] ∧ c.swp.sweeps = [] ∧ c.lit.cond = none ∧ c.linkUp = false ∧
      c.time.ringRuns = false ∧ c.now = b.now ∧ (b.ses.slots.length = 4 → ∀ n < 4, (c.slot n).st = .free) ∧
      (b.doms.length = 26 → ∀ d ∈ domCodes, d ≠ 0 → d ≠ 1 → (c.dom d).powered = false)))
end

