-- ==== Sys2Proof/Laws/Crypto.lean ====
section
/-! SUPPORT. Lemmas about the byte lists and the ciphers of 13: a little-endian value and its bytes, and the lengths of a round key, an
AES block and a CMAC. -/

namespace Sys2Proof.Laws

open Sys2Proof.Machine

theorem unle_lt (l : List Byte) : unle l < 256 ^ l.length := by
  induction l with
  | nil => simp [unle]
  | cons b l ih => simp only [unle, List.length_cons, Nat.pow_succ]; have := b.isLt; omega

theorem le_unle (l : List Byte) : le l.length (unle l) = l := by
  induction l with
  | nil => rfl
  | cons b l ih =>
    simp only [unle, List.length_cons, le]
    have hb : b.toNat < 256 := b.isLt
    have h1 : (b.toNat + 256 * unle l) % 256 = b.toNat := by omega
    have h2 : (b.toNat + 256 * unle l) / 256 = unle l := by omega
    rw [h1, h2, ih, BitVec.ofNat_toNat]
    simp

theorem unle_le (n v : Nat) : unle (le n v) = v % 256 ^ n := by
  induction n generalizing v with
  | zero => simp [le, unle, Nat.mod_one]
  | succ n ih =>
    simp only [le, unle, ih, BitVec.toNat_ofNat]
    have : v % 256 % 2 ^ 8 = v % 256 := Nat.mod_eq_of_lt (by omega)
    rw [this, Nat.pow_succ, Nat.mul_comm (256 ^ n), Nat.mod_mul]

theorem le_length (n v : Nat) : (le n v).length = n := by
  induction n generalizing v with
  | zero => rfl
  | succ n ih => simp [le, ih]

theorem xorL_length (a b : List Nat) : (xorL a b).length = min a.length b.length := by
  simp [xorL]

theorem nextKey_length (k : List Nat) (rc : Nat) (h : k.length = 16) : (nextKey k rc).length = 16 := by
  simp [nextKey, xorL, h]

theorem aes_length (k b : List Nat) (h : k.length = 16) : (aes k b).length = 16 := by
  have key : ∀ (l : List Nat) (a : List Nat × List Nat × Nat), a.2.1.length = 16 →
      (l.foldl (fun (a : List Nat × List Nat × Nat) _ =>
        (xorL (((List.range 4).map (fun i => mixCol (((subShift a.1).drop (4 * i)).take 4))).flatten) (nextKey a.2.1 a.2.2),
          nextKey a.2.1 a.2.2, aesMul a.2.2 2)) a).2.1.length = 16 := by
    intro l
    induction l with
    | nil => intro a h; exact h
    | cons x l ih => intro a h; exact ih _ (nextKey_length _ _ h)
  have h2 := key (List.range 9) (xorL b k, k, 1) h
  refine (xorL_length _ _).trans ?_
  rw [nextKey_length _ _ h2]
  simp [subShift]

/-- A CMAC has 16 bytes. -/
theorem cmac_length (k m : List Byte) (h : k.length = 16) : (cmac k m).length = 16 := by
  simp only [cmac, List.length_map]
  exact aes_length _ _ (by simpa using h)

end Sys2Proof.Laws
end

