-- ==== Sys2Proof/Laws/State.lean ====
section
/-! SUPPORT. What every small update of the engine leaves in every field: one lemma per field per update, each by
unfolding alone, and the short forms of a register update brought back to setReg. -/
namespace Sys2Proof.Machine

/-! ### Short forms of setReg -/

@[simp] theorem Blk.setN_eq (s : Blk) (a n : Nat) : s.setN a n = s.setReg a (BitVec.ofNat 32 n) := rfl
@[simp] theorem Blk.setF_eq (s : Blk) (a hi lo v : Nat) :
    s.setF a hi lo v = s.setReg a (BitVec.ofNat 32 (putFld (s.regN a) hi lo v)) := rfl
@[simp] theorem Blk.bump_eq (s : Blk) (a hi lo k : Nat) :
    s.bump a hi lo k = s.setReg a (BitVec.ofNat 32 (putFld (s.regN a) hi lo (sat (hi + 1 - lo) (s.regF a hi lo + k)))) := rfl
@[simp] theorem Blk.count_eq (s : Blk) (a k : Nat) : s.count a k = s.setReg a (BitVec.ofNat 32 (s.regN a + k)) := rfl
@[simp] theorem Blk.atLeast_eq (s : Blk) (a hi lo v : Nat) : s.atLeast a hi lo v =
    s.setReg a (BitVec.ofNat 32 (putFld (s.regN a) hi lo (max (s.regF a hi lo) (sat (hi + 1 - lo) v)))) := rfl
@[simp] theorem Blk.clearFault_eq (s : Blk) (page : Nat) :
    s.clearFault page = s.setReg (Reg.HDR_FAULT page) (BitVec.ofNat 32 0) := rfl
@[simp] theorem Blk.clearLatch_eq (s : Blk) (page bits : Nat) : s.clearLatch page bits =
    s.setReg (Reg.HDR_EVT_LATCH page) (s.reg (Reg.HDR_EVT_LATCH page) &&& ~~~(BitVec.ofNat 32 bits)) := rfl

/-! ### A register set -/

@[simp] theorem Blk.setReg_now (s : Blk) (a : Nat) (v : Word) : (s.setReg a v).now = s.now := rfl
@[simp] theorem Blk.setReg_free (s : Blk) (a : Nat) (v : Word) : (s.setReg a v).free = s.free := rfl
@[simp] theorem Blk.setReg_hiCapture (s : Blk) (a : Nat) (v : Word) : (s.setReg a v).hiCapture = s.hiCapture := rfl
@[simp] theorem Blk.setReg_selectors (s : Blk) (a : Nat) (v : Word) : (s.setReg a v).selectors = s.selectors := rfl
@[simp] theorem Blk.setReg_time (s : Blk) (a : Nat) (v : Word) : (s.setReg a v).time = s.time := rfl
@[simp] theorem Blk.setReg_doms (s : Blk) (a : Nat) (v : Word) : (s.setReg a v).doms = s.doms := rfl
@[simp] theorem Blk.setReg_pwr (s : Blk) (a : Nat) (v : Word) : (s.setReg a v).pwr = s.pwr := rfl
@[simp] theorem Blk.setReg_sys (s : Blk) (a : Nat) (v : Word) : (s.setReg a v).sys = s.sys := rfl
@[simp] theorem Blk.setReg_ust (s : Blk) (a : Nat) (v : Word) : (s.setReg a v).ust = s.ust := rfl
@[simp] theorem Blk.setReg_bnd (s : Blk) (a : Nat) (v : Word) : (s.setReg a v).bnd = s.bnd := rfl
@[simp] theorem Blk.setReg_evt (s : Blk) (a : Nat) (v : Word) : (s.setReg a v).evt = s.evt := rfl
@[simp] theorem Blk.setReg_gpc (s : Blk) (a : Nat) (v : Word) : (s.setReg a v).gpc = s.gpc := rfl
@[simp] theorem Blk.setReg_pins (s : Blk) (a : Nat) (v : Word) : (s.setReg a v).pins = s.pins := rfl
@[simp] theorem Blk.setReg_ses (s : Blk) (a : Nat) (v : Word) : (s.setReg a v).ses = s.ses := rfl
@[simp] theorem Blk.setReg_chn (s : Blk) (a : Nat) (v : Word) : (s.setReg a v).chn = s.chn := rfl
@[simp] theorem Blk.setReg_acc (s : Blk) (a : Nat) (v : Word) : (s.setReg a v).acc = s.acc := rfl
@[simp] theorem Blk.setReg_wire (s : Blk) (a : Nat) (v : Word) : (s.setReg a v).wire = s.wire := rfl
@[simp] theorem Blk.setReg_lnk (s : Blk) (a : Nat) (v : Word) : (s.setReg a v).lnk = s.lnk := rfl
@[simp] theorem Blk.setReg_mem (s : Blk) (a : Nat) (v : Word) : (s.setReg a v).mem = s.mem := rfl
@[simp] theorem Blk.setReg_jobs (s : Blk) (a : Nat) (v : Word) : (s.setReg a v).jobs = s.jobs := rfl
@[simp] theorem Blk.setReg_hist (s : Blk) (a : Nat) (v : Word) : (s.setReg a v).hist = s.hist := rfl
@[simp] theorem Blk.setReg_store (s : Blk) (a : Nat) (v : Word) : (s.setReg a v).store = s.store := rfl
@[simp] theorem Blk.setReg_sns (s : Blk) (a : Nat) (v : Word) : (s.setReg a v).sns = s.sns := rfl
@[simp] theorem Blk.setReg_dec (s : Blk) (a : Nat) (v : Word) : (s.setReg a v).dec = s.dec := rfl
@[simp] theorem Blk.setReg_pd (s : Blk) (a : Nat) (v : Word) : (s.setReg a v).pd = s.pd := rfl
@[simp] theorem Blk.setReg_swp (s : Blk) (a : Nat) (v : Word) : (s.setReg a v).swp = s.swp := rfl
@[simp] theorem Blk.setReg_tly (s : Blk) (a : Nat) (v : Word) : (s.setReg a v).tly = s.tly := rfl
@[simp] theorem Blk.setReg_cal (s : Blk) (a : Nat) (v : Word) : (s.setReg a v).cal = s.cal := rfl
@[simp] theorem Blk.setReg_lit (s : Blk) (a : Nat) (v : Word) : (s.setReg a v).lit = s.lit := rfl

/-! ### The pins brought up to date -/

@[simp] theorem Blk.settle_now (s : Blk)  : (s.settle).now = s.now := rfl
@[simp] theorem Blk.settle_free (s : Blk)  : (s.settle).free = s.free := rfl
@[simp] theorem Blk.settle_regs (s : Blk)  : (s.settle).regs = s.regs := rfl
@[simp] theorem Blk.settle_hiCapture (s : Blk)  : (s.settle).hiCapture = s.hiCapture := rfl
@[simp] theorem Blk.settle_selectors (s : Blk)  : (s.settle).selectors = s.selectors := rfl
@[simp] theorem Blk.settle_time (s : Blk)  : (s.settle).time = s.time := rfl
@[simp] theorem Blk.settle_doms (s : Blk)  : (s.settle).doms = s.doms := rfl
@[simp] theorem Blk.settle_pwr (s : Blk)  : (s.settle).pwr = s.pwr := rfl
@[simp] theorem Blk.settle_sys (s : Blk)  : (s.settle).sys = s.sys := rfl
@[simp] theorem Blk.settle_ust (s : Blk)  : (s.settle).ust = s.ust := rfl
@[simp] theorem Blk.settle_bnd (s : Blk)  : (s.settle).bnd = s.bnd := rfl
@[simp] theorem Blk.settle_evt (s : Blk)  : (s.settle).evt = s.evt := rfl
@[simp] theorem Blk.settle_gpc (s : Blk)  : (s.settle).gpc = s.gpc := rfl
@[simp] theorem Blk.settle_ses (s : Blk)  : (s.settle).ses = s.ses := rfl
@[simp] theorem Blk.settle_chn (s : Blk)  : (s.settle).chn = s.chn := rfl
@[simp] theorem Blk.settle_acc (s : Blk)  : (s.settle).acc = s.acc := rfl
@[simp] theorem Blk.settle_wire (s : Blk)  : (s.settle).wire = s.wire := rfl
@[simp] theorem Blk.settle_lnk (s : Blk)  : (s.settle).lnk = s.lnk := rfl
@[simp] theorem Blk.settle_mem (s : Blk)  : (s.settle).mem = s.mem := rfl
@[simp] theorem Blk.settle_jobs (s : Blk)  : (s.settle).jobs = s.jobs := rfl
@[simp] theorem Blk.settle_hist (s : Blk)  : (s.settle).hist = s.hist := rfl
@[simp] theorem Blk.settle_store (s : Blk)  : (s.settle).store = s.store := rfl
@[simp] theorem Blk.settle_sns (s : Blk)  : (s.settle).sns = s.sns := rfl
@[simp] theorem Blk.settle_dec (s : Blk)  : (s.settle).dec = s.dec := rfl
@[simp] theorem Blk.settle_pd (s : Blk)  : (s.settle).pd = s.pd := rfl
@[simp] theorem Blk.settle_swp (s : Blk)  : (s.settle).swp = s.swp := rfl
@[simp] theorem Blk.settle_tly (s : Blk)  : (s.settle).tly = s.tly := rfl
@[simp] theorem Blk.settle_cal (s : Blk)  : (s.settle).cal = s.cal := rfl
@[simp] theorem Blk.settle_lit (s : Blk)  : (s.settle).lit = s.lit := rfl

/-! ### Output on a port -/

@[simp] theorem Blk.send_now (s : Blk) (w : Wire) : (s.send w).now = s.now := rfl
@[simp] theorem Blk.send_free (s : Blk) (w : Wire) : (s.send w).free = s.free := rfl
@[simp] theorem Blk.send_regs (s : Blk) (w : Wire) : (s.send w).regs = s.regs := rfl
@[simp] theorem Blk.send_hiCapture (s : Blk) (w : Wire) : (s.send w).hiCapture = s.hiCapture := rfl
@[simp] theorem Blk.send_selectors (s : Blk) (w : Wire) : (s.send w).selectors = s.selectors := rfl
@[simp] theorem Blk.send_time (s : Blk) (w : Wire) : (s.send w).time = s.time := rfl
@[simp] theorem Blk.send_doms (s : Blk) (w : Wire) : (s.send w).doms = s.doms := rfl
@[simp] theorem Blk.send_pwr (s : Blk) (w : Wire) : (s.send w).pwr = s.pwr := rfl
@[simp] theorem Blk.send_sys (s : Blk) (w : Wire) : (s.send w).sys = s.sys := rfl
@[simp] theorem Blk.send_ust (s : Blk) (w : Wire) : (s.send w).ust = s.ust := rfl
@[simp] theorem Blk.send_bnd (s : Blk) (w : Wire) : (s.send w).bnd = s.bnd := rfl
@[simp] theorem Blk.send_evt (s : Blk) (w : Wire) : (s.send w).evt = s.evt := rfl
@[simp] theorem Blk.send_gpc (s : Blk) (w : Wire) : (s.send w).gpc = s.gpc := rfl
@[simp] theorem Blk.send_pins (s : Blk) (w : Wire) : (s.send w).pins = s.pins := rfl
@[simp] theorem Blk.send_ses (s : Blk) (w : Wire) : (s.send w).ses = s.ses := rfl
@[simp] theorem Blk.send_chn (s : Blk) (w : Wire) : (s.send w).chn = s.chn := rfl
@[simp] theorem Blk.send_acc (s : Blk) (w : Wire) : (s.send w).acc = s.acc := rfl
@[simp] theorem Blk.send_lnk (s : Blk) (w : Wire) : (s.send w).lnk = s.lnk := rfl
@[simp] theorem Blk.send_mem (s : Blk) (w : Wire) : (s.send w).mem = s.mem := rfl
@[simp] theorem Blk.send_jobs (s : Blk) (w : Wire) : (s.send w).jobs = s.jobs := rfl
@[simp] theorem Blk.send_hist (s : Blk) (w : Wire) : (s.send w).hist = s.hist := rfl
@[simp] theorem Blk.send_store (s : Blk) (w : Wire) : (s.send w).store = s.store := rfl
@[simp] theorem Blk.send_sns (s : Blk) (w : Wire) : (s.send w).sns = s.sns := rfl
@[simp] theorem Blk.send_dec (s : Blk) (w : Wire) : (s.send w).dec = s.dec := rfl
@[simp] theorem Blk.send_pd (s : Blk) (w : Wire) : (s.send w).pd = s.pd := rfl
@[simp] theorem Blk.send_swp (s : Blk) (w : Wire) : (s.send w).swp = s.swp := rfl
@[simp] theorem Blk.send_tly (s : Blk) (w : Wire) : (s.send w).tly = s.tly := rfl
@[simp] theorem Blk.send_cal (s : Blk) (w : Wire) : (s.send w).cal = s.cal := rfl
@[simp] theorem Blk.send_lit (s : Blk) (w : Wire) : (s.send w).lit = s.lit := rfl

/-! ### The outcome of an access -/

@[simp] theorem Blk.answer_now (s : Blk) (status value : Nat) : (s.answer status value).now = s.now := rfl
@[simp] theorem Blk.answer_free (s : Blk) (status value : Nat) : (s.answer status value).free = s.free := rfl
@[simp] theorem Blk.answer_regs (s : Blk) (status value : Nat) : (s.answer status value).regs = s.regs := rfl
@[simp] theorem Blk.answer_hiCapture (s : Blk) (status value : Nat) : (s.answer status value).hiCapture = s.hiCapture := rfl
@[simp] theorem Blk.answer_selectors (s : Blk) (status value : Nat) : (s.answer status value).selectors = s.selectors := rfl
@[simp] theorem Blk.answer_time (s : Blk) (status value : Nat) : (s.answer status value).time = s.time := rfl
@[simp] theorem Blk.answer_doms (s : Blk) (status value : Nat) : (s.answer status value).doms = s.doms := rfl
@[simp] theorem Blk.answer_pwr (s : Blk) (status value : Nat) : (s.answer status value).pwr = s.pwr := rfl
@[simp] theorem Blk.answer_sys (s : Blk) (status value : Nat) : (s.answer status value).sys = s.sys := rfl
@[simp] theorem Blk.answer_ust (s : Blk) (status value : Nat) : (s.answer status value).ust = s.ust := rfl
@[simp] theorem Blk.answer_bnd (s : Blk) (status value : Nat) : (s.answer status value).bnd = s.bnd := rfl
@[simp] theorem Blk.answer_evt (s : Blk) (status value : Nat) : (s.answer status value).evt = s.evt := rfl
@[simp] theorem Blk.answer_gpc (s : Blk) (status value : Nat) : (s.answer status value).gpc = s.gpc := rfl
@[simp] theorem Blk.answer_pins (s : Blk) (status value : Nat) : (s.answer status value).pins = s.pins := rfl
@[simp] theorem Blk.answer_ses (s : Blk) (status value : Nat) : (s.answer status value).ses = s.ses := rfl
@[simp] theorem Blk.answer_chn (s : Blk) (status value : Nat) : (s.answer status value).chn = s.chn := rfl
@[simp] theorem Blk.answer_wire (s : Blk) (status value : Nat) : (s.answer status value).wire = s.wire := rfl
@[simp] theorem Blk.answer_lnk (s : Blk) (status value : Nat) : (s.answer status value).lnk = s.lnk := rfl
@[simp] theorem Blk.answer_mem (s : Blk) (status value : Nat) : (s.answer status value).mem = s.mem := rfl
@[simp] theorem Blk.answer_jobs (s : Blk) (status value : Nat) : (s.answer status value).jobs = s.jobs := rfl
@[simp] theorem Blk.answer_hist (s : Blk) (status value : Nat) : (s.answer status value).hist = s.hist := rfl
@[simp] theorem Blk.answer_store (s : Blk) (status value : Nat) : (s.answer status value).store = s.store := rfl
@[simp] theorem Blk.answer_sns (s : Blk) (status value : Nat) : (s.answer status value).sns = s.sns := rfl
@[simp] theorem Blk.answer_dec (s : Blk) (status value : Nat) : (s.answer status value).dec = s.dec := rfl
@[simp] theorem Blk.answer_pd (s : Blk) (status value : Nat) : (s.answer status value).pd = s.pd := rfl
@[simp] theorem Blk.answer_swp (s : Blk) (status value : Nat) : (s.answer status value).swp = s.swp := rfl
@[simp] theorem Blk.answer_tly (s : Blk) (status value : Nat) : (s.answer status value).tly = s.tly := rfl
@[simp] theorem Blk.answer_cal (s : Blk) (status value : Nat) : (s.answer status value).cal = s.cal := rfl
@[simp] theorem Blk.answer_lit (s : Blk) (status value : Nat) : (s.answer status value).lit = s.lit := rfl

/-! ### A domain changed -/

@[simp] theorem Blk.updDom_now (s : Blk) (d : Nat) (f : DomSt → DomSt) : (s.updDom d f).now = s.now := rfl
@[simp] theorem Blk.updDom_free (s : Blk) (d : Nat) (f : DomSt → DomSt) : (s.updDom d f).free = s.free := rfl
@[simp] theorem Blk.updDom_regs (s : Blk) (d : Nat) (f : DomSt → DomSt) : (s.updDom d f).regs = s.regs := rfl
@[simp] theorem Blk.updDom_hiCapture (s : Blk) (d : Nat) (f : DomSt → DomSt) : (s.updDom d f).hiCapture = s.hiCapture := rfl
@[simp] theorem Blk.updDom_selectors (s : Blk) (d : Nat) (f : DomSt → DomSt) : (s.updDom d f).selectors = s.selectors := rfl
@[simp] theorem Blk.updDom_time (s : Blk) (d : Nat) (f : DomSt → DomSt) : (s.updDom d f).time = s.time := rfl
@[simp] theorem Blk.updDom_pwr (s : Blk) (d : Nat) (f : DomSt → DomSt) : (s.updDom d f).pwr = s.pwr := rfl
@[simp] theorem Blk.updDom_sys (s : Blk) (d : Nat) (f : DomSt → DomSt) : (s.updDom d f).sys = s.sys := rfl
@[simp] theorem Blk.updDom_ust (s : Blk) (d : Nat) (f : DomSt → DomSt) : (s.updDom d f).ust = s.ust := rfl
@[simp] theorem Blk.updDom_bnd (s : Blk) (d : Nat) (f : DomSt → DomSt) : (s.updDom d f).bnd = s.bnd := rfl
@[simp] theorem Blk.updDom_evt (s : Blk) (d : Nat) (f : DomSt → DomSt) : (s.updDom d f).evt = s.evt := rfl
@[simp] theorem Blk.updDom_gpc (s : Blk) (d : Nat) (f : DomSt → DomSt) : (s.updDom d f).gpc = s.gpc := rfl
@[simp] theorem Blk.updDom_pins (s : Blk) (d : Nat) (f : DomSt → DomSt) : (s.updDom d f).pins = s.pins := rfl
@[simp] theorem Blk.updDom_ses (s : Blk) (d : Nat) (f : DomSt → DomSt) : (s.updDom d f).ses = s.ses := rfl
@[simp] theorem Blk.updDom_chn (s : Blk) (d : Nat) (f : DomSt → DomSt) : (s.updDom d f).chn = s.chn := rfl
@[simp] theorem Blk.updDom_acc (s : Blk) (d : Nat) (f : DomSt → DomSt) : (s.updDom d f).acc = s.acc := rfl
@[simp] theorem Blk.updDom_wire (s : Blk) (d : Nat) (f : DomSt → DomSt) : (s.updDom d f).wire = s.wire := rfl
@[simp] theorem Blk.updDom_lnk (s : Blk) (d : Nat) (f : DomSt → DomSt) : (s.updDom d f).lnk = s.lnk := rfl
@[simp] theorem Blk.updDom_mem (s : Blk) (d : Nat) (f : DomSt → DomSt) : (s.updDom d f).mem = s.mem := rfl
@[simp] theorem Blk.updDom_jobs (s : Blk) (d : Nat) (f : DomSt → DomSt) : (s.updDom d f).jobs = s.jobs := rfl
@[simp] theorem Blk.updDom_hist (s : Blk) (d : Nat) (f : DomSt → DomSt) : (s.updDom d f).hist = s.hist := rfl
@[simp] theorem Blk.updDom_store (s : Blk) (d : Nat) (f : DomSt → DomSt) : (s.updDom d f).store = s.store := rfl
@[simp] theorem Blk.updDom_sns (s : Blk) (d : Nat) (f : DomSt → DomSt) : (s.updDom d f).sns = s.sns := rfl
@[simp] theorem Blk.updDom_dec (s : Blk) (d : Nat) (f : DomSt → DomSt) : (s.updDom d f).dec = s.dec := rfl
@[simp] theorem Blk.updDom_pd (s : Blk) (d : Nat) (f : DomSt → DomSt) : (s.updDom d f).pd = s.pd := rfl
@[simp] theorem Blk.updDom_swp (s : Blk) (d : Nat) (f : DomSt → DomSt) : (s.updDom d f).swp = s.swp := rfl
@[simp] theorem Blk.updDom_tly (s : Blk) (d : Nat) (f : DomSt → DomSt) : (s.updDom d f).tly = s.tly := rfl
@[simp] theorem Blk.updDom_cal (s : Blk) (d : Nat) (f : DomSt → DomSt) : (s.updDom d f).cal = s.cal := rfl
@[simp] theorem Blk.updDom_lit (s : Blk) (d : Nat) (f : DomSt → DomSt) : (s.updDom d f).lit = s.lit := rfl

/-! ### A job changed -/

@[simp] theorem Blk.updJob_now (s : Blk) (q : Nat) (f : Job → Job) : (s.updJob q f).now = s.now := rfl
@[simp] theorem Blk.updJob_free (s : Blk) (q : Nat) (f : Job → Job) : (s.updJob q f).free = s.free := rfl
@[simp] theorem Blk.updJob_regs (s : Blk) (q : Nat) (f : Job → Job) : (s.updJob q f).regs = s.regs := rfl
@[simp] theorem Blk.updJob_hiCapture (s : Blk) (q : Nat) (f : Job → Job) : (s.updJob q f).hiCapture = s.hiCapture := rfl
@[simp] theorem Blk.updJob_selectors (s : Blk) (q : Nat) (f : Job → Job) : (s.updJob q f).selectors = s.selectors := rfl
@[simp] theorem Blk.updJob_time (s : Blk) (q : Nat) (f : Job → Job) : (s.updJob q f).time = s.time := rfl
@[simp] theorem Blk.updJob_doms (s : Blk) (q : Nat) (f : Job → Job) : (s.updJob q f).doms = s.doms := rfl
@[simp] theorem Blk.updJob_pwr (s : Blk) (q : Nat) (f : Job → Job) : (s.updJob q f).pwr = s.pwr := rfl
@[simp] theorem Blk.updJob_sys (s : Blk) (q : Nat) (f : Job → Job) : (s.updJob q f).sys = s.sys := rfl
@[simp] theorem Blk.updJob_ust (s : Blk) (q : Nat) (f : Job → Job) : (s.updJob q f).ust = s.ust := rfl
@[simp] theorem Blk.updJob_bnd (s : Blk) (q : Nat) (f : Job → Job) : (s.updJob q f).bnd = s.bnd := rfl
@[simp] theorem Blk.updJob_evt (s : Blk) (q : Nat) (f : Job → Job) : (s.updJob q f).evt = s.evt := rfl
@[simp] theorem Blk.updJob_gpc (s : Blk) (q : Nat) (f : Job → Job) : (s.updJob q f).gpc = s.gpc := rfl
@[simp] theorem Blk.updJob_pins (s : Blk) (q : Nat) (f : Job → Job) : (s.updJob q f).pins = s.pins := rfl
@[simp] theorem Blk.updJob_ses (s : Blk) (q : Nat) (f : Job → Job) : (s.updJob q f).ses = s.ses := rfl
@[simp] theorem Blk.updJob_chn (s : Blk) (q : Nat) (f : Job → Job) : (s.updJob q f).chn = s.chn := rfl
@[simp] theorem Blk.updJob_acc (s : Blk) (q : Nat) (f : Job → Job) : (s.updJob q f).acc = s.acc := rfl
@[simp] theorem Blk.updJob_wire (s : Blk) (q : Nat) (f : Job → Job) : (s.updJob q f).wire = s.wire := rfl
@[simp] theorem Blk.updJob_lnk (s : Blk) (q : Nat) (f : Job → Job) : (s.updJob q f).lnk = s.lnk := rfl
@[simp] theorem Blk.updJob_mem (s : Blk) (q : Nat) (f : Job → Job) : (s.updJob q f).mem = s.mem := rfl
@[simp] theorem Blk.updJob_hist (s : Blk) (q : Nat) (f : Job → Job) : (s.updJob q f).hist = s.hist := rfl
@[simp] theorem Blk.updJob_store (s : Blk) (q : Nat) (f : Job → Job) : (s.updJob q f).store = s.store := rfl
@[simp] theorem Blk.updJob_sns (s : Blk) (q : Nat) (f : Job → Job) : (s.updJob q f).sns = s.sns := rfl
@[simp] theorem Blk.updJob_dec (s : Blk) (q : Nat) (f : Job → Job) : (s.updJob q f).dec = s.dec := rfl
@[simp] theorem Blk.updJob_pd (s : Blk) (q : Nat) (f : Job → Job) : (s.updJob q f).pd = s.pd := rfl
@[simp] theorem Blk.updJob_swp (s : Blk) (q : Nat) (f : Job → Job) : (s.updJob q f).swp = s.swp := rfl
@[simp] theorem Blk.updJob_tly (s : Blk) (q : Nat) (f : Job → Job) : (s.updJob q f).tly = s.tly := rfl
@[simp] theorem Blk.updJob_cal (s : Blk) (q : Nat) (f : Job → Job) : (s.updJob q f).cal = s.cal := rfl
@[simp] theorem Blk.updJob_lit (s : Blk) (q : Nat) (f : Job → Job) : (s.updJob q f).lit = s.lit := rfl

/-! ### A session slot changed -/

@[simp] theorem Blk.updSlot_now (s : Blk) (i : Nat) (f : SesSlot → SesSlot) : (s.updSlot i f).now = s.now := rfl
@[simp] theorem Blk.updSlot_free (s : Blk) (i : Nat) (f : SesSlot → SesSlot) : (s.updSlot i f).free = s.free := rfl
@[simp] theorem Blk.updSlot_regs (s : Blk) (i : Nat) (f : SesSlot → SesSlot) : (s.updSlot i f).regs = s.regs := rfl
@[simp] theorem Blk.updSlot_hiCapture (s : Blk) (i : Nat) (f : SesSlot → SesSlot) : (s.updSlot i f).hiCapture = s.hiCapture := rfl
@[simp] theorem Blk.updSlot_selectors (s : Blk) (i : Nat) (f : SesSlot → SesSlot) : (s.updSlot i f).selectors = s.selectors := rfl
@[simp] theorem Blk.updSlot_time (s : Blk) (i : Nat) (f : SesSlot → SesSlot) : (s.updSlot i f).time = s.time := rfl
@[simp] theorem Blk.updSlot_doms (s : Blk) (i : Nat) (f : SesSlot → SesSlot) : (s.updSlot i f).doms = s.doms := rfl
@[simp] theorem Blk.updSlot_pwr (s : Blk) (i : Nat) (f : SesSlot → SesSlot) : (s.updSlot i f).pwr = s.pwr := rfl
@[simp] theorem Blk.updSlot_sys (s : Blk) (i : Nat) (f : SesSlot → SesSlot) : (s.updSlot i f).sys = s.sys := rfl
@[simp] theorem Blk.updSlot_ust (s : Blk) (i : Nat) (f : SesSlot → SesSlot) : (s.updSlot i f).ust = s.ust := rfl
@[simp] theorem Blk.updSlot_bnd (s : Blk) (i : Nat) (f : SesSlot → SesSlot) : (s.updSlot i f).bnd = s.bnd := rfl
@[simp] theorem Blk.updSlot_evt (s : Blk) (i : Nat) (f : SesSlot → SesSlot) : (s.updSlot i f).evt = s.evt := rfl
@[simp] theorem Blk.updSlot_gpc (s : Blk) (i : Nat) (f : SesSlot → SesSlot) : (s.updSlot i f).gpc = s.gpc := rfl
@[simp] theorem Blk.updSlot_pins (s : Blk) (i : Nat) (f : SesSlot → SesSlot) : (s.updSlot i f).pins = s.pins := rfl
@[simp] theorem Blk.updSlot_chn (s : Blk) (i : Nat) (f : SesSlot → SesSlot) : (s.updSlot i f).chn = s.chn := rfl
@[simp] theorem Blk.updSlot_acc (s : Blk) (i : Nat) (f : SesSlot → SesSlot) : (s.updSlot i f).acc = s.acc := rfl
@[simp] theorem Blk.updSlot_wire (s : Blk) (i : Nat) (f : SesSlot → SesSlot) : (s.updSlot i f).wire = s.wire := rfl
@[simp] theorem Blk.updSlot_lnk (s : Blk) (i : Nat) (f : SesSlot → SesSlot) : (s.updSlot i f).lnk = s.lnk := rfl
@[simp] theorem Blk.updSlot_mem (s : Blk) (i : Nat) (f : SesSlot → SesSlot) : (s.updSlot i f).mem = s.mem := rfl
@[simp] theorem Blk.updSlot_jobs (s : Blk) (i : Nat) (f : SesSlot → SesSlot) : (s.updSlot i f).jobs = s.jobs := rfl
@[simp] theorem Blk.updSlot_hist (s : Blk) (i : Nat) (f : SesSlot → SesSlot) : (s.updSlot i f).hist = s.hist := rfl
@[simp] theorem Blk.updSlot_store (s : Blk) (i : Nat) (f : SesSlot → SesSlot) : (s.updSlot i f).store = s.store := rfl
@[simp] theorem Blk.updSlot_sns (s : Blk) (i : Nat) (f : SesSlot → SesSlot) : (s.updSlot i f).sns = s.sns := rfl
@[simp] theorem Blk.updSlot_dec (s : Blk) (i : Nat) (f : SesSlot → SesSlot) : (s.updSlot i f).dec = s.dec := rfl
@[simp] theorem Blk.updSlot_pd (s : Blk) (i : Nat) (f : SesSlot → SesSlot) : (s.updSlot i f).pd = s.pd := rfl
@[simp] theorem Blk.updSlot_swp (s : Blk) (i : Nat) (f : SesSlot → SesSlot) : (s.updSlot i f).swp = s.swp := rfl
@[simp] theorem Blk.updSlot_tly (s : Blk) (i : Nat) (f : SesSlot → SesSlot) : (s.updSlot i f).tly = s.tly := rfl
@[simp] theorem Blk.updSlot_cal (s : Blk) (i : Nat) (f : SesSlot → SesSlot) : (s.updSlot i f).cal = s.cal := rfl
@[simp] theorem Blk.updSlot_lit (s : Blk) (i : Nat) (f : SesSlot → SesSlot) : (s.updSlot i f).lit = s.lit := rfl

@[simp] theorem Blk.wakeDom_eq (s : Blk) (d : Nat) : s.wakeDom d = s.updDom d (fun d =>
    if d.powered then { d with touched := s.now }
    else { d with powered := true, ready := false, wakeAt := s.now, touched := s.now }) := rfl
@[simp] theorem Blk.gateDom_eq (s : Blk) (d : Nat) : s.gateDom d = s.updDom d (fun d =>
    { d with powered := false, ready := false, clamped := true, gateAt := none }) := rfl
@[simp] theorem Blk.readyDom_eq (s : Blk) (d : Nat) : s.readyDom d = s.updDom d (fun d =>
    if d.powered then { d with ready := true, clamped := false, touched := s.now, restartAt := none } else d) := rfl

/-! ### Registers read through the other updates -/

@[simp] theorem Blk.reg_settle (s : Blk) (a : Nat) : s.settle.reg a = s.reg a := rfl
@[simp] theorem Blk.reg_send (s : Blk) (w : Wire) (a : Nat) : (s.send w).reg a = s.reg a := rfl
@[simp] theorem Blk.reg_answer (s : Blk) (c v a : Nat) : (s.answer c v).reg a = s.reg a := rfl
@[simp] theorem Blk.reg_updDom (s : Blk) (d : Nat) (f : DomSt → DomSt) (a : Nat) : (s.updDom d f).reg a = s.reg a := rfl
@[simp] theorem Blk.reg_updJob (s : Blk) (q : Nat) (f : Job → Job) (a : Nat) : (s.updJob q f).reg a = s.reg a := rfl
@[simp] theorem Blk.reg_updSlot (s : Blk) (i : Nat) (f : SesSlot → SesSlot) (a : Nat) : (s.updSlot i f).reg a = s.reg a := rfl

end Sys2Proof.Machine
end

