-- ==== Sys2Proof/Laws/Registers.lean ====
section
/-! SUPPORT. The register file: what a register holds after another is set, and that every operation keeps the file's
canonical form. -/
namespace Sys2Proof.Machine

theorem lookup_eraseReg (l : List (Nat × Word)) (a b : Nat) :
    lookupReg (eraseReg l a) b = if b = a then none else lookupReg l b := by
  induction l with
  | nil => simp [eraseReg, lookupReg]
  | cons p t ih =>
    obtain ⟨k, v⟩ := p
    by_cases h : k = a
    · by_cases g : b = a
      · subst g; simp [eraseReg, h, ih]
      · simp [eraseReg, lookupReg, h, ih, g, Ne.symm g]
    · by_cases g : b = a
      · subst g; simp [eraseReg, lookupReg, h, ih]
      · simp [eraseReg, lookupReg, h, ih, g]

theorem lookup_insertReg (l : List (Nat × Word)) (a b : Nat) (v : Word) :
    lookupReg (insertReg l a v) b = if b = a then some v else lookupReg l b := by
  induction l with
  | nil => simp [insertReg, lookupReg, eq_comm]
  | cons p t ih =>
    obtain ⟨k, w⟩ := p
    by_cases h1 : a < k
    · by_cases g : b = a
      · simp [insertReg, lookupReg, h1, g]
      · simp [insertReg, lookupReg, h1, g, Ne.symm g]
    · by_cases h2 : a = k
      · subst h2
        by_cases g : b = a
        · simp [insertReg, lookupReg, g]
        · simp [insertReg, lookupReg, g, Ne.symm g]
      · by_cases g : b = a
        · subst g; simp [insertReg, lookupReg, h1, h2, ih, Ne.symm h2]
        · simp [insertReg, lookupReg, h1, h2, ih, g]

theorem getReg_putReg (l : List (Nat × Word)) (a b : Nat) (v : Word) :
    getReg (putReg l a v) b = if b = a then v else getReg l b := by
  unfold getReg putReg
  by_cases h : v = resetOf a <;> by_cases g : b = a <;>
    simp [h, g, lookup_eraseReg, lookup_insertReg]

/-- What a register holds after another is set. -/
theorem Blk.reg_setReg (s : Blk) (a b : Nat) (v : Word) :
    (s.setReg a v).reg b = if b = a then v else s.reg b := getReg_putReg s.regs a b v

@[simp] theorem Blk.reg_setReg_same (s : Blk) (a : Nat) (v : Word) : (s.setReg a v).reg a = v := by
  simp [Blk.reg_setReg]

theorem Blk.reg_setReg_other (s : Blk) {a b : Nat} (v : Word) (h : b ≠ a) : (s.setReg a v).reg b = s.reg b := by
  simp [Blk.reg_setReg, h]

/-! ### Canonical form -/

/-- Every key of the list lies above `k`. -/
def keysAbove (k : Nat) (l : List (Nat × Word)) : Prop := ∀ p ∈ l, k < p.1

theorem regsWf_cons (k : Nat) (v : Word) (l : List (Nat × Word)) :
    regsWf ((k, v) :: l) = true ↔ v ≠ resetOf k ∧ keysAbove k l ∧ regsWf l = true := by
  induction l generalizing k v with
  | nil => simp [regsWf, keysAbove]
  | cons p t ih =>
    obtain ⟨k2, w⟩ := p
    have h := ih k2 w
    simp only [regsWf, Bool.and_eq_true, decide_eq_true_eq, bne_iff_ne, keysAbove, List.mem_cons, forall_eq_or_imp] at h ⊢
    constructor
    · rintro ⟨⟨h1, h2⟩, h3⟩
      exact ⟨h2, ⟨h1, fun p hp => Nat.lt_trans h1 ((h.mp h3).2.1 p hp)⟩, h3⟩
    · rintro ⟨h1, ⟨h2, _⟩, h3⟩
      exact ⟨⟨h2, h1⟩, h3⟩

theorem mem_eraseReg {l : List (Nat × Word)} {a : Nat} {p : Nat × Word} (h : p ∈ eraseReg l a) : p ∈ l := by
  induction l with
  | nil => simp [eraseReg] at h
  | cons q t ih =>
    obtain ⟨k, v⟩ := q
    by_cases g : k = a
    · simp only [eraseReg, g, if_true] at h; exact List.mem_cons_of_mem _ (ih h)
    · simp only [eraseReg, g, if_false, List.mem_cons] at h
      rcases h with h | h
      · simp [h]
      · exact List.mem_cons_of_mem _ (ih h)

theorem regsWf_eraseReg (l : List (Nat × Word)) (a : Nat) (h : regsWf l = true) : regsWf (eraseReg l a) = true := by
  induction l with
  | nil => rfl
  | cons p t ih =>
    obtain ⟨k, v⟩ := p
    obtain ⟨h1, h2, h3⟩ := (regsWf_cons k v t).mp h
    by_cases g : k = a
    · simpa [eraseReg, g] using ih h3
    · simp only [eraseReg, g, if_false]
      exact (regsWf_cons _ _ _).mpr ⟨h1, fun p hp => h2 p (mem_eraseReg hp), ih h3⟩

theorem mem_insertReg {l : List (Nat × Word)} {a : Nat} {v : Word} {p : Nat × Word} (h : p ∈ insertReg l a v) :
    p = (a, v) ∨ p ∈ l := by
  induction l with
  | nil => simpa [insertReg] using h
  | cons q t ih =>
    obtain ⟨k, w⟩ := q
    by_cases h1 : a < k
    · simpa only [insertReg, h1, if_true, List.mem_cons] using h
    · by_cases h2 : a = k
      · subst h2
        simp only [insertReg, Nat.lt_irrefl, if_false, if_true, List.mem_cons] at h ⊢
        rcases h with h | h
        · exact .inl h
        · exact .inr (.inr h)
      · simp only [insertReg, h1, h2, if_false, List.mem_cons] at h ⊢
        rcases h with h | h
        · exact .inr (.inl h)
        · rcases ih h with h | h
          · exact .inl h
          · exact .inr (.inr h)

theorem regsWf_insertReg (l : List (Nat × Word)) (a : Nat) (v : Word) (hv : v ≠ resetOf a) (h : regsWf l = true) :
    regsWf (insertReg l a v) = true := by
  induction l with
  | nil => simp [insertReg, regsWf, hv]
  | cons p t ih =>
    obtain ⟨k, w⟩ := p
    obtain ⟨h1, h2, h3⟩ := (regsWf_cons k w t).mp h
    by_cases g1 : a < k
    · simp only [insertReg, g1, if_true]
      refine (regsWf_cons _ _ _).mpr ⟨hv, ?_, h⟩
      intro p hp
      rcases List.mem_cons.mp hp with rfl | hp
      · exact g1
      · exact Nat.lt_trans g1 (h2 p hp)
    · by_cases g2 : a = k
      · subst g2
        simp only [insertReg, Nat.lt_irrefl, if_false, if_true]
        exact (regsWf_cons _ _ _).mpr ⟨hv, h2, h3⟩
      · simp only [insertReg, g1, g2, if_false]
        refine (regsWf_cons _ _ _).mpr ⟨h1, ?_, ih h3⟩
        intro p hp
        rcases mem_insertReg hp with rfl | hp
        · show k < a; omega
        · exact h2 p hp

theorem regsWf_putReg (l : List (Nat × Word)) (a : Nat) (v : Word) (h : regsWf l = true) : regsWf (putReg l a v) = true := by
  unfold putReg
  split
  · exact regsWf_eraseReg l a h
  · exact regsWf_insertReg l a v ‹_› h

/-- Setting a register keeps the file's canonical form. -/
theorem Blk.regsCanonical_setReg (s : Blk) (a : Nat) (v : Word) (h : s.regsCanonical) : (s.setReg a v).regsCanonical :=
  regsWf_putReg s.regs a v h

theorem regsWf_filter (l : List (Nat × Word)) (f : Nat × Word → Bool) (h : regsWf l = true) : regsWf (l.filter f) = true := by
  induction l with
  | nil => rfl
  | cons p t ih =>
    obtain ⟨k, v⟩ := p
    obtain ⟨h1, h2, h3⟩ := (regsWf_cons k v t).mp h
    rw [List.filter_cons]
    split
    · exact (regsWf_cons _ _ _).mpr ⟨h1, fun p hp => h2 p (List.mem_filter.mp hp).1, ih h3⟩
    · exact ih h3

/-- Passing time keeps the file's canonical form. -/
theorem Blk.regsCanonical_elapse (s : Blk) (dt : Nat) (h : s.regsCanonical) : (s.elapse dt).regsCanonical := by
  unfold Blk.regsCanonical Blk.elapse at *
  by_cases hd : dt = 0
  · simpa [hd] using h
  · by_cases hr : s.time.ringRuns <;> simp [hd, hr] <;> exact regsWf_filter _ _ h

end Sys2Proof.Machine
end

