-- ==== Sys2Proof/Laws/Flags.lean ====
section
/-! SUPPORT. What raising a code can change: the header registers of its page, EVT.LOST and SYS.FLOG_COUNT, the event
notices and the fault log, and nothing else. -/
namespace Sys2Proof.Machine

/-! ### A notice and an event: registers and notices alone -/

theorem Blk.notice_shape (s : Blk) (page bit code : Nat) :
    ∃ r e, s.notice page bit code = { s with regs := r, evt := e } := by
  unfold Blk.notice; dsimp only; split <;> split <;> exact ⟨_, _, rfl⟩

theorem Blk.event_shape (s : Blk) (page bit code : Nat) :
    ∃ r e, s.event page bit code = { s with regs := r, evt := e } := by
  unfold Blk.event; dsimp only; split
  · obtain ⟨r, e, h⟩ := Blk.notice_shape ((s.setN (Reg.HDR_EVT_RAW page) (putBit (s.regN (Reg.HDR_EVT_RAW page)) bit true)).setN
      (Reg.HDR_EVT_LATCH page) (putBit ((s.setN (Reg.HDR_EVT_RAW page) (putBit (s.regN (Reg.HDR_EVT_RAW page)) bit true)).regN
        (Reg.HDR_EVT_LATCH page)) bit true)) page bit code
    exact ⟨r, e, h⟩
  · exact ⟨_, _, rfl⟩

theorem Blk.latch_shape (s : Blk) (page code : Nat) :
    ∃ r f, s.latch page code = { s with regs := r, sys := { s.sys with flog := f } } := ⟨_, _, rfl⟩

/-- Everything a code raised on a page can change. -/
theorem Blk.raiseAt_shape (s : Blk) (page code : Nat) :
    ∃ r e f, s.raiseAt page code = { s with regs := r, evt := e, sys := { s.sys with flog := f } } := by
  unfold Blk.raiseAt
  split
  · exact ⟨_, _, _, rfl⟩
  · dsimp only
    split <;> split
    · obtain ⟨r, e, h⟩ := Blk.event_shape (s.latch page code) page ‹Nat› code
      rw [h]; exact ⟨_, _, _, rfl⟩
    · obtain ⟨r, e, h⟩ := Blk.event_shape s page ‹Nat› code
      rw [h]; exact ⟨_, _, _, rfl⟩
    · exact ⟨_, _, _, rfl⟩
    · exact ⟨_, _, _, rfl⟩

/-- Everything a raised code can change. -/
theorem Blk.raise_shape (s : Blk) (code : Nat) :
    ∃ r e f, s.raise code = { s with regs := r, evt := e, sys := { s.sys with flog := f } } := by
  unfold Blk.raise
  split
  · exact ⟨_, _, _, rfl⟩
  · exact Blk.raiseAt_shape s _ code

@[simp] theorem Blk.notice_now (s : Blk) (page bit code : Nat) : (s.notice page bit code).now = s.now := by
  obtain ⟨r, e, h⟩ := Blk.notice_shape s page bit code; rw [h]
@[simp] theorem Blk.notice_free (s : Blk) (page bit code : Nat) : (s.notice page bit code).free = s.free := by
  obtain ⟨r, e, h⟩ := Blk.notice_shape s page bit code; rw [h]
@[simp] theorem Blk.notice_hiCapture (s : Blk) (page bit code : Nat) : (s.notice page bit code).hiCapture = s.hiCapture := by
  obtain ⟨r, e, h⟩ := Blk.notice_shape s page bit code; rw [h]
@[simp] theorem Blk.notice_selectors (s : Blk) (page bit code : Nat) : (s.notice page bit code).selectors = s.selectors := by
  obtain ⟨r, e, h⟩ := Blk.notice_shape s page bit code; rw [h]
@[simp] theorem Blk.notice_time (s : Blk) (page bit code : Nat) : (s.notice page bit code).time = s.time := by
  obtain ⟨r, e, h⟩ := Blk.notice_shape s page bit code; rw [h]
@[simp] theorem Blk.notice_doms (s : Blk) (page bit code : Nat) : (s.notice page bit code).doms = s.doms := by
  obtain ⟨r, e, h⟩ := Blk.notice_shape s page bit code; rw [h]
@[simp] theorem Blk.notice_pwr (s : Blk) (page bit code : Nat) : (s.notice page bit code).pwr = s.pwr := by
  obtain ⟨r, e, h⟩ := Blk.notice_shape s page bit code; rw [h]
@[simp] theorem Blk.notice_sys (s : Blk) (page bit code : Nat) : (s.notice page bit code).sys = s.sys := by
  obtain ⟨r, e, h⟩ := Blk.notice_shape s page bit code; rw [h]
@[simp] theorem Blk.notice_ust (s : Blk) (page bit code : Nat) : (s.notice page bit code).ust = s.ust := by
  obtain ⟨r, e, h⟩ := Blk.notice_shape s page bit code; rw [h]
@[simp] theorem Blk.notice_bnd (s : Blk) (page bit code : Nat) : (s.notice page bit code).bnd = s.bnd := by
  obtain ⟨r, e, h⟩ := Blk.notice_shape s page bit code; rw [h]
@[simp] theorem Blk.notice_gpc (s : Blk) (page bit code : Nat) : (s.notice page bit code).gpc = s.gpc := by
  obtain ⟨r, e, h⟩ := Blk.notice_shape s page bit code; rw [h]
@[simp] theorem Blk.notice_pins (s : Blk) (page bit code : Nat) : (s.notice page bit code).pins = s.pins := by
  obtain ⟨r, e, h⟩ := Blk.notice_shape s page bit code; rw [h]
@[simp] theorem Blk.notice_ses (s : Blk) (page bit code : Nat) : (s.notice page bit code).ses = s.ses := by
  obtain ⟨r, e, h⟩ := Blk.notice_shape s page bit code; rw [h]
@[simp] theorem Blk.notice_chn (s : Blk) (page bit code : Nat) : (s.notice page bit code).chn = s.chn := by
  obtain ⟨r, e, h⟩ := Blk.notice_shape s page bit code; rw [h]
@[simp] theorem Blk.notice_acc (s : Blk) (page bit code : Nat) : (s.notice page bit code).acc = s.acc := by
  obtain ⟨r, e, h⟩ := Blk.notice_shape s page bit code; rw [h]
@[simp] theorem Blk.notice_wire (s : Blk) (page bit code : Nat) : (s.notice page bit code).wire = s.wire := by
  obtain ⟨r, e, h⟩ := Blk.notice_shape s page bit code; rw [h]
@[simp] theorem Blk.notice_lnk (s : Blk) (page bit code : Nat) : (s.notice page bit code).lnk = s.lnk := by
  obtain ⟨r, e, h⟩ := Blk.notice_shape s page bit code; rw [h]
@[simp] theorem Blk.notice_mem (s : Blk) (page bit code : Nat) : (s.notice page bit code).mem = s.mem := by
  obtain ⟨r, e, h⟩ := Blk.notice_shape s page bit code; rw [h]
@[simp] theorem Blk.notice_jobs (s : Blk) (page bit code : Nat) : (s.notice page bit code).jobs = s.jobs := by
  obtain ⟨r, e, h⟩ := Blk.notice_shape s page bit code; rw [h]
@[simp] theorem Blk.notice_hist (s : Blk) (page bit code : Nat) : (s.notice page bit code).hist = s.hist := by
  obtain ⟨r, e, h⟩ := Blk.notice_shape s page bit code; rw [h]
@[simp] theorem Blk.notice_store (s : Blk) (page bit code : Nat) : (s.notice page bit code).store = s.store := by
  obtain ⟨r, e, h⟩ := Blk.notice_shape s page bit code; rw [h]
@[simp] theorem Blk.notice_sns (s : Blk) (page bit code : Nat) : (s.notice page bit code).sns = s.sns := by
  obtain ⟨r, e, h⟩ := Blk.notice_shape s page bit code; rw [h]
@[simp] theorem Blk.notice_dec (s : Blk) (page bit code : Nat) : (s.notice page bit code).dec = s.dec := by
  obtain ⟨r, e, h⟩ := Blk.notice_shape s page bit code; rw [h]
@[simp] theorem Blk.notice_pd (s : Blk) (page bit code : Nat) : (s.notice page bit code).pd = s.pd := by
  obtain ⟨r, e, h⟩ := Blk.notice_shape s page bit code; rw [h]
@[simp] theorem Blk.notice_swp (s : Blk) (page bit code : Nat) : (s.notice page bit code).swp = s.swp := by
  obtain ⟨r, e, h⟩ := Blk.notice_shape s page bit code; rw [h]
@[simp] theorem Blk.notice_tly (s : Blk) (page bit code : Nat) : (s.notice page bit code).tly = s.tly := by
  obtain ⟨r, e, h⟩ := Blk.notice_shape s page bit code; rw [h]
@[simp] theorem Blk.notice_cal (s : Blk) (page bit code : Nat) : (s.notice page bit code).cal = s.cal := by
  obtain ⟨r, e, h⟩ := Blk.notice_shape s page bit code; rw [h]
@[simp] theorem Blk.notice_lit (s : Blk) (page bit code : Nat) : (s.notice page bit code).lit = s.lit := by
  obtain ⟨r, e, h⟩ := Blk.notice_shape s page bit code; rw [h]
@[simp] theorem Blk.event_now (s : Blk) (page bit code : Nat) : (s.event page bit code).now = s.now := by
  obtain ⟨r, e, h⟩ := Blk.event_shape s page bit code; rw [h]
@[simp] theorem Blk.event_free (s : Blk) (page bit code : Nat) : (s.event page bit code).free = s.free := by
  obtain ⟨r, e, h⟩ := Blk.event_shape s page bit code; rw [h]
@[simp] theorem Blk.event_hiCapture (s : Blk) (page bit code : Nat) : (s.event page bit code).hiCapture = s.hiCapture := by
  obtain ⟨r, e, h⟩ := Blk.event_shape s page bit code; rw [h]
@[simp] theorem Blk.event_selectors (s : Blk) (page bit code : Nat) : (s.event page bit code).selectors = s.selectors := by
  obtain ⟨r, e, h⟩ := Blk.event_shape s page bit code; rw [h]
@[simp] theorem Blk.event_time (s : Blk) (page bit code : Nat) : (s.event page bit code).time = s.time := by
  obtain ⟨r, e, h⟩ := Blk.event_shape s page bit code; rw [h]
@[simp] theorem Blk.event_doms (s : Blk) (page bit code : Nat) : (s.event page bit code).doms = s.doms := by
  obtain ⟨r, e, h⟩ := Blk.event_shape s page bit code; rw [h]
@[simp] theorem Blk.event_pwr (s : Blk) (page bit code : Nat) : (s.event page bit code).pwr = s.pwr := by
  obtain ⟨r, e, h⟩ := Blk.event_shape s page bit code; rw [h]
@[simp] theorem Blk.event_sys (s : Blk) (page bit code : Nat) : (s.event page bit code).sys = s.sys := by
  obtain ⟨r, e, h⟩ := Blk.event_shape s page bit code; rw [h]
@[simp] theorem Blk.event_ust (s : Blk) (page bit code : Nat) : (s.event page bit code).ust = s.ust := by
  obtain ⟨r, e, h⟩ := Blk.event_shape s page bit code; rw [h]
@[simp] theorem Blk.event_bnd (s : Blk) (page bit code : Nat) : (s.event page bit code).bnd = s.bnd := by
  obtain ⟨r, e, h⟩ := Blk.event_shape s page bit code; rw [h]
@[simp] theorem Blk.event_gpc (s : Blk) (page bit code : Nat) : (s.event page bit code).gpc = s.gpc := by
  obtain ⟨r, e, h⟩ := Blk.event_shape s page bit code; rw [h]
@[simp] theorem Blk.event_pins (s : Blk) (page bit code : Nat) : (s.event page bit code).pins = s.pins := by
  obtain ⟨r, e, h⟩ := Blk.event_shape s page bit code; rw [h]
@[simp] theorem Blk.event_ses (s : Blk) (page bit code : Nat) : (s.event page bit code).ses = s.ses := by
  obtain ⟨r, e, h⟩ := Blk.event_shape s page bit code; rw [h]
@[simp] theorem Blk.event_chn (s : Blk) (page bit code : Nat) : (s.event page bit code).chn = s.chn := by
  obtain ⟨r, e, h⟩ := Blk.event_shape s page bit code; rw [h]
@[simp] theorem Blk.event_acc (s : Blk) (page bit code : Nat) : (s.event page bit code).acc = s.acc := by
  obtain ⟨r, e, h⟩ := Blk.event_shape s page bit code; rw [h]
@[simp] theorem Blk.event_wire (s : Blk) (page bit code : Nat) : (s.event page bit code).wire = s.wire := by
  obtain ⟨r, e, h⟩ := Blk.event_shape s page bit code; rw [h]
@[simp] theorem Blk.event_lnk (s : Blk) (page bit code : Nat) : (s.event page bit code).lnk = s.lnk := by
  obtain ⟨r, e, h⟩ := Blk.event_shape s page bit code; rw [h]
@[simp] theorem Blk.event_mem (s : Blk) (page bit code : Nat) : (s.event page bit code).mem = s.mem := by
  obtain ⟨r, e, h⟩ := Blk.event_shape s page bit code; rw [h]
@[simp] theorem Blk.event_jobs (s : Blk) (page bit code : Nat) : (s.event page bit code).jobs = s.jobs := by
  obtain ⟨r, e, h⟩ := Blk.event_shape s page bit code; rw [h]
@[simp] theorem Blk.event_hist (s : Blk) (page bit code : Nat) : (s.event page bit code).hist = s.hist := by
  obtain ⟨r, e, h⟩ := Blk.event_shape s page bit code; rw [h]
@[simp] theorem Blk.event_store (s : Blk) (page bit code : Nat) : (s.event page bit code).store = s.store := by
  obtain ⟨r, e, h⟩ := Blk.event_shape s page bit code; rw [h]
@[simp] theorem Blk.event_sns (s : Blk) (page bit code : Nat) : (s.event page bit code).sns = s.sns := by
  obtain ⟨r, e, h⟩ := Blk.event_shape s page bit code; rw [h]
@[simp] theorem Blk.event_dec (s : Blk) (page bit code : Nat) : (s.event page bit code).dec = s.dec := by
  obtain ⟨r, e, h⟩ := Blk.event_shape s page bit code; rw [h]
@[simp] theorem Blk.event_pd (s : Blk) (page bit code : Nat) : (s.event page bit code).pd = s.pd := by
  obtain ⟨r, e, h⟩ := Blk.event_shape s page bit code; rw [h]
@[simp] theorem Blk.event_swp (s : Blk) (page bit code : Nat) : (s.event page bit code).swp = s.swp := by
  obtain ⟨r, e, h⟩ := Blk.event_shape s page bit code; rw [h]
@[simp] theorem Blk.event_tly (s : Blk) (page bit code : Nat) : (s.event page bit code).tly = s.tly := by
  obtain ⟨r, e, h⟩ := Blk.event_shape s page bit code; rw [h]
@[simp] theorem Blk.event_cal (s : Blk) (page bit code : Nat) : (s.event page bit code).cal = s.cal := by
  obtain ⟨r, e, h⟩ := Blk.event_shape s page bit code; rw [h]
@[simp] theorem Blk.event_lit (s : Blk) (page bit code : Nat) : (s.event page bit code).lit = s.lit := by
  obtain ⟨r, e, h⟩ := Blk.event_shape s page bit code; rw [h]
@[simp] theorem Blk.latch_now (s : Blk) (page code : Nat) : (s.latch page code).now = s.now := by
  obtain ⟨r, e, h⟩ := Blk.latch_shape s page code; rw [h]
@[simp] theorem Blk.latch_free (s : Blk) (page code : Nat) : (s.latch page code).free = s.free := by
  obtain ⟨r, e, h⟩ := Blk.latch_shape s page code; rw [h]
@[simp] theorem Blk.latch_hiCapture (s : Blk) (page code : Nat) : (s.latch page code).hiCapture = s.hiCapture := by
  obtain ⟨r, e, h⟩ := Blk.latch_shape s page code; rw [h]
@[simp] theorem Blk.latch_selectors (s : Blk) (page code : Nat) : (s.latch page code).selectors = s.selectors := by
  obtain ⟨r, e, h⟩ := Blk.latch_shape s page code; rw [h]
@[simp] theorem Blk.latch_time (s : Blk) (page code : Nat) : (s.latch page code).time = s.time := by
  obtain ⟨r, e, h⟩ := Blk.latch_shape s page code; rw [h]
@[simp] theorem Blk.latch_doms (s : Blk) (page code : Nat) : (s.latch page code).doms = s.doms := by
  obtain ⟨r, e, h⟩ := Blk.latch_shape s page code; rw [h]
@[simp] theorem Blk.latch_pwr (s : Blk) (page code : Nat) : (s.latch page code).pwr = s.pwr := by
  obtain ⟨r, e, h⟩ := Blk.latch_shape s page code; rw [h]
@[simp] theorem Blk.latch_ust (s : Blk) (page code : Nat) : (s.latch page code).ust = s.ust := by
  obtain ⟨r, e, h⟩ := Blk.latch_shape s page code; rw [h]
@[simp] theorem Blk.latch_bnd (s : Blk) (page code : Nat) : (s.latch page code).bnd = s.bnd := by
  obtain ⟨r, e, h⟩ := Blk.latch_shape s page code; rw [h]
@[simp] theorem Blk.latch_evt (s : Blk) (page code : Nat) : (s.latch page code).evt = s.evt := by
  obtain ⟨r, e, h⟩ := Blk.latch_shape s page code; rw [h]
@[simp] theorem Blk.latch_gpc (s : Blk) (page code : Nat) : (s.latch page code).gpc = s.gpc := by
  obtain ⟨r, e, h⟩ := Blk.latch_shape s page code; rw [h]
@[simp] theorem Blk.latch_pins (s : Blk) (page code : Nat) : (s.latch page code).pins = s.pins := by
  obtain ⟨r, e, h⟩ := Blk.latch_shape s page code; rw [h]
@[simp] theorem Blk.latch_ses (s : Blk) (page code : Nat) : (s.latch page code).ses = s.ses := by
  obtain ⟨r, e, h⟩ := Blk.latch_shape s page code; rw [h]
@[simp] theorem Blk.latch_chn (s : Blk) (page code : Nat) : (s.latch page code).chn = s.chn := by
  obtain ⟨r, e, h⟩ := Blk.latch_shape s page code; rw [h]
@[simp] theorem Blk.latch_acc (s : Blk) (page code : Nat) : (s.latch page code).acc = s.acc := by
  obtain ⟨r, e, h⟩ := Blk.latch_shape s page code; rw [h]
@[simp] theorem Blk.latch_wire (s : Blk) (page code : Nat) : (s.latch page code).wire = s.wire := by
  obtain ⟨r, e, h⟩ := Blk.latch_shape s page code; rw [h]
@[simp] theorem Blk.latch_lnk (s : Blk) (page code : Nat) : (s.latch page code).lnk = s.lnk := by
  obtain ⟨r, e, h⟩ := Blk.latch_shape s page code; rw [h]
@[simp] theorem Blk.latch_mem (s : Blk) (page code : Nat) : (s.latch page code).mem = s.mem := by
  obtain ⟨r, e, h⟩ := Blk.latch_shape s page code; rw [h]
@[simp] theorem Blk.latch_jobs (s : Blk) (page code : Nat) : (s.latch page code).jobs = s.jobs := by
  obtain ⟨r, e, h⟩ := Blk.latch_shape s page code; rw [h]
@[simp] theorem Blk.latch_hist (s : Blk) (page code : Nat) : (s.latch page code).hist = s.hist := by
  obtain ⟨r, e, h⟩ := Blk.latch_shape s page code; rw [h]
@[simp] theorem Blk.latch_store (s : Blk) (page code : Nat) : (s.latch page code).store = s.store := by
  obtain ⟨r, e, h⟩ := Blk.latch_shape s page code; rw [h]
@[simp] theorem Blk.latch_sns (s : Blk) (page code : Nat) : (s.latch page code).sns = s.sns := by
  obtain ⟨r, e, h⟩ := Blk.latch_shape s page code; rw [h]
@[simp] theorem Blk.latch_dec (s : Blk) (page code : Nat) : (s.latch page code).dec = s.dec := by
  obtain ⟨r, e, h⟩ := Blk.latch_shape s page code; rw [h]
@[simp] theorem Blk.latch_pd (s : Blk) (page code : Nat) : (s.latch page code).pd = s.pd := by
  obtain ⟨r, e, h⟩ := Blk.latch_shape s page code; rw [h]
@[simp] theorem Blk.latch_swp (s : Blk) (page code : Nat) : (s.latch page code).swp = s.swp := by
  obtain ⟨r, e, h⟩ := Blk.latch_shape s page code; rw [h]
@[simp] theorem Blk.latch_tly (s : Blk) (page code : Nat) : (s.latch page code).tly = s.tly := by
  obtain ⟨r, e, h⟩ := Blk.latch_shape s page code; rw [h]
@[simp] theorem Blk.latch_cal (s : Blk) (page code : Nat) : (s.latch page code).cal = s.cal := by
  obtain ⟨r, e, h⟩ := Blk.latch_shape s page code; rw [h]
@[simp] theorem Blk.latch_lit (s : Blk) (page code : Nat) : (s.latch page code).lit = s.lit := by
  obtain ⟨r, e, h⟩ := Blk.latch_shape s page code; rw [h]
@[simp] theorem Blk.latch_sys_mode (s : Blk) (page code : Nat) : (s.latch page code).sys.mode = s.sys.mode := by
  obtain ⟨r, e, h⟩ := Blk.latch_shape s page code; rw [h]
@[simp] theorem Blk.latch_sys_phase (s : Blk) (page code : Nat) : (s.latch page code).sys.phase = s.sys.phase := by
  obtain ⟨r, e, h⟩ := Blk.latch_shape s page code; rw [h]
@[simp] theorem Blk.latch_sys_coppiceStart (s : Blk) (page code : Nat) : (s.latch page code).sys.coppiceStart = s.sys.coppiceStart := by
  obtain ⟨r, e, h⟩ := Blk.latch_shape s page code; rw [h]
@[simp] theorem Blk.latch_sys_coppiceEng (s : Blk) (page code : Nat) : (s.latch page code).sys.coppiceEng = s.sys.coppiceEng := by
  obtain ⟨r, e, h⟩ := Blk.latch_shape s page code; rw [h]
@[simp] theorem Blk.latch_sys_retryAt (s : Blk) (page code : Nat) : (s.latch page code).sys.retryAt = s.sys.retryAt := by
  obtain ⟨r, e, h⟩ := Blk.latch_shape s page code; rw [h]
@[simp] theorem Blk.raiseAt_now (s : Blk) (page code : Nat) : (s.raiseAt page code).now = s.now := by
  obtain ⟨r, e, f, h⟩ := Blk.raiseAt_shape s page code; rw [h]
@[simp] theorem Blk.raiseAt_free (s : Blk) (page code : Nat) : (s.raiseAt page code).free = s.free := by
  obtain ⟨r, e, f, h⟩ := Blk.raiseAt_shape s page code; rw [h]
@[simp] theorem Blk.raiseAt_hiCapture (s : Blk) (page code : Nat) : (s.raiseAt page code).hiCapture = s.hiCapture := by
  obtain ⟨r, e, f, h⟩ := Blk.raiseAt_shape s page code; rw [h]
@[simp] theorem Blk.raiseAt_selectors (s : Blk) (page code : Nat) : (s.raiseAt page code).selectors = s.selectors := by
  obtain ⟨r, e, f, h⟩ := Blk.raiseAt_shape s page code; rw [h]
@[simp] theorem Blk.raiseAt_time (s : Blk) (page code : Nat) : (s.raiseAt page code).time = s.time := by
  obtain ⟨r, e, f, h⟩ := Blk.raiseAt_shape s page code; rw [h]
@[simp] theorem Blk.raiseAt_doms (s : Blk) (page code : Nat) : (s.raiseAt page code).doms = s.doms := by
  obtain ⟨r, e, f, h⟩ := Blk.raiseAt_shape s page code; rw [h]
@[simp] theorem Blk.raiseAt_pwr (s : Blk) (page code : Nat) : (s.raiseAt page code).pwr = s.pwr := by
  obtain ⟨r, e, f, h⟩ := Blk.raiseAt_shape s page code; rw [h]
@[simp] theorem Blk.raiseAt_ust (s : Blk) (page code : Nat) : (s.raiseAt page code).ust = s.ust := by
  obtain ⟨r, e, f, h⟩ := Blk.raiseAt_shape s page code; rw [h]
@[simp] theorem Blk.raiseAt_bnd (s : Blk) (page code : Nat) : (s.raiseAt page code).bnd = s.bnd := by
  obtain ⟨r, e, f, h⟩ := Blk.raiseAt_shape s page code; rw [h]
@[simp] theorem Blk.raiseAt_gpc (s : Blk) (page code : Nat) : (s.raiseAt page code).gpc = s.gpc := by
  obtain ⟨r, e, f, h⟩ := Blk.raiseAt_shape s page code; rw [h]
@[simp] theorem Blk.raiseAt_pins (s : Blk) (page code : Nat) : (s.raiseAt page code).pins = s.pins := by
  obtain ⟨r, e, f, h⟩ := Blk.raiseAt_shape s page code; rw [h]
@[simp] theorem Blk.raiseAt_ses (s : Blk) (page code : Nat) : (s.raiseAt page code).ses = s.ses := by
  obtain ⟨r, e, f, h⟩ := Blk.raiseAt_shape s page code; rw [h]
@[simp] theorem Blk.raiseAt_chn (s : Blk) (page code : Nat) : (s.raiseAt page code).chn = s.chn := by
  obtain ⟨r, e, f, h⟩ := Blk.raiseAt_shape s page code; rw [h]
@[simp] theorem Blk.raiseAt_acc (s : Blk) (page code : Nat) : (s.raiseAt page code).acc = s.acc := by
  obtain ⟨r, e, f, h⟩ := Blk.raiseAt_shape s page code; rw [h]
@[simp] theorem Blk.raiseAt_wire (s : Blk) (page code : Nat) : (s.raiseAt page code).wire = s.wire := by
  obtain ⟨r, e, f, h⟩ := Blk.raiseAt_shape s page code; rw [h]
@[simp] theorem Blk.raiseAt_lnk (s : Blk) (page code : Nat) : (s.raiseAt page code).lnk = s.lnk := by
  obtain ⟨r, e, f, h⟩ := Blk.raiseAt_shape s page code; rw [h]
@[simp] theorem Blk.raiseAt_mem (s : Blk) (page code : Nat) : (s.raiseAt page code).mem = s.mem := by
  obtain ⟨r, e, f, h⟩ := Blk.raiseAt_shape s page code; rw [h]
@[simp] theorem Blk.raiseAt_jobs (s : Blk) (page code : Nat) : (s.raiseAt page code).jobs = s.jobs := by
  obtain ⟨r, e, f, h⟩ := Blk.raiseAt_shape s page code; rw [h]
@[simp] theorem Blk.raiseAt_hist (s : Blk) (page code : Nat) : (s.raiseAt page code).hist = s.hist := by
  obtain ⟨r, e, f, h⟩ := Blk.raiseAt_shape s page code; rw [h]
@[simp] theorem Blk.raiseAt_store (s : Blk) (page code : Nat) : (s.raiseAt page code).store = s.store := by
  obtain ⟨r, e, f, h⟩ := Blk.raiseAt_shape s page code; rw [h]
@[simp] theorem Blk.raiseAt_sns (s : Blk) (page code : Nat) : (s.raiseAt page code).sns = s.sns := by
  obtain ⟨r, e, f, h⟩ := Blk.raiseAt_shape s page code; rw [h]
@[simp] theorem Blk.raiseAt_dec (s : Blk) (page code : Nat) : (s.raiseAt page code).dec = s.dec := by
  obtain ⟨r, e, f, h⟩ := Blk.raiseAt_shape s page code; rw [h]
@[simp] theorem Blk.raiseAt_pd (s : Blk) (page code : Nat) : (s.raiseAt page code).pd = s.pd := by
  obtain ⟨r, e, f, h⟩ := Blk.raiseAt_shape s page code; rw [h]
@[simp] theorem Blk.raiseAt_swp (s : Blk) (page code : Nat) : (s.raiseAt page code).swp = s.swp := by
  obtain ⟨r, e, f, h⟩ := Blk.raiseAt_shape s page code; rw [h]
@[simp] theorem Blk.raiseAt_tly (s : Blk) (page code : Nat) : (s.raiseAt page code).tly = s.tly := by
  obtain ⟨r, e, f, h⟩ := Blk.raiseAt_shape s page code; rw [h]
@[simp] theorem Blk.raiseAt_cal (s : Blk) (page code : Nat) : (s.raiseAt page code).cal = s.cal := by
  obtain ⟨r, e, f, h⟩ := Blk.raiseAt_shape s page code; rw [h]
@[simp] theorem Blk.raiseAt_lit (s : Blk) (page code : Nat) : (s.raiseAt page code).lit = s.lit := by
  obtain ⟨r, e, f, h⟩ := Blk.raiseAt_shape s page code; rw [h]
@[simp] theorem Blk.raiseAt_sys_mode (s : Blk) (page code : Nat) : (s.raiseAt page code).sys.mode = s.sys.mode := by
  obtain ⟨r, e, f, h⟩ := Blk.raiseAt_shape s page code; rw [h]
@[simp] theorem Blk.raiseAt_sys_phase (s : Blk) (page code : Nat) : (s.raiseAt page code).sys.phase = s.sys.phase := by
  obtain ⟨r, e, f, h⟩ := Blk.raiseAt_shape s page code; rw [h]
@[simp] theorem Blk.raiseAt_sys_coppiceStart (s : Blk) (page code : Nat) : (s.raiseAt page code).sys.coppiceStart = s.sys.coppiceStart := by
  obtain ⟨r, e, f, h⟩ := Blk.raiseAt_shape s page code; rw [h]
@[simp] theorem Blk.raiseAt_sys_coppiceEng (s : Blk) (page code : Nat) : (s.raiseAt page code).sys.coppiceEng = s.sys.coppiceEng := by
  obtain ⟨r, e, f, h⟩ := Blk.raiseAt_shape s page code; rw [h]
@[simp] theorem Blk.raiseAt_sys_retryAt (s : Blk) (page code : Nat) : (s.raiseAt page code).sys.retryAt = s.sys.retryAt := by
  obtain ⟨r, e, f, h⟩ := Blk.raiseAt_shape s page code; rw [h]
@[simp] theorem Blk.raise_now (s : Blk) (code : Nat) : (s.raise code).now = s.now := by
  obtain ⟨r, e, f, h⟩ := Blk.raise_shape s code; rw [h]
@[simp] theorem Blk.raise_free (s : Blk) (code : Nat) : (s.raise code).free = s.free := by
  obtain ⟨r, e, f, h⟩ := Blk.raise_shape s code; rw [h]
@[simp] theorem Blk.raise_hiCapture (s : Blk) (code : Nat) : (s.raise code).hiCapture = s.hiCapture := by
  obtain ⟨r, e, f, h⟩ := Blk.raise_shape s code; rw [h]
@[simp] theorem Blk.raise_selectors (s : Blk) (code : Nat) : (s.raise code).selectors = s.selectors := by
  obtain ⟨r, e, f, h⟩ := Blk.raise_shape s code; rw [h]
@[simp] theorem Blk.raise_time (s : Blk) (code : Nat) : (s.raise code).time = s.time := by
  obtain ⟨r, e, f, h⟩ := Blk.raise_shape s code; rw [h]
@[simp] theorem Blk.raise_doms (s : Blk) (code : Nat) : (s.raise code).doms = s.doms := by
  obtain ⟨r, e, f, h⟩ := Blk.raise_shape s code; rw [h]
@[simp] theorem Blk.raise_pwr (s : Blk) (code : Nat) : (s.raise code).pwr = s.pwr := by
  obtain ⟨r, e, f, h⟩ := Blk.raise_shape s code; rw [h]
@[simp] theorem Blk.raise_ust (s : Blk) (code : Nat) : (s.raise code).ust = s.ust := by
  obtain ⟨r, e, f, h⟩ := Blk.raise_shape s code; rw [h]
@[simp] theorem Blk.raise_bnd (s : Blk) (code : Nat) : (s.raise code).bnd = s.bnd := by
  obtain ⟨r, e, f, h⟩ := Blk.raise_shape s code; rw [h]
@[simp] theorem Blk.raise_gpc (s : Blk) (code : Nat) : (s.raise code).gpc = s.gpc := by
  obtain ⟨r, e, f, h⟩ := Blk.raise_shape s code; rw [h]
@[simp] theorem Blk.raise_pins (s : Blk) (code : Nat) : (s.raise code).pins = s.pins := by
  obtain ⟨r, e, f, h⟩ := Blk.raise_shape s code; rw [h]
@[simp] theorem Blk.raise_ses (s : Blk) (code : Nat) : (s.raise code).ses = s.ses := by
  obtain ⟨r, e, f, h⟩ := Blk.raise_shape s code; rw [h]
@[simp] theorem Blk.raise_chn (s : Blk) (code : Nat) : (s.raise code).chn = s.chn := by
  obtain ⟨r, e, f, h⟩ := Blk.raise_shape s code; rw [h]
@[simp] theorem Blk.raise_acc (s : Blk) (code : Nat) : (s.raise code).acc = s.acc := by
  obtain ⟨r, e, f, h⟩ := Blk.raise_shape s code; rw [h]
@[simp] theorem Blk.raise_wire (s : Blk) (code : Nat) : (s.raise code).wire = s.wire := by
  obtain ⟨r, e, f, h⟩ := Blk.raise_shape s code; rw [h]
@[simp] theorem Blk.raise_lnk (s : Blk) (code : Nat) : (s.raise code).lnk = s.lnk := by
  obtain ⟨r, e, f, h⟩ := Blk.raise_shape s code; rw [h]
@[simp] theorem Blk.raise_mem (s : Blk) (code : Nat) : (s.raise code).mem = s.mem := by
  obtain ⟨r, e, f, h⟩ := Blk.raise_shape s code; rw [h]
@[simp] theorem Blk.raise_jobs (s : Blk) (code : Nat) : (s.raise code).jobs = s.jobs := by
  obtain ⟨r, e, f, h⟩ := Blk.raise_shape s code; rw [h]
@[simp] theorem Blk.raise_hist (s : Blk) (code : Nat) : (s.raise code).hist = s.hist := by
  obtain ⟨r, e, f, h⟩ := Blk.raise_shape s code; rw [h]
@[simp] theorem Blk.raise_store (s : Blk) (code : Nat) : (s.raise code).store = s.store := by
  obtain ⟨r, e, f, h⟩ := Blk.raise_shape s code; rw [h]
@[simp] theorem Blk.raise_sns (s : Blk) (code : Nat) : (s.raise code).sns = s.sns := by
  obtain ⟨r, e, f, h⟩ := Blk.raise_shape s code; rw [h]
@[simp] theorem Blk.raise_dec (s : Blk) (code : Nat) : (s.raise code).dec = s.dec := by
  obtain ⟨r, e, f, h⟩ := Blk.raise_shape s code; rw [h]
@[simp] theorem Blk.raise_pd (s : Blk) (code : Nat) : (s.raise code).pd = s.pd := by
  obtain ⟨r, e, f, h⟩ := Blk.raise_shape s code; rw [h]
@[simp] theorem Blk.raise_swp (s : Blk) (code : Nat) : (s.raise code).swp = s.swp := by
  obtain ⟨r, e, f, h⟩ := Blk.raise_shape s code; rw [h]
@[simp] theorem Blk.raise_tly (s : Blk) (code : Nat) : (s.raise code).tly = s.tly := by
  obtain ⟨r, e, f, h⟩ := Blk.raise_shape s code; rw [h]
@[simp] theorem Blk.raise_cal (s : Blk) (code : Nat) : (s.raise code).cal = s.cal := by
  obtain ⟨r, e, f, h⟩ := Blk.raise_shape s code; rw [h]
@[simp] theorem Blk.raise_lit (s : Blk) (code : Nat) : (s.raise code).lit = s.lit := by
  obtain ⟨r, e, f, h⟩ := Blk.raise_shape s code; rw [h]
@[simp] theorem Blk.raise_sys_mode (s : Blk) (code : Nat) : (s.raise code).sys.mode = s.sys.mode := by
  obtain ⟨r, e, f, h⟩ := Blk.raise_shape s code; rw [h]
@[simp] theorem Blk.raise_sys_phase (s : Blk) (code : Nat) : (s.raise code).sys.phase = s.sys.phase := by
  obtain ⟨r, e, f, h⟩ := Blk.raise_shape s code; rw [h]
@[simp] theorem Blk.raise_sys_coppiceStart (s : Blk) (code : Nat) : (s.raise code).sys.coppiceStart = s.sys.coppiceStart := by
  obtain ⟨r, e, f, h⟩ := Blk.raise_shape s code; rw [h]
@[simp] theorem Blk.raise_sys_coppiceEng (s : Blk) (code : Nat) : (s.raise code).sys.coppiceEng = s.sys.coppiceEng := by
  obtain ⟨r, e, f, h⟩ := Blk.raise_shape s code; rw [h]
@[simp] theorem Blk.raise_sys_retryAt (s : Blk) (code : Nat) : (s.raise code).sys.retryAt = s.sys.retryAt := by
  obtain ⟨r, e, f, h⟩ := Blk.raise_shape s code; rw [h]

/-! ### Registers a raised code leaves alone -/

theorem Blk.reg_notice (s : Blk) (page bit code : Nat) {a : Nat} (h : a ≠ Reg.EVT_LOST) :
    (s.notice page bit code).reg a = s.reg a := by
  unfold Blk.notice
  dsimp only
  split <;> split <;>
    first
      | rfl
      | (rw [Blk.bump_eq, Blk.reg_setReg_other _ _ h]; rfl)

theorem Blk.reg_event (s : Blk) (page bit code : Nat) {a : Nat} (h1 : a ≠ Reg.HDR_EVT_RAW page)
    (h2 : a ≠ Reg.HDR_EVT_LATCH page) (h3 : a ≠ Reg.EVT_LOST) : (s.event page bit code).reg a = s.reg a := by
  unfold Blk.event
  dsimp only
  split
  · rw [Blk.reg_notice _ _ _ _ h3, Blk.setN_eq, Blk.reg_setReg_other _ _ h2, Blk.setN_eq, Blk.reg_setReg_other _ _ h1]
  · rw [Blk.setN_eq, Blk.reg_setReg_other _ _ h2, Blk.setN_eq, Blk.reg_setReg_other _ _ h1]

theorem Blk.reg_latch (s : Blk) (page code : Nat) {a : Nat} (h1 : a ≠ Reg.HDR_FAULT page) (h2 : a ≠ Reg.SYS_FLOG_COUNT) :
    (s.latch page code).reg a = s.reg a := by
  unfold Blk.latch
  dsimp only
  rw [Blk.bump_eq, Blk.reg_setReg_other _ _ h2]
  exact Blk.reg_setReg_other _ _ h1

/-- A register that is no header register of the page, nor one of the two counters, keeps its value. -/
theorem Blk.reg_raiseAt (s : Blk) (page code : Nat) {a : Nat} (h1 : a ≠ Reg.HDR_EVT_RAW page)
    (h2 : a ≠ Reg.HDR_EVT_LATCH page) (h3 : a ≠ Reg.HDR_FAULT page) (h4 : a ≠ Reg.EVT_LOST) (h5 : a ≠ Reg.SYS_FLOG_COUNT) :
    (s.raiseAt page code).reg a = s.reg a := by
  unfold Blk.raiseAt
  split
  · rfl
  · dsimp only
    split <;> split <;> simp [Blk.reg_event, Blk.reg_latch, *]

/-- A register outside the headers, and no such counter, keeps its value through any raised code. -/
theorem Blk.reg_raise (s : Blk) (code : Nat) {a : Nat} (h : 0x40 ≤ offOf a) (h4 : a ≠ Reg.EVT_LOST)
    (h5 : a ≠ Reg.SYS_FLOG_COUNT) : (s.raise code).reg a = s.reg a := by
  have low : ∀ page k, k < 0x40 → a ≠ page * 0x400 + k := by
    intro page k hk e
    subst e
    unfold offOf at h
    omega
  unfold Blk.raise
  split
  · rfl
  · exact Blk.reg_raiseAt s _ _ (low _ _ (by decide)) (low _ _ (by decide)) (low _ _ (by decide)) h4 h5

/-! ### The canonical form is kept -/

theorem Blk.regsCanonical_notice (s : Blk) (page bit code : Nat) (h : s.regsCanonical) :
    (s.notice page bit code).regsCanonical := by
  unfold Blk.notice
  dsimp only
  split <;> split <;>
    first
      | exact h
      | exact Blk.regsCanonical_setReg _ _ _ h

theorem Blk.regsCanonical_event (s : Blk) (page bit code : Nat) (h : s.regsCanonical) :
    (s.event page bit code).regsCanonical := by
  have h2 : ((s.setN (Reg.HDR_EVT_RAW page) (putBit (s.regN (Reg.HDR_EVT_RAW page)) bit true))).regsCanonical :=
    Blk.regsCanonical_setReg _ _ _ h
  unfold Blk.event
  dsimp only
  split
  · exact Blk.regsCanonical_notice _ _ _ _ (Blk.regsCanonical_setReg _ _ _ h2)
  · exact Blk.regsCanonical_setReg _ _ _ h2

theorem Blk.regsCanonical_latch (s : Blk) (page code : Nat) (h : s.regsCanonical) : (s.latch page code).regsCanonical := by
  unfold Blk.latch
  dsimp only
  exact Blk.regsCanonical_setReg _ _ _ (Blk.regsCanonical_setReg s _ _ h)

theorem Blk.regsCanonical_raiseAt (s : Blk) (page code : Nat) (h : s.regsCanonical) :
    (s.raiseAt page code).regsCanonical := by
  unfold Blk.raiseAt
  split
  · exact h
  · dsimp only
    split <;> split <;>
      first
        | exact Blk.regsCanonical_event _ _ _ _ (Blk.regsCanonical_latch _ _ _ h)
        | exact Blk.regsCanonical_event _ _ _ _ h
        | exact Blk.regsCanonical_latch _ _ _ h
        | exact h

/-- Raising a code keeps the register file's canonical form. -/
theorem Blk.regsCanonical_raise (s : Blk) (code : Nat) (h : s.regsCanonical) : (s.raise code).regsCanonical := by
  unfold Blk.raise
  split
  · exact h
  · exact Blk.regsCanonical_raiseAt s _ code h

/-! ### Time -/

@[simp] theorem Blk.elapse_zero (s : Blk) : s.elapse 0 = { s with wire := [] } := rfl

/-- Everything that passing time changes. -/
theorem Blk.elapse_shape (s : Blk) (dt : Nat) :
    ∃ r n t, s.elapse dt = { s with wire := [], regs := r, now := n, time := t } := by
  unfold Blk.elapse; dsimp only; split
  · exact ⟨_, _, _, rfl⟩
  · split <;> exact ⟨_, _, _, rfl⟩

@[simp] theorem Blk.elapse_free (s : Blk) (dt : Nat) : (s.elapse dt).free = s.free := by
  obtain ⟨r, n, t, h⟩ := Blk.elapse_shape s dt; rw [h]
@[simp] theorem Blk.elapse_hiCapture (s : Blk) (dt : Nat) : (s.elapse dt).hiCapture = s.hiCapture := by
  obtain ⟨r, n, t, h⟩ := Blk.elapse_shape s dt; rw [h]
@[simp] theorem Blk.elapse_selectors (s : Blk) (dt : Nat) : (s.elapse dt).selectors = s.selectors := by
  obtain ⟨r, n, t, h⟩ := Blk.elapse_shape s dt; rw [h]
@[simp] theorem Blk.elapse_doms (s : Blk) (dt : Nat) : (s.elapse dt).doms = s.doms := by
  obtain ⟨r, n, t, h⟩ := Blk.elapse_shape s dt; rw [h]
@[simp] theorem Blk.elapse_pwr (s : Blk) (dt : Nat) : (s.elapse dt).pwr = s.pwr := by
  obtain ⟨r, n, t, h⟩ := Blk.elapse_shape s dt; rw [h]
@[simp] theorem Blk.elapse_sys (s : Blk) (dt : Nat) : (s.elapse dt).sys = s.sys := by
  obtain ⟨r, n, t, h⟩ := Blk.elapse_shape s dt; rw [h]
@[simp] theorem Blk.elapse_ust (s : Blk) (dt : Nat) : (s.elapse dt).ust = s.ust := by
  obtain ⟨r, n, t, h⟩ := Blk.elapse_shape s dt; rw [h]
@[simp] theorem Blk.elapse_bnd (s : Blk) (dt : Nat) : (s.elapse dt).bnd = s.bnd := by
  obtain ⟨r, n, t, h⟩ := Blk.elapse_shape s dt; rw [h]
@[simp] theorem Blk.elapse_evt (s : Blk) (dt : Nat) : (s.elapse dt).evt = s.evt := by
  obtain ⟨r, n, t, h⟩ := Blk.elapse_shape s dt; rw [h]
@[simp] theorem Blk.elapse_gpc (s : Blk) (dt : Nat) : (s.elapse dt).gpc = s.gpc := by
  obtain ⟨r, n, t, h⟩ := Blk.elapse_shape s dt; rw [h]
@[simp] theorem Blk.elapse_pins (s : Blk) (dt : Nat) : (s.elapse dt).pins = s.pins := by
  obtain ⟨r, n, t, h⟩ := Blk.elapse_shape s dt; rw [h]
@[simp] theorem Blk.elapse_ses (s : Blk) (dt : Nat) : (s.elapse dt).ses = s.ses := by
  obtain ⟨r, n, t, h⟩ := Blk.elapse_shape s dt; rw [h]
@[simp] theorem Blk.elapse_chn (s : Blk) (dt : Nat) : (s.elapse dt).chn = s.chn := by
  obtain ⟨r, n, t, h⟩ := Blk.elapse_shape s dt; rw [h]
@[simp] theorem Blk.elapse_acc (s : Blk) (dt : Nat) : (s.elapse dt).acc = s.acc := by
  obtain ⟨r, n, t, h⟩ := Blk.elapse_shape s dt; rw [h]
@[simp] theorem Blk.elapse_lnk (s : Blk) (dt : Nat) : (s.elapse dt).lnk = s.lnk := by
  obtain ⟨r, n, t, h⟩ := Blk.elapse_shape s dt; rw [h]
@[simp] theorem Blk.elapse_mem (s : Blk) (dt : Nat) : (s.elapse dt).mem = s.mem := by
  obtain ⟨r, n, t, h⟩ := Blk.elapse_shape s dt; rw [h]
@[simp] theorem Blk.elapse_jobs (s : Blk) (dt : Nat) : (s.elapse dt).jobs = s.jobs := by
  obtain ⟨r, n, t, h⟩ := Blk.elapse_shape s dt; rw [h]
@[simp] theorem Blk.elapse_hist (s : Blk) (dt : Nat) : (s.elapse dt).hist = s.hist := by
  obtain ⟨r, n, t, h⟩ := Blk.elapse_shape s dt; rw [h]
@[simp] theorem Blk.elapse_store (s : Blk) (dt : Nat) : (s.elapse dt).store = s.store := by
  obtain ⟨r, n, t, h⟩ := Blk.elapse_shape s dt; rw [h]
@[simp] theorem Blk.elapse_sns (s : Blk) (dt : Nat) : (s.elapse dt).sns = s.sns := by
  obtain ⟨r, n, t, h⟩ := Blk.elapse_shape s dt; rw [h]
@[simp] theorem Blk.elapse_dec (s : Blk) (dt : Nat) : (s.elapse dt).dec = s.dec := by
  obtain ⟨r, n, t, h⟩ := Blk.elapse_shape s dt; rw [h]
@[simp] theorem Blk.elapse_pd (s : Blk) (dt : Nat) : (s.elapse dt).pd = s.pd := by
  obtain ⟨r, n, t, h⟩ := Blk.elapse_shape s dt; rw [h]
@[simp] theorem Blk.elapse_swp (s : Blk) (dt : Nat) : (s.elapse dt).swp = s.swp := by
  obtain ⟨r, n, t, h⟩ := Blk.elapse_shape s dt; rw [h]
@[simp] theorem Blk.elapse_tly (s : Blk) (dt : Nat) : (s.elapse dt).tly = s.tly := by
  obtain ⟨r, n, t, h⟩ := Blk.elapse_shape s dt; rw [h]
@[simp] theorem Blk.elapse_cal (s : Blk) (dt : Nat) : (s.elapse dt).cal = s.cal := by
  obtain ⟨r, n, t, h⟩ := Blk.elapse_shape s dt; rw [h]
@[simp] theorem Blk.elapse_lit (s : Blk) (dt : Nat) : (s.elapse dt).lit = s.lit := by
  obtain ⟨r, n, t, h⟩ := Blk.elapse_shape s dt; rw [h]

@[simp] theorem Blk.elapse_wire (s : Blk) (dt : Nat) : (s.elapse dt).wire = [] := by
  obtain ⟨r, n, t, h⟩ := Blk.elapse_shape s dt; rw [h]

/-- While the interface ring runs, the timestamp counter counts every tick (00 R16). -/
theorem Blk.elapse_now (s : Blk) (dt : Nat) (h : s.time.ringRuns = true) : (s.elapse dt).now = s.now + dt := by
  unfold Blk.elapse; dsimp only; split
  · simp [*]
  · simp

/-! ### How commands end -/

/-- Every command ends in a next state whose pins are up to date, and leaves the queue as it was. -/
theorem exec_done (i : Instr) (s : State) : ∃ b, exec i s = done s b := by
  cases i <;> exact ⟨_, rfl⟩

end Sys2Proof.Machine
end

