-- ==== Sys2Proof/Laws/Memory.lean ====
section
/-! SUPPORT. What the shared operations on the external memory and the equaliser's setting can do: an entry of a list after a
change, a channel after a change, and that accesses, row writes and copies touch the memory alone (14 R545; 15 R566 to R578). -/
namespace Sys2Proof.Machine

/-! ### An entry of a list after a change -/

@[simp] theorem upd_length {α : Type} (l : List α) (i : Nat) (f : α → α) : (upd l i f).length = l.length := by
  induction l generalizing i with
  | nil => rfl
  | cons a t ih => cases i with
    | zero => rfl
    | succ i => simp [upd, ih]

theorem upd_getD_same {α : Type} (l : List α) (i : Nat) (f : α → α) (d : α) (h : i < l.length) :
    (upd l i f).getD i d = f (l.getD i d) := by
  induction l generalizing i with
  | nil => simp at h
  | cons a t ih => cases i with
    | zero => rfl
    | succ i => simpa [upd] using ih i (by simpa using h)

theorem upd_getD_other {α : Type} (l : List α) (i k : Nat) (f : α → α) (d : α) (h : k ≠ i) :
    (upd l i f).getD k d = l.getD k d := by
  induction l generalizing i k with
  | nil => rfl
  | cons a t ih => cases i with
    | zero => cases k with
      | zero => exact absurd rfl h
      | succ k => rfl
    | succ i => cases k with
      | zero => rfl
      | succ k => simpa [upd] using ih i k (by omega)

/-! ### A channel after a change -/

theorem Blk.memCh_updMem_same (s : Blk) (ch : Nat) (f : MemCh → MemCh) (h : ch < s.mem.chans.length) :
    (s.updMem ch f).memCh ch = f (s.memCh ch) := upd_getD_same _ _ _ _ h

theorem Blk.memCh_updMem_other (s : Blk) (ch k : Nat) (f : MemCh → MemCh) (h : k ≠ ch) :
    (s.updMem ch f).memCh k = s.memCh k := upd_getD_other _ _ _ _ _ h

/-! ### What touches the memory alone -/

theorem Blk.updMem_shape (s : Blk) (ch : Nat) (f : MemCh → MemCh) : ∃ m, s.updMem ch f = { s with mem := m } := ⟨_, rfl⟩

theorem Blk.activate_shape (s : Blk) (ch rank bank row : Nat) : ∃ m, s.activate ch rank bank row = { s with mem := m } := by
  unfold Blk.activate; dsimp only; split <;> exact ⟨_, rfl⟩

/-- An access changes the memory's own state and nothing else (15 R566, R569). -/
theorem Blk.access_shape (s : Blk) (ch rank bank row : Nat) (chunk : Bool) :
    ∃ m, s.access ch rank bank row chunk = { s with mem := m } := by
  unfold Blk.access; dsimp only; split
  · exact ⟨_, rfl⟩
  · obtain ⟨m, h⟩ := Blk.activate_shape s ch rank bank (s.servingRow ch rank bank row)
    rw [h]; exact ⟨_, rfl⟩

theorem Blk.rowWritten_shape (s : Blk) (ch rank bank row : Nat) : ∃ m, s.rowWritten ch rank bank row = { s with mem := m } :=
  ⟨_, rfl⟩

/-- A write to a row restarts its copies, and changes nothing else (15 R578). -/
theorem Blk.copyRestart_shape (s : Blk) (ch rank bank row : Nat) : ∃ m, s.copyRestart ch rank bank row = { s with mem := m } :=
  ⟨_, rfl⟩

/-! ### The equaliser's setting (14 R545) -/

theorem foldl_max_mem (l : List Nat) (m : Nat) : l.foldl max m = m ∨ l.foldl max m ∈ l := by
  induction l generalizing m with
  | nil => exact .inl rfl
  | cons a t ih =>
    rcases ih (max m a) with h | h
    · rcases Nat.le_total m a with g | g
      · rw [Nat.max_eq_right g] at h
        right; simp [Nat.max_eq_right g, h]
      · rw [Nat.max_eq_left g] at h
        left; simpa [Nat.max_eq_left g] using h
    · right; simp [h]

/-- EQ's setting has the largest count of open points, and every lower setting a smaller one. -/
theorem eqSetting_most (l : List Nat) (h : l ≠ []) (h16 : l.length ≤ 16) :
    l.getD (eqSetting l) 0 = l.foldl max 0 ∧ ∀ k < eqSetting l, l.getD k 0 ≠ l.foldl max 0 := by
  have hm : l.foldl max 0 ∈ l := by
    rcases foldl_max_mem l 0 with g | g
    · cases l with
      | nil => exact absurd rfl h
      | cons a t =>
        have ha : a ≤ (a :: t).foldl max 0 := by
          have hle : ∀ (u : List Nat) (m : Nat), m ≤ u.foldl max m := by
            intro u
            induction u with
            | nil => intro m; exact Nat.le_refl _
            | cons b v ih => intro m; exact Nat.le_trans (Nat.le_max_left m b) (ih _)
          exact Nat.le_trans (Nat.le_max_right 0 a) (hle t _)
        rw [g] at ha ⊢
        have : a = 0 := by omega
        simp [this]
    · exact g
  have hlt : l.findIdx (fun n => n == l.foldl max 0) < l.length :=
    List.findIdx_lt_length_of_exists ⟨_, hm, by simp⟩
  have he : eqSetting l = l.findIdx (fun n => n == l.foldl max 0) := Nat.mod_eq_of_lt (by omega)
  rw [he]
  refine ⟨?_, fun k hk hc => ?_⟩
  · have := List.findIdx_getElem (xs := l) (p := fun n => n == l.foldl max 0) (w := hlt)
    rw [List.getD_eq_getElem _ _ hlt]; simpa using this
  · have hk2 : k < l.length := by omega
    have := List.not_of_lt_findIdx hk
    rw [List.getD_eq_getElem _ _ hk2] at hc
    simp [hc] at this

end Sys2Proof.Machine
end

