-- ==== Sys2Proof/Tests/Slice0.lean ====
section
/-! SUPPORT. Tests: ill-formed commands that the checks of WellFormed refuse, numbers the spec works out in its examples, and
for every statement with hypotheses states that meet them, one for each of its clauses (meets_<statement>). -/
open Sys2Proof Sys2Proof.Machine
namespace Sys2Proof.Tests
set_option Elab.async false

/-- The block after reset, and a state with a block and nothing waiting. -/
def R : Blk := State.reset.blk
def W (b : Blk) : State := { pending := [], blk := b }
/-- Some registers set. -/
def rg (l : List (Nat × Nat)) (b : Blk) : Blk := l.foldl (fun b p => b.setN p.1 p.2) b
/-- An Operator's session on slot 0, Service's on 1, Seal's on 2. -/
def S (b : Blk) : Blk :=
  { b with ses := { b.ses with slots := [{ st := .opened, role := 1 }, { st := .opened, role := 2 }, { st := .opened, role := 3 }, {}] } }
def B : Blk := S R
/-- The block as a command with dt 0 finds it. -/
def at0 (b : Blk) : Blk := (W b).blk.elapse 0
/-- A request under a session with its MAC, its call, and the front end's counting of it. -/
def rq (cmd slot : Nat) (p : List Byte) (b : Blk) : Req :=
  { link := false, cho := false, ptype := 0, addr := b.chainAddr, slot := slot, hasMac := true, seq := 1, payload := p,
    mac := unle (macOf (b.slot slot).ks 1 b.chainAddr (cmdByte cmd slot true) p) }
def cl (cmd slot : Nat) (p : List Byte) (b : Blk) : Call :=
  { r := rq cmd slot p b, cmd := cmd, at_ := b.now, ctr := 1, ks := (b.slot slot).ks }
def fb (slot : Nat) (b : Blk) : Blk :=
  (b.count Reg.CHN_FRAMES 1).updSlot slot (fun k => { k with counter := 1, since := b.now })
/-- The same without a session. -/
def rp (p : List Byte) (b : Blk) : Req :=
  { link := false, cho := false, ptype := 0, addr := b.chainAddr, slot := 0, hasMac := false, seq := 1, payload := p, mac := 0 }
def cp (cmd : Nat) (p : List Byte) (b : Blk) : Call := { r := rp p b, cmd := cmd, at_ := b.now }
def fp (b : Blk) : Blk := b.count Reg.CHN_FRAMES 1
/-- A job descriptor and a job. -/
def desc (kind cls tag fc iv trig light : Nat) : List Byte :=
  le 1 kind ++ le 1 cls ++ le 2 0 ++ le 4 tag ++ le 4 0 ++ le 4 fc ++ le 4 iv ++ le 4 0 ++ le 1 0 ++ le 1 0 ++ le 2 0 ++ le 4 0 ++
  le 1 trig ++ le 1 0 ++ le 1 light ++ le 1 0 ++ le 4 100 ++ le 4 1 ++ le 1 1 ++ le 1 1 ++ le 2 1 ++ le 4 0 ++ le 4 0 ++ le 4 16 ++
  le 4 16 ++ zeros 64
def jb (kind cls tag fc iv trig light seq : Nat) : Job :=
  { seq := seq, desc := desc kind cls tag fc iv trig light, acceptedAt := 0 }

theorem macOf_length (ks : BitVec 128) (ctr a c : Nat) (p : List Byte) : (macOf ks ctr a c p).length = 4 := by
  simp [macOf, Laws.cmac_length _ _ (Laws.le_length 16 _)]

theorem le_macOf (ks : BitVec 128) (ctr a c : Nat) (p : List Byte) :
    macOf ks ctr a c p = le 4 (unle (macOf ks ctr a c p)) := by
  have h := Laws.le_unle (macOf ks ctr a c p)
  rw [macOf_length] at h
  exact h.symm

theorem forged (ks : BitVec 128) (ctr a c : Nat) (p : List Byte) :
    macOf ks ctr a c p ≠ le 4 (unle (macOf ks ctr a c p) + 1) := by
  intro h
  have h1 := congrArg unle h
  have h2 := Laws.unle_lt (macOf ks ctr a c p)
  rw [Laws.unle_le] at h1
  rw [macOf_length] at h2
  omega

/-- The front end takes a request whose session is open and whose counter is the next. -/
theorem accepts_rq (cmd slot : Nat) (p : List Byte) (b : Blk)
    (h : b.pwr.mode = .run ∧ b.sys.mode = .ready ∧ b.chainAddr < 0x7E ∧
      (b.ses.kept.getD slot {}).valid = false ∧ slot < 4 ∧ (b.slot slot).st = .opened ∧ (b.slot slot).link = false ∧
      counterOf (b.slot slot).counter 1 = (true, 1)) :
    b.accepts (rq cmd slot p b) cmd (cl cmd slot p b) (fb slot b) := by
  obtain ⟨h1, h2, h3, h4, h5, h6, h7, h8⟩ := h
  have ha : b.chainAddr % 128 = b.chainAddr := Nat.mod_eq_of_lt (by omega)
  have hs : slot % 4 = slot := Nat.mod_eq_of_lt h5
  refine ⟨⟨h1, h2⟩, rfl, ha, h3, ?_, .inr ⟨rfl, 1, ?_, ?_, ?_, ?_, ?_, ?_⟩⟩
  · simpa [keptIdx, rq, hs] using h4
  · simpa [rq, hs] using h6
  · simpa [rq, hs] using h7
  · simpa [rq, hs] using h8
  · simp only [rq, hs, ha]
    exact le_macOf _ _ _ _ _
  · simp [cl, rq, hs]
  · simp [fb, rq, hs]

/-- And one without a session. -/
theorem accepts_rp (cmd slot : Nat) (p : List Byte) (b : Blk)
    (h : b.pwr.mode = .run ∧ b.sys.mode = .ready ∧ b.chainAddr < 0x7E ∧ (b.ses.kept.getD 4 {}).valid = false) :
    b.accepts { rp p b with slot := slot } cmd { r := { rp p b with slot := slot }, cmd := cmd, at_ := b.now } (fp b) := by
  obtain ⟨h1, h2, h3, h4⟩ := h
  exact ⟨⟨h1, h2⟩, rfl, Nat.mod_eq_of_lt (by omega : b.chainAddr < 128), h3, by simpa [keptIdx, rp] using h4, .inl ⟨rfl, rfl, rfl⟩⟩

/-- The same for the wider premise, on the chain and on the link. -/
theorem takes_rp (p : List Byte) (slot cmd : Nat) (b : Blk)
    (h : b.pwr.mode = .run ∧ b.sys.mode = .ready ∧ b.chainAddr < 0x7E ∧ (b.ses.kept.getD 4 {}).valid = false) :
    b.takes { rp p b with slot := slot } cmd { r := { rp p b with slot := slot }, cmd := cmd, at_ := b.now } (fp b) := by
  obtain ⟨h1, h2, h3, h4⟩ := h
  have ha : b.chainAddr % 128 = b.chainAddr := Nat.mod_eq_of_lt (by omega)
  refine ⟨⟨h1, h2⟩, _, fp b, .inl ⟨rfl, rfl, by simp [Blk.actsOn, rp, ha], ?_⟩, ?_, .inl ⟨rfl, rfl, rfl⟩⟩
  · have : ¬ (0x7E ≤ b.chainAddr) := by omega
    simp [rp, ha, this, fp]
  · intro k
    have h5 : ((fp b).ses.kept.getD 4 {}).valid = false := h4
    exact absurd k (by simp only [keptIdx, rp]; simpa using h5)
theorem takes_link (p : List Byte) (cmd : Nat) (b : Blk)
    (h : b.pwr.mode = .run ∧ b.sys.mode = .ready ∧ b.linkUp = true ∧ linkCarries 0x0B cmd = true ∧
      (b.linkAccept.ses.kept.getD 4 {}).valid = false) :
    b.takes { rp p b with link := true, ptype := 0x0B } cmd
      { r := { rp p b with link := true, ptype := 0x0B, addr := 0 }, cmd := cmd, at_ := b.now } b.linkAccept := by
  obtain ⟨h1, h2, h3, h4, h5⟩ := h
  refine ⟨⟨h1, h2⟩, _, _, .inr ⟨rfl, rfl, h3, h4, rfl⟩, ?_, .inl ⟨rfl, rfl, rfl⟩⟩
  intro k
  exact absurd k (by simp only [keptIdx, rp]; simpa using h5)

/-! ### Ill-formed commands, one term or more for each check -/

def okReq : Req :=
  { link := false, cho := false, ptype := 0, addr := 1, slot := 0, hasMac := true, seq := 1, payload := [], mac := 5 }
def okFinding : Finding :=
  { seen := .ell, rows := 24, cols := 24, quad := [(2867200, 1560576), (3360768, 1560576), (3360768, 2050048), (2867200, 2050048)] }
def okInfo : TrainInfo := { rxLanes := 31, txLanes := 31, inverted := 0, partner := [0, 1, 2, 3, 4], peaks := [[1, 5, 5], [], [3], [2, 9], [0, 0, 4]] }
def okStart : StartOutcome :=
  { temp := 0x1E00, selftest := true, s1 := 0, nvCopy := true, nvBad := false, s3 := 0, s3Part := 0,
    mem := { ranksA := [0x18000000], ranksB := [0x18000000], time := 9000, dqs := [4000, 4100], vref := 0 },
    link := 1, info := okInfo, s6 := 0, engines := 0x3FFFF, macros := [] }

theorem test_well_formed :
    ([.jobSubmit 0 okReq, .decodeTaskEnd 0 17 okFinding ⟨some okFinding, [(⟨0, 0, 0, 0⟩, {})], 1⟩, .trainPhaseDone 0 okInfo, .start 0 okStart,
      .tileRowComplete 0 (List.replicate 256 noTile), .understoryOffer 0 9 0 true, .domainGate 0 0x21] : List Instr).all
      Instr.wf = true := by decide +kernel
theorem test_ill_formed_requests :
    ([.jobSubmit 0 { okReq with addr := 128 }, .regRead 0 { okReq with slot := 4 }, .regWrite 0 { okReq with seq := 65536 },
      .probe 0 { okReq with payload := List.replicate 4225 0 }, .enum 0 { okReq with mac := 2 ^ 32 },
      .measRead 0 { okReq with hasMac := false }, .chnCmdUnknown 0 okReq 32, .packetDiscard 0 256,
      .wake 0 6 none 0] : List Instr).all (fun i => !i.wf) = true := by decide +kernel
theorem test_ill_formed_frames :
    ([.chainFrameRepeat 0 true [], .frameDiscard 0 true 3, .sesIdleClosed 0 4, .sesBackoffEnd 0 4,
      .posPacket 0 (List.replicate 4221 0), .ackReceive 0 65536 0, .nakReceive 0 0 65536, .linkPacketBad 0 [0x78] []] :
      List Instr).all (fun i => !i.wf) = true := by decide +kernel
theorem test_ill_formed_findings :
    ([{ okFinding with rows := 256 }, { okFinding with cols := 256 }, { okFinding with stage := 3 }, { okFinding with finders := 256 },
      { okFinding with quad := [(2 ^ 24, 0), (0, 0), (0, 0), (0, 0)] }, { okFinding with quad := [(0, 2 ^ 24), (0, 0), (0, 0), (0, 0)] },
      { okFinding with quad := [] }] : List Finding).all (fun f =>
        !(Instr.decodeTaskEnd 0 0 f {}).wf && !(Instr.decodeTaskEnd 0 0 okFinding { twin := some f }).wf) = true := by
  decide +kernel
theorem test_ill_formed_engines :
    ([.decodeTaskEnd 0 18 okFinding {}, .decEngineFault 0 18 false, .exposureEnd ⟨0, [(49152, List.replicate 256 0)]⟩,
      .exposureEnd ⟨0, [(0, [])]⟩] : List Instr).all (fun i => !i.wf) = true := by decide +kernel
theorem test_ill_formed_training :
    ([.trainPhaseDone 0 { okInfo with rxLanes := 32 }, .trainPhaseDone 0 { okInfo with txLanes := 32 },
      .trainPhaseDone 0 { okInfo with inverted := 32 }, .trainPhaseDone 0 { okInfo with partner := [5] },
      .trainPhaseDone 0 { okInfo with peaks := [[257]] }, .trainPhaseDone 0 { okInfo with peaks := [List.replicate 17 1] }, .detectCheck 0 32, .lnkLaneLost 0 5 true, .restripe 0 32 0 0,
      .restripe 0 0 256 0, .restripe 0 0 0 5, .eyeScanStart 0 none 5 0, .laneEqScan 0 []] : List Instr).all
      (fun i => !i.wf) = true := by decide +kernel
theorem test_ill_formed_starts :
    ([.start 0 { okStart with s1 := 4 }, .start 0 { okStart with s3 := 4 }, .start 0 { okStart with s3Part := 3 },
      .start 0 { okStart with s6 := 4 }, .start 0 { okStart with link := 4 }, .start 0 { okStart with engines := 2 ^ 18 },
      .start 0 { okStart with macros := [256] }, .start 0 { okStart with mem := { okStart.mem with ranksA := [0, 0, 0] } }, .start 0 { okStart with mem := { okStart.mem with fails := [4] } },
      .start 0 { okStart with temp := 65536 }, .wakeStepReady 0 false { codes := [8] }, .supplyOutOfRange 0 9] : List Instr).all
      (fun i => !i.wf) = true := by decide +kernel
theorem test_ill_formed_numbers :
    ([.paceSample 0 65536 [], .paceSample 0 0 [1], .deliveryDeadline 0 (2 ^ 32) 0, .commitCut 0 0 (2 ^ 32),
      .armTimeout 0 (2 ^ 32), .intervalEnd 0 (2 ^ 32), .triggerInput 0 2 true, .triggerAccept 0 5, .tileRowComplete 0 [],
      .bandConverted 0 [(49152, [])], .groupCommit 0 3, .coefWrite 0 none true 32 0, .pdBiasFault 0 8, .adcFault 0 9,
      .suppressEnd 0 8, .freezePinEdge 0 8 true, .rsmOverspeed 0 8 0, .sweepBoundary 0 (2 ^ 32), .windowStart 0 (2 ^ 32),
      .windowEnd 0 (2 ^ 32), .posLate 0 0 8 0, .lineDecode 0 (2 ^ 32) []] : List Instr).all (fun i => !i.wf) = true := by
  decide +kernel
theorem test_ill_formed_units :
    ([.litTrimSlot 0 8, .pdCalStart 0 8, .pdCalEnd 0 8 [] [], .pdCalEnd 0 7 [8192] [], .campaignClose 0 (2 ^ 32), .fitStart 0 (2 ^ 32),
      .fitEnd 0 (2 ^ 32) true, .dramDqsSlot 0 [1, 2, 3, 4, 5], .ledTest 0 24 0 0 0, .dutyClamp 0 24, .patStepExpiry 0 2,
      .patRampUnit 0 2, .patWaitexpTimeout 0 2, .muxSlot 0 2, .bndClose 0 none 4, .rwbWrite 0 none (2 ^ 18) 0,
      .evtLatchClear 0 none 256 0, .faultClear 0 none 256, .claimTake 0 none 33, .claimRelease 0 none 33,
      .claimForceRelease 0 none 33, .timerFire 0 8, .timerPulseEnd 0 8, .timestampLoRead 0 none (2 ^ 18),
      .regWriteOther 0 none (2 ^ 18) 0] : List Instr).all (fun i => !i.wf) = true := by decide +kernel
theorem test_ill_formed_memory_and_power :
    ([.refreshDue 0 2 0 true, .burstEnd 0 2, .mr4Read 0 0 0 8, .refreshWindow 0 0 2, .neighbourRefresh 0 0 0 8 0,
      .scrubRead 0 0 0 0 131072 [] [] true, .scrubRead 0 0 0 0 0 [⟨256, []⟩] [] true, .remapCopyDone 0 2, .pageHoldExpiry 0 0 0 8, .rankPowerDown 0 0 2,
      .chunkBoundary 0 0 0 0 0 ⟨.roi, 2049, true⟩ 0 {}, .chunkBoundary 0 0 0 0 0 ⟨.link, 9, false⟩ 0 { again := [⟨0, [72]⟩] }, .domainGate 0 8, .pwrGateWait 0 0x22, .domainWake 0 none (2 ^ 18), .domainReady 0 8,
      .pwrDomainLate 0 8, .domainWatchdog 0 8, .aonWindow 0 0 65536, .aonTempSample 0 65536, .understoryOffer 0 0 0 true,
      .understoryOffer 0 10 0 true, .thmHot 0 65536, .thmShutdown 0 65536, .chainSample 0 8 [], .chainSample 0 0 [8192]] :
      List Instr).all (fun i => !i.wf) = true := by decide +kernel

/-! ### Numbers the spec works out -/

def ascii9 : List Byte := [0x31, 0x32, 0x33, 0x34, 0x35, 0x36, 0x37, 0x38, 0x39]
/-- The check value of 13 R487. -/
theorem test_crc16 : crc16 ascii9 = 0x29B1 := by decide +kernel
/-- The check value of 14 R524. -/
theorem test_crc32 : crc32 ascii9 = 0xCBF43926 := by decide +kernel
/-- The example of 05 R215: 20 bits 0001 0011 1000 0010 0001 give 1000. -/
theorem test_blaze_l_check : blazeCrc 0x13821 = 8 := by decide +kernel
/-- The example of 05 R207, whole, and with its seventh symbol damaged (R210). -/
theorem test_blaze_d_checks : blazeChecks [1, 3, 8, 2, 8, 3, 1, 1, 7, 7] = [0x1, 0xB, 0xD, 0xA, 0xC, 0x2] := by decide +kernel
theorem test_blaze_d_corrects : blazeCorrect ([1, 3, 8, 2, 8, 3, 5, 1, 7, 7, 0x1, 0xB, 0xD, 0xA, 0xC, 0x2].map some) =
    some ([1, 3, 8, 2, 8, 3, 1, 1, 7, 7, 0x1, 0xB, 0xD, 0xA, 0xC, 0x2], 1, 0) := by decide +kernel
/-- The fields of that mark (05 R204): layer 312, writer 5, mark index 3, plate fragment 4471. -/
theorem test_blaze_d_fields : (let w := [1, 3, 8, 2, 8, 3, 1, 1, 7, 7]
    (blazeLayer w, blazeWriter w, blazeIndex w, blazeFragment w)) = (312, 5, 3, 4471) := by decide +kernel
/-- The worked examples of the standards that 05 R191 to R194 name (log 94): Data Matrix "123456", with two damaged
codewords, which are put right, and with three, which are not; a QR version 1 symbol at level M with "01234567", five codewords damaged; the QR format and
version information; a Code 128 label "PJJ123C" from start set A. -/
theorem test_data_matrix : let w := [142, 164, 186, 114, 25, 5, 88, 102]
    (rsSyndromes dmPoly 1 5 w, rsCorrect dmPoly 1 5 2 [142, 0, 186, 114, 25, 5, 81, 102],
      rsCorrect dmPoly 1 5 2 [142, 0, 186, 114, 25, 7, 81, 102], (dmMessage [142, 164, 186]).map (·.toks)) =
    ([0, 0, 0, 0, 0], some (w, 2), none, some ([49, 50, 51, 52, 53, 54].map .ch)) := by decide +kernel
theorem test_qr : let w := [0x10,0x20,0x0C,0x56,0x61,0x80,0xEC,0x11,0xEC,0x11,0xEC,0x11,0xEC,0x11,0xEC,0x11,0xA5,0x24,0xD4,0xC1,0xED,0x36,
      0xC7,0x87,0x2C,0x55]
    (rsSyndromes qrPoly 0 10 w, rsCorrect qrPoly 0 10 5 ((((w.set 1 0x21).set 6 0xEF).set 9 0x10).set 13 0x12 |>.set 17 0x25),
      formatCode 0x5412 5, versionCode 7) = (List.replicate 10 0, some (w, 5), 0x40CE, 0x07C94) := by decide +kernel
theorem test_code128 : let s := [103, 48, 42, 42, 17, 18, 19, 35, 54]
    (c128Check s, c128Check (s.set 3 43), (c128Message (s.take 8)).toks) =
    (true, false, ['P', 'J', 'J', '1', '2', '3', 'C'].map (fun c => .ch c.toNat)) := by decide +kernel
/-- The example of 07: k, G, PDC.SETTLE and PDC.SETTLE_UNFREEZE. -/
theorem test_chain_constants : (presetK 1000 4, groupDelay {}, settleN 6 {}, settleUnfreeze {}) = (431777, 0x0280, 82839, 82770) := by
  decide +kernel
/-- Its decimator values, and the median's removal of the flash. -/
theorem test_decimator : [25600, 26600, 91600, 246600, 281600].map (cicOut 4) = [1600, 1663, 5725, 15413, 17600] := by decide +kernel
/-- Its FIR outputs at chain samples 21 to 24. -/
def firTaps : Blk :=
  rg [(Reg.FIR_COEF_A 14, twos 18 (-8192)), (Reg.FIR_COEF_A 15, 73728), (Reg.FIR_COEF_A 16, 73728), (Reg.FIR_COEF_A 17, twos 18 (-8192))] B
def firIn : List Int := [0, 0, 0, 0, 0, 0, 0, 63, 4125, 13813] ++ List.replicate 20 16000
theorem test_fir : [21, 22, 23, 24].map (fun j => (firTaps.firOut false ((List.range 32).map (fun i =>
    if i ≤ j then firIn.getD (j - i) 0 else 0))).1) = [-4, -222, 1492, 9086] := by decide +kernel
/-- Its sample time and attribution: 4 000 000 133.75 and 4 000 000 041.25 ticks. -/
theorem test_attribution : (sampleTime 4000000000 4 26, attributed {} (256 * 16) (sampleTime 4000000000 4 26)) =
    (1024 * 4000000133 + 768, 1024 * 4000000041 + 256) := by decide +kernel
/-- The example of 08: the Lagrange value at u = 0.165 is 210 921. -/
theorem test_lagrange :
    lagrange (41 * 1024 + 256) [(-250 * 1024, -5040), (0, 0), (250 * 1024, 4960), (500 * 1024, 9840)] = 210921 := by decide +kernel
/-- The example of 11: codes 2 453 and 2 502, and d = 3 216 in the PWM region. -/
def lampDrive (g c t : Nat) : ColDrive := driveOf (currentOf g c t 256 4095).1 (currentOf g c t 256 4095).2
theorem test_lamp_codes : ((lampDrive 200 800 0x8000).code, (lampDrive 200 800 0x8290).code, (lampDrive 64 200 0x8000).duty) =
    (2453, 2502, some 3216) := by decide +kernel
/-- The example of 16: the uncertainty of a night in Rosemary is 300 240 256 ns. -/
theorem test_sleep_bound : sleepBound 187650000000 true = 300240256 := by decide +kernel

/-- The jobs of the example of 02: class, symbologies, symbols, size, ROI tiles, payload cap, grading and pool. -/
def expDesc (tag cls sym ms sz rt cap gr pool : Nat) : List Byte :=
  le 1 1 ++ le 1 cls ++ le 2 0 ++ le 4 tag ++ le 4 0 ++ le 4 0 ++ le 4 937500 ++ le 4 0 ++ le 1 pool ++ le 1 0 ++ le 2 cap ++ le 4 0 ++
  le 1 0 ++ le 1 0 ++ le 1 0 ++ le 1 gr ++ le 4 1000 ++ le 4 sym ++ le 1 ms ++ le 1 sz ++ le 2 rt ++ le 4 0 ++ le 4 0 ++
  le 4 (2 ^ 24 - 1) ++ le 4 (3072 * 4096) ++ zeros 64
def job1 : Job := { seq := 1, desc := expDesc 1 1 0x81 16 3 1024 64 0 0, acceptedAt := 0 }
def job2 : Job := { seq := 2, desc := expDesc 2 2 0x80 64 3 2048 64 0 1, acceptedAt := 0 }
def job3 (graded : Nat) : Job := { seq := 3, desc := expDesc 3 2 4 64 7 4096 256 graded 2, acceptedAt := 0 }
def cell : Blk :=
  { rg [(Reg.ADM_PACE_PLAN, 0x39993852), (claimReg 16, 1), (claimReg 17, 1), (claimReg 18, 1)] B with jobs := [job1, job2] }
/-- Their costs in µs and their traffic in bytes. -/
theorem test_job_costs : [job1, job2, job3 1, job3 0].map (fun j => (j.engineTime / 16, j.dramBytes)) =
    [(608, 1773568), (1024, 2768896), (29568, 4734976), (21120, 4734976)] := by decide +kernel
/-- J3 graded fails test 10 with 0xB111 and load_eng 7 675; ungraded it is accepted with 5 675. -/
theorem test_graded_job_refused : cell.judge 1 (job3 1) = some (0xB111, 10, 0xFFFF) := by decide +kernel
theorem test_ungraded_job_accepted : cell.judge 1 (job3 0) = none ∧ cell.poolFree (job3 0) = 61 ∧ (job3 0).storeBytes = 61632 := by
  decide +kernel
theorem test_engine_loads : ((cell.engineLoad [job1, job2, job3 1] 14418).pct, (cell.engineLoad [job1, job2, job3 0] 14418).pct) =
    (7675, 5675) := by decide +kernel

/-- The tile of the example of 03: its word is 0x523A_C421_1840_348A. -/
def tile37 : TileIn :=
  { edge := 138, orient := 4, coh := 3, l := 24, q := 33, d := 196, mean := 0x3A * 16 + 5, contrast := 82 }
def tileJob : Job := { seq := 1, desc := expDesc 1 1 0x41 16 3 1024 64 0 0, acceptedAt := 0 }
theorem test_tile_word : tileWord tileJob B.frameCfg 102 37 (tile37, false) = 0x523AC4211840348A := by decide +kernel

/-- The record of the example of 06: bytes 0 to 15, and its payload. -/
def plateJob : Job :=
  { seq := 500, acceptedAt := 0, desc := le 1 1 ++ le 1 1 ++ le 2 0 ++ le 4 0xC11 ++ zeros 18 ++ le 2 64 ++ zeros 12 ++ le 4 0x81 ++
      le 1 4 ++ le 1 3 ++ zeros 82 }
def okReading : Reading :=
  { kind := .dataMatrix, rows := 24, cols := 24, stage := 5, errors := 1, data := [0x5A, 0x50, 0x34, 0x34, 0x37, 0x31],
    symId := 0x3164, x := 3113984, y := 1805312, angle := 546, pitch := 0xA00 }
def plateCluster : Cluster :=
  { id := 0, tiles := [], last := 0, index := some 0, tallySeq := 0x3AD1C, prim := some {
      f := okReading, family := 1, status := 0, eng := 3, startedAt := 0, endedAt := 10000054648, inSlot := true } }
def plateFrame : Frame :=
  { jobSeq := 500, unit := 100000, trigAt := 0, expStart := 0, expEnd4 := 0, busyUntil4 := 0, cfg := B.frameCfg, sectors := 0x11 }
def plateRecord : List Byte := frameRecord plateJob plateFrame 10000031290 0xC3 0 plateCluster
theorem test_record_head : plateRecord.take 16 = [1, 1, 0, 1, 0x11, 0xC, 0, 0, 0xF4, 1, 0, 0, 0xA0, 0x86, 1, 0] := by decide +kernel
theorem test_record_rest : (plateRecord.drop 40).take 16 = [0x22, 2, 0, 0xA, 0x18, 0x18, 0xF, 1, 0, 0, 0, 0x11, 0x1C, 0xAD, 3, 0] ∧
    plateRecord.drop 76 = [0x5A, 0x50, 0x34, 0x34, 0x37, 0x31] ∧ plateRecord.length = 82 := by decide +kernel

/-- The camera model's example of 09: xu and yu are 0.037 525 407 and −0.037 477 977. -/
def f64b (n : Int) (d : Nat) : List Byte := le 8 (F64.ofQ ⟨n, d⟩).bits
def lens : List Byte :=
  zeros 8 ++ f64b 2048 1 ++ f64b 1536 1 ++ f64b 16000 1 ++ f64b (-5) 100 ++ zeros 16 ++ f64b 2 10000 ++ zeros 72
theorem test_camera : (let r := undistort lens (F64.ofQ ⟨26485, 10⟩) (F64.ofQ ⟨93625, 100⟩)
    ((r.1.q.mul ⟨10 ^ 9, 1⟩).rhu, (r.2.1.q.mul ⟨10 ^ 9, 1⟩).rhu)) = (37525407, -37477977) := by decide +kernel

/-! ### States that meet the statements' hypotheses

The blocks these states are built from: one with pool 0 claimed by the Operator, a job, frames at several points of their
lives, and what each group adds. -/

def BB := rg [(claimReg 16, 1)] B
def j0 := jb 1 3 9 2 1000000 2 0 4
def N : Blk := { BB with now := 9000000 }
def fr (f : Frame → Frame) : Frame := f {
    jobSeq := 4, unit := 7, desc := j0.desc, trigAt := 0, expStart := 8999000, expEnd4 := 36000000,
    busyUntil4 := 36000300, cfg := BB.frameCfg }
def F (fs : List Frame) (b : Blk := N) : Blk := { b with jobs := [j0], sns := { b.sns with frames := fs } }
def done_ (f : Frame) : Frame := { f with
    started := true, zero := some 8999500, mapDone := true, deadline := 9000000 }
def cutf (f : Frame) : Frame := { f with started := true, zero := some 8999500, deadline := 9003125 }

namespace Access

def u0 : Bundle := { id := 5, slot := 0, writes := [(Reg.LNK_REPLAY_LIMIT, 400)], role := 1 }
def Bu := { B with bnd := { B.bnd with opened := [some u0, none, none, none] } }

/-- States that meet the hypotheses of RegisterFileReadsBack. -/
theorem meets_RegisterFileReadsBack :
    (∃ (b : Blk), regsWf b.regs = true) :=
  ⟨B, by decide +kernel⟩

/-- States that meet the hypotheses of TimePasses. -/
theorem meets_TimePasses :
    (∃ (b : Blk) (dt : Nat) (a : Nat) (a3 : Nat) (a4 : Nat), b.time.ringRuns = true ∧ 0 < dt ∧ offOf a ≠ 16 ∧ offOf a3
      ≠ 16 ∧ offOf a4 ≠ 16) :=
  ⟨(rg [(Reg.HDR_EVT_RAW 3, 7), (Reg.PWR_CTL, 0)] B), 5, Reg.PWR_CTL, 3, 6, by decide +kernel⟩

/-- States that meet the hypotheses of EventsShowInRegistersAndOnEvtN. -/
theorem meets_EventsShowInRegistersAndOnEvtN :
    (∃ (page : Nat) (bit : Nat) (a : Nat) (a2 : Nat), bit < 32 ∧ a ≠ Reg.HDR_EVT_RAW page ∧ a ≠ Reg.HDR_EVT_LATCH page
      ∧ a ≠ Reg.EVT_LOST ∧ a2 ≠ Reg.HDR_EVT_RAW page ∧ a2 ≠ Reg.HDR_EVT_LATCH page ∧ a2 ≠ Reg.EVT_LOST) :=
  ⟨3, 0, (Reg.HDR_FAULT 3), Reg.PWR_CTL, by decide +kernel⟩

/-- States that meet the hypotheses of FaultsLatchAndAreLogged. -/
theorem meets_FaultsLatchAndAreLogged :
    (∃ (page : Nat) (code : Nat) (a : Nat), code < 65536 ∧ page < 256 ∧ a ≠ Reg.HDR_FAULT page ∧ a ≠
      Reg.SYS_FLOG_COUNT) :=
  ⟨3, 0xB020, Reg.PWR_CTL, by decide +kernel⟩

/-- States that meet the hypotheses of EnabledEventsMakeNotices. -/
theorem meets_EnabledEventsMakeNotices :
    (∃ (b : Blk) (page : Nat) (bit : Nat), bit < 32 ∧ bitN (b.regN (Reg.HDR_EVT_LATCH page)) bit = false ∧ bitN
      (b.regN (Reg.HDR_EVT_ENABLE page)) bit = true ∧ bitN (b.regN (Reg.HDR_CONTROL page)) 1 = true ∧ page < 256 ∧
      bitN (b.regN Reg.EVT_ROUTE) 0 = false ∧ b.linkUp = true) ∧
    (∃ (b : Blk) (page : Nat) (bit : Nat), bit < 32 ∧ bitN (b.regN (Reg.HDR_EVT_LATCH page)) bit = false ∧ bitN
      (b.regN (Reg.HDR_EVT_ENABLE page)) bit = true ∧ bitN (b.regN (Reg.HDR_CONTROL page)) 1 = true ∧ page < 256 ∧
      bitN (b.regN Reg.EVT_ROUTE) 0 = true ∧ b.evt.held.length < 64) :=
  ⟨⟨(rg [(Reg.HDR_EVT_ENABLE 3, 5), (Reg.HDR_CONTROL 3, 3), (Reg.EVT_ROUTE, 0)] B), 3, 0, by decide +kernel⟩,
   ⟨(rg [(Reg.HDR_EVT_ENABLE 3, 5), (Reg.HDR_CONTROL 3, 3), (Reg.EVT_ROUTE, 1)] B), 3, 0, by decide +kernel⟩⟩

/-- States that meet the hypotheses of WritesAreCheckedInOrder. -/
theorem meets_WritesAreCheckedInOrder :
    (∃ (dt : Nat) (a : Nat) (s : State) (b : Blk), b = s.blk.elapse dt ∧ b.pwr.mode = PwrMode.run ∧ b.sys.mode =
      SysMode.ready ∧ a % 4 ≠ 0) ∧
    (∃ (dt : Nat) (a : Nat) (s : State) (b : Blk), b = s.blk.elapse dt ∧ b.pwr.mode = PwrMode.run ∧ b.sys.mode =
      SysMode.ready ∧ a % 4 = 0 ∧ b.pageListed (pageOf a) = false) ∧
    (∃ (dt : Nat) (who : Option (Fin 4)) (a : Nat) (s : State) (b : Blk), b = s.blk.elapse dt ∧ b.pwr.mode =
      PwrMode.run ∧ b.sys.mode = SysMode.ready ∧ a % 4 = 0 ∧ b.pageListed (pageOf a) = true ∧ mayWrite (b.role who) a
      = false) ∧
    (∃ (dt : Nat) (who : Option (Fin 4)) (a : Nat) (s : State) (b : Blk), b = s.blk.elapse dt ∧ b.pwr.mode =
      PwrMode.run ∧ b.sys.mode = SysMode.ready ∧ a % 4 = 0 ∧ b.pageListed (pageOf a) = true ∧ mayWrite (b.role who) a
      = true ∧ (Option.any (fun (r : Nat) => b.owner r != b.role who) (configResource a) = true)) :=
  ⟨⟨0, 0x1d42, (W B), _, rfl, by decide +kernel⟩,
   ⟨0, 0x5800, (W B), _, rfl, by decide +kernel⟩,
   ⟨0, ((none : Who)), Reg.PWR_CTL, (W B), _, rfl, by decide +kernel⟩,
   ⟨0, ((some 0 : Who)), (Reg.GPC_GP_CFG 0), (W B), _, rfl, by decide +kernel⟩⟩

/-- States that meet the hypotheses of DirectWritesTakeEffectOrAreIgnored. -/
theorem meets_DirectWritesTakeEffectOrAreIgnored :
    (∃ (dt : Nat) (i : Fin 4) (a : Nat) (s : State) (b : Blk), b = s.blk.elapse dt ∧ b.pwr.mode = PwrMode.run ∧
      b.sys.mode = SysMode.ready ∧ b.writeCheck (some i) a = 0 ∧ b.domReady (domOf a) = true ∧ 64 ≤ offOf a ∧
      (accessOf a = Access.ro ∨ accessOf a = Access.rsv)) ∧
    (∃ (dt : Nat) (i : Fin 4) (a : Nat) (v : Word) (s : State) (b : Blk), b = s.blk.elapse dt ∧ b.pwr.mode =
      PwrMode.run ∧ b.sys.mode = SysMode.ready ∧ b.writeCheck (some i) a = 0 ∧ b.domReady (domOf a) = true ∧ 64 ≤
      offOf a ∧ (accessOf a = Access.rw ∨ accessOf a = Access.w1c ∨ accessOf a = Access.wo) ∧ valueOk a (BitVec.toNat
      v) = false) ∧
    (∃ (dt : Nat) (i : Fin 4) (a : Nat) (v : Word) (s : State) (b : Blk), b = s.blk.elapse dt ∧ b.pwr.mode =
      PwrMode.run ∧ b.sys.mode = SysMode.ready ∧ b.writeCheck (some i) a = 0 ∧ b.domReady (domOf a) = true ∧ 64 ≤
      offOf a ∧ accessOf a = Access.rw ∧ pageOf a ≠ 67 ∧ ¬(11 ≤ pageOf a ∧ pageOf a ≤ 15) ∧ ¬a ∈ [Reg.ADM_HIST_SEL,
      Reg.TLYC_PARAM_SEL, Reg.TLYA_LOG_SEL, Reg.LNK_CTL, Reg.TMB_ALARM_HI, Reg.TMB_ALARM_CTL, Reg.TMB_CTL] ∧ valueOk a
      (BitVec.toNat v) = true) :=
  ⟨⟨0, ((0:Fin 4)), Reg.PWR_WAKE_SRC, (W B), _, rfl, by decide +kernel⟩,
   ⟨0, ((0:Fin 4)), Reg.PWR_CTL, ((8:Word)), (W B), _, rfl, by decide +kernel⟩,
   ⟨0, ((0:Fin 4)), Reg.PWR_CTL, ((1:Word)), (W B), _, rfl, by decide +kernel⟩⟩

/-- States that meet the hypotheses of OpenBundlesStageWrites. -/
theorem meets_OpenBundlesStageWrites :
    (∃ (dt : Nat) (i : Fin 4) (a : Nat) (v : Word) (s : State) (u : Bundle) (b : Blk), b = s.blk.elapse dt ∧
      b.pwr.mode = PwrMode.run ∧ b.sys.mode = SysMode.ready ∧ b.writeCheck (some i) a = 0 ∧ accessOf a = Access.rwb ∧
      b.openBundle ↑i = some u ∧ valueOk a (BitVec.toNat v) = true ∧ (u.writes.length < 256 ∨ ∃ (w : Nat × Word), w ∈
      u.writes ∧ w.fst = a)) :=
  ⟨0, ((0:Fin 4)), Reg.LNK_REPLAY_LIMIT, ((500:Word)), (W Bu), u0, _, rfl, by decide +kernel⟩

/-- States that meet the hypotheses of BundlesOpenCloseAndAbort. -/
theorem meets_BundlesOpenCloseAndAbort :
    (∃ (dt : Nat) (i : Fin 4) (point : Nat) (s : State) (u : Bundle) (b : Blk), b = s.blk.elapse dt ∧ b.pwr.mode =
      PwrMode.run ∧ b.sys.mode = SysMode.ready ∧ b.domReady 7 = true ∧ (b.role (some i) = 1 ∨ b.role (some i) = 2) ∧
      point < 3 ∧ b.openBundle ↑i = some u) ∧
    (∃ (dt : Nat) (i : Fin 4) (point : Nat) (s : State) (b : Blk), b = s.blk.elapse dt ∧ b.pwr.mode = PwrMode.run ∧
      b.sys.mode = SysMode.ready ∧ b.domReady 7 = true ∧ (b.role (some i) = 1 ∨ b.role (some i) = 2) ∧ point < 3 ∧
      b.openBundle ↑i = none ∧ b.bundleRoom ↑i = true) ∧
    (∃ (dt : Nat) (i : Fin 4) (point : Nat) (s : State) (b : Blk), b = s.blk.elapse dt ∧ b.pwr.mode = PwrMode.run ∧
      b.sys.mode = SysMode.ready ∧ b.domReady 7 = true ∧ (b.role (some i) = 1 ∨ b.role (some i) = 2) ∧ point < 3 ∧
      b.openBundle ↑i = none ∧ b.bundleRoom ↑i = false) :=
  ⟨⟨0, ((0:Fin 4)), 1, (W Bu), u0, _, rfl, by decide +kernel⟩,
   ⟨0, ((0:Fin 4)), 1, (W B), _, rfl, by decide +kernel⟩,
   ⟨0, ((0:Fin 4)), 1, (W { B with
      bnd := { B.bnd with waiting := [u0, {u0 with id := 6}, {u0 with id := 7}, {u0 with id := 8}] } }), _, rfl,
    by decide +kernel⟩⟩

/-- States that meet the hypotheses of BundlesCommitAllAtOnceOrExpire. -/
theorem meets_BundlesCommitAllAtOnceOrExpire :
    (∃ (dt : Nat) (s : State) (u : Bundle) (b : Blk) (a : Nat) (a2 : Nat) (a3 : Nat) (b2 : Blk), b = s.blk.elapse dt ∧
      b2 = s.blk.elapse dt ∧ (List.find? (fun (w : Bundle) => decide (w.id = u.id)) b.bnd.waiting = some u) ∧ u.point
      = 0 ∧ b.readyFor u.writes = true ∧ u.slot < 4 ∧ b.bnd.callers.length = 4 ∧ b.bnd.nextTag < 65536 ∧ ((List.map
      (fun (x : Nat × Word) => x.fst) u.writes).Nodup) ∧ (∀ (w : Nat × Word), w ∈ u.writes → plainRwb w.fst = true) ∧
      (¬a ∈ Reg.BND_COUNTS :: List.map (fun (x : Nat × Word) => x.fst) u.writes) ∧ 64 ≤ offOf a ∧ a ≠ Reg.EVT_LOST ∧ a
      ≠ Reg.SYS_FLOG_COUNT ∧ (¬a3 ∈ Reg.BND_COUNTS :: List.map (fun (x : Nat × Word) => x.fst) u.writes) ∧ 64 ≤ offOf
      a3 ∧ a3 ≠ Reg.EVT_LOST ∧ a3 ≠ Reg.SYS_FLOG_COUNT ∧ (List.find? (fun (w : Bundle) => decide (w.id = u.id))
      b2.bnd.waiting = some u) ∧ b2.waitEnd u ≤ b2.now ∧ b2.bnd.callers.length = 4 ∧ b2.bnd.nextTag < 65536 ∧ ¬a ∈
      [Reg.BND_COUNTS] ∧ ¬a2 ∈ [Reg.BND_COUNTS] ∧ 64 ≤ offOf a2 ∧ a2 ≠ Reg.EVT_LOST ∧ a2 ≠ Reg.SYS_FLOG_COUNT ∧ ¬a3 ∈
      [Reg.BND_COUNTS]) :=
  ⟨0, (W { B with now := 900000000, bnd := { B.bnd with waiting := [{ u0 with point := 0 }] } }), ({ u0 with
     point := 0 }), _, Reg.PWR_CTL, Reg.LNK_REPLAY_LIMIT, Reg.LNK_RESP_LIMIT, _, rfl, rfl, by decide +kernel⟩

/-- States that meet the hypotheses of LatchesAndFaultsClear. -/
theorem meets_LatchesAndFaultsClear :
    (∃ (dt : Nat) (i : Fin 4) (page : Nat) (bits : Word) (s : State) (b : Blk), b = s.blk.elapse dt ∧ b.pwr.mode =
      PwrMode.run ∧ b.sys.mode = SysMode.ready ∧ (pageInfo page).isSome = true ∧ b.domReady (domOf (page * 1024)) =
      true ∧ (b.role (some i) = 2 ∨ b.role (some i) = 1 ∧ page ≠ 8) ∧ (bits &&& ~~~BitVec.ofNat 32 (evtMask page) = 0)
      ∧ page ≠ 72) :=
  ⟨0, ((0:Fin 4)), 3, ((3:Word)), (W (rg [(Reg.HDR_EVT_LATCH 3, 5), (Reg.HDR_FAULT 3, 0x1B020), (Reg.HDR_CONTROL 3,
   3)] B)), _, rfl, by decide +kernel⟩

/-- States that meet the hypotheses of ClaimsChangeHands. -/
theorem meets_ClaimsChangeHands :
    (∃ (dt : Nat) (i : Fin 4) (res : Nat) (s : State) (b : Blk) (hw : Bool), b = s.blk.elapse dt ∧ (hw = (decide
      (b.owner res = 16) || decide (b.owner res = 17))) ∧ b.pwr.mode = PwrMode.run ∧ b.sys.mode = SysMode.ready ∧
      b.domReady 7 = true ∧ res < 33 ∧ b.role (some i) ∈ [1, 2, 3] ∧ b.owner res = b.role (some i) ∧ (hw = true ∨
      b.owner res = b.role (some i) ∧ b.claimInUse res = true) ∧ (hw = true ∨ b.role (some i) = 2 ∧ b.owner res ≠ 0 ∧
      b.claimInUse res = true)) ∧
    (∃ (dt : Nat) (i : Fin 4) (res : Nat) (s : State) (b : Blk) (hw : Bool), b = s.blk.elapse dt ∧ (hw = (decide
      (b.owner res = 16) || decide (b.owner res = 17))) ∧ b.pwr.mode = PwrMode.run ∧ b.sys.mode = SysMode.ready ∧
      b.domReady 7 = true ∧ res < 33 ∧ b.role (some i) ∈ [1, 2, 3] ∧ b.owner res = 0 ∧ hw = false ∧ b.owner res ≠
      b.role (some i) ∧ b.role (some i) ≠ 2) ∧
    (∃ (dt : Nat) (i : Fin 4) (res : Nat) (s : State) (b : Blk) (hw : Bool), b = s.blk.elapse dt ∧ (hw = (decide
      (b.owner res = 16) || decide (b.owner res = 17))) ∧ b.pwr.mode = PwrMode.run ∧ b.sys.mode = SysMode.ready ∧
      b.domReady 7 = true ∧ res < 33 ∧ b.role (some i) ∈ [1, 2, 3] ∧ b.owner res ≠ 0 ∧ b.owner res ≠ b.role (some i) ∧
      hw = false ∧ b.role (some i) = 2 ∧ b.claimInUse res = false) ∧
    (∃ (dt : Nat) (i : Fin 4) (res : Nat) (s : State) (b : Blk) (hw : Bool), b = s.blk.elapse dt ∧ (hw = (decide
      (b.owner res = 16) || decide (b.owner res = 17))) ∧ b.pwr.mode = PwrMode.run ∧ b.sys.mode = SysMode.ready ∧
      b.domReady 7 = true ∧ res < 33 ∧ b.role (some i) ∈ [1, 2, 3] ∧ b.owner res = b.role (some i) ∧ b.claimInUse res
      = false ∧ b.role (some i) ≠ 2 ∧ hw = false) :=
  ⟨⟨0, ((1:Fin 4)), 17, (W {
     rg [(claimReg 17, 2)] B with store := { B.store with
       pools := upd B.store.pools 1 (fun p => { p with
         recs := [{ seq := 0, jobSeq := 1, unitSeq := 0, bytes := [], order := 0 }] }) } }), _, _, rfl, rfl,
   by decide +kernel⟩,
   ⟨0, ((0:Fin 4)), 17, (W B), _, _, rfl, rfl, by decide +kernel⟩,
   ⟨0, ((1:Fin 4)), 3, (W (rg [(claimReg 3, 1)] B)), _, _, rfl, rfl, by decide +kernel⟩,
   ⟨0, ((0:Fin 4)), 3, (W (rg [(claimReg 3, 1)] B)), _, _, rfl, rfl, by decide +kernel⟩⟩

/-- States that meet the hypotheses of TimersAndTimestampsAreRead. -/
theorem meets_TimersAndTimestampsAreRead :
    (∃ (dt : Nat) (i : Fin 4) (n : Nat) (s : State) (k : TimerSt) (t : Nat) (b : Blk), b = s.blk.elapse dt ∧ n < 8 ∧
      b.gpc.timers[n]? = some k ∧ b.pwr.mode = PwrMode.run ∧ b.sys.mode = SysMode.ready ∧ k.next = some t ∧ t ≤ b.now
      ∧ b.jobsNaming (16 + n) = [] ∧ k.pulse = true ∧ k.firedAt + 313 ≤ b.now ∧ b.role (some i) ≠ 0 ∧ b.domReady 7 =
      true ∧ lookupReg b.hiCapture Reg.GPC_TIMERS = none) ∧
    (∃ (dt : Nat) (i : Fin 4) (n : Nat) (s : State) (t : Nat) (b2 : Blk) (w : Word), b2 = s.blk.elapse dt ∧ lookupReg
      b2.hiCapture t = some w ∧ b2.pwr.mode = PwrMode.run ∧ b2.sys.mode = SysMode.ready ∧ b2.role (some i) ≠ 0 ∧ hiOf
      n = some t ∧ b2.domReady (domOf n) = true ∧ lookupReg b2.hiCapture n = none) :=
  ⟨⟨0, ((0:Fin 4)), 2, (W { B with
     now := 1000, gpc := { B.gpc with
       timers := upd B.gpc.timers 2 (fun _ => { next := some 1000, pulse := true, firedAt := 100 }) } }), (({
     next := some 1000, pulse := true, firedAt := 100 } : TimerSt)), 1000, _, rfl, by decide +kernel⟩,
   ⟨0, ((0:Fin 4)), Reg.SNS_TRIG_TIME_LO, (W { B with now := 1000, hiCapture := [(Reg.SNS_TRIG_TIME_HI, 7)]}),
    Reg.SNS_TRIG_TIME_HI, _, _, rfl, rfl, by decide +kernel⟩⟩

end Access

namespace Bundles

/-- States that meet the hypotheses of FramesTravelTheChain. -/
theorem meets_FramesTravelTheChain :
    (∃ (dt : Nat) (cho : Bool) (bytes : List Byte) (s : State) (b : Blk) (b2 : Blk), b = s.blk.elapse dt ∧ b.pwr.mode
      ≠ PwrMode.reset ∧ (b.hopBroken !cho) = false ∧ (128 ≤ getLe bytes 0 1 ∨ b.actsOn (getLe bytes 0 1) (getLe bytes
      1 1 % 32) = false) ∧ b.hopBroken cho = false ∧ b.hopSends cho = true ∧ b2.hopBroken cho = false ∧ b2.hopSends
      cho = true) ∧
    (∃ (dt : Nat) (cho : Bool) (bytes : List Byte) (s : State) (b : Blk) (b2 : Blk), b = s.blk.elapse dt ∧ b.pwr.mode
      ≠ PwrMode.reset ∧ (b.hopBroken !cho) = false ∧ (128 ≤ getLe bytes 0 1 ∨ b.actsOn (getLe bytes 0 1) (getLe bytes
      1 1 % 32) = false) ∧ b2.hopBroken cho = true) ∧
    (∃ (dt : Nat) (cho : Bool) (bytes : List Byte) (s : State) (b : Blk) (b2 : Blk), b = s.blk.elapse dt ∧ b.pwr.mode
      ≠ PwrMode.reset ∧ (b.hopBroken !cho) = false ∧ (128 ≤ getLe bytes 0 1 ∨ b.actsOn (getLe bytes 0 1) (getLe bytes
      1 1 % 32) = false) ∧ b2.hopBroken cho = false ∧ b2.hopSends cho = false) :=
  ⟨⟨0, true, (([0x85, 0, 1, 0] : List Byte)), (W B), _, B, rfl, by decide +kernel⟩,
   ⟨0, false, (([0x85, 0, 1, 0] : List Byte)), (W (rg [(Reg.CHN_HOP, 4)] B)), _, (rg [(Reg.CHN_HOP, 4)] B), rfl,
    by decide +kernel⟩,
   ⟨0, false, (([0x85, 0, 1, 0] : List Byte)), (W B), _, B, rfl, by decide +kernel⟩⟩

/-- A frame on its way, and a turn under way. -/
def Bs : Blk := { B with now := 400000, chn := { B.chn with sending := [{ cho := true, since := 1, symbols := 90 }] } }
theorem meets_FramesTravelTheChain_2 :
    (∃ b : Blk, b = at0 Bs ∧ b.pwr.mode ≠ PwrMode.reset ∧ b.hopBroken true = false ∧ b.hopSends true = true ∧ b.hopWaits true = true) ∧
    (∃ b : Blk, b = at0 { Bs with chn := { Bs.chn with turned := [none, some 399000] } } ∧ b.pwr.mode ≠ PwrMode.reset ∧
      b.hopSends true = true ∧ b.turning true = true) ∧
    (∃ b : Blk, b = at0 Bs ∧ b.pwr.mode ≠ PwrMode.reset ∧ b.hopSends true = true ∧ b.turning true = false) :=
  ⟨⟨_, rfl, by decide +kernel⟩, ⟨_, rfl, by decide +kernel⟩, ⟨_, rfl, by decide +kernel⟩⟩

/-- States that meet the hypotheses of FrontEndCommandsAreCarriedOut. -/
theorem meets_FrontEndCommandsAreCarriedOut :
    (∃ (dt : Nat) (r : Req) (s : State) (cmd : Nat) (c : Call) (f : Blk) (b2 : Blk), b2 = s.blk.elapse dt ∧ b2.accepts
      r (cmd % 32) c f ∧ listedCmd (cmd % 32) = false) ∧
    (∃ (dt : Nat) (r : Req) (s : State) (c : Call) (f : Blk) (b2 : Blk), b2 = s.blk.elapse dt ∧ b2.accepts r 2 c f ∧
      r.payload = []) ∧
    (∃ (dt : Nat) (r : Req) (s : State) (c : Call) (f : Blk) (b2 : Blk), b2 = s.blk.elapse dt ∧ b2.accepts r 3 c f ∧
      r.payload.length = 4 ∧ getLe r.payload 0 1 = 0) ∧
    (∃ (dt : Nat) (r : Req) (s : State) (c : Call) (f : Blk) (b2 : Blk), b2 = s.blk.elapse dt ∧ b2.accepts r 3 c f ∧
      r.payload.length = 4 ∧ getLe r.payload 0 1 = 1) ∧
    (∃ (dt : Nat) (r : Req) (s : State) (b : Blk) (next : Nat), b = s.blk.elapse dt ∧ next = getLe r.payload 0 1 ∧
      b.pwr.mode ≠ PwrMode.reset ∧ r.link = false ∧ r.cho = false ∧ r.addr % 128 = 126 ∧ b.spur = false ∧ b.hopBroken
      true = false ∧ r.payload.length = 4 ∧ 1 ≤ next ∧ bitN (getLe r.payload 2 1) 0 = false ∧ b.chainAddr ≠ 0) ∧
    (∃ (dt : Nat) (r : Req) (s : State) (b : Blk) (next : Nat), b = s.blk.elapse dt ∧ next = getLe r.payload 0 1 ∧
      b.pwr.mode ≠ PwrMode.reset ∧ r.link = false ∧ r.cho = false ∧ r.addr % 128 = 126 ∧ b.spur = false ∧ b.hopBroken
      true = false ∧ r.payload.length = 4 ∧ 1 ≤ next ∧ bitN (getLe r.payload 2 1) 0 = false ∧ b.chainAddr = 0 ∧ next ≤
      32) ∧
    (∃ (dt : Nat) (r : Req) (s : State) (b : Blk) (next : Nat), b = s.blk.elapse dt ∧ next = getLe r.payload 0 1 ∧
      b.pwr.mode ≠ PwrMode.reset ∧ r.link = false ∧ r.cho = false ∧ r.addr % 128 = 126 ∧ b.spur = false ∧ b.hopBroken
      true = false ∧ r.payload.length = 4 ∧ 1 ≤ next ∧ bitN (getLe r.payload 2 1) 0 = false ∧ b.chainAddr = 0 ∧ 32 <
      next) :=
  ⟨⟨0, (rp [] (at0 B)), (W B), 0x1F, (cp 0x1F [] (at0 B)), (fp (at0 B)), _, rfl, accepts_rp _ _ _ _
   (by decide +kernel), by decide +kernel⟩,
   ⟨0, (rp [] (at0 B)), (W B), (cp 2 [] (at0 B)), (fp (at0 B)), _, rfl, accepts_rp _ _ _ _ (by decide +kernel),
    by decide +kernel⟩,
   ⟨0, (rp [0,0,0,0] (at0 B)), (W B), (cp 3 [0,0,0,0] (at0 B)), (fp (at0 B)), _, rfl, accepts_rp _ _ _ _
    (by decide +kernel), by decide +kernel⟩,
   ⟨0, (rp [1,0,0,0] (at0 B)), (W B), (cp 3 [1,0,0,0] (at0 B)), (fp (at0 B)), _, rfl, accepts_rp _ _ _ _
    (by decide +kernel), by decide +kernel⟩,
   ⟨0, ({ rp ([1,0,0,0]) B with addr := 0x7E }), (W (rg [(Reg.CHN_ADDR, 3)] B)), _, _, rfl, rfl, by decide +kernel⟩,
   ⟨0, ({ rp ([1,0,0,0]) B with addr := 0x7E }), (W B), _, _, rfl, rfl, by decide +kernel⟩,
   ⟨0, ({ rp ([0x21,0,0,0]) B with addr := 0x7E }), (W B), _, _, rfl, rfl, by decide +kernel⟩⟩

/-- An enumeration frame that names a slot which is not open. -/
theorem meets_FrontEndCommandsAreCarriedOut_2 :
    ∃ (r : Req) (g : Blk), r.link = false ∧ r.cho = false ∧ r.addr % 128 = 0x7E ∧ r.payload.length = 4 ∧ 1 ≤ getLe r.payload 0 1 ∧
      bitN (getLe r.payload 2 1) 0 = false ∧ r.hasMac = true ∧ (at0 B).spur = false ∧ (at0 B).hopBroken true = false ∧
      ((at0 B).count Reg.CHN_FRAMES 1).sessionCheck { r := r, cmd := 0x01, at_ := (at0 B).now } = (none, g) :=
  ⟨{ rp [1, 0, 0, 0] B with addr := 0x7E, slot := 3, hasMac := true }, _, rfl, rfl, rfl, by decide +kernel, by decide +kernel,
   by decide +kernel, rfl, by decide +kernel, by decide +kernel, rfl⟩

/-- States that meet the hypotheses of AnswersAreKeptForRepeatedRequests. -/
theorem meets_AnswersAreKeptForRepeatedRequests :
    (∃ (f : Blk) (c : Call) (status : Nat) (r : Req) (s : State) (k2 : Kept) (b : Blk), b = s.blk.elapse status ∧
      c.r.link = false ∧ c.r.addr % 128 < 126 ∧ contested f.now (f.limitOf c) = false ∧ (c.r.hasMac = true → c.ctr <
      4294901760) ∧ keptIdx c.r < f.ses.kept.length ∧ b.pwr.mode = PwrMode.run ∧ b.sys.mode = SysMode.ready ∧ r.link =
      false ∧ r.addr % 128 = b.chainAddr ∧ b.chainAddr < 126 ∧ b.ses.kept[keptIdx r]? = some k2 ∧ k2.valid = true ∧
      k2.asked = askedBytes { r := r, cmd := 5, at_ := b.now : Call }) :=
  ⟨(fp (at0 B)), (cp 5 [1,2] (at0 B)), 0, (rp [1,2] (at0 B)), (W { B with
     ses := { B.ses with
       kept := upd B.ses.kept 4 (fun _ => {
         asked := askedBytes { r := rp [1,2] B, cmd := 0x05, at_ := B.now }, answer := [9], valid := true }) } }), (({
     asked := askedBytes { r := rp [1,2] B, cmd := 0x05, at_ := B.now }, answer := [9], valid := true } : Kept)), _,
   rfl, by decide +kernel⟩

end Bundles

namespace Sessions

def pr (a : Nat) : List Byte := le 4 a ++ [1,0,0,0]
def pw (a v : Nat) : List Byte := le 4 a ++ [1,0,0,0] ++ le 4 v
def st0 := { B with
    now := 10000000, chn := { B.chn with
      stalls := [{ dom := 6, since := 3, what := .req (cp 4 (pr Reg.LNK_CTL) B) 0 [] }] } }
def rec0 : Rec := { seq := 3, jobSeq := 1, unitSeq := 0, bytes := [7,8], order := 0 }
def Bp := { B with
    store := { B.store with
      pools := upd B.store.pools 1 (fun p => { p with recs := [rec0, { rec0 with seq := 4, bytes := [9] }] }) } }
def mi : MeasItem := { isSeal := false, num := 2, bytes := [4] }
def Bm := { B with tly := { B.tly with store := [mi, { mi with num := 3 }] } }
def pm (t n : Nat) : List Byte := le 1 t ++ zeros 3 ++ le 8 n
def Bc := { B with store := { B.store with corr := [{ tag := 5, jobSeq := 1, bytes := [1,2,3] }] } }
def Bn := { B with
    evt := { B.evt with
      held := [{ seq := 1, code := 2, page := 3, bit := 4, time := 5 }, {
        seq := 2, code := 2, page := 3, bit := 4, time := 5 }] } }
def pch (r : Nat) : List Byte := le 4 r ++ le 16 77
def Bk := { B with ses := { B.ses with opKey := .value 5 } }
def Bq := Bk.updSlot 3 (fun _ => { st := .challenged, role := 1, nh := 77, nd := 88, since := 0 })
def mq (l : Nat) : List Byte := le 1 l ++ le 16 88 ++ le 16 77 ++ le 1 0 ++ le 1 1
def off1 (l : List Byte) : List Byte := l.map (fun x => x + 1)
def pa : List Byte := cmac (le 16 5) (mq 0x48)
def pb : List Byte := off1 pa
def rpr (p : List Byte) := { rp p Bq with slot := 3 }
def Be := { Bq with now := 90000000000000, ses := { Bq.ses with backoff := [none, some 5, none, none] } }

/-- A list with one added to each byte is another list. -/
theorem off1_ne (l : List Byte) (h : 0 < l.length) : l.map (fun x => x + 1) ≠ l := by
  cases l with
  | nil => simp at h
  | cons a l => intro e; simp at e
theorem opens : pa = cmac (le 16 5) (le 1 72 ++ le 16 ((fp (at0 Bq)).slot 3).nd.toNat ++ le 16 ((fp (at0 Bq)).slot
  3).nh.toNat ++
    le 1 (fp (at0 Bq)).chainAddr ++ le 1 ((fp (at0 Bq)).slot 3).role) :=
  congrArg (cmac (le 16 5)) (by decide +kernel)
theorem opens_not : pb ≠ cmac (le 16 5) (le 1 72 ++ le 16 ((fp (at0 Bq)).slot 3).nd.toNat ++
    le 16 ((fp (at0 Bq)).slot 3).nh.toNat ++ le 1 (fp (at0 Bq)).chainAddr ++ le 1 ((fp (at0 Bq)).slot 3).role) := by
  rw [← opens]
  exact off1_ne _ (by decide +kernel)

/-- States that meet the hypotheses of SessionsRefuseForgedAndReplayedRequests. -/
theorem meets_SessionsRefuseForgedAndReplayedRequests :
    (∃ (dt : Nat) (seq : Nat) (w : Nat) (w2 : Nat), seq < 65536 ∧ (counterOf dt seq).fst = true ∧ dt < w ∧ w % 65536 =
      seq ∧ dt < w2 ∧ w2 % 65536 = seq) ∧
    (∃ (dt : Nat) (seq : Nat) (w : Nat) (w2 : Nat), seq < 65536 ∧ (counterOf dt seq).fst = false ∧ dt < w ∧ w ≤ dt +
      32768 ∧ dt < w2 ∧ w2 ≤ dt + 32768) :=
  ⟨⟨0, 5, 5, 65541, by decide +kernel⟩,
   ⟨0, 40000, 5, 30000, by decide +kernel⟩⟩

/-- States that meet the hypotheses of RegisterRequestsReachRegisters. -/
theorem meets_RegisterRequestsReachRegisters :
    (∃ (dt : Nat) (c : Call) (s : State) (d : Nat) (t : Nat) (k : Nat) (vals : List Byte) (b2 : Blk), b2 =
      s.blk.elapse dt ∧ b2.chn.stalls = [{ dom := d, since := t, what := Pending.req c k vals : Stall }] ∧ b2.limitOf
      c ≤ b2.now) ∧
    (∃ (dt : Nat) (r : Req) (c : Call) (s : State) (f : Blk) (b : Blk) (a : Nat), b = s.blk.elapse dt ∧ a = getLe
      r.payload 0 4 % 2 ^ 18 ∧ b.accepts r 4 c f ∧ getLe r.payload 4 1 = 1 ∧ r.payload.length = 8 ∧ f.readCheck
      (callWho c) a ≠ 0) ∧
    (∃ (dt : Nat) (r : Req) (c : Call) (s : State) (f : Blk) (b : Blk) (a : Nat), b = s.blk.elapse dt ∧ a = getLe
      r.payload 0 4 % 2 ^ 18 ∧ b.accepts r 5 c f ∧ getLe r.payload 4 1 = 1 ∧ r.payload.length = 12 ∧ f.writeCheck
      (callWho c) a ∈ [45057, 45058, 45059, 45074]) ∧
    (∃ (dt : Nat) (r : Req) (c : Call) (s : State) (f : Blk) (b : Blk) (a : Nat) (v : BitVec 32), b = s.blk.elapse dt
      ∧ a = getLe r.payload 0 4 % 2 ^ 18 ∧ v = BitVec.ofNat 32 (getLe r.payload 8 4) ∧ b.accepts r 5 c f ∧ getLe
      r.payload 4 1 = 1 ∧ r.payload.length = 12 ∧ f.writeCheck (callWho c) a = 0 ∧ f.domReady (domOf a) = true ∧ a ∈
      [Reg.SYS_FLOG_SEL, Reg.EVT_ROUTE, Reg.PWR_CTL, Reg.BND_WAIT_LIMIT, Reg.SES_IDLE_LIMIT, Reg.CHN_HOP_LIMIT,
      Reg.CHN_RESP_LIMIT] ∧ valueOk a v.toNat = true) ∧
    (∃ (dt : Nat) (r : Req) (c : Call) (s : State) (f : Blk) (b : Blk) (a : Nat), b = s.blk.elapse dt ∧ a = getLe
      r.payload 0 4 % 2 ^ 18 ∧ b.accepts r 4 c f ∧ getLe r.payload 4 1 = 1 ∧ r.payload.length = 8 ∧ f.readCheck
      (callWho c) a = 0 ∧ f.domReady (domOf a) = true ∧ lookupReg f.hiCapture a = none ∧ hiOf a = none ∧ a ≠
      Reg.GPC_TIMERS ∧ a ≠ Reg.TLYC_PARAM_DATA) :=
  ⟨⟨0, (cp 4 (pr Reg.LNK_CTL) (at0 B)), (W st0), 6, 3, 0, (([] : List Byte)), _, rfl, by decide +kernel⟩,
   ⟨0, (rq 4 0 (pr 0x5800) (at0 B)), (cl 4 0 (pr 0x5800) (at0 B)), (W B), (fb 0 (at0 B)), _, _, rfl, rfl, accepts_rq _
    _ _ _ (by decide +kernel), by decide +kernel⟩,
   ⟨0, (rq 5 0 (pw 0x5800 0) (at0 B)), (cl 5 0 (pw 0x5800 0) (at0 B)), (W B), (fb 0 (at0 B)), _, _, rfl, rfl,
    accepts_rq _ _ _ _ (by decide +kernel), by decide +kernel⟩,
   ⟨0, (rq 5 0 (pw Reg.PWR_CTL 0) (at0 B)), (cl 5 0 (pw Reg.PWR_CTL 0) (at0 B)), (W B), (fb 0 (at0 B)), _, _, _, rfl,
    rfl, rfl, accepts_rq _ _ _ _ (by decide +kernel), by decide +kernel⟩,
   ⟨0, (rq 4 0 (pr Reg.PWR_CTL) (at0 B)), (cl 4 0 (pr Reg.PWR_CTL) (at0 B)), (W B), (fb 0 (at0 B)), _, _, rfl, rfl,
    accepts_rq _ _ _ _ (by decide +kernel), by decide +kernel⟩⟩

/-- States that meet the hypotheses of StoresAreReadAndReleased. -/
theorem meets_StoresAreReadAndReleased :
    (∃ (dt : Nat) (r : Req) (c : Call) (s : State) (f : Blk) (b : Blk) (l : List Rec) (m2 : Rec), b = s.blk.elapse dt
      ∧ b.accepts r 7 c f ∧ r.payload.length = 4 ∧ f.role (callWho c) ∈ [1, 2] ∧ (∀ (x : Rec), x ∈ l → x.seq ≠
      m2.seq)) ∧
    (∃ (dt : Nat) (r : Req) (c : Call) (s : State) (f : Blk) (b : Blk), b = s.blk.elapse dt ∧ b.accepts r 10 c f ∧
      r.payload.length = 4 ∧ f.role (callWho c) ∈ [1, 2]) ∧
    (∃ (dt : Nat) (r : Req) (c : Call) (s : State) (f : Blk) (b : Blk) (l : List MeasItem) (m : MeasItem) (t : List
      MeasItem), b = s.blk.elapse dt ∧ l = releaseMeas (decide (getLe r.payload 0 1 = 1)) (getLe r.payload 4 8)
      f.tly.store ∧ l = m :: t ∧ f.tly.taken = [] ∧
      ({ f with tly := { f.tly with store := l } } : Blk).flushed.tly.store = m :: t ∧ b.accepts r 8 c f ∧ r.payload.length = 12 ∧ f.role (callWho c) ∈ [1, 2, 3]) ∧
    (∃ (dt : Nat) (r : Req) (c : Call) (s : State) (f : Blk) (b : Blk) (l : List MeasItem), b = s.blk.elapse dt ∧ l =
      releaseMeas (decide (getLe r.payload 0 1 = 1)) (getLe r.payload 4 8) f.tly.store ∧ f.tly.taken = [] ∧
      ({ f with tly := { f.tly with store := l } } : Blk).flushed.tly.store = [] ∧ b.accepts r 8 c f ∧ r.payload.length = 12 ∧ f.role (callWho c) ∈ [1, 2, 3] ∧ l = []) ∧
    (∃ (dt : Nat) (r : Req) (c : Call) (s : State) (f : Blk) (b : Blk) (m : CorrItem) (t : List CorrItem), b =
      s.blk.elapse dt ∧ f.store.corr = m :: t ∧ b.accepts r 9 c f ∧ r.payload.length = 8 ∧ f.role (callWho c) ∈ [1, 2]
      ∧ getLe r.payload 0 4 = 0) ∧
    (∃ (dt : Nat) (r : Req) (c : Call) (s : State) (f : Blk) (b : Blk), b = s.blk.elapse dt ∧ b.accepts r 9 c f ∧
      r.payload.length = 8 ∧ f.role (callWho c) ∈ [1, 2] ∧ getLe r.payload 0 4 = 0 ∧ f.store.corr = []) :=
  ⟨⟨0, (rq 7 0 [1,0,3,0] (at0 Bp)), (cl 7 0 [1,0,3,0] (at0 Bp)), (W Bp), (fb 0 (at0 Bp)), _, ([rec0]), ({ rec0 with
     seq := 4 }), rfl, accepts_rq _ _ _ _ (by decide +kernel), by decide +kernel⟩,
   ⟨0, (rq 10 0 [1,0,1,0] (at0 Bn)), (cl 10 0 [1,0,1,0] (at0 Bn)), (W Bn), (fb 0 (at0 Bn)), _, rfl, accepts_rq _ _ _ _
    (by decide +kernel), by decide +kernel⟩,
   ⟨0, (rq 8 0 (pm 0 2) (at0 Bm)), (cl 8 0 (pm 0 2) (at0 Bm)), (W Bm), (fb 0 (at0 Bm)), _, _, _, _, rfl, rfl, rfl, rfl, rfl,
    accepts_rq _ _ _ _ (by decide +kernel), by decide +kernel⟩,
   ⟨0, (rq 8 0 (pm 0 3) (at0 Bm)), (cl 8 0 (pm 0 3) (at0 Bm)), (W Bm), (fb 0 (at0 Bm)), _, _, rfl, rfl, rfl, rfl, accepts_rq _ _
    _ _ (by decide +kernel), by decide +kernel⟩,
   ⟨0, (rq 9 0 (zeros 8) (at0 Bc)), (cl 9 0 (zeros 8) (at0 Bc)), (W Bc), (fb 0 (at0 Bc)), _, _, _, rfl, rfl,
    accepts_rq _ _ _ _ (by decide +kernel), by decide +kernel⟩,
   ⟨0, (rq 9 0 (zeros 8) (at0 B)), (cl 9 0 (zeros 8) (at0 B)), (W B), (fb 0 (at0 B)), _, rfl, accepts_rq _ _ _ _
    (by decide +kernel), by decide +kernel⟩⟩

/-- States that meet the hypotheses of SessionsOpenByProof. -/
theorem meets_SessionsOpenByProof :
    (∃ (dt : Nat) (r : Req) (c : Call) (s : State) (f : Blk) (i : Nat) (key : List Byte) (b : Blk) (role : Nat) (n :
      Nat), b = s.blk.elapse dt ∧ role = getLe r.payload 0 1 ∧ n = min (f.ses.fails.getD i 0 + 1) 255 ∧ b.takes r 16
      c f ∧ r.payload.length = 20 ∧ f.ses.backoff.getD role none = none ∧ f.keyOf role = some key ∧ (List.find? (fun
      (i : Nat) => decide ((f.slot i).st = SlotState.free)) (List.range 4) = some i) ∧ dt < 4 ∧ f.ses.slots.length = 4
      ∧ f.ses.fails.length = 4 ∧ f.ses.backoff.length = 4 ∧ i < 4 ∧ f.openBundle dt = none ∧ n < 4) ∧
    (∃ (dt : Nat) (f : Blk) (i : Nat) (n : Nat), n = min (f.ses.fails.getD i 0 + 1) 255 ∧ dt < 4 ∧ f.ses.slots.length
      = 4 ∧ f.ses.fails.length = 4 ∧ f.ses.backoff.length = 4 ∧ i < 4 ∧ f.openBundle dt = none ∧ 4 ≤ n) ∧
    (∃ (dt : Nat) (r : Req) (c : Call) (s : State) (f : Blk) (i : Nat) (key : List Byte) (b : Blk) (y : SesSlot) (n :
      Nat), b = s.blk.elapse dt ∧ y = f.slot (c.r.slot % 4) ∧ n = min (f.ses.fails.getD i 0 + 1) 255 ∧ b.takes r 17
      c f ∧ r.payload.length = 16 ∧ y.st = SlotState.challenged ∧ y.link = false ∧ f.keyOf y.role = some key ∧
      r.payload = cmac key (le 1 72 ++ le 16 y.nd.toNat ++ le 16 y.nh.toNat ++ le 1 f.chainAddr ++ le 1 y.role) ∧ dt <
      4 ∧ f.ses.slots.length = 4 ∧ f.ses.fails.length = 4 ∧ f.ses.backoff.length = 4 ∧ i < 4 ∧ f.openBundle dt = none
      ∧ n < 4) ∧
    (∃ (dt : Nat) (r : Req) (c : Call) (s : State) (f : Blk) (i : Nat) (key : List Byte) (b : Blk) (y : SesSlot) (n :
      Nat), b = s.blk.elapse dt ∧ y = f.slot (c.r.slot % 4) ∧ n = min (f.ses.fails.getD i 0 + 1) 255 ∧ b.takes r 17
      c f ∧ r.payload.length = 16 ∧ y.st = SlotState.challenged ∧ y.link = false ∧ f.keyOf y.role = some key ∧
      r.payload ≠ cmac key (le 1 72 ++ le 16 y.nd.toNat ++ le 16 y.nh.toNat ++ le 1 f.chainAddr ++ le 1 y.role) ∧ dt <
      4 ∧ f.ses.slots.length = 4 ∧ f.ses.fails.length = 4 ∧ f.ses.backoff.length = 4 ∧ i < 4 ∧ f.openBundle dt = none
      ∧ n < 4) :=
  ⟨⟨0, (rp (pch 1) (at0 Bk)), (cp 0x10 (pch 1) (at0 Bk)), (W Bk), (fp (at0 Bk)), 3, (le 16 5), _, _, _, rfl, rfl, rfl,
   takes_rp _ _ _ _ (by decide +kernel), by decide +kernel⟩,
   ⟨2, ({ Bq with now := 9, ses := { Bq.ses with fails := [3,3,3,3] } }), 1, _, rfl, by decide +kernel⟩,
   ⟨0, (rpr pa), (({ r := rpr pa, cmd := 0x11, at_ := (at0 Bq).now } : Call)), (W Bq), (fp (at0 Bq)), 3, (le 16 5), _,
    _, _, rfl, rfl, rfl, takes_rp _ _ _ _ (by decide +kernel), by decide +kernel, by decide +kernel,
    by decide +kernel, by decide +kernel, opens, by decide +kernel⟩,
   ⟨0, (rpr pb), (({ r := rpr pb, cmd := 0x11, at_ := (at0 Bq).now } : Call)), (W Bq), (fp (at0 Bq)), 3, (le 16 5), _,
    _, _, rfl, rfl, rfl, takes_rp _ _ _ _ (by decide +kernel), by decide +kernel, by decide +kernel,
    by decide +kernel, by decide +kernel, opens_not, by decide +kernel⟩⟩

/-- A request taken, and the block it runs in, with one more condition on them. -/
def chal (p : Nat → List Byte) (role cmd : Nat) (b : Blk) (q : Blk → Prop) : Prop :=
  ∃ (r : Req) (c : Call) (f : Blk), r.payload = p role ∧ (at0 b).takes r cmd c f ∧ q f

/-- Every branch of SessionsOpenByProof is met, on the chain and on the link. -/
theorem meets_SessionsOpenByProof_2 :
    chal (fun _ => []) 1 0x10 Bk (fun _ => True) ∧
    chal pch 1 0x10 { Bk with ses := { Bk.ses with backoff := List.replicate 4 (some 3) } } (fun f => f.ses.backoff.getD 1 none ≠ none) ∧
    chal pch 1 0x10 { Bk with ses := { Bk.ses with slots := List.replicate 4 { st := .opened } } }
      (fun f => f.ses.backoff.getD 1 none = none ∧ (List.range 4).find? (fun i => decide ((f.slot i).st = .free)) = none) ∧
    chal pch 3 0x10 { Bk with ses := { Bk.ses with sealKey := .empty } } (fun f => f.ses.backoff.getD 3 none = none ∧ f.keyOf 3 = none) ∧
    (∃ (r : Req) (c : Call) (f : Blk), r.link = true ∧ r.payload = pch 1 ∧ (at0 Bk).takes r 0x10 c f ∧ f.keyOf 1 ≠ none) ∧
    (∃ (r : Req) (c : Call) (f : Blk), r.link = false ∧ r.addr = 0x7F ∧ r.payload = pch 1 ∧ (at0 Bk).takes r 0x10 c f) ∧
    chal (fun _ => []) 1 0x11 Bq (fun _ => True) ∧
    chal (fun _ => zeros 16) 1 0x11 B (fun f => (f.slot 0).st ≠ .challenged) ∧
    chal (fun _ => zeros 16) 1 0x11 { B with now := 312500005, ses := { B.ses with slots := List.replicate 4 { st := .challenged, role := 1, since := 4 } } }
      (fun f => (f.slot 0).st = .challenged ∧ (f.slot 0).since + 312500000 < f.now) ∧
    chal (fun _ => zeros 16) 1 0x11 { B with ses := { B.ses with opKey := .empty, slots := List.replicate 4 { st := .challenged, role := 1 } } }
      (fun f => (f.slot 0).st = .challenged ∧ f.keyOf (f.slot 0).role = none) :=
  ⟨⟨rp [] _, _, _, rfl, takes_rp _ 0 _ _ (by decide +kernel), trivial⟩,
   ⟨rp (pch 1) _, _, _, rfl, takes_rp _ 0 _ _ (by decide +kernel), by decide +kernel⟩,
   ⟨rp (pch 1) _, _, _, rfl, takes_rp _ 0 _ _ (by decide +kernel), by decide +kernel⟩,
   ⟨rp (pch 3) _, _, _, rfl, takes_rp _ 0 _ _ (by decide +kernel), by decide +kernel⟩,
   ⟨{ rp (pch 1) (at0 Bk) with link := true, ptype := 0x0B }, _, _, rfl, rfl, takes_link _ _ _ (by decide +kernel), by decide +kernel⟩,
   ⟨{ rp (pch 1) (at0 Bk) with addr := 0x7F }, _, _, rfl, rfl, rfl,
    ⟨⟨by decide +kernel, by decide +kernel⟩, _, _, .inl ⟨rfl, rfl, by decide +kernel, rfl⟩, fun _ _ => rfl, .inl ⟨rfl, rfl, rfl⟩⟩⟩,
   ⟨rp [] _, _, _, rfl, takes_rp _ 0 _ _ (by decide +kernel), trivial⟩,
   ⟨rp (zeros 16) _, _, _, rfl, takes_rp _ 0 _ _ (by decide +kernel), by decide +kernel⟩,
   ⟨rp (zeros 16) _, _, _, rfl, takes_rp _ 0 _ _ (by decide +kernel), by decide +kernel⟩,
   ⟨rp (zeros 16) _, _, _, rfl, takes_rp _ 0 _ _ (by decide +kernel), by decide +kernel⟩⟩

/-- States that meet the hypotheses of SessionsEnd. -/
theorem meets_SessionsEnd :
    (∃ (dt : Nat) (s : State) (i : Fin 4) (n : Nat) (role : Nat) (t : Nat) (b : Blk), b = s.blk.elapse dt ∧ b.pwr.mode
      = PwrMode.run ∧ b.sys.mode = SysMode.ready ∧ n < 4 ∧ (b.slot n).st = SlotState.opened ∧ (b.slot n).since +
      312500000 * b.regF Reg.SES_IDLE_LIMIT 11 0 ≤ b.now ∧ b.ses.backoff.getD role none = some t ∧ t + 312500000 ≤
      b.now ∧ b.domReady 7 = true ∧ b.role (some i) = 2 ∧ (b.slot n).st ≠ SlotState.free) ∧
    (∃ (dt : Nat) (r : Req) (c : Call) (s : State) (f : Blk) (i : Fin 4) (n : Nat) (b : Blk), b = s.blk.elapse dt ∧
      b.accepts r 18 c f ∧ r.hasMac = true ∧ r.payload = [] ∧ (f.slot (r.slot % 4)).role ≠ 0 ∧ b.pwr.mode =
      PwrMode.run ∧ b.sys.mode = SysMode.ready ∧ b.domReady 7 = true ∧ b.role (some i) = 2 ∧ n < 4 ∧ (b.slot n).st ≠
      SlotState.free) ∧
    (∃ (dt : Nat) (s : State) (i : Fin 4) (n : Nat) (role : Nat) (t : Nat) (b : Blk), b = s.blk.elapse dt ∧ b.pwr.mode
      = PwrMode.run ∧ b.sys.mode = SysMode.ready ∧ n < 4 ∧ (b.slot n).st = SlotState.challenged ∧ (b.slot n).since +
      312500000 ≤ b.now ∧ b.openBundle n = none ∧ b.ses.backoff.getD role none = some t ∧ t + 312500000 ≤ b.now ∧
      b.domReady 7 = true ∧ b.role (some i) = 2 ∧ (b.slot n).st ≠ SlotState.free) :=
  ⟨⟨0, (W Be), ((1:Fin 4)), 0, 1, 5, _, rfl, by decide +kernel⟩,
   ⟨0, (rq 0x12 0 [] (at0 B)), (cl 0x12 0 [] (at0 B)), (W B), (fb 0 (at0 B)), ((1:Fin 4)), 0, _, rfl, accepts_rq _ _ _
    _ (by decide +kernel), by decide +kernel⟩,
   ⟨0, (W Be), ((1:Fin 4)), 3, 1, 5, _, rfl, by decide +kernel⟩⟩

end Sessions

namespace Jobs

def d1 := desc 1 3 9 1 0 2 0
def kb : List Byte := zeros 16
def key : List Byte := (aesDec ((le 16 0).map BitVec.toNat) (kb.map BitVec.toNat)).map (BitVec.ofNat 8)
def km : List Byte := (cmac key (zeros 16)).take 4
def kn : List Byte := km.map (fun x => x + 1)
def kp (t : Nat) : List Byte := le 1 t ++ zeros 3 ++ kb ++ km
def kq (t : Nat) : List Byte := le 1 t ++ zeros 3 ++ kb ++ kn
def Bj := { BB with jobs := [j0], now := 5000 }
def f0 : Frame := {
    jobSeq := 4, unit := 0, desc := j0.desc, trigAt := 0, expStart := 40, expEnd4 := 200, busyUntil4 := 300,
    cfg := BB.frameCfg }
def Bf := { Bj with sns := { Bj.sns with frames := [f0] } }
def j1 := jb 1 3 9 2 1000000 1 0 4
def ja := { j1 with desc := j1.desc.take 20 ++ le 4 5 ++ j1.desc.drop 24, nextOk := 7 }

theorem slice_tail (a b : List Byte) : slice (a ++ b) a.length b.length = b := by
  simp [slice]
theorem wraps : (cmac ((aesDec ((le 16 ((at0 B).slot 1).ks.toNat).map BitVec.toNat) ((slice (kp 1) 4 16).map
  BitVec.toNat)).map
    (BitVec.ofNat 8)) (zeros 16)).take 4 = slice (kp 1) 20 4 := by
  have e1 : ((at0 B).slot 1).ks = 0 := by decide +kernel
  have e2 : slice (kp 1) 4 16 = kb := by decide +kernel
  have e3 : slice (kp 1) 20 4 = km := slice_tail (le 1 1 ++ zeros 3 ++ kb) km
  rw [e1, e2, e3]; rfl
theorem wraps_not : (cmac ((aesDec ((le 16 ((at0 B).slot 1).ks.toNat).map BitVec.toNat) ((slice (kq 1) 4 16).map
  BitVec.toNat)).map
    (BitVec.ofNat 8)) (zeros 16)).take 4 ≠ slice (kq 1) 20 4 := by
  have e1 : ((at0 B).slot 1).ks = 0 := by decide +kernel
  have e2 : slice (kq 1) 4 16 = kb := by decide +kernel
  have e3 : slice (kq 1) 20 4 = kn := slice_tail (le 1 1 ++ zeros 3 ++ kb) kn
  rw [e1, e2, e3]
  exact fun e => Sessions.off1_ne km (by decide +kernel) e.symm

/-- States that meet the hypotheses of JobsAreAdmittedOrRefused. -/
theorem meets_JobsAreAdmittedOrRefused :
    (∃ (dt : Nat) (f : Blk) (j2 : Job) (fault : Nat) (test : Nat) (off : Nat), f.judge dt j2 = some (fault, test, off)
      ∧ test ≠ 1 ∧ test = 7) ∧
    (∃ (dt : Nat) (f : Blk) (j2 : Job) (fault : Nat) (test : Nat) (off : Nat), f.judge dt j2 = some (fault, test, off)
      ∧ off ≠ 65535) ∧
    (∃ (dt : Nat) (r : Req) (c : Call) (s : State) (f : Blk) (b : Blk) (seq : Nat), b = s.blk.elapse dt ∧ (seq = if
      f.regN Reg.ADM_SEQ = 4294967295 then 1 else f.regN Reg.ADM_SEQ + 1) ∧ b.accepts r 6 c f ∧ (∀ (k : Job), k ∈
      f.jobs → k.seq ≠ seq) ∧ f.role (callWho c) ≠ 1) ∧
    (∃ (dt : Nat) (f : Blk) (j2 : Job) (fault : Nat) (test : Nat) (off : Nat), f.judge dt j2 = some (fault, test, off)
      ∧ test ≠ 1 ∧ test = 2) ∧
    (∃ (dt : Nat) (r : Req) (c : Call) (s : State) (f : Blk) (b : Blk) (seq : Nat) (j : Job), b = s.blk.elapse dt ∧
      (seq = if f.regN Reg.ADM_SEQ = 4294967295 then 1 else f.regN Reg.ADM_SEQ + 1) ∧ j = {
        seq := seq, desc := r.payload, acceptedAt := f.now, armAt := f.now : Job } ∧ b.accepts r 6 c f ∧ (∀ (k : Job),
      k ∈ f.jobs → k.seq ≠ seq) ∧ f.role (callWho c) = 1 ∧ f.judge 1 j = none) ∧
    (∃ (dt : Nat) (r : Req) (c : Call) (s : State) (f : Blk) (b : Blk) (seq : Nat) (j : Job) (fault : Nat) (test :
      Nat) (off : Nat), b = s.blk.elapse dt ∧ (seq = if f.regN Reg.ADM_SEQ = 4294967295 then 1 else f.regN Reg.ADM_SEQ
      + 1) ∧ j = { seq := seq, desc := r.payload, acceptedAt := f.now, armAt := f.now : Job } ∧ b.accepts r 6 c f ∧ (∀
      (k : Job), k ∈ f.jobs → k.seq ≠ seq) ∧ f.role (callWho c) = 1 ∧ f.judge 1 j = some (fault, test, off)) :=
  ⟨⟨1, (rg [(Reg.ADM_SHORTFALL, 2)] BB), (jb 1 3 1 1 0 2 0 1), 0xB118, 7, 0xFFFF, by decide +kernel⟩,
   ⟨1, BB, (jb 1 3 0 1 0 2 0 1), 0xB101, 1, 4, by decide +kernel⟩,
   ⟨0, (rq 6 1 d1 (at0 BB)), (cl 6 1 d1 (at0 BB)), (W BB), (fb 1 (at0 BB)), _, _, rfl, rfl, accepts_rq _ _ _ _
    (by decide +kernel), by decide +kernel⟩,
   ⟨1, ({ BB with jobs := [jb 1 3 1 1 0 2 0 1]}), (jb 1 3 1 1 0 2 0 1), 0xB102, 2, 0xFFFF, by decide +kernel⟩,
   ⟨0, (rq 6 0 d1 (at0 BB)), (cl 6 0 d1 (at0 BB)), (W BB), (fb 0 (at0 BB)), _, _, _, rfl, rfl, rfl, accepts_rq _ _ _ _
    (by decide +kernel), by decide +kernel⟩,
   ⟨0, (rq 6 0 (desc 1 3 0 1 0 2 0) (at0 BB)), (cl 6 0 (desc 1 3 0 1 0 2 0) (at0 BB)), (W BB), (fb 0 (at0 BB)), _, _,
    _, 0xB101, 1, 4, rfl, rfl, rfl, accepts_rq _ _ _ _ (by decide +kernel), by decide +kernel⟩⟩

/-- States that meet the hypotheses of KeysAreSetFromWrappedBlocks. -/
theorem meets_KeysAreSetFromWrappedBlocks :
    (∃ (dt : Nat) (r : Req) (c : Call) (s : State) (f : Blk) (b : Blk) (role : Nat) (target : Nat), b = s.blk.elapse
      dt ∧ role = f.role (callWho c) ∧ target = getLe r.payload 0 1 ∧ b.accepts r 19 c f ∧ r.payload.length = 24 ∧
      role ∈ [2, 3] ∧ f.mayRekey role target = false) ∧
    (∃ (dt : Nat) (r : Req) (c : Call) (s : State) (f : Blk) (b : Blk) (role : Nat) (target : Nat) (key : List (BitVec
      8)), b = s.blk.elapse dt ∧ role = f.role (callWho c) ∧ target = getLe r.payload 0 1 ∧ key = List.map
      (BitVec.ofNat 8) (aesDec (List.map BitVec.toNat (le 16 c.ks.toNat)) (List.map BitVec.toNat (slice r.payload 4
      16))) ∧ b.accepts r 19 c f ∧ r.payload.length = 24 ∧ role ∈ [2, 3] ∧ f.mayRekey role target = true ∧ List.take 4
      (cmac key (zeros 16)) = slice r.payload 20 4) ∧
    (∃ (dt : Nat) (r : Req) (c : Call) (s : State) (f : Blk) (b : Blk) (role : Nat) (target : Nat) (key : List (BitVec
      8)), b = s.blk.elapse dt ∧ role = f.role (callWho c) ∧ target = getLe r.payload 0 1 ∧ key = List.map
      (BitVec.ofNat 8) (aesDec (List.map BitVec.toNat (le 16 c.ks.toNat)) (List.map BitVec.toNat (slice r.payload 4
      16))) ∧ b.accepts r 19 c f ∧ r.payload.length = 24 ∧ role ∈ [2, 3] ∧ f.mayRekey role target = true ∧ List.take 4
      (cmac key (zeros 16)) ≠ slice r.payload 20 4) :=
  ⟨⟨0, (rq 0x13 2 (kp 1) (at0 B)), (cl 0x13 2 (kp 1) (at0 B)), (W B), (fb 2 (at0 B)), _, _, _, rfl, rfl, rfl,
   accepts_rq _ _ _ _ (by decide +kernel), by decide +kernel⟩,
   ⟨0, (rq 0x13 1 (kp 1) (at0 B)), (cl 0x13 1 (kp 1) (at0 B)), (W B), (fb 1 (at0 B)), _, _, _, _, rfl, rfl, rfl, rfl,
    accepts_rq _ _ _ _ (by decide +kernel), by decide +kernel, by decide +kernel, by decide +kernel, wraps⟩,
   ⟨0, (rq 0x13 1 (kq 1) (at0 B)), (cl 0x13 1 (kq 1) (at0 B)), (W B), (fb 1 (at0 B)), _, _, _, _, rfl, rfl, rfl, rfl,
    accepts_rq _ _ _ _ (by decide +kernel), by decide +kernel, by decide +kernel, by decide +kernel, wraps_not⟩⟩

/-- States that meet the hypotheses of JobsAreCancelledTriggeredAndTimed. -/
theorem meets_JobsAreCancelledTriggeredAndTimed :
    (∃ (dt : Nat) (i : Fin 4) (tag : Word) (j : Job) (s : State) (b : Blk) (b2 : Blk), b = s.blk.elapse dt ∧ b2 =
      s.blk.elapse dt ∧ b.pwr.mode = PwrMode.run ∧ b.sys.mode = SysMode.ready ∧ b.role (some i) = 1 ∧ b.domReady 7 =
      true ∧ b.jobByTag (BitVec.toNat tag) = some j ∧ b.jobBySeq j.seq = some j ∧ j.kind = 1 ∧ b.framesOwed j.seq = 0
      ∧ (j.kind ≠ 1 ∨ j.trigger ≠ 2) ∧ b2.jobBySeq j.seq = some j ∧ (∀ (k : Job), k ∈ b2.jobs → k.seq = j.seq → k = j)
      ∧ j.nextOk ≤ b2.now ∧ j.takes = true ∧ j.armTimeout ≠ 0 ∧ j.armAt + ceilDiv (j.armTimeout * 625) 2 ≤ b2.now ∧
      b2.framesOwed j.seq = 0) ∧
    (∃ (dt : Nat) (i : Fin 4) (tag : Word) (j : Job) (s : State) (b : Blk) (b2 : Blk), b = s.blk.elapse dt ∧ b2 =
      s.blk.elapse dt ∧ b.pwr.mode = PwrMode.run ∧ b.sys.mode = SysMode.ready ∧ b.role (some i) = 1 ∧ b.domReady 7 =
      true ∧ b.jobByTag (BitVec.toNat tag) = some j ∧ b.jobBySeq j.seq = some j ∧ j.kind = 1 ∧ b.framesOwed j.seq ≠ 0
      ∧ j.takes = true ∧ j.trigger = 2 ∧ b.domReady 2 = true ∧ b.sensorBusy j (b.now + 40) = false ∧ (j.nextOk = 0 ∨
      j.nextOk < b.now) ∧ b2.jobBySeq j.seq = some j ∧ (∀ (k : Job), k ∈ b2.jobs → k.seq = j.seq → k = j) ∧ j.nextOk ≤
      b2.now) ∧
    (∃ (dt : Nat) (i : Fin 4) (tag : Word) (j : Job) (s : State) (b : Blk) (b2 : Blk), b = s.blk.elapse dt ∧ b2 =
      s.blk.elapse dt ∧ b.pwr.mode = PwrMode.run ∧ b.sys.mode = SysMode.ready ∧ b.role (some i) = 1 ∧ b.domReady 7 =
      true ∧ b.jobByTag (BitVec.toNat tag) = some j ∧ b.jobBySeq j.seq = some j ∧ j.kind = 1 ∧ b.framesOwed j.seq ≠ 0
      ∧ (j.kind ≠ 1 ∨ j.trigger ≠ 2) ∧ b2.jobBySeq j.seq = some j ∧ (∀ (k : Job), k ∈ b2.jobs → k.seq = j.seq → k = j)
      ∧ j.nextOk ≤ b2.now ∧ j.takes = true ∧ j.armTimeout ≠ 0 ∧ j.armAt + ceilDiv (j.armTimeout * 625) 2 ≤ b2.now ∧
      b2.framesOwed j.seq ≠ 0) :=
  ⟨⟨0, ((0:Fin 4)), ((9:Word)), ja, (W { Bj with jobs := [ja] }), _, _, rfl, rfl, by decide +kernel⟩,
   ⟨0, ((0:Fin 4)), ((9:Word)), j0, (W Bf), _, _, rfl, rfl, by decide +kernel⟩,
   ⟨0, ((0:Fin 4)), ((9:Word)), ja, (W { Bf with jobs := [ja] }), _, _, rfl, rfl, by decide +kernel⟩⟩

/-- States that meet the hypotheses of PaceIsSampledAndAccounted. -/
theorem meets_PaceIsSampledAndAccounted :
    (∃ (dt : Nat) (s : State) (b : Blk) (act : List Nat) (m : Nat) (l : Frac) (low : Nat), b = s.blk.elapse dt ∧ act =
      List.filter b.engActive (List.range 18) ∧ (m = List.foldl (fun (m e : Nat) => min m (lowOr (b.dec.engLow.getD e
      65535) (b.gaugeOf e))) (lowOr b.dec.fabricLow b.dec.fabric) act) ∧ low = [0, 83, 95, 98].getD dt 0 ∧ b.now %
      3125 = 0 ∧ b.dec.engLow.length = 18 ∧ b.now % 31250 = 0 ∧ m < 65536 ∧ nextStage (b.regF Reg.ADM_SHORTFALL 1 0)
      ((b.setN Reg.ADM_PACE_PLAN (m - b.regF Reg.ADM_PACE_GUARD 15 0 + m * 65536)).engineLoad b.jobs m) = 0 ∧ b.regF
      Reg.ADM_SHORTFALL 1 0 = 0 ∧ b.now % 312500 = 0 ∧ b.dec.win + 1 = b.now / 312500 ∧ dt ≤ 3 ∧ stageOf l ≤ dt ∧ (dt = 0 ∨ low * l.den < l.num * 100))
      ∧
    (∃ (dt : Nat) (l : Frac), dt ≤ 3 ∧ dt < stageOf l) ∧
    (∃ (dt : Nat) (l : Frac) (low : Nat), low = [0, 83, 95, 98].getD dt 0 ∧ dt ≤ 3 ∧ stageOf l ≤ dt ∧ 0 < dt ∧ l.num *
      100 ≤ low * l.den) ∧
    (∃ (s : State) (b : Blk), b = s.blk.elapse 0 ∧ b.now % 312500 = 0 ∧ b.dec.win = b.now / 312500) :=
  ⟨⟨0, (W { B with now := 312500 }), _, _, _, (({ num := 80, den := 100 } : Frac)), _, rfl, rfl, rfl, rfl,
   by decide +kernel⟩,
   ⟨2, (({ num := 106, den := 100 } : Frac)), by decide +kernel⟩,
   ⟨2, (({ num := 94, den := 100 } : Frac)), _, rfl, by decide +kernel⟩,
   ⟨W { B with now := 312500, dec := { B.dec with win := 1 } }, _, rfl, by decide +kernel⟩⟩

/-- States that meet the hypotheses of GroupsAreStoredWholeOrLost. -/
theorem meets_GroupsAreStoredWholeOrLost :
    (∃ (b : Blk) (j : Job) (recs : List (List Byte)) (p : Nat), j.pool < b.store.pools.length ∧ b.groupFits j recs =
      true ∧ p ≠ j.pool) ∧
    (∃ (b : Blk) (j : Job) (recs : List (List Byte)), j.pool < b.store.pools.length ∧ b.groupFits j recs = false) :=
  ⟨⟨Bj, j0, (([[1],[2]] : List (List Byte))), 1, by decide +kernel⟩,
   ⟨Bj, j0, (([List.replicate 70000 1] : List (List Byte))), by decide +kernel⟩⟩

end Jobs

namespace Links

def pk (n : Nat) (src : PktSrc := .answer) : Pkt := {
    lseq := n, ptype := 3, payload := [1,2], sentAt := 0, src := src }
def L : Blk := { B with
    now := 40000000, lnk := { B.lnk with
      state := .up, ckPresent := true, creditLeft := 900, unacked := 1, rxSeq := 7, txSeq := 9, retry := [pk 3, pk 6
        .event], lanes := [{ rx := .active, tx := .active }, { rx := .active, tx := .active }, {
        rx := .active, tx := .active }, { rx := .active, tx := .active }, { rx := .spare, tx := .spare }] } }
def TI : TrainInfo := {
    rxLanes := 0x1F, txLanes := 0x1D, inverted := 1, partner := [0,1,2,3,4], peaks := [[1,3,2],[4],[0,2],[5,5],[7]] }
def tr (b : Bool) : Blk := { B with
    now := 40000000, mem := { B.mem with
      chans := [{
        burst := b, ranks := [{ mr4 := 2, debt := 5, catchUp := some 3 }, { debt := 2 }], chunkEnd := 0 ,
        neighbours := (if b then [] else [(0,3,100)]) }, { }] } }
def tc := { tr false with
    mem := { (tr false).mem with
      chans := upd (tr false).mem.chans 0 (fun c => { c with
        copies := [{ rank := 0, bank := 3, row := 7, uncorr := false, retire := false }], ranks := c.ranks.map (fun (k
          : RankSt) => k.updBank 3 (fun b => { b with isOpen := true, row := some 4 })) }) } }

/-- States that meet the hypotheses of PacketsAreAcknowledgedAndReplayed. -/
theorem meets_PacketsAreAcknowledgedAndReplayed :
    (∃ (dt : Nat) (lseq : Nat) (ptype : Nat) (s : State) (b : Blk) (d : Nat) (rest : List Pkt) (l : List Pkt) (turn :
      Option Nat) (r : Ready) (size : Nat) (t : Nat) (p : List Byte) (l2 : List (Nat × List Byte)), b = s.blk.elapse
      dt ∧ d = (b.lnk.rxSeq + 65536 - lseq % 65536) % 65536 ∧ (rest = List.filter (fun (p : Pkt) => !seqCovers lseq
      p.lseq) b.lnk.retry) ∧ (l = List.filter (fun (p : Pkt) => seqCovers p.lseq lseq) b.lnk.retry) ∧ size =
      packetSize r.payload.length ∧ b.nextPacket = some (turn, r) ∧ b.lnk.answers = (t, p) :: l2 ∧ b.linkUp = true ∧
      rest ≠ b.lnk.retry ∧ l ≠ [] ∧ b.lnk.retry ≠ [] ∧ b.replayEnd ≤ b.now ∧ b.lnk.nakAt = none ∧ 0 < d ∧ d ≤ 4096 ∧
      (0 < b.lnk.unacked ∨ b.lnk.lastAckOut + 3125 ≤ b.now) ∧ size ≤ b.lnk.creditLeft ∧ b.retryBytes + size ≤ 65536 ∧
      inboundType ptype = false) ∧
    (∃ (dt : Nat) (lseq : Nat) (ptype : Nat) (s : State) (b : Blk) (rest : List Pkt) (turn : Option Nat) (r : Ready)
      (size : Nat) (k : Nat) (r2 : Ready), b = s.blk.elapse dt ∧ (rest = List.filter (fun (p : Pkt) => !seqCovers lseq
      p.lseq) b.lnk.retry) ∧ size = packetSize r.payload.length ∧ b.nextPacket = some (turn, r) ∧ b.readyTurn
      b.lnk.turn = some r2 ∧ b.lnk.turn = k ∧ b.linkUp = true ∧ rest ≠ b.lnk.retry ∧ b.lnk.retry ≠ [] ∧ b.replayEnd ≤
      b.now ∧ (0 < b.lnk.unacked ∨ b.lnk.lastAckOut + 3125 ≤ b.now) ∧ (b.lnk.creditLeft < size ∨ 65536 < b.retryBytes
      + size) ∧ b.lnk.answers = [] ∧ b.evt.toLink = [] ∧ k < 18 ∧ inboundType ptype = false) ∧
    (∃ (dt : Nat) (lseq : Nat) (s : State) (b : Blk) (d : Nat) (rest : List Pkt) (l : List Pkt) (turn : Option Nat) (r
      : Ready) (size : Nat) (n : Notice) (l2 : List Notice), b = s.blk.elapse dt ∧ d = (b.lnk.rxSeq + 65536 - lseq %
      65536) % 65536 ∧ (rest = List.filter (fun (p : Pkt) => !seqCovers lseq p.lseq) b.lnk.retry) ∧ (l = List.filter
      (fun (p : Pkt) => seqCovers p.lseq lseq) b.lnk.retry) ∧ size = packetSize r.payload.length ∧ b.nextPacket = some
      (turn, r) ∧ b.evt.toLink = n :: l2 ∧ b.linkUp = true ∧ rest = b.lnk.retry ∧ l ≠ [] ∧ b.lnk.retry ≠ [] ∧
      b.replayEnd ≤ b.now ∧ b.lnk.nakAt = none ∧ 0 < d ∧ d ≤ 4096 ∧ (0 < b.lnk.unacked ∨ b.lnk.lastAckOut + 3125 ≤
      b.now) ∧ size ≤ b.lnk.creditLeft ∧ b.retryBytes + size ≤ 65536 ∧ b.lnk.answers = []) :=
  ⟨⟨0, 5, 3, (W { L with lnk := { L.lnk with answers := [(2, [])] } }), _, _, _, _, _, _, _, _, _, _, rfl, rfl, rfl,
   rfl, rfl, rfl, rfl, by decide +kernel⟩,
   ⟨0, 9, 3, (W { L with
      store := { B.store with
        pools := upd B.store.pools 0 (fun p => { p with
          recs := [{ seq := 3, jobSeq := 1, unitSeq := 0, bytes := [7,8], order := 0 }] }) }, lnk := { L.lnk with
        nakAt := some 39999999, creditLeft := 3 } }), _, _, _, _, _, _, _, rfl, rfl, rfl, rfl, rfl, rfl,
    by decide +kernel⟩,
   ⟨0, 2, (W { L with evt := { B.evt with toLink := [{ seq := 1, code := 2, page := 3, bit := 4, time := 5 }] } }), _,
    _, _, _, _, _, _, _, _, rfl, rfl, rfl, rfl, rfl, rfl, rfl, by decide +kernel⟩⟩

/-- EQ: the most open points, the lower setting on a tie; nothing scanned — 0 dB (14 R545). -/
theorem test_eq_setting : eqSetting [3, 7, 2, 7] = 1 ∧ eqSetting [0, 0, 9] = 2 ∧ eqSetting [] = 0 := by decide

/-- States that meet the hypotheses of TheLinkTrains. -/
theorem meets_TheLinkTrains :
    (∃ (dt : Nat) (s : State) (b : Blk) (k : LnkSt), b = s.blk.elapse dt ∧ k = b.lnk ∧ b.linkUp = true ∧ k.lastAckIn +
      312500 ≤ b.now ∧ k.ckPresent = true ∧ b.coppice = false ∧ b.ses.slots.length = 4) ∧
    (∃ (dt : Nat) (i : TrainInfo) (s : State) (b : Blk) (k : LnkSt) (limp : Bool), b = s.blk.elapse dt ∧ k = b.lnk ∧
      limp = decide (k.state = LinkState.limpTrain) ∧ ((k.state = LinkState.clock ∨ k.state = LinkState.align ∨
      k.state = LinkState.eq ∨ k.state = LinkState.confirm) ∨ limp = true) ∧ enoughLanes limp i = true ∧ k.phase < 5 ∧
      k.phase = 2 ∧ k.phaseAt + 3125000 ≤ b.now ∧ (k.state = LinkState.clock ∨ k.state = LinkState.align ∨ k.state =
      LinkState.eq ∨ k.state = LinkState.confirm) ∧ k.attempt < 3) ∧
    (∃ (dt : Nat) (i : TrainInfo) (s : State) (b : Blk) (k : LnkSt), b = s.blk.elapse dt ∧ k = b.lnk ∧
      k.state = LinkState.eq ∧ enoughLanes false i = true ∧ k.phase = 4 ∧ k.lanes.length = 5 ∧
      (k.lanes.getD 3 {}).aligned = true ∧ bitN i.rxLanes 3 = true ∧ bitN (b.regN (Reg.LNK_CTLE_CFG 3)) 4 = false) ∧
    (∃ (dt : Nat) (lanes : Nat) (s : State) (b : Blk) (k : LnkSt), b = s.blk.elapse dt ∧ k = b.lnk ∧ k.state =
      LinkState.detect ∧ k.ckPresent = true ∧ 3 ≤ popcount 5 lanes ∧ b.domReady 6 = true ∧ b.coppice = true) ∧
    (∃ (dt : Nat) (lanes : Nat) (s : State) (b : Blk) (k : LnkSt), b = s.blk.elapse dt ∧ k = b.lnk ∧ k.state =
      LinkState.detect ∧ k.ckPresent = true ∧ 3 ≤ popcount 5 lanes ∧ b.domReady 6 = true ∧ b.coppice = false ∧
      b.sys.coppiceStart = false) ∧
    (∃ (dt : Nat) (i : TrainInfo) (s : State) (b : Blk) (k : LnkSt) (limp : Bool), b = s.blk.elapse dt ∧ k = b.lnk ∧
      limp = decide (k.state = LinkState.limpTrain) ∧ ((k.state = LinkState.clock ∨ k.state = LinkState.align ∨
      k.state = LinkState.eq ∨ k.state = LinkState.confirm) ∨ limp = true) ∧ enoughLanes limp i = true ∧ k.phase = 5 ∧
      k.lanes.length = 5 ∧ limp = true ∧ k.phaseAt + 3125000 ≤ b.now ∧ k.limpAttempt < 2) ∧
    (∃ (dt : Nat) (i : TrainInfo) (s : State) (b : Blk) (k : LnkSt) (limp : Bool), b = s.blk.elapse dt ∧ k = b.lnk ∧
      limp = decide (k.state = LinkState.limpTrain) ∧ ((k.state = LinkState.clock ∨ k.state = LinkState.align ∨
      k.state = LinkState.eq ∨ k.state = LinkState.confirm) ∨ limp = true) ∧ enoughLanes limp i = true ∧ k.phase = 5 ∧
      k.lanes.length = 5 ∧ limp = true ∧ k.phaseAt + 3125000 ≤ b.now ∧ 2 ≤ k.limpAttempt) ∧
    (∃ (dt : Nat) (i : TrainInfo) (s : State) (b : Blk) (k : LnkSt) (limp : Bool), b = s.blk.elapse dt ∧ k = b.lnk ∧
      limp = decide (k.state = LinkState.limpTrain) ∧ ((k.state = LinkState.clock ∨ k.state = LinkState.align ∨
      k.state = LinkState.eq ∨ k.state = LinkState.confirm) ∨ limp = true) ∧ enoughLanes limp i = true ∧ k.phase = 5 ∧
      k.lanes.length = 5 ∧ limp = false ∧ k.phaseAt + 3125000 ≤ b.now ∧ (k.state = LinkState.clock ∨ k.state =
      LinkState.align ∨ k.state = LinkState.eq ∨ k.state = LinkState.confirm) ∧ 3 ≤ k.attempt) :=
  ⟨⟨0, (W { L with
     lnk := { L.lnk with lastAckIn := 5 }, ses := { L.ses with
       slots := [{ st := .opened, role := 1, link := true}, {}, {}, {}]} }), _, _, rfl, rfl, by decide +kernel⟩,
   ⟨0, TI, (W { L with lnk := { L.lnk with state := .clock, phase := 2, attempt := 2 } }), _, _, _, rfl, rfl, rfl,
    by decide +kernel⟩,
   ⟨0, TI, (W { L with lnk := { L.lnk with state := .eq, phase := 4, lanes := List.replicate 5 { aligned := true } } }), _, _, rfl, rfl,
    by decide +kernel⟩,
   ⟨0, 7, (W { L with sys := { L.sys with mode := .coppice }, lnk := { L.lnk with state := .detect } }), _, _, rfl,
    rfl, by decide +kernel⟩,
   ⟨0, 7, (W { L with lnk := { L.lnk with state := .detect, phase := 1 } }), _, _, rfl, rfl, by decide +kernel⟩,
   ⟨0, TI, (W { L with lnk := { L.lnk with state := .limpTrain, phase := 5, limpAttempt := 1 } }), _, _, _, rfl, rfl,
    rfl, by decide +kernel⟩,
   ⟨0, TI, (W { L with
      sys := { L.sys with mode := .coppice }, lnk := { L.lnk with state := .limpTrain, phase := 5, limpAttempt := 2 }
        }), _, _, _, rfl, rfl, rfl, by decide +kernel⟩,
   ⟨0, TI, (W { L with lnk := { L.lnk with state := .confirm, phase := 5, attempt := 3 } }), _, _, _, rfl, rfl, rfl,
    by decide +kernel⟩⟩

/-- States that meet the hypotheses of ClocksAndLanesComeAndGo. -/
theorem meets_ClocksAndLanesComeAndGo :
    (∃ (dt : Nat) (l : Nat) (mask : Nat) (i : Fin 4) (v : Word) (s : State) (b : Blk) (held : Bool) (t3 : Nat) (k :
      Nat) (a : Nat) (w : Nat), b = s.blk.elapse dt ∧ held = bitN (b.regN Reg.LNK_CTL) 1 ∧ a = Reg.LNK_EYE_CTL (l % 5)
      ∧ (w = (BitVec.toNat (v ||| 1))) ∧ b.lnk.holdover = some t3 ∧ b.lanesOf true LaneRole.spare = [k] ∧
      b.lnk.ckPresent = true ∧ (¬(b.lnk.state = LinkState.standalone ∨ b.lnk.state = LinkState.down)) ∧ b.lnk.state =
      LinkState.up ∧ l < 5 ∧ b.lnk.lanes.length = 5 ∧ (b.lane l).rx = LaneRole.active ∧ b.lanesOf false LaneRole.spare
      = [] ∧ (b.lanesOf false LaneRole.active).length = 4 ∧ (b.lane l).tx = LaneRole.active ∧ bitN mask l = false ∧ k
      < 5 ∧ bitN mask k = true ∧ (∀ (n : Nat), n < 5 → n ≠ l → (b.lane n).tx = LaneRole.active → bitN mask n = true) ∧
      b.pwr.mode = PwrMode.run ∧ b.sys.mode = SysMode.ready ∧ b.domReady 6 = true ∧ b.writeCheck (some i) Reg.LNK_CTL
      = 0 ∧ held = true ∧ b.writeCheck (some i) a = 0 ∧ valueOk a w = true) ∧
    (∃ (dt : Nat) (l : Nat) (i : Fin 4) (v : Word) (s : State) (b : Blk) (held : Bool) (a : Nat) (w : Nat), b =
      s.blk.elapse dt ∧ held = bitN (b.regN Reg.LNK_CTL) 1 ∧ a = Reg.LNK_EYE_CTL (l % 5) ∧ (w = (BitVec.toNat (v |||
      1))) ∧ b.lnk.ckPresent = true ∧ (b.lnk.state = LinkState.standalone ∨ b.lnk.state = LinkState.down) ∧ b.pwr.mode
      = PwrMode.run ∧ b.sys.mode = SysMode.ready ∧ b.domReady 6 = true ∧ b.writeCheck (some i) Reg.LNK_CTL = 0 ∧ held
      = false ∧ b.writeCheck (some i) a = 0 ∧ valueOk a w = true) ∧
    (∃ (dt : Nat) (l : Nat) (i : Fin 4) (v : Word) (s : State) (b : Blk) (held : Bool) (t : Nat) (a : Nat) (w : Nat),
      b = s.blk.elapse dt ∧ held = bitN (b.regN Reg.LNK_CTL) 1 ∧ a = Reg.LNK_EYE_CTL (l % 5) ∧ (w = (BitVec.toNat (v
      ||| 1))) ∧ b.lnk.absentAt = some t ∧ b.lnk.ckPresent = false ∧ b.lnk.state = LinkState.standalone ∧ t + 31250000
      ≤ b.now ∧ held = false ∧ b.pwr.mode = PwrMode.run ∧ b.sys.mode = SysMode.ready ∧ b.domReady 6 = true ∧
      b.writeCheck (some i) Reg.LNK_CTL = 0 ∧ b.writeCheck (some i) a = 0 ∧ valueOk a w = true) ∧
    (∃ (dt : Nat) (l : Nat) (i : Fin 4) (v : Word) (s : State) (b : Blk) (held : Bool) (a : Nat) (w : Nat), b =
      s.blk.elapse dt ∧ held = bitN (b.regN Reg.LNK_CTL) 1 ∧ a = Reg.LNK_EYE_CTL (l % 5) ∧ (w = (BitVec.toNat (v |||
      1))) ∧ b.lnk.ckPresent = true ∧ (¬(b.lnk.state = LinkState.standalone ∨ b.lnk.state = LinkState.down)) ∧
      b.lnk.state = LinkState.up ∧ l < 5 ∧ b.lnk.lanes.length = 5 ∧ (b.lane l).rx = LaneRole.active ∧ b.lanesOf false
      LaneRole.spare = [] ∧ (b.lanesOf false LaneRole.active).length ≤ 3 ∧ b.pwr.mode = PwrMode.run ∧ b.sys.mode =
      SysMode.ready ∧ b.domReady 6 = true ∧ b.writeCheck (some i) Reg.LNK_CTL = 0 ∧ held = false ∧ b.writeCheck (some
      i) a = 0 ∧ valueOk a w = true) ∧
    (∃ (dt : Nat) (l : Nat) (mask : Nat) (i : Fin 4) (v : Word) (s : State) (b : Blk) (held : Bool) (k : Nat) (k2 :
      Nat) (a : Nat) (w : Nat), b = s.blk.elapse dt ∧ held = bitN (b.regN Reg.LNK_CTL) 1 ∧ a = Reg.LNK_EYE_CTL (l % 5)
      ∧ (w = (BitVec.toNat (v ||| 1))) ∧ b.lanesOf false LaneRole.spare = [k] ∧ b.lanesOf true LaneRole.spare = [k2] ∧
      b.lnk.ckPresent = true ∧ (¬(b.lnk.state = LinkState.standalone ∨ b.lnk.state = LinkState.down)) ∧ b.lnk.state =
      LinkState.up ∧ l < 5 ∧ b.lnk.lanes.length = 5 ∧ (b.lane l).rx = LaneRole.active ∧ (b.lane l).tx =
      LaneRole.active ∧ bitN mask l = false ∧ k2 < 5 ∧ bitN mask k2 = true ∧ (∀ (n : Nat), n < 5 → n ≠ l → (b.lane
      n).tx = LaneRole.active → bitN mask n = true) ∧ b.pwr.mode = PwrMode.run ∧ b.sys.mode = SysMode.ready ∧
      b.domReady 6 = true ∧ b.writeCheck (some i) Reg.LNK_CTL = 0 ∧ held = false ∧ b.writeCheck (some i) a = 0 ∧
      valueOk a w = true) :=
  ⟨⟨0, 2, 0x1b, ((0:Fin 4)), ((0:Word)), (W (rg [(Reg.LNK_CTL, 2)] { L with
     lnk := { L.lnk with
       lanes := L.lnk.lanes.map (fun l => if l.rx = .spare then { l with rx := .off } else l), holdover := some 4,
       ckForward := true } })), _, _, _, _, _, _, rfl, rfl, rfl, rfl, rfl, rfl, by decide +kernel⟩,
   ⟨0, 2, ((0:Fin 4)), ((0:Word)), (W { L with lnk := { L.lnk with ckPresent := true, state := .standalone } }), _, _,
    _, _, rfl, rfl, rfl, rfl, by decide +kernel⟩,
   ⟨0, 2, ((0:Fin 4)), ((0:Word)), (W { L with
      lnk := { L.lnk with ckPresent := false, absentAt := some 3, state := .standalone } }), _, _, _, _, _, rfl, rfl,
    rfl, rfl, rfl, by decide +kernel⟩,
   ⟨0, 2, ((0:Fin 4)), ((0:Word)), (W { L with
      lnk := { L.lnk with
        lanes := [{ rx := .active }, { rx := .active }, { rx := .active }, {rx := .failed}, {rx := .off}] } }), _, _,
    _, _, rfl, rfl, rfl, rfl, by decide +kernel⟩,
   ⟨0, 2, 0x1b, ((0:Fin 4)), ((0:Word)), (W L), _, _, _, _, _, _, rfl, rfl, rfl, rfl, rfl, rfl, by decide +kernel⟩⟩

/-- Streams, a unit of each that is written, and one that is owed. -/
def tileS : Stream := { kind := .tile, jobSeq := 6, unit := 3 }
def heldRow : RowHeld := { at_ := ⟨0, 0, 3, 16⟩, of_ := tileS, part := 0, fill := 2048 }
def ow (b : Blk) : Blk := { b with mem := { b.mem with rows := [heldRow], owed := [{ of_ := tileS, bytes := 320 }] } }
def sc (b : Blk) : Blk := { b with mem := { b.mem with rows := [heldRow] } }
/-- A rank whose MR4 interval, refresh and window are due, with a debt, and a catch-up that waits since `t`. -/
def rk (m : Nat) (d : Int) (t : Option Nat) (burst : Bool) (b : Blk := tr false) : Blk := { b with
    mem := { b.mem with chans := upd b.mem.chans 0 (fun c => { c with burst := burst, ranks := [{ mr4 := m, debt := d, catchUp := t }] }) } }

/-- Three units of a stream are placed on channels A, B and A, the third in the next bank of A's rotation; no other bank is taken
(15 R564). -/
theorem test_units_are_placed :
    let q : Stream := { kind := .mapRow, jobSeq := 6, unit := 3 }
    let b : Blk := { tr false with mem := { (tr false).mem with owed := List.replicate 4 { of_ := q, bytes := 2048 } } }
    let put (ch bank row : Nat) (s : Blk) : Blk := chunkBoundary ch 0 bank row ⟨.sensor, 2048, true⟩ 5 {} s
    let three := put 0 3 9 (put 1 5 8 (put 0 2 8 b))
    (three.mem.rows.length, (put 1 7 9 three).mem.rows.length, (put 1 6 9 three).mem.rows.length) = (3, 3, 4) := by decide +kernel

/-- The scrub of two rows, a data row and its check row, is a pass of one corrected word (15 R576). -/
theorem test_scrub_pass :
    let x := scrubRead 0 0 7 23 [] [] true (scrubRead 0 0 3 16 [⟨5, [70]⟩] [] true (sc (tr false)))
    (x.regN Reg.MEM_SCRUB_STATUS, x.regN Reg.MEM_ECC_CORR, x.mem.passDone) = (65537, 1, true) := by decide +kernel

/-- What all clauses of RefreshDebtIsPaid share. -/
def refreshes (ch r : Nat) (b : Blk) : Prop := b.mem.chans.length = 2 ∧ b.domReady 5 = true ∧ ch < 2 ∧ r < (b.memCh ch).ranks.length

/-- States that meet the hypotheses of RefreshDebtIsPaid: nothing overdue, something overdue, a refresh not due, due in a burst and outside
one; MR4 too early, unchanged, changed with a debt under the ceiling, above it in a burst and outside one; a window over and not; a burst
over and not. -/
theorem meets_RefreshDebtIsPaid :
    (∃ (dt ch r : Nat) (s : State) (b : Blk), b = s.blk.elapse dt ∧ refreshes ch r b ∧ (b.overdue ch) = b ∧
      ((b.overdue ch).memCh ch).burst = false ∧ (((b.overdue ch).memCh ch).rank r).nextDue ≤ b.now) ∧
    (∃ (dt ch r t : Nat) (s : State) (b : Blk), b = s.blk.elapse dt ∧ refreshes ch r b ∧ ((b.memCh ch).rank r).catchUp = some t ∧ t + 625 < b.now) ∧
    (∃ (dt ch r : Nat) (s : State) (b : Blk), b = s.blk.elapse dt ∧ refreshes ch r b ∧ b.now < (((b.overdue ch).memCh ch).rank r).nextDue ∧
      b.now < ((b.memCh ch).rank r).mr4At + 1250000 ∧ b.now < ((b.memCh ch).rank r).winAt + 8192 * ((b.memCh ch).rank r).interval ∧
      b.now < (b.memCh ch).chunkEnd + b.regF Reg.MEMF_BURST_GAP 9 0) ∧
    (∃ (dt ch r : Nat) (s : State) (b : Blk), b = s.blk.elapse dt ∧ refreshes ch r b ∧ (((b.overdue ch).memCh ch).rank r).nextDue ≤ b.now ∧
      ((b.overdue ch).memCh ch).burst = true ∧ (b.memCh ch).burst = true ∧
      (b.memCh ch).chunkEnd + b.regF Reg.MEMF_BURST_GAP 9 0 ≤ b.now ∧
      ((b.memCh ch).rank r).winAt + 8192 * ((b.memCh ch).rank r).interval ≤ b.now) ∧
    (∃ (dt ch r code : Nat) (s : State) (b : Blk), b = s.blk.elapse dt ∧ refreshes ch r b ∧ ((b.memCh ch).rank r).mr4At + 1250000 ≤ b.now ∧
      code % 8 = (((b.overdue ch).memCh ch).rank r).mr4) ∧
    (∃ (dt ch r : Nat) (s : State) (b : Blk), b = s.blk.elapse dt ∧ refreshes ch r b ∧ ((b.memCh ch).rank r).mr4At + 1250000 ≤ b.now ∧
      4 ≠ (((b.overdue ch).memCh ch).rank r).mr4 ∧ (((b.overdue ch).memCh ch).rank r).debt ≤ 4) ∧
    (∃ (dt ch r : Nat) (s : State) (b : Blk), b = s.blk.elapse dt ∧ refreshes ch r b ∧ ((b.memCh ch).rank r).mr4At + 1250000 ≤ b.now ∧
      4 ≠ (((b.overdue ch).memCh ch).rank r).mr4 ∧ 4 < (((b.overdue ch).memCh ch).rank r).debt ∧ ((b.overdue ch).memCh ch).burst = true) ∧
    (∃ (dt ch r : Nat) (s : State) (b : Blk), b = s.blk.elapse dt ∧ refreshes ch r b ∧ ((b.memCh ch).rank r).mr4At + 1250000 ≤ b.now ∧
      4 ≠ (((b.overdue ch).memCh ch).rank r).mr4 ∧ 4 < (((b.overdue ch).memCh ch).rank r).debt ∧ ((b.overdue ch).memCh ch).burst = false) := by
  refine ⟨⟨0, 0, 0, W (rk 2 3 none false), _, rfl, ?_⟩, ⟨0, 0, 0, 3, W (rk 2 3 (some 3) true), _, rfl, ?_⟩,
    ⟨0, 0, 0, W { rk 2 3 none true with now := 9 }, _, rfl, ?_⟩, ⟨0, 0, 0, W (rk 2 3 none true), _, rfl, ?_⟩,
    ⟨0, 0, 0, 2, W (rk 2 3 none false), _, rfl, ?_⟩, ⟨0, 0, 0, W (rk 2 3 none false), _, rfl, ?_⟩,
    ⟨0, 0, 0, W (rk 2 7 none true), _, rfl, ?_⟩, ⟨0, 0, 0, W (rk 2 7 none false), _, rfl, ?_⟩⟩ <;>
  (unfold refreshes; decide +kernel)

/-- What the clauses of RowsAreReadCorrectedAndMoved about one row share. -/
def onRow (ch r bk row : Nat) (b : Blk) : Prop := refreshes ch r b ∧ b.rowExists ch r bk row = true

/-- States that meet the hypotheses of RowsAreReadCorrectedAndMoved. -/
theorem meets_RowsAreReadCorrectedAndMoved :
    (∃ (dt ch r bk row : Nat) (s : State) (b c : Blk), b = s.blk.elapse dt ∧ c = b.overdue ch ∧ onRow ch r bk row b ∧
      c.nextStream .roi = none ∧ b.rtWaits ch = false ∧ c.rtWaits ch = false ∧ row % 8 ≠ 7 ∧ b.enteringSleep = false ∧
      ((b.memCh ch).rank r).touched + b.regF Reg.MEM_PD_CFG 11 0 ≤ b.now) ∧
    (∃ (dt ch r bk row : Nat) (s : State) (b c : Blk) (n : Nat), b = s.blk.elapse dt ∧ c = b.overdue ch ∧
      n = min 2048 (min (c.roomIn tileS) (c.owedOf tileS)) ∧ onRow ch r bk row b ∧
      ((b.memCh ch).rank r).banks.length = 8 ∧ c.nextStream .roi = some tileS ∧ 0 < n ∧ c.mayPlace tileS ⟨ch, r, bk, row⟩ = true ∧
      b.enteringSleep = false ∧ b.rtWaits ch = true ∧ c.rtWaits ch = true) ∧
    (∃ (dt ch r bk row : Nat) (s : State) (b y : Blk), b = s.blk.elapse dt ∧ y = (b.overdue ch).scrubRoll ∧ onRow ch r bk row b ∧
      b.rtWaits ch = false ∧ b.enteringSleep = false ∧ y.mem.passDone = false ∧ y.holdsData ⟨ch, r, bk, row⟩ = true ∧
      RowAt.mk ch r bk row ∉ y.mem.scrubbed ∧ 0 < fixedIn { first := [⟨7, [3]⟩] } ∧
      (b.memCh ch).errorsOf (r, bk, row) + fixedIn { first := [⟨7, [3]⟩] } < b.regF Reg.MEMX_REMAP_LIMIT 7 0) ∧
    (∃ (dt ch r bk row : Nat) (s : State) (b : Blk), b = s.blk.elapse dt ∧ refreshes ch r b ∧
      (b.memCh ch).burst = false ∧ (r, bk, row) ∈ (b.memCh ch).neighbours) ∧
    (∃ (dt ch r bk : Nat) (s : State) (b : Blk) (k : RankSt), b = s.blk.elapse dt ∧ k = (b.memCh ch).rank r ∧ refreshes ch r b ∧
      (k.bank bk).isOpen = true ∧ (k.bank bk).touched + 4 * b.regF Reg.MEM_PRED_CFG 7 0 ≤ b.now ∧ bk < k.banks.length) ∧
    (∃ (dt ch r : Nat) (q : RowCopy) (s : State) (b : Blk), b = s.blk.elapse dt ∧ b.mem.chans.length = 2 ∧ b.domReady 5 = true ∧
      ch < 2 ∧ r < (b.memCh ch).ranks.length ∧ (b.memCh ch).copies.find? (fun x => !x.done) = some q ∧
      (b.exposureLive || b.sweepLive) = true) ∧
    (∃ (dt ch r : Nat) (q : RowCopy) (s : State) (b : Blk), b = s.blk.elapse dt ∧ b.mem.chans.length = 2 ∧ b.domReady 5 = true ∧
      ch < 2 ∧ r < (b.memCh ch).ranks.length ∧ (b.memCh ch).copies.find? (fun x => !x.done) = some q ∧
      (b.exposureLive || b.sweepLive) = false) :=
  ⟨⟨0, 0, 0, 3, 100, W (tr false), _, _, rfl, rfl, by unfold onRow refreshes; decide +kernel⟩,
   ⟨0, 1, 0, 3, 100, W (ow (tr false)), _, _, _, rfl, rfl, rfl, by unfold onRow refreshes; decide +kernel⟩,
   ⟨0, 0, 0, 3, 16, W (sc (tr false)), _, _, rfl, rfl, by unfold onRow refreshes; decide +kernel⟩,
   ⟨0, 0, 0, 3, 100, W (tr false), _, rfl, by unfold refreshes; decide +kernel⟩,
   ⟨0, 0, 0, 3, W tc, _, _, rfl, rfl, by unfold refreshes; decide +kernel⟩,
   ⟨0, 0, 0, { rank := 0, bank := 3, row := 7, uncorr := false, retire := false }, W { tc with jobs := [jb 1 3 9 2 1000000 2 0 4] },
    _, rfl, by decide +kernel⟩,
   ⟨0, 0, 0, { rank := 0, bank := 3, row := 7, uncorr := false, retire := false }, W tc, _, rfl, by decide +kernel⟩⟩

end Links

namespace Sleep

def N : Blk := { B with now := 900000000 }
def gt : Blk := rg [(Reg.PWR_CTL, 1)] N
def gt2 (d : Nat) : Blk := N.updDom d (fun x => { x with gateAt := some 5 })
def st (d : Nat) : Stall := { dom := d, since := 899000000, what := .read (some 0) (Reg.SYS_START_CTL) }
def wk (d : Nat) (l : List Stall) : Blk := {
    N.updDom d (fun x => { x with ready := false, wakeAt := 0 }) with chn := { stalls := l } }
def ent (m : PwrMode) (b : Blk := N) : Blk := { b with pwr := { b.pwr with mode := m, stepFrom := 899999990 } }
def rs : Blk := { ent (.waking 2) with
    time := { N.time with ringRuns := false, aon := 80000, capA := 30000, capT := 7777 } }
def tm (f : TimeSt → TimeSt) : Blk := { N with time := f N.time }

/-- States that meet the hypotheses of DomainsGateAndWake. -/
theorem meets_DomainsGateAndWake :
    (∃ (dt : Nat) (d : Nat) (s : State) (b : Blk), b = s.blk.elapse dt ∧ d ∈ domCodes ∧ b.doms.length = 26 ∧ (b.dom
      d).powered = true ∧ (b.dom d).ready = false ∧ (b.dom d).restartAt = none ∧ b.chn.stalls = [] ∧ d ≠ 3 ∧ d ≠ 0 ∧ d
      ≠ 1 ∧ (b.dom d).wakeAt + 2 * readyBound d ≤ b.now) ∧
    (∃ (dt : Nat) (d : Nat) (a : Nat) (w : Stall) (who : Option (Fin 4)) (s : State) (b : Blk), b = s.blk.elapse dt ∧
      d ∈ domCodes ∧ b.doms.length = 26 ∧ (b.dom d).powered = true ∧ (b.dom d).ready = false ∧ (b.dom d).restartAt =
      none ∧ b.chn.stalls = [w] ∧ w.dom = d ∧ w.what = Pending.read who a ∧ d ≠ 0 ∧ d ≠ 1 ∧ (b.dom d).wakeAt + 2 *
      readyBound d ≤ b.now) ∧
    (∃ (dt : Nat) (d : Nat) (s : State) (b : Blk), b = s.blk.elapse dt ∧ d ∈ domCodes ∧ b.doms.length = 26 ∧
      b.exposureLive = true) ∧
    (∃ (dt : Nat) (d : Nat) (t : Nat) (s : State) (b : Blk), b = s.blk.elapse dt ∧ d ∈ domCodes ∧ b.doms.length = 26 ∧
      d ≠ 5 ∧ d ≠ 7 ∧ (b.dom d).gateAt = some t ∧ t + 1562500 ≤ b.now ∧ b.gateHeld d = true) ∧
    (∃ (dt : Nat) (d : Nat) (s : State) (b : Blk), b = s.blk.elapse dt ∧ d ∈ domCodes ∧ b.doms.length = 26 ∧
      b.pwr.mode = PwrMode.run ∧ b.sys.mode = SysMode.ready ∧ bitN (b.regN Reg.PWR_CTL) 0 = true ∧ (b.dom d).ready =
      true ∧ (b.dom d).touched + b.gateDelay ≤ b.now ∧ b.held d = false ∧ b.mayGate d = true) :=
  ⟨⟨0, 4, (W (wk 4 [])), _, rfl, by decide +kernel⟩,
   ⟨0, 4, ((0x4000:Nat)), ({ st 4 with what := .read (some 0) 0x4000 }), ((some 0 : Who)), (W (wk 4 [{ st 4 with
      what := .read (some 0) 0x4000 }])), _, rfl, by decide +kernel⟩,
   ⟨0, 2, (W { N with jobs := [jb 1 3 9 2 1000000 2 0 4] }), _, rfl, by decide +kernel⟩,
   ⟨0, 3, 5, (W { gt2 3 with
      bnd := { N.bnd with
        opened := [some { id := 3, slot := 0, point := 0, writes := [(Reg.PDC_CFG 2, 3)] }, none, none, none] } }), _,
    rfl, by decide +kernel⟩,
   ⟨0, 3, (W gt), _, rfl, by decide +kernel⟩⟩

/-- States that meet the hypotheses of TheEngineSleepsAndWakes. -/
theorem meets_TheEngineSleepsAndWakes :
    (∃ (dt : Nat) (k : Nat) (s : State) (b : Blk), b = s.blk.elapse dt ∧ b.pwr.mode = PwrMode.waking k ∧
      b.pwr.stepFrom + b.wakeBound k ≤ b.now ∧ b.tly.supplied = true) ∧
    (∃ (dt : Nat) (i : Fin 4) (s : State) (b : Blk), b = s.blk.elapse dt ∧ b.pwr.mode = PwrMode.run ∧ b.sys.mode =
      SysMode.ready ∧ b.writeCheck (some i) Reg.PWR_CMD = 0 ∧ b.domReady 0 = true ∧ b.jobs = [] ∧ b.tly.block.count =
      0) ∧
    (∃ (dt : Nat) (k : Nat) (s : State) (b : Blk), b = s.blk.elapse dt ∧ b.pwr.mode = PwrMode.waking k ∧ b.now ≤
      b.pwr.stepFrom + b.wakeBound k ∧ k < 4 ∧ k ≠ 3 ∧ k = 2 ∧ b.time.ringRuns = false ∧ b.time.lost = false) ∧
    (∃ (dt : Nat) (k : Nat) (s : State) (b : Blk), b = s.blk.elapse dt ∧ b.pwr.mode = PwrMode.waking k ∧ b.now ≤
      b.pwr.stepFrom + b.wakeBound k ∧ k = 3) ∧
    (∃ (dt : Nat) (i : Fin 4) (s : State) (b : Blk), b = s.blk.elapse dt ∧ b.pwr.mode = PwrMode.run ∧ b.sys.mode =
      SysMode.ready ∧ b.writeCheck (some i) Reg.PWR_CMD = 0 ∧ b.domReady 0 = true ∧ b.jobs ≠ []) ∧
    (∃ (dt : Nat) (src : Nat) (s : State) (b : Blk), b = s.blk.elapse dt ∧ b.pwr.mode = PwrMode.rosemary ∧ 0 < src ∧
      src < 4 ∧ bitN (b.regN Reg.PWR_WAKE_EN) src = true ∧ (src = 3 ∨ b.trigHeld (src - 1) = true)) ∧
    (∃ (dt : Nat) (k : Nat) (s : State) (b : Blk), b = s.blk.elapse dt ∧ b.pwr.mode = PwrMode.waking k ∧ b.now ≤
      b.pwr.stepFrom + b.wakeBound k ∧ k = 4 ∧ b.pwr.held = none ∧ b.pwr.refused = [] ∧ b.linkUp = false ∧ bitN
      (b.regN Reg.LNK_CTL) 1 = false) ∧
    (∃ (dt : Nat) (off : Bool) (s : State) (b : Blk), b = s.blk.elapse dt ∧ (b.pwr.mode = if off = true then
      PwrMode.enteringOff else PwrMode.entering) ∧ b.entryHeld = false ∧ b.time.ringRuns = true ∧ b.doms.length = 26 ∧ b.tly.block.count = 0 ∧ b.tly.toSign = [] ∧ b.pwr.latched
      = [] ∧ off = false) ∧
    (∃ (i : Fin 4) (b : Blk), b.pwr.mode = .run ∧ b.sys.mode = .coppice ∧ b.writeCheck (some i) Reg.PWR_CMD = 0 ∧ b.domReady 0 = true) ∧
    (∃ (b : Blk), b.entryHeld = true) ∧
    (∃ (b : Blk), b.pwr.mode = .rosemary ∧ b.alarmDue = false ∧ b.regF Reg.LIT_THERM 1 0 ≠ 1) ∧
    (∃ (b : Blk), b.pwr.mode = .rosemary ∧ b.regF Reg.LIT_THERM 1 0 = 1) ∧
    (∃ (l : Nat) (m : List Nat) (b : Blk), b.pwr.mode = .entering ∧
      b.entryHeld = false ∧ b.time.ringRuns = true ∧ b.doms.length = 26 ∧
      b.pwr.latched = l :: m ∧ ∀ q ∈ b.pwr.latched, q < 6) ∧
    (∃ (b : Blk), b.pwr.mode = .enteringOff ∧ b.entryHeld = false ∧
      b.time.ringRuns = true ∧ b.doms.length = 26 ∧ b.ses.slots.length = 4) ∧
    (∃ (src : Nat) (b : Blk), b.pwr.mode = .entering ∧ 0 < src ∧ src < 4 ∧ bitN (b.regN Reg.PWR_WAKE_EN) src = true ∧
      (src = 3 ∨ b.trigHeld (src - 1) = true)) ∧
    (∃ (src k : Nat) (b : Blk), b.pwr.mode = .waking k ∧ 0 < src ∧ src < 4 ∧ bitN (b.regN Reg.PWR_WAKE_EN) src = true ∧
      (src = 3 ∨ b.trigHeld (src - 1) = true)) ∧
    (∃ (cmd_ : Nat) (r : Req) (b : Blk), b.pwr.mode = .rosemary ∧ r.link = false ∧ r.addr % 128 = b.chainAddr ∧
      b.chainAddr < 0x7E ∧ aonCmd (cmd_ % 32) = false ∧ b.pwr.held = none ∧ b.pwr.refused = [] ∧ reqSize r ≤ 64) ∧
    (∃ (b : Blk), b.pwr.mode = .waking 1 ∧ b.now ≤ b.pwr.stepFrom + b.wakeBound 1) ∧
    (∃ (k : Nat) (b : Blk), b.pwr.mode = .waking k ∧ b.pwr.stepFrom + b.wakeBound k ≤ b.now ∧ b.tly.supplied = false) :=
  ⟨⟨0, 4, (W { ent (.waking 4) with pwr := { (ent (.waking 4)).pwr with stepFrom := 5 } }), _, rfl,
   by decide +kernel⟩,
   ⟨0, ((1:Fin 4)), (W N), _, rfl, by decide +kernel⟩,
   ⟨0, 2, (W rs), _, rfl, by decide +kernel⟩,
   ⟨0, 3, (W (ent (.waking 3))), _, rfl, by decide +kernel⟩,
   ⟨0, ((1:Fin 4)), (W { N with jobs := [jb 1 3 9 2 1000000 2 0 4] }), _, rfl, by decide +kernel⟩,
   ⟨0, 1, (W { ent .rosemary with sns := { N.sns with level := [true, false] } }), _, rfl, by decide +kernel⟩,
   ⟨0, 4, (W { ent (.waking 4) with lnk := { N.lnk with state := .detect } }), _, rfl, by decide +kernel⟩,
   ⟨0, false, (W (ent .entering)), _, rfl, by decide +kernel⟩,
   ⟨1, { N with sys := { N.sys with mode := .coppice } }, by decide +kernel⟩,
   ⟨{ N with bnd := { N.bnd with
      opened := [some { id := 3, slot := 0, point := 0, writes := [(Reg.PDC_CFG 2, 3)] }, none, none, none] } }, by decide +kernel⟩,
   ⟨rg [(Reg.LIT_THERM, 0)] (ent .rosemary), by decide +kernel⟩,
   ⟨rg [(Reg.LIT_THERM, 1)] (ent .rosemary), by decide +kernel⟩,
   ⟨3, [1], { ent .entering with pwr := { (ent .entering).pwr with latched := [3, 1] } }, by decide +kernel⟩,
   ⟨ent .enteringOff, by decide +kernel⟩,
   ⟨3, ent .entering, by decide +kernel⟩,
   ⟨3, 2, ent (.waking 2), by decide +kernel⟩,
   ⟨5, rq 5 0 (zeros 12) N, ent .rosemary, by decide +kernel⟩,
   ⟨ent (.waking 1), by decide +kernel⟩,
   ⟨4, { ent (.waking 4) with pwr := { (ent (.waking 4)).pwr with stepFrom := 5 }, tly := { N.tly with supplied := false } },
    by decide +kernel⟩⟩

/-- States that meet the hypotheses of TimeIsKeptAndSet. -/
theorem meets_TimeIsKeptAndSet :
    (∃ (dt : Nat) (cycles : Nat) (i : Fin 4) (v : Word) (s : State) (b : Blk) (at_ : Nat), b = s.blk.elapse dt ∧ at_ =
      b.time.setLo + BitVec.toNat v * 2 ^ 32 ∧ b.time.ringRuns = true ∧ cycles ≠ 0 ∧ b.time.windowFrom + 31250000 ≤
      b.now ∧ b.pwr.mode = PwrMode.run ∧ b.sys.mode = SysMode.ready ∧ b.writeCheck (some i) Reg.TMB_SET_HI = 0 ∧
      b.domReady 0 = true ∧ (b.time.valid = true ∨ b.jobs ≠ [] ∨ at_ < b.now) ∧ b.writeCheck (some i) Reg.TMB_ALARM_HI
      = 0 ∧ b.domReady 0 = true ∧ b.regN Reg.TMB_ALARM_LO + BitVec.toNat v * 2 ^ 32 ≤ b.now ∧ bitN (b.regN
      Reg.TMB_ALARM_CTL) 0 = true ∧ b.pair Reg.TMB_ALARM_LO ≤ b.now ∧ b.pwr.mode = PwrMode.run ∧ b.writeCheck (some i)
      Reg.TMB_ALARM_CTL = 0 ∧ b.domReady 0 = true ∧ valueOk Reg.TMB_ALARM_CTL (BitVec.toNat v) = true ∧ bitN
      (BitVec.toNat v) 0 = false ∧ b.writeCheck (some i) Reg.TMB_CTL = 0 ∧ b.domReady 0 = true) ∧
    (∃ (dt : Nat) (temp : Nat) (i : Fin 4) (v : Word) (s : State) (b : Blk) (at_ : Nat), b = s.blk.elapse dt ∧ at_ =
      b.time.setLo + BitVec.toNat v * 2 ^ 32 ∧ b.time.ringRuns = false ∧ temp < 65536 ∧ b.pwr.mode = PwrMode.run ∧
      b.sys.mode = SysMode.ready ∧ b.writeCheck (some i) Reg.TMB_SET_HI = 0 ∧ b.domReady 0 = true ∧ (b.time.valid =
      true ∨ b.jobs ≠ [] ∨ at_ < b.now) ∧ b.writeCheck (some i) Reg.TMB_ALARM_HI = 0 ∧ b.domReady 0 = true ∧ b.now <
      b.regN Reg.TMB_ALARM_LO + BitVec.toNat v * 2 ^ 32 ∧ b.writeCheck (some i) Reg.TMB_CTL = 0 ∧ b.domReady 0 = true)
      ∧
    (∃ (dt : Nat) (cycles : Nat) (i : Fin 4) (v : Word) (s : State) (b : Blk) (at_ : Nat), b = s.blk.elapse dt ∧ at_ =
      b.time.setLo + BitVec.toNat v * 2 ^ 32 ∧ b.time.ringRuns = true ∧ cycles ≠ 0 ∧ b.time.windowFrom + 31250000 ≤
      b.now ∧ b.pwr.mode = PwrMode.run ∧ b.sys.mode = SysMode.ready ∧ b.writeCheck (some i) Reg.TMB_SET_HI = 0 ∧
      b.domReady 0 = true ∧ b.time.valid = false ∧ b.jobs = [] ∧ b.now ≤ at_ ∧ b.writeCheck (some i) Reg.TMB_ALARM_HI
      = 0 ∧ b.domReady 0 = true ∧ b.now < b.regN Reg.TMB_ALARM_LO + BitVec.toNat v * 2 ^ 32 ∧ b.writeCheck (some i)
      Reg.TMB_CTL = 0 ∧ b.domReady 0 = true) :=
  ⟨⟨0, 16000000, ((1:Fin 4)), ((0:Word)), (W (rg [(Reg.TMB_ALARM_LO, 899999999), (Reg.TMB_ALARM_HI, 0),
   (Reg.TMB_ALARM_CTL, 1)] N)), _, _, rfl, rfl, by decide +kernel⟩,
   ⟨0, 0x0E00, ((1:Fin 4)), ((5:Word)), (W (tm (fun t => { t with ringRuns := false }))), _, _, rfl, rfl,
    by decide +kernel⟩,
   ⟨0, 16000000, ((1:Fin 4)), ((5:Word)), (W (tm (fun t => { t with valid := false, setLo := 9 }))), _, _, rfl, rfl,
    by decide +kernel⟩⟩

/-- States that meet the hypotheses of HeatIsWatched. -/
theorem meets_HeatIsWatched :
    (∃ (dt : Nat) (temp : Nat) (s : State) (b : Blk) (warn : Int), b = s.blk.elapse dt ∧ warn = 256 * ↑(b.regF
      Reg.THM_LIMITS 7 0) ∧ warn < sgn 16 temp ∧ sgn 16 (b.regF Reg.THM_TEMP 15 0) ≤ warn ∧ b.pwr.mode = PwrMode.run ∧
      32000 ≤ sgn 16 temp ∧ b.ses.slots.length = 4 ∧ b.doms.length = 26) ∧
    (∃ (dt : Nat) (temp : Nat) (s : State) (b : Blk) (warn : Int), b = s.blk.elapse dt ∧ warn = 256 * ↑(b.regF
      Reg.THM_LIMITS 7 0) ∧ (sgn 16 temp ≤ warn ∨ warn < sgn 16 (b.regF Reg.THM_TEMP 15 0))) :=
  ⟨⟨0, 0x7F00, (W N), _, _, rfl, rfl, by decide +kernel⟩,
   ⟨0, 0x1F00, (W N), _, _, rfl, rfl, by decide +kernel⟩⟩

end Sleep

namespace Starting

def N : Blk := { B with now := 900000000 }
def ti : TrainInfo := {
    rxLanes := 0x1F, txLanes := 0x1F, inverted := 0, partner := [0,1,2,3,4], peaks := [[1,3,2],[4],[0,2],[5,5],[7]] }
def mt1 : MemTrain := {
    ranksA := [0x18000000, 0x18000000], ranksB := [0x18000000, 0x18000000], fails := [0, 0, 3, 0, 0, 0, 0, 0, 3], time := 100,
    dqs := [4000, 4001, 4002, 4003], vref := 5 }
def ou : StartOutcome := {
    temp := 0x1900, selftest := true, s1 := 0, nvCopy := false, nvBad := false, s3 := 0, s3Part := 0, mem := mt1,
    link := 0, info := ti, s6 := 0, engines := 0x3FFFF, macros := [] }
def od := { ou with s1 := 3 }
def oc := { ou with engines := 0x30 }
def on_ := { ou with engines := 0 }
def stg (b : Blk := N) : Blk := { b with sys := { b.sys with mode := .starting, phase := 1, retryAt := none } }
def rc (k : SpareKind) (u : Nat) (w : Bool := false) : Recovery := { kind := k, u := u, wear := w, since := 100 }
def us (l : List Recovery) (b : Blk := N) : Blk := { b with ust := { b.ust with queue := l, running := !l.isEmpty } }
def sp : Blk := (us [rc .engine 5]).updDom 0x20 (fun x => { x with ready := true, powered := true, clamped := false })

/-- States that meet the hypotheses of StartsRunThroughTheirPhases. -/
theorem meets_StartsRunThroughTheirPhases :
    (∃ (dt : Nat) (rail : Nat) (i : Fin 4) (s : State) (b : Blk), b = s.blk.elapse dt ∧ b.pwr.mode ≠ PwrMode.reset ∧
      rail ≠ 2 ∧ rail < 9 ∧ b.writeCheck (some i) Reg.SYS_START_CTL = 0 ∧ b.domReady 7 = true ∧ b.pwr.mode =
      PwrMode.run ∧ b.sys.mode = SysMode.ready ∧ b.jobs = []) ∧
    (∃ (dt : Nat) (rail : Nat) (s : State) (b : Blk), b = s.blk.elapse dt ∧ rail ≠ 2 ∧ rail < 9 ∧ b.pwr.mode =
      PwrMode.reset) ∧
    (∃ (dt : Nat) (rail : Nat) (t : Nat) (s : State) (b : Blk), b = s.blk.elapse dt ∧ b.pwr.mode ≠ PwrMode.reset ∧
      rail ≠ 2 ∧ rail < 9 ∧ b.sys.retryAt = some t ∧ t + 31250000 ≤ b.now) ∧
    (∃ (dt : Nat) (rail : Nat) (i : Fin 4) (s : State) (b : Blk), b = s.blk.elapse dt ∧ b.pwr.mode ≠ PwrMode.reset ∧
      rail ≠ 2 ∧ rail < 9 ∧ b.writeCheck (some i) Reg.SYS_START_CTL = 0 ∧ b.domReady 7 = true ∧ b.pwr.mode =
      PwrMode.run ∧ b.sys.mode = SysMode.coppice) ∧
    (∃ (dt : Nat) (rail : Nat) (i : Fin 4) (s : State) (b : Blk), b = s.blk.elapse dt ∧ b.pwr.mode ≠ PwrMode.reset ∧
      rail ≠ 2 ∧ rail < 9 ∧ b.writeCheck (some i) Reg.SYS_START_CTL = 0 ∧ b.domReady 7 = true ∧ b.pwr.mode =
      PwrMode.run ∧ b.sys.mode = SysMode.ready ∧ b.jobs ≠ []) ∧
    (∃ (dt : Nat) (rail : Nat) (o : StartOutcome) (s : State) (b : Blk) (n : Nat), b = s.blk.elapse dt ∧ n = b.regF
      Reg.SYS_FAILED_STARTS 7 0 ∧ b.pwr.mode ≠ PwrMode.reset ∧ rail ≠ 2 ∧ rail < 9 ∧ b.sys.mode = SysMode.starting ∧
      b.pwr.mode = PwrMode.run ∧ b.sys.phase = 1 ∧ b.sys.retryAt = none ∧ b.pwr.hotStop = false ∧ b.tly.supplied =
      true ∧ b.sys.coppiceStart = false ∧ n < 3 ∧ 3 ≤ o.s1 ∧ n < 2) ∧
    (∃ (dt : Nat) (rail : Nat) (o : StartOutcome) (s : State) (b : Blk) (n : Nat), b = s.blk.elapse dt ∧ n = b.regF
      Reg.SYS_FAILED_STARTS 7 0 ∧ b.pwr.mode ≠ PwrMode.reset ∧ rail ≠ 2 ∧ rail < 9 ∧ b.sys.mode = SysMode.starting ∧
      b.pwr.mode = PwrMode.run ∧ b.sys.phase = 1 ∧ b.sys.retryAt = none ∧ b.pwr.hotStop = false ∧ b.tly.supplied =
      true ∧ b.sys.coppiceStart = false ∧ n < 3 ∧ 3 ≤ o.s1 ∧ n = 2) ∧
    (∃ (dt : Nat) (rail : Nat) (e : Nat) (o : StartOutcome) (s : State) (b : Blk) (n : Nat), b = s.blk.elapse dt ∧ n =
      b.regF Reg.SYS_FAILED_STARTS 7 0 ∧ b.pwr.mode ≠ PwrMode.reset ∧ rail ≠ 2 ∧ rail < 9 ∧ b.sys.mode =
      SysMode.starting ∧ b.pwr.mode = PwrMode.run ∧ b.sys.phase = 1 ∧ b.sys.retryAt = none ∧ b.pwr.hotStop = false ∧
      b.tly.supplied = true ∧ (b.sys.coppiceStart = true ∨ 3 ≤ n) ∧ o.s1 < 3 ∧ o.nvBad = false ∧ o.s3 < 3 ∧ lowestBit
      18 o.engines = some e) ∧
    (∃ (dt : Nat) (rail : Nat) (o : StartOutcome) (s : State) (b : Blk) (n : Nat), b = s.blk.elapse dt ∧ n = b.regF
      Reg.SYS_FAILED_STARTS 7 0 ∧ b.pwr.mode ≠ PwrMode.reset ∧ rail ≠ 2 ∧ rail < 9 ∧ b.sys.mode = SysMode.starting ∧
      b.pwr.mode = PwrMode.run ∧ b.sys.phase = 1 ∧ b.sys.retryAt = none ∧ b.pwr.hotStop = false ∧ b.tly.supplied =
      true ∧ (b.sys.coppiceStart = true ∨ 3 ≤ n) ∧ o.s1 < 3 ∧ o.nvBad = false ∧ o.s3 < 3 ∧ lowestBit 18 o.engines =
      none) ∧
    (∃ (dt : Nat) (rail : Nat) (o : StartOutcome) (s : State) (b : Blk) (n : Nat), b = s.blk.elapse dt ∧ n = b.regF
      Reg.SYS_FAILED_STARTS 7 0 ∧ b.pwr.mode ≠ PwrMode.reset ∧ rail ≠ 2 ∧ rail < 9 ∧ b.sys.mode = SysMode.starting ∧
      b.pwr.mode = PwrMode.run ∧ b.sys.phase = 1 ∧ b.sys.retryAt = none ∧ b.pwr.hotStop = false ∧ b.tly.supplied =
      true ∧ b.sys.coppiceStart = false ∧ n < 3 ∧ o.s1 < 3 ∧ o.nvBad = false ∧ o.s3 < 3 ∧ (trainEnd o.mem).fault = 0 ∧ 4 ≤
      popcount 18 o.engines ∧ o.macros = [] ∧ o.s6 < 3) ∧
    (∃ (dt : Nat) (o : StartOutcome) (s : State) (b : Blk) (n : Nat), b = s.blk.elapse dt ∧ n = b.regF
      Reg.SYS_FAILED_STARTS 7 0 ∧ b.sys.mode = SysMode.starting ∧
      b.pwr.mode = PwrMode.run ∧ b.sys.phase = 1 ∧ b.sys.retryAt = none ∧ b.pwr.hotStop = false ∧ b.tly.supplied =
      true ∧ b.sys.coppiceStart = false ∧ n < 2 ∧ o.s1 < 3 ∧ o.nvBad = false ∧ o.s3 < 3 ∧ (trainEnd o.mem).fault ≠ 0) :=
  ⟨⟨0, 3, ((1:Fin 4)), (W N), _, rfl, by decide +kernel⟩,
   ⟨0, 0, (W { N with pwr := { N.pwr with mode := .reset }, time := { N.time with ringRuns := false } }), _, rfl,
    by decide +kernel⟩,
   ⟨0, 0, 5, (W { N with sys := { N.sys with mode := .starting, retryAt := some 5 } }), _, rfl, by decide +kernel⟩,
   ⟨0, 0, ((1:Fin 4)), (W { N with jobs := [jb 1 3 9 2 1000000 2 0 4], sys := { N.sys with mode := .coppice } }), _,
    rfl, by decide +kernel⟩,
   ⟨0, 0, ((1:Fin 4)), (W { N with jobs := [jb 1 3 9 2 1000000 2 0 4] }), _, rfl, by decide +kernel⟩,
   ⟨0, 0, od, (W (stg (rg [(Reg.SYS_FAILED_STARTS, 1)] N))), _, _, rfl, rfl, by decide +kernel⟩,
   ⟨0, 0, od, (W (stg (rg [(Reg.SYS_FAILED_STARTS, 2)] N))), _, _, rfl, rfl, by decide +kernel⟩,
   ⟨0, 0, 4, oc, (W (stg (rg [(Reg.SYS_FAILED_STARTS, 3)] N))), _, _, rfl, rfl, by decide +kernel⟩,
   ⟨0, 0, on_, (W { stg with sys := { stg.sys with coppiceStart := true } }), _, _, rfl, rfl, by decide +kernel⟩,
   ⟨0, 0, ou, (W stg), _, _, rfl, rfl, by decide +kernel⟩,
   ⟨0, { ou with mem := { mt1 with lp4x := false } }, (W stg), _, _, rfl, rfl, by decide +kernel⟩⟩

/-- Training falls to the third rate when step 3 fails at the first and step 1 at the second (15 R580); it fails on devices whose channels
differ (R555), and after three failures of a step at the last rate. -/
theorem test_memory_training :
    trainEnd mt1 = ⟨0, 8, 1, 2⟩ ∧ trainEnd { mt1 with ranksB := [0x18000000] } = ⟨0x3042, 1, 1, 0⟩ ∧
    trainEnd { mt1 with ranksB := [0x10000000, 0x10000000] } = ⟨0x3042, 1, 1, 0⟩ ∧
    trainEnd { mt1 with fails := [3, 0, 0, 0, 0, 0, 0, 0, 3, 0, 0, 0, 0, 0, 0, 0, 3, 0, 0, 0, 0, 0, 0, 0, 0, 0, 0, 3] } = ⟨0x3041, 4, 3, 3⟩ := by
  decide +kernel

/-- States that meet the hypotheses of SparesTakeOver. -/
theorem meets_SparesTakeOver :
    (∃ (dt : Nat) (u : Nat) (d : Nat) (r : Recovery) (s : State) (b : Blk), b = s.blk.elapse dt ∧
      b.ust.keySpared.contains 0 = false ∧ b.recovery = some r ∧ b.ust.queue = [r] ∧ r.kind = SpareKind.adc ∧ r.u = u
      ∧ u < 8 ∧ b.pd.chans.length = 8 ∧ b.adcSafe u = true ∧ r.wear = false ∧ r.since + 9375000 ≤ b.now ∧
      b.doms.length = 26 ∧ d = b.unitDom r.kind r.u ∧ d ∈ domCodes ∧ b.pwr.mode = PwrMode.run ∧ b.sys.mode =
      SysMode.ready ∧ d ≠ 0 ∧ d ≠ 1 ∧ (b.dom d).powered = true ∧ (b.dom d).restartAt = none) ∧
    (∃ (dt : Nat) (u : Nat) (d : Nat) (s : State) (b : Blk), b = s.blk.elapse dt ∧ b.coppice = false ∧ u < 3 ∧
      b.ust.keySpared = [] ∧ b.ust.queue = [] ∧ b.ust.keySpared.contains 0 = false ∧ b.restartingDom = some d ∧ d ∈
      domCodes ∧ b.doms.length = 26 ∧ (b.dom d).powered = true ∧ b.chn.stalls = [] ∧ d ≠ 3 ∧ d ≠ 6 ∧ b.ust.restarting
      = none) ∧
    (∃ (dt : Nat) (d : Nat) (r : Recovery) (s : State) (b : Blk), b = s.blk.elapse dt ∧ b.ust.keySpared.contains 0 =
      false ∧ b.recovery = some r ∧ b.ust.queue = [r] ∧ r.kind = SpareKind.key ∧ b.doms.length = 26 ∧ d = b.unitDom
      r.kind r.u ∧ d ∈ domCodes ∧ b.pwr.mode = PwrMode.run ∧ b.sys.mode = SysMode.ready ∧ d ≠ 0 ∧ d ≠ 1 ∧ (b.dom
      d).powered = true ∧ (b.dom d).restartAt = none) ∧
    (∃ (dt : Nat) (u : Nat) (d : Nat) (h : Recovery) (l : List Recovery) (s : State) (b : Blk), b = s.blk.elapse dt ∧
      b.coppice = false ∧ u < 3 ∧ b.ust.keySpared = [] ∧ b.ust.queue = h :: l ∧ (((h :: l).any fun (x : Recovery) =>
      x.kind == SpareKind.key && x.u == u) = false) ∧ b.ust.keySpared.contains 0 = false ∧ b.pwr.mode = PwrMode.run ∧
      b.sys.mode = SysMode.ready ∧ d ∈ domCodes ∧ b.doms.length = 26 ∧ d ≠ 0 ∧ d ≠ 1 ∧ (b.dom d).powered = true ∧
      (b.dom d).restartAt = none) ∧
    (∃ (dt : Nat) (u : Nat) (k : Nat) (d : Nat) (r : Recovery) (q : List Nat) (s : State) (b : Blk), b = s.blk.elapse
      dt ∧ b.ust.keySpared.contains 0 = false ∧ b.recovery = some r ∧ b.ust.queue = [r] ∧ r.kind = SpareKind.engine ∧
      r.u = u ∧ u < 18 ∧ k < 18 ∧ u ≠ k ∧ b.spareEngines = k :: q ∧ b.domReady (16 + k) = true ∧ b.pwr.mode =
      PwrMode.run ∧ b.sys.mode = SysMode.ready ∧ d ∈ domCodes ∧ b.doms.length = 26 ∧ d ≠ 0 ∧ d ≠ 1 ∧ (b.dom d).powered
      = true ∧ (b.dom d).restartAt = none) :=
  ⟨⟨0, 3, 3, (rc .adc 3), (W (us [rc .adc 3])), _, rfl, by decide +kernel⟩,
   ⟨0, 1, 2, (W (N.updDom 2 (fun x => { x with restartAt := some 7, ready := false, clamped := true }))), _, rfl,
    by decide +kernel⟩,
   ⟨0, 7, (rc .key 1), (W (us [rc .key 1])), _, rfl, by decide +kernel⟩,
   ⟨0, 2, 0x10, (rc .engine 5), (([rc .lane 3]:List Recovery)), (W (us [rc .engine 5, rc .lane 3])), _, rfl,
    by decide +kernel⟩,
   ⟨0, 5, 16, 0x10, (rc .engine 5), (([17]:List Nat)), (W sp), _, rfl, by decide +kernel⟩⟩

end Starting

namespace Frames

def Tg (b : Blk) : Blk := { rg [(trigCfg 0, 0x0303)] b with }
def lv (x : Bool) (q : List (Nat × Nat)) (b : Blk) : Blk := { Tg b with
    sns := { b.sns with level := [x, false], since := [q, []] } }
def jt := { jb 1 3 9 2 1000000 0 0 4 with nextOk := 0 }
def J (js : List Job) (b : Blk) : Blk := { b with jobs := js }
def busy (b : Blk) : Blk := { b with
    sns := { b.sns with busy4 := 40000000, storeEnd := 10000000, frames := [fr cutf] } }
def e1 := fr (fun f => f)
def e2 := fr (fun f => { f with started := true })
def e3 := fr (fun f => { done_ f with storage := true, zero := some 8900000 })
def m1 := fr (fun f => { done_ f with mapDone := false, storage := true })
def m3 := { m1 with rows := [List.replicate 256 0], converting := some (3, 8999600), lateQ := [3], bandQueue := [4] }
def m4 := { m3 with bandQueue := [], lateQ := [], zero := some 8990000 }
def m5 := { m4 with bandQueue := [9, 4], clusters := [{ id := 1, tiles := [1027], last := 4 }] }

/-- States that meet the hypotheses of DeliveriesCommitOrAreForfeited. -/
theorem meets_DeliveriesCommitOrAreForfeited :
    (∃ (dt : Nat) (j : Job) (f : Frame) (s : State) (b : Blk), b = s.blk.elapse dt ∧ b.committingFrame = some f ∧
      b.jobBySeq f.jobSeq = some j ∧ j.kind = 1 ∧ b.frame f.jobSeq f.unit = some f ∧ f.zero.isSome = true ∧ f.isOver =
      false ∧ f.deadline ≤ b.now ∧ f.cut = false ∧ f.deadline ≤ b.now + 3125) :=
  ⟨0, j0, (fr done_), (W (F [fr done_])), _, rfl, by decide +kernel⟩

/-- States that meet the hypotheses of TriggersAreQualifiedAndTakeFrames. -/
theorem meets_TriggersAreQualifiedAndTakeFrames : (∃ (dt : Nat) (pin : Fin 2) (level : Bool) (since : List (Nat × Nat)) (t0 : Nat) (d : Nat) (s : State) (b : Blk) (v : Nat) (hold : Nat) (named : List Job) (j : Job) (a : Nat),
    b = s.blk.elapse dt ∧ v = b.regN (trigCfg ↑pin) ∧ hold = fld v 15 8 ∧ named = b.jobsNaming ↑pin ∧
    b.sns.level.getD (↑pin) false ≠ level ∧ b.sns.since.getD (↑pin) [] = since ∧ (bitN v 1 = false ∨ level = bitN
    v 0) ∧ b.sns.since.getD (↑pin) [] = [(t0, d)] ∧ t0 ≤ b.now ∧ bitN v 1 = true ∧ named = [] ∧ j.readout ≠ 1 ∧
    j.light ≠ 1 ∧ ¬t0 ∈ [Reg.SNS_FRAMES, Reg.SNS_TRIG_TIME_LO, Reg.SNS_TRIG_TIME_HI] ∧ ¬a ∈ [Reg.SNS_FRAMES,
    Reg.SNS_TRIG_TIME_LO, Reg.SNS_TRIG_TIME_HI]) ∧ (∃ (j : Job) (a : Nat), j.readout ≠ 1 ∧ j.light = 1 ∧ ¬a ∈
    [Reg.SNS_FRAMES, Reg.SNS_TRIG_TIME_LO, Reg.SNS_TRIG_TIME_HI]) ∧ (∃ (dt : Nat) (pin : Fin 2) (level : Bool)
    (since : List (Nat × Nat)) (t0 : Nat) (s : State) (b : Blk) (v : Nat) (j : Job) (a : Nat), b =
    s.blk.elapse dt ∧ v = b.regN (trigCfg ↑pin) ∧ b.sns.level.getD (↑pin) false ≠ level ∧ b.sns.since.getD (↑pin)
    [] = since ∧ bitN v 1 = true ∧ level ≠ bitN v 0 ∧ j.readout ≠ 1 ∧ j.light ≠ 1 ∧ ¬t0 ∈ [Reg.SNS_FRAMES,
    Reg.SNS_TRIG_TIME_LO, Reg.SNS_TRIG_TIME_HI] ∧ ¬a ∈ [Reg.SNS_FRAMES, Reg.SNS_TRIG_TIME_LO, Reg.SNS_TRIG_TIME_HI])
    ∧ (∃ (dt : Nat) (pin : Fin 2) (level : Bool) (since : List (Nat × Nat)) (t0 : Nat) (d : Nat) (s : State) (b :
    Blk) (v : Nat) (hold : Nat) (named : List Job) (j3 : Job) (a : Nat), b = s.blk.elapse dt ∧ v = b.regN (trigCfg
    ↑pin) ∧ hold = fld v 15 8 ∧ named = b.jobsNaming ↑pin ∧ b.sns.level.getD (↑pin) false ≠ level ∧ b.sns.since.getD
    (↑pin) [] = since ∧ (bitN v 1 = false ∨ level = bitN v 0) ∧ b.sns.since.getD (↑pin) [] = [(t0, d)] ∧ t0 ≤
    b.now ∧ bitN v 1 = true ∧ named ≠ [] ∧ b.domReady 2 = false ∧ j3.readout ≠ 1 ∧ j3.light ≠ 1 ∧ ¬t0 ∈
    [Reg.SNS_FRAMES, Reg.SNS_TRIG_TIME_LO, Reg.SNS_TRIG_TIME_HI] ∧ ¬a ∈ [Reg.SNS_FRAMES, Reg.SNS_TRIG_TIME_LO,
    Reg.SNS_TRIG_TIME_HI]) ∧ (∃ (dt : Nat) (pin : Fin 2) (level : Bool) (since : List (Nat × Nat)) (t0 : Nat) (d :
    Nat) (s : State) (b : Blk) (v : Nat) (hold : Nat) (named : List Job) (start : Nat) (j : Job) (l : List Job) (j3
    : Job) (a : Nat), b = s.blk.elapse dt ∧ v = b.regN (trigCfg ↑pin) ∧ hold = fld v 15 8 ∧ named = b.jobsNaming
    ↑pin ∧ start = b.now + 40 + d ∧ (named.filter Job.takes).filter b.intervalEnded = j :: l ∧ b.sns.level.getD
    (↑pin) false ≠ level ∧ b.sns.since.getD (↑pin) [] = since ∧ (bitN v 1 = false ∨ level = bitN v 0) ∧
    b.sns.since.getD (↑pin) [] = [(t0, d)] ∧ t0 ≤ b.now ∧ bitN v 1 = true ∧ b.domReady 2 = true ∧ b.sensorBusy
    j start = false ∧ j3.readout ≠ 1 ∧ j3.light ≠ 1 ∧ ¬t0 ∈ [Reg.SNS_FRAMES, Reg.SNS_TRIG_TIME_LO,
    Reg.SNS_TRIG_TIME_HI] ∧ ¬a ∈ [Reg.SNS_FRAMES, Reg.SNS_TRIG_TIME_LO, Reg.SNS_TRIG_TIME_HI]) ∧ (∃ (dt : Nat) (pin
    : Fin 2) (level : Bool) (since : List (Nat × Nat)) (t0 : Nat) (d : Nat) (s : State) (b : Blk) (v : Nat) (hold
    : Nat) (named : List Job) (start : Nat) (j : Job) (l : List Job) (j3 : Job) (a : Nat), b = s.blk.elapse dt ∧ v =
    b.regN (trigCfg ↑pin) ∧ hold = fld v 15 8 ∧ named = b.jobsNaming ↑pin ∧ start = b.now + 40 + d ∧ (named.filter
    Job.takes).filter b.intervalEnded = j :: l ∧ b.sns.level.getD (↑pin) false ≠ level ∧ b.sns.since.getD (↑pin)
    [] = since ∧ (bitN v 1 = false ∨ level = bitN v 0) ∧ b.sns.since.getD (↑pin) [] = [(t0, d)] ∧ t0 ≤ b.now
    ∧ bitN v 1 = true ∧ b.domReady 2 = true ∧ b.sensorBusy j start = true ∧ j3.readout ≠ 1 ∧ j3.light ≠ 1 ∧ ¬t0 ∈
    [Reg.SNS_FRAMES, Reg.SNS_TRIG_TIME_LO, Reg.SNS_TRIG_TIME_HI] ∧ ¬a ∈ [Reg.SNS_FRAMES, Reg.SNS_TRIG_TIME_LO,
    Reg.SNS_TRIG_TIME_HI]) ∧ (∃ (dt : Nat) (pin : Fin 2) (level : Bool) (since : List (Nat × Nat)) (t0 : Nat) (d :
    Nat) (s : State) (b : Blk) (v : Nat) (hold : Nat) (named : List Job) (start : Nat) (j : Job) (j2 : Job) (l2 :
    List Job) (a : Nat), b = s.blk.elapse dt ∧ v = b.regN (trigCfg ↑pin) ∧ hold = fld v 15 8 ∧ named = b.jobsNaming
    ↑pin ∧ start = b.now + 40 + d ∧ named.filter Job.takes ++ named = j2 :: l2 ∧ b.sns.level.getD (↑pin) false ≠
    level ∧ b.sns.since.getD (↑pin) [] = since ∧ (bitN v 1 = false ∨ level = bitN v 0) ∧ b.sns.since.getD (↑pin)
    [] = [(t0, d)] ∧ t0 ≤ b.now ∧ bitN v 1 = true ∧ (named.filter Job.takes).filter b.intervalEnded = [] ∧
    b.domReady 2 = true ∧ j.readout ≠ 1 ∧ j.light ≠ 1 ∧ ¬t0 ∈ [Reg.SNS_FRAMES, Reg.SNS_TRIG_TIME_LO,
    Reg.SNS_TRIG_TIME_HI] ∧ ¬a ∈ [Reg.SNS_FRAMES, Reg.SNS_TRIG_TIME_LO, Reg.SNS_TRIG_TIME_HI]) ∧ (∃ (dt : Nat) (pin
    : Fin 2) (level : Bool) (since : List (Nat × Nat)) (t0 : Nat) (d : Nat) (s : State) (b : Blk) (v : Nat) (hold
    : Nat) (named : List Job) (start : Nat) (j : Job) (j2 : Job) (l2 : List Job) (a : Nat), b = s.blk.elapse dt ∧ v
    = b.regN (trigCfg ↑pin) ∧ hold = fld v 15 8 ∧ named = b.jobsNaming ↑pin ∧ start = b.now + 40 + d ∧ named.filter
    Job.takes ++ named = j2 :: l2 ∧ b.sns.level.getD (↑pin) false ≠ level ∧ b.sns.since.getD (↑pin) [] = since ∧
    (bitN v 1 = false ∨ level = bitN v 0) ∧ b.sns.since.getD (↑pin) [] = [(t0, d)] ∧ t0 ≤ b.now ∧ bitN v 1 =
    true ∧ (named.filter Job.takes).filter b.intervalEnded = [] ∧ b.domReady 2 = true ∧ j.readout ≠ 1 ∧ j.light ≠ 1
    ∧ ¬t0 ∈ [Reg.SNS_FRAMES, Reg.SNS_TRIG_TIME_LO, Reg.SNS_TRIG_TIME_HI] ∧ ¬a ∈ [Reg.SNS_FRAMES,
    Reg.SNS_TRIG_TIME_LO, Reg.SNS_TRIG_TIME_HI]) :=
  ⟨⟨0, ((0:Fin 2)), true, [(8999990, 7)], 8999990, 7, (W (lv false [(8999990, 7)] N)), _, _, _, _, jt, 9000050, rfl, rfl, rfl, rfl, by decide +kernel⟩, ⟨(jb 1 3 9 2 1000000 0 1 4), Reg.PWR_CTL, by decide +kernel⟩,
   ⟨0, ((0:Fin 2)), false, [], 8999990, (W (lv true [] N)), _, _, jt, 9000050, rfl, rfl, by decide +kernel⟩,
   ⟨0, ((0:Fin 2)), true, [(8999990, 7)], 8999990, 7, (W ((lv false [(8999990, 7)] (J [jt] N)).updDom 2 (fun x => { x with ready := false }))), _, _, _, _, jt, 9000050, rfl, rfl, rfl, rfl, by decide +kernel⟩,
   ⟨0, ((0:Fin 2)), true, [(8999990, 7)], 8999990, 7, (W (lv false [(8999990, 7)] (J [jt] N))), _, _, _, _, _, jt, [], jt, 9000050, rfl, rfl, rfl, rfl, rfl, by decide +kernel⟩,
   ⟨0, ((0:Fin 2)), true, [(8999990, 7)], 8999990, 7, (W (lv false [(8999990, 7)] (busy (J [jt] N)))), _, _, _, _, _, jt, [], jt, 9000050, rfl, rfl, rfl, rfl, rfl, by decide +kernel⟩,
   ⟨0, ((0:Fin 2)), true, [(8999990, 7)], 8999990, 7, (W (lv false [(8999990, 7)] (J [{ jt with nextOk := 9000001 }] N))), _, _, _, _, _, jt, { jt with nextOk := 9000001 }, [{ jt with nextOk := 9000001 }], 9000050, rfl, rfl, rfl, rfl, rfl, by decide +kernel⟩,
   ⟨0, ((0:Fin 2)), true, [(8999990, 7)], 8999990, 7, (W (lv false [(8999990, 7)] (J [{ jt with taken := 9 }] N))), _, _, _, _, _, jt, { jt with taken := 9 }, [], 9000050, rfl, rfl, rfl, rfl, rfl, by decide +kernel⟩⟩

/-- States that meet the hypotheses of ExposuresRunAndEnd. -/
theorem meets_ExposuresRunAndEnd :
    (∃ (dt : Nat) (f : Frame) (s : State) (b : Blk), b = s.blk.elapse dt ∧ ((b.firstFrame fun (g : Frame) =>
      g.exposing && decide (ceilDiv g.expEnd4 4 ≤ b.now)) = some f) ∧ f.fault ≠ 12385 ∧ b.coppice = false ∧ f.job.full
      = false ∧ ((b.firstFrame fun (g : Frame) => g.exposing && decide (ceilDiv (g.expEnd4 + 2500) 4 ≤ b.now)) = some
      f) ∧ (∀ (g : Frame), g ∈ b.sns.frames → g.started = true → 4 * g.expStart + 1250 ≤ 4 * b.now)) ∧
    (∃ (dt : Nat) (f : Frame) (s : State) (b : Blk), b = s.blk.elapse dt ∧ ((b.firstFrame fun (g : Frame) =>
      !g.started && decide (g.expStart ≤ b.now)) = some f) ∧ (∀ (g : Frame), g ∈ b.sns.frames → g.started = true → 4 *
      g.expStart + 1250 ≤ 4 * b.now)) ∧
    (∃ (dt : Nat) (f : Frame) (s : State) (b : Blk), b = s.blk.elapse dt ∧ (∀ (g : Frame), g ∈ b.sns.frames →
      g.started = true → 4 * g.expStart + 1250 ≤ 4 * b.now) ∧ ((b.firstFrame fun (g : Frame) => Option.any (fun (e :
      Nat) => g.storage && decide (e + storageTicks g.job.readout ≤ b.now)) g.zero) = some f)) :=
  ⟨⟨0, e2, (W { F [e2] with now := 9000625 }), _, rfl, by decide +kernel⟩,
   ⟨0, e1, (W (F [e1])), _, rfl, by decide +kernel⟩,
   ⟨0, e3, (W { F [e3] with }), _, rfl, by decide +kernel⟩⟩

/-- States that meet the hypotheses of TilesAndBandsAreRead. -/
theorem meets_TilesAndBandsAreRead :
    (∃ (dt : Nat) (f : Frame) (n : Nat) (t : Nat) (e : Nat) (s : State) (b : Blk) (r : Nat), b = s.blk.elapse dt ∧ r =
      f.rows.length ∧ ((b.firstFrame fun (g : Frame) => g.zero.isSome && !g.mapDone && g.storage && (!g.isOver || decide
      (g.fault = 12385))) = some f) ∧ r < 192 ∧ ((b.firstFrame fun (g : Frame) => g.storage && Option.any (fun (z :
      Nat) => Option.any (fun (k : Nat × Nat) => decide (k.snd + 20 * (16 - lostRows z k.snd) ≤ b.now)) g.converting)
      g.zero) = some f) ∧ b.frame f.jobSeq f.unit = some f ∧ f.zero = some e ∧ f.converting = some (n, t) ∧
      ((b.firstFrame fun (g : Frame) => Option.any (fun (z : Nat) => !g.mapDone && !g.isOver && g.storage && decide (z +
      1000 + 240 * g.rows.length ≤ b.now)) g.zero) = some f)) ∧
    (∃ (f : Frame) (n : Nat) (t : Nat) (e : Nat) (b : Blk) (u : List Nat) (k : Nat) (l : List Nat), ((b.firstFrame fun (g :
      Frame) => g.storage && Option.any (fun (z : Nat) => Option.any (fun (k : Nat × Nat) => decide (k.snd + 20 * (16 -
      lostRows z k.snd) ≤ b.now)) g.converting) g.zero) = some f) ∧ b.frame f.jobSeq f.unit = some f ∧ f.zero = some e ∧
      f.converting = some (n, t) ∧ f.bandQueue = u ++ k :: l ∧ u ≠ [] ∧ (∀ q ∈ u, f.needsBand q = false) ∧ f.needsBand k =
      true) :=
  ⟨⟨0, m4, 3, 8999600, 8990000, (W (F [m4])), _, _, rfl, rfl, by decide +kernel⟩,
   ⟨m5, 3, 8999600, 8990000, F [m5], [9], 4, [], by decide +kernel⟩⟩

end Frames

namespace Tasks

def tiA : TileIn := {
    edge := 200, orient := 3, coh := 15, l := 250, q := 240, d := 10, mean := 2000, contrast := 250 }
def cfg1 : FrameCfg := { BB.frameCfg with specCtl := 7, cluster := BB.frameCfg.cluster / 16 * 16 + 1, hypo := 1 }
def jd := { j0 with desc := j0.desc.take 40 ++ [255, 0, 0, 0, 4] ++ j0.desc.drop 45 }
def w1 : Nat := tileWord j0 cfg1 0 3 (tiA, false) ||| 2 ^ 22
def cl1 : Cluster := { id := 2, tiles := [3], st := .closed, last := 0, lookedAt := some 8999900 }
def fA (c : Cluster) : Frame := { fr cutf with
    cfg := cfg1, storage := false, deadline := 99000000, rows := [[0,0,0,w1]], clusters := [c], desc := jd.desc }
def FA (c : Cluster) (b : Blk := N) : Blk := { F [fA c] b with jobs := [jd] }
def tk (sec adm : Bool) (e : Nat) : Task := {
    jobSeq := 4, unit := 7, cand := 2, secondary := sec, family := 1, admitted := adm, eng := e, startedAt := 8999950
      }
def fnd : Finding := { seen := .nothing }
def rdg : Reading := {
    kind := .dataMatrix, rows := 10, cols := 10, stage := 5, finders := 1, errors := 0, data := [65,66],
    symId := 0x3164, x := 1, y := 2, angle := 3, pitch := 4 }
def oc1 : Outcome := {
    f := rdg, family := 1, status := 0, eng := 5, startedAt := 8999910, endedAt := 8999999, inSlot := true }
def ba (ts : List Task) (c : Cluster := cl1) (q : List Task := []) : Blk := { FA c with
    dec := { N.dec with running := ts, queue := q } }
def all18 (q : List Task) : Blk := ba ((List.range 16).map (fun e => { tk false (e != 5) e with cand := 3 + e })) cl1
  q
def clr : Cluster := { cl1 with index := some 0, prim := some { oc1 with inSlot := false }, resolved := true }
def sh := { ba [] clr with now := 900000000000, cal := { N.cal with origin := 0 } }

theorem ranked_FA : (fA cl1).ranked jd cl1 = [(1, 154), (2, 144), (4, 64)] := by
  have h : (fA cl1).families jd cl1 = [(1, 154), (2, 144), (4, 64)] := by decide +kernel
  unfold Frame.ranked
  rw [h]
  simp [List.mergeSort, List.MergeSort.Internal.splitInTwo]
theorem waits_FA : (at0 (FA cl1)).waitingCands = [(fA cl1, cl1)] := by
  have h : (at0 (FA cl1)).sns.frames.flatMap (fun f => (f.clusters.filter (fun c => c.lookedAt.isSome)).map (fun c =>
    (f, c))) =
    [(fA cl1, cl1)] := by decide +kernel
  unfold Blk.waitingCands
  rw [h]
  simp
theorem waits_ba : (at0 (ba [tk false false 0])).waitingCands = [(fA cl1, cl1)] := by
  have h : (at0 (ba [tk false false 0])).sns.frames.flatMap (fun f =>
    (f.clusters.filter (fun c => c.lookedAt.isSome)).map (fun c => (f, c))) = [(fA cl1, cl1)] := by decide +kernel
  unfold Blk.waitingCands
  rw [h]
  simp
theorem starts_FA : (at0 (FA cl1)).primaryStart jd (fA cl1) cl1 = some (0, 1) := by
  unfold Blk.primaryStart Frame.primary
  rw [ranked_FA]
  decide +kernel
theorem no_primary_ba : (at0 (ba [tk false false 0])).primaryStart jd (fA cl1) cl1 = none := by
  unfold Blk.primaryStart Frame.primary
  rw [ranked_FA]
  decide +kernel
theorem starts_ba : (at0 (ba [tk false false 0])).secondaryStart jd (fA cl1) cl1 = some (1, 2) := by
  unfold Blk.secondaryStart Frame.secondary
  rw [ranked_FA]
  decide +kernel

/-- States that meet the hypotheses of TasksFindTheirEngines. -/
theorem meets_TasksFindTheirEngines :
    (∃ (l : List Nat), (List.Pairwise (fun (x y : Nat) => x < y) l)) ∧
    (∃ (dt : Nat) (eng : Nat) (e : Nat) (t : Machine.Task) (rest : List Machine.Task) (s : State) (b : Blk), b =
      s.blk.elapse dt ∧ b.dec.queue = t :: rest ∧ b.fastest (List.filter b.freeAdmitted (List.range 18)) = some e ∧
      eng < 18 ∧ bitN (b.regN Reg.DECC_ACTIVE) eng = true) ∧
    (∃ (dt : Nat) (eng : Nat) (l : List (Frame × Cluster)) (f : Frame) (c : Cluster) (j : Job) (e : Nat) (fam : Nat)
      (s : State) (b : Blk), b = s.blk.elapse dt ∧ b.waitingCands = (f, c) :: l ∧ b.jobBySeq f.jobSeq = some j ∧
      b.primaryStart j f c = some (e, fam) ∧ eng < 18 ∧ bitN (b.regN Reg.DECC_ACTIVE) eng = true) ∧
    (∃ (dt : Nat) (eng : Nat) (t : Machine.Task) (u : Machine.Task) (rest : List Machine.Task) (s : State) (b : Blk),
      b = s.blk.elapse dt ∧ b.dec.queue = t :: rest ∧ b.fastest (List.filter b.freeAdmitted (List.range 18)) = none ∧
      b.lastSpec = some u ∧ u.shadow = false ∧ u.secondary = false ∧ eng < 18 ∧ bitN (b.regN Reg.DECC_ACTIVE) eng =
      true) ∧
    (∃ (dt : Nat) (t : Machine.Task) (u : Machine.Task) (rest : List Machine.Task) (s : State) (b : Blk),
      b = s.blk.elapse dt ∧ b.dec.queue = t :: rest ∧ b.fastest (List.filter b.freeAdmitted (List.range 18)) = none ∧
      b.lastSpec = some u ∧ u.shadow = true) ∧
    (∃ (dt : Nat) (eng : Nat) (l : List (Frame × Cluster)) (f : Frame) (c : Cluster) (j : Job) (e : Nat) (fam : Nat)
      (s : State) (b : Blk), b = s.blk.elapse dt ∧ b.waitingCands = (f, c) :: l ∧ b.jobBySeq f.jobSeq = some j ∧
      b.primaryStart j f c = none ∧ f.mapDone = false ∧ (b.taskOf f c.id false).isSome = true ∧ b.secondaryStart j f c
      = some (e, fam) ∧ eng < 18 ∧ bitN (b.regN Reg.DECC_ACTIVE) eng = true) ∧
    (∃ (dt : Nat) (eng : Nat) (f : Frame) (c : Cluster) (e : Nat) (o : Outcome) (x : Blk) (s : State) (b : Blk) (k :
      Machine.Task), b = s.blk.elapse dt ∧ k = {
        jobSeq := f.jobSeq, unit := f.unit, cand := c.id, secondary := false, family := o.family, admitted := false,
        shadow := true : Machine.Task } ∧ b.coppice = false ∧ b.lastSlot CalLoop.shadow 0 + 312500000 * b.regF
      Reg.DECC_SHADOW 15 0 ≤ b.now ∧ b.ust.suspect = [] ∧ b.cal.shadowIn = none ∧ b.shadowable.head? = some (f, c, o) ∧ (List.find? (fun (k :
      Nat) => decide (b.cal.shadowNext ≤ k)) (List.filter (fun (k : Nat) => k != o.eng) b.specEngines) = some e) ∧
      b.slotMay CalLoop.shadow 0 = (true, x) ∧ eng < 18 ∧ bitN (b.regN Reg.DECC_ACTIVE) eng = true) :=
  ⟨⟨([3,5,7]), by decide +kernel⟩,
   ⟨0, 3, 0, (tk false true 0), (([]:List Task)), (W (ba [] cl1 [tk false true 0])), _, rfl, by decide +kernel⟩,
   ⟨0, 3, (([]:List (Frame × Cluster))), (fA cl1), cl1, jd, 0, 1, (W (FA cl1)), _, rfl, waits_FA, by decide +kernel,
    starts_FA, by decide +kernel⟩,
   ⟨0, 3, (tk false true 0), ({ tk false false 5 with cand := 8 }), (([]:List Task)), (W (all18 [tk false true 0])),
    _, rfl, by decide +kernel⟩,
   ⟨0, tk false true 0, { tk false false 5 with cand := 8, shadow := true }, [],
    W { all18 [] with dec := { (all18 [tk false true 0]).dec with running := (all18 []).dec.running.map (fun t =>
      { t with shadow := t.eng == 5 }) } }, _, rfl, by decide +kernel⟩,
   ⟨0, 3, (([]:List (Frame × Cluster))), (fA cl1), cl1, jd, 1, 2, (W (ba [tk false false 0])), _, rfl, waits_ba,
    by decide +kernel, no_primary_ba, by decide +kernel, by decide +kernel, starts_ba, by decide +kernel⟩,
   ⟨0, 3, (fA clr), clr, 0, ({ oc1 with inSlot := false }), ((sh.slotMay .shadow 0).2), (W sh), _, _, rfl, rfl,
    by decide +kernel⟩⟩

/-- A task of frame `f` that meets `h` does not decode. -/
def readsNothing (j : Job) (f : Frame) (c : Cluster) (x : Blk) (k : Task) (h : Finding) : Prop :=
  outcomeStatus k.family (enabledSyms j f.cfg) j.sizeClass (x.readRegion j f c k h) ≠ 0

/-- The premises that all clauses of DecodeTasksEnd share. -/
def endsOn (eng ecc : Nat) (t : Task) (j : Job) (f : Frame) (b : Blk) : Prop :=
  b.taskOn eng = some t ∧ (b.storeErrors eng ecc).jobBySeq t.jobSeq = some j ∧ (b.storeErrors eng ecc).frame t.jobSeq t.unit = some f

/-- States that meet the hypotheses of DecodeTasksEnd: a task with no twin, one whose twin ends in the same tick, a shadow
task, a Coppice search. -/
theorem meets_DecodeTasksEnd :
    (∃ (dt eng ecc : Nat) (t : Task) (j : Job) (f : Frame) (c : Cluster) (s : State) (b : Blk),
      b = s.blk.elapse dt ∧ endsOn eng ecc t j f b ∧ eng < 18 ∧ ecc = 0 ∧ t.shadow = false ∧ t.family ≠ 0 ∧
      f.cluster t.cand = some c ∧ f.bandsIn j.full b.now c = true ∧
      (b.storeErrors eng ecc).otherTask t = none) ∧
    (∃ (dt eng ecc : Nat) (g : Finding) (t u : Task) (j : Job) (f : Frame) (c : Cluster) (s : State) (b : Blk),
      b = s.blk.elapse dt ∧ endsOn eng ecc t j f b ∧ eng < 18 ∧ t.shadow = false ∧ t.family ≠ 0 ∧
      f.cluster t.cand = some c ∧ f.bandsIn j.full b.now c = true ∧
      (b.storeErrors eng ecc).otherTask t = some u ∧ u.cand = t.cand ∧ readsNothing j f c (b.storeErrors eng ecc) t g) ∧
    (∃ (dt eng ecc : Nat) (t : Task) (j : Job) (f : Frame) (s : State) (b : Blk),
      b = s.blk.elapse dt ∧ endsOn eng ecc t j f b ∧ eng < 18 ∧ t.shadow = true) ∧
    (∃ (dt eng ecc : Nat) (t : Task) (j : Job) (f : Frame) (s : State) (b : Blk),
      b = s.blk.elapse dt ∧ endsOn eng ecc t j f b ∧ eng < 18 ∧ t.shadow = false ∧ t.family = 0) := by
  refine ⟨⟨0, 0, 0, tk false false 0, jd, fA cl1, cl1, W (ba [tk false false 0]), _, rfl, ?_⟩,
    ⟨0, 0, 3, fnd, tk false false 0, { tk true false 1 with family := 2 }, jd, fA cl1, cl1,
      W (ba [tk false false 0, { tk true false 1 with family := 2 }]), _, rfl, ?_⟩,
    ⟨0, 0, 0, { tk false false 0 with shadow := true }, jd, fA cl1, W (ba [{ tk false false 0 with shadow := true }]), _, rfl, ?_⟩,
    ⟨0, 0, 0, { tk false true 0 with family := 0 }, jd, fA cl1, W (ba [{ tk false true 0 with family := 0 }]), _, rfl, ?_⟩⟩ <;>
  (unfold endsOn; try unfold readsNothing
   decide +kernel)

end Tasks

namespace Sweeping

def PB := rg [(claimReg 1, 1), (claimReg 2, 1),(claimReg 3, 1),(claimReg 4, 1),(claimReg 5, 1),(claimReg 6,
  1),(claimReg 7, 1),(claimReg 8, 1),(claimReg 9, 1),(claimReg 10, 1),(claimReg 11, 1),(claimReg 12, 1),(claimReg 13,
  1),(claimReg 14, 1),(claimReg 15, 1),(Reg.PDC_CFG 2, 0x10000)] N
def pdw (f : FirSt) : Blk := { PB with pd := { PB.pd with fir := f } }
def desc2 (chans dec_ maxM pitch len : Nat) : List Byte := le 1 2 ++ le 1 3 ++ le 2 0 ++ le 4 11 ++ le 4 0 ++ le 4 1
  ++ le 4 0 ++ le 4 0 ++ le 1 0 ++ le 1 0 ++ le 2 0 ++ le 4 0 ++ le 1 chans ++ le 1 1 ++ le 1 dec_ ++ le 1 maxM ++ le
  8 9001000 ++ le 8 9100000 ++ le 4 pitch ++ le 4 len ++ zeros 68
def js : Job := { seq := 6, desc := desc2 5 1 8 1000 16, acceptedAt := 0 }
def sw (f : Sweep → Sweep) : Sweep := f {
    jobSeq := 6, unit := 3, desc := js.desc, boundary := 8990000, deadline := 9200000, chans := [{ ch := 0 }, {
      ch := 2 }] }
def SW (ws : List Sweep) (b : Blk := PB) : Blk := { b with jobs := [js], swp := { b.swp with sweeps := ws } }
def W0 := sw (fun w => w)
def W1 := sw (fun w => { w with opened := true })
def W2 := sw (fun w => { w with
    opened := true, closed := true, chans := [{ ch := 0, words := List.replicate 16 5 }, {
      ch := 2, words := List.replicate 16 5 }] })
def jn : Job := { js with desc := desc2 5 0 8 1000 16 }
def W3 := { W2 with desc := jn.desc }
def SWn (ws : List Sweep) : Blk := { SW ws with jobs := [jn], now := 9200000 }
def pos1 (seq n : Nat) (ts : List Nat) : List Byte := le 4 seq ++ le 2 n ++ le 2 0 ++ ts.flatMap (fun t => le 4 5 ++
  le 4 6 ++ le 8 t)
def lnk : Blk := { SW [W0] with lnk := { PB.lnk with state := .up } }
def k1 : SwCh := { ch := 0, late := some 0x8000, smps := [{ j := 1, tau := 5, t := 5, y := 3, sup := false, sat := false }] }
def W4 := sw (fun w => { w with chans := [k1] })

/-- States that meet the hypotheses of PhotodiodeSettingsChange. -/
theorem meets_PhotodiodeSettingsChange :
    (∃ (dt : Nat) (tap : Nat) (ch : Nat) (adc : Nat) (len : Nat) (i : Fin 4) (bank : Bool) (t : Bool) (t2 : Bool)
      (hard : Bool) (v : Word) (s : State) (b : Blk) (a : Nat) (f : FirSt) (code : Nat), b = s.blk.elapse dt ∧ a =
      coefAddr bank tap ∧ f = b.pd.fir ∧ b.pwr.mode = PwrMode.run ∧ b.sys.mode = SysMode.ready ∧ b.writeCheck (some i)
      a = 0 ∧ b.domReady 3 = true ∧ valueOk a (BitVec.toNat v) = true ∧ (code = 24609 ∧ f.fade ≠ none ∨ code = 24610 ∧
      f.fade = none ∧ bank = f.active) ∧ b.openBundle ↑i = none ∧ f.fade = some (t, len) ∧ (∀ (k : Nat), k < 8 →
      (Option.all (fun (m : Nat) => decide (len ≤ m)) (b.pdch k).fade || !b.chRuns k) = true) ∧ f.pending = some (t2,
      hard) ∧ t2 ≠ t ∧ ch < 8 ∧ b.regN (Reg.PDC_SUPPRESS ch) = 0 ∧ adc < 9 ∧ (List.findIdx? (fun (c : PdCh) => decide
      (c.adc = adc) && !c.lost) b.pd.chans = none) ∧ adc ≠ 8) ∧
    (∃ (adc : Nat) (b : Blk), adc < 9 ∧ b.pd.chans.findIdx? (fun (c : PdCh) => decide (c.adc = adc) && !c.lost) = none ∧ adc = 8) ∧
    (∃ (dt : Nat) (tap : Nat) (ch : Nat) (adc : Nat) (i : Fin 4) (bank : Bool) (v : Word) (s : State) (b : Blk) (a :
      Nat) (f : FirSt), b = s.blk.elapse dt ∧ a = coefAddr bank tap ∧ f = b.pd.fir ∧ b.pwr.mode = PwrMode.run ∧
      b.sys.mode = SysMode.ready ∧ b.writeCheck (some i) a = 0 ∧ b.domReady 3 = true ∧ valueOk a (BitVec.toNat v) =
      true ∧ f.fade = none ∧ bank ≠ f.active ∧ ch < 8 ∧ b.regN (Reg.PDC_SUPPRESS ch) = 0 ∧ adc < 9 ∧ (List.findIdx?
      (fun (c : PdCh) => decide (c.adc = adc) && !c.lost) b.pd.chans = some ch)) ∧
    (∃ (dt : Nat) (pin : Fin 8) (level : Bool) (s : State) (b : Blk), b = s.blk.elapse dt ∧ b.pd.chans.length = 8 ∧
      b.gpc.level.length = 8 ∧ b.gpc.level.getD (↑pin) false ≠ level) ∧
    (∃ (dt : Nat) (tap : Nat) (ch : Nat) (len : Nat) (i : Fin 4) (bank : Bool) (t : Bool) (v : Word) (s : State) (b :
      Blk) (a : Nat) (f : FirSt) (code : Nat), b = s.blk.elapse dt ∧ a = coefAddr bank tap ∧ f = b.pd.fir ∧ b.pwr.mode
      = PwrMode.run ∧ b.sys.mode = SysMode.ready ∧ b.writeCheck (some i) a = 0 ∧ b.domReady 3 = true ∧ valueOk a
      (BitVec.toNat v) = true ∧ (code = 24609 ∧ f.fade ≠ none ∨ code = 24610 ∧ f.fade = none ∧ bank = f.active) ∧
      b.openBundle ↑i = none ∧ f.fade = some (t, len) ∧ (∀ (k : Nat), k < 8 → (Option.all (fun (m : Nat) => decide
      (len ≤ m)) (b.pdch k).fade || !b.chRuns k) = true) ∧ (Option.all (fun (q : Bool × Bool) => q.fst == t) f.pending
      = true) ∧ ch < 8 ∧ b.regN (Reg.PDC_SUPPRESS ch) = 0) :=
  ⟨⟨0, 3, 2, 7, 64, ((0:Fin 4)), false, true, false, true, ((5:Word)), (W {
     pdw { fade := some (true, 64), pending := some (false, true) } with pd := { PB.pd with
       fir := { fade := some (true, 64), pending := some (false, true) }, chans := PB.pd.chans.map (fun c => { c with
         fade := some 64, lost := c.adc = 7 }) } }), _, _, _, 0x6021, rfl, rfl, rfl, by decide +kernel⟩,
   ⟨8, PB, by decide +kernel⟩,
   ⟨0, 3, 2, 2, ((0:Fin 4)), true, ((5:Word)), (W (pdw {})), _, _, _, rfl, rfl, rfl, by decide +kernel⟩,
   ⟨0, ((3 : Fin 8)), true, (W { PB with
      pd := { PB.pd with
        chans := upd PB.pd.chans 2 (fun c => { c with preset := { c.preset with mode := 3, pin := 3 }}) } }), _, rfl,
    by decide +kernel⟩,
   ⟨0, 3, 2, 64, ((0:Fin 4)), false, true, ((5:Word)), (W (pdw { fade := some (true, 64) })), _, _, _, 0x6021, rfl,
    rfl, rfl, by decide +kernel⟩⟩

/-- States that meet the hypotheses of ChainSamplesAreTaken. -/
theorem meets_ChainSamplesAreTaken :
    (∃ (dt : Nat) (ch : Nat) (s : State) (b : Blk) (c : PdCh) (t : Int) (k : Nat) (k2 : Nat), b = s.blk.elapse dt ∧ c
      = b.pdch ch ∧ t = sampleTime b.pd.epoch c.preset.d c.nextJ ∧ b.chRuns ch = true ∧ b.pd.chans.length = 8 ∧ t ≤
      1024 * ↑b.now ∧ c.frozen = true ∧ k ≠ ch ∧ k2 ≠ ch ∧ dt < 256) ∧
    (∃ (x : List Int), x.length = 16) :=
  ⟨⟨0, 2, (W {
     rg [(Reg.PDC_SUPPRESS 2, 5)] PB with pd := { PB.pd with
       chans := upd PB.pd.chans 2 (fun c => { c with frozen := true, suppressing := true, nextJ := 1000 }) } }), _, _,
   _, 0, 3, rfl, rfl, rfl, by decide +kernel⟩,
   ⟨(([1,2,3,4,5,6,7,8,9,10,11,12,13,14,15,16] : List Int)), by decide +kernel⟩⟩

/-- States that meet the hypotheses of SweepsPassTheirBoundaries. -/
theorem meets_SweepsPassTheirBoundaries :
    (∃ (dt : Nat) (j : Job) (s : State) (b : Blk), b = s.blk.elapse dt ∧ b.jobBySeq j.seq = some j ∧ b.pd.chans.length
      = 8 ∧ j.kind = 2 ∧ j.stopped = JobEnd.live ∧ b.sweep j.seq = none ∧ b.sweepDue j ≤ b.now ∧
      b.jobs.filter (fun k => b.boundaryOpen k && b.sweepDue k = b.sweepDue j && k.seq < j.seq) = []) ∧
    (∃ (j : Job) (ch ch2 ch3 : Nat) (z : Blk) (x : Blk), x = z.sweepBundles j.channels ∧ z.pd.chans.length = 8 ∧
      ch ∈ j.channelList ∧ x.presetKept j ch = false ∧ ch2 ∈ j.channelList ∧ x.presetKept j ch2 = true ∧
      ch3 < 8 ∧ ch3 ∉ j.channelList) ∧
    (∃ (dt : Nat) (j : Job) (w : Sweep) (k : SwCh) (s : State) (b : Blk), b = s.blk.elapse dt ∧
      b.jobBySeq j.seq = some j ∧ b.pd.chans.length = 8 ∧ b.sweep j.seq = some w ∧ w.isOver = false ∧ w.jobSeq = j.seq ∧
      ((List.map (fun (x : SwCh) => x.ch) w.chans).Nodup) ∧ (∀ (k : SwCh), k ∈ w.chans → k.ch < 8) ∧ w.opened = false ∧
      j.windowStart ≤ b.now ∧ k ∈ w.chans ∧ b.windowsOn k.ch < 2 ∧ b.windowsOpen k.ch ≠ 0 ∧
      (b.pdch k.ch).preset.n ≠ j.filterSet ∧
      (b.pdch k.ch).preset.mode = 1) ∧
    (∃ (dt : Nat) (j : Job) (w : Sweep) (s : State) (b : Blk) (x : Blk), b = s.blk.elapse dt ∧ x = b.sweepBundles
      j.channels ∧ b.jobBySeq j.seq = some j ∧ b.pd.chans.length = 8 ∧ b.sweep j.seq = some w ∧ w.isOver = false ∧
      w.jobSeq = j.seq ∧ ((List.map (fun (x : SwCh) => x.ch) w.chans).Nodup) ∧ (∀ (k : SwCh), k ∈ w.chans → k.ch < 8)
      ∧ w.opened = false ∧ j.windowStart ≤ b.now) ∧
    (∃ (dt : Nat) (j : Job) (w : Sweep) (s : State) (b : Blk) (x : Blk), b = s.blk.elapse dt ∧ x = b.sweepBundles
      j.channels ∧ b.jobBySeq j.seq = some j ∧ b.pd.chans.length = 8 ∧ b.sweep j.seq = some w ∧ w.isOver = false ∧
      w.jobSeq = j.seq ∧ ((List.map (fun (x : SwCh) => x.ch) w.chans).Nodup) ∧ (∀ (k : SwCh), k ∈ w.chans → k.ch < 8)
      ∧ w.opened = true ∧ w.closed = false ∧ j.windowEnd ≤ b.now) ∧
    (∃ (dt : Nat) (j : Job) (w : Sweep) (s : State) (b : Blk) (x : Blk), b = s.blk.elapse dt ∧ x = b.sweepBundles
      j.channels ∧ b.jobBySeq j.seq = some j ∧ b.pd.chans.length = 8 ∧ b.sweep j.seq = some w ∧ w.isOver = false ∧
      w.jobSeq = j.seq ∧ ((List.map (fun (x : SwCh) => x.ch) w.chans).Nodup) ∧ (∀ (k : SwCh), k ∈ w.chans → k.ch < 8)
      ∧ j.decoder = 1 ∧ w.decodedAt = none ∧ w.closed = true ∧ w.profiled j = true) :=
  ⟨⟨0, js, (W (SW [])), _, rfl, by decide +kernel⟩,
   ⟨js, 0, 2, 5, SW [{ W1 with chans := [{ ch := 2 }] }], _, rfl, by decide +kernel⟩,
   ⟨0, js, W0, { ch := 2 }, W { SW [W0, { W0 with jobSeq := 9, opened := true }] with now := 9001000, pd := { PB.pd with
      chans := PB.pd.chans.map (fun c => { c with preset := { c.preset with mode := 1 } }) } }, _, rfl, by decide +kernel⟩,
   ⟨0, js, W0, (W { SW [W0, { W0 with
      jobSeq := 9, opened := true}, { W0 with jobSeq := 10, opened := true}] with now := 9001000 }), _, _, rfl, rfl,
    by decide +kernel⟩,
   ⟨0, js, W1, (W { SW [W1] with now := 9100000 }), _, _, rfl, rfl, by decide +kernel⟩,
   ⟨0, js, W2, (W { SW [W2] with now := 9100001 }), _, _, rfl, rfl, by decide +kernel⟩⟩

/-- States that meet the hypotheses of DeliveriesCommitOrAreForfeited. -/
theorem meets_DeliveriesCommitOrAreForfeited_2 :
    (∃ (dt : Nat) (path : Nat) (j : Job) (w : Sweep) (s : State) (b : Blk), b = s.blk.elapse dt ∧ path ≠ 0 ∧
      b.committingSweep = some w ∧ b.jobBySeq w.jobSeq = some j ∧ j.kind = 2 ∧ b.sweep w.jobSeq = some w ∧ w.closed =
      true ∧ w.isOver = false ∧ w.deadline ≤ b.now) :=
  ⟨0, 1, jn, W3, (W (SWn [W3])), _, rfl, by decide +kernel⟩

/-- States that meet the hypotheses of PositionsAreAcceptedInOrder. -/
theorem meets_PositionsAreAcceptedInOrder :
    (∃ (dt : Nat) (n : Nat) (payload : List Byte) (s : State) (b : Blk) (c : Blk) (t : Int), b = s.blk.elapse dt ∧
      b.linkUp = true ∧ n = getLe payload 4 2 ∧ 1 ≤ n ∧ n ≤ 64 ∧ payload.length = 8 + 16 * n ∧ (Option.all (fun (q :
      Nat) => getLe payload 0 4 == (q + 1) % 2 ^ 32) b.swp.pos.lastSeq = true) ∧ (Option.all (fun (u : Int) => decide
      (u < t)) c.swp.pos.lastTime = true) ∧ c.sweepsAt t ≠ [] ∧ c.samplesNeeded.length < 4096) ∧
    (∃ (dt : Nat) (ch : Nat) (seq : Nat) (n : Nat) (payload : List Byte) (w : Sweep) (k : SwCh) (m : Smp) (s : State)
      (b : Blk) (c : Blk) (t : Int) (x : Blk), b = s.blk.elapse dt ∧ (x = b.updSweep seq fun (v : Sweep) => v.updCh ch
      fun (c : SwCh) => {
        ch := c.ch, smps := c.smps, words := c.words ++ [32768 + 2 ^ 18 + b2n c.conflict * 2 ^ 20], shut := c.shut,
        conflict := c.conflict, late := none, clipSeen := c.clipSeen, satSeen := c.satSeen : SwCh }) ∧ b.linkUp =
      true ∧ n = getLe payload 4 2 ∧ (n = 0 ∨ 64 < n ∨ payload.length ≠ 8 + 16 * n) ∧ (Option.any (fun (u : Int) =>
      decide (t ≤ u)) c.swp.pos.lastTime = true) ∧ b.sweep seq = some w ∧ (List.find? (fun (c : SwCh) => decide (c.ch
      = ch)) w.chans = some k) ∧ (List.find? (fun (x : Smp) => decide (x.j = m.j)) k.smps = some m) ∧ m.pos =
      PosDec.undecided ∧ lateLimit w.posLate m.tau ≤ ↑b.now ∧ k.late = some 32768) ∧
    (∃ (dt : Nat) (n : Nat) (payload : List Byte) (s : State) (b : Blk) (c : Blk) (t : Int), b = s.blk.elapse dt ∧
      b.linkUp = true ∧ n = getLe payload 4 2 ∧ (n = 0 ∨ 64 < n ∨ payload.length ≠ 8 + 16 * n) ∧ (Option.all (fun (u :
      Int) => decide (u < t)) c.swp.pos.lastTime = true) ∧ c.sweepsAt t = []) ∧
    (∃ (n : Nat) (payload : List Byte) (s : State) (b : Blk), b = s.blk.elapse 0 ∧ b.linkUp = true ∧
      n = getLe payload 4 2 ∧ 1 ≤ n ∧ n ≤ 64 ∧ payload.length = 8 + 16 * n ∧
      b.swp.pos.lastSeq.all (fun q => getLe payload 0 4 == (q + 1) % 2 ^ 32) = false) ∧
    (∃ (c : Blk) (t : Int), c.swp.pos.lastTime.all (fun u => decide (u < t)) = true ∧ c.sweepsAt t ≠ [] ∧
      4096 ≤ c.samplesNeeded.length) :=
  ⟨⟨0, 2, (pos1 1 2 [9000500, 9000600]), (W lnk), _, lnk, ((9000500:Int)), rfl, by decide +kernel⟩,
   ⟨0, 0, 6, 3, (pos1 1 3 [9000500, 9000600]), W4, k1, (({
      j := 1, tau := 5, t := 5, y := 3, sup := false, sat := false } : Smp)), (W { SW [W4] with
      lnk := { PB.lnk with state := .up }}), _, ({ lnk with
        swp := { lnk.swp with pos := { lnk.swp.pos with lastTime := some 9000500 } } }), ((9000500:Int)), _, rfl, rfl,
      by decide +kernel⟩,
   ⟨0, 3, (pos1 1 3 [9000500, 9000600]), (W lnk), _, ({ PB with
      swp := { PB.swp with pos := { PB.swp.pos with lastTime := some 900 } } }), ((9000500:Int)), rfl,
    by decide +kernel⟩,
   ⟨2, pos1 7 2 [9000500, 9000600], W { lnk with swp := { lnk.swp with pos := { lnk.swp.pos with lastSeq := some 3 } } }, _, rfl,
    by decide +kernel⟩,
   ⟨{ lnk with swp := { lnk.swp with pos := { lnk.swp.pos with
      samples := List.replicate 4096 { time := 9000400, x := 0, y := 0, arrival := 0 } } } }, 9000500, by decide +kernel⟩⟩

end Sweeping

namespace Tallying

def ca : TlyCand := {
    seq := 5, sweep := false, jobSeq := 4, tag := 9, unit := 7, start := 8999500, index := 0, symbology := 1 }
def TL (f : TlySt → TlySt) (b : Blk := N) : Blk := { b with tly := f b.tly }
def sl1 : TlySeal := { first := 3, last := 4, bytes := zeros 160 }
def tq (f : TlySt → TlySt) : Blk := TL (fun t => f { t with taken := [.cand ca], chain := some (zeros 32) })
def sa (c : Nat) (f : TlySt → TlySt) : Blk := rg [(Reg.TLY_SEAL_ARG, c)] (TL f)
def f64 (i : Int) : List Byte := le 8 (F64.ofInt i).bits
def pblk : List Byte := le 2 1 ++ zeros 6 ++ f64 2048 ++ f64 1536 ++ f64 1 ++ zeros 40 ++ f64 3200 ++ zeros 24 ++ f64
  3200 ++ zeros 24 ++ zeros 8 ++ le 4 1000 ++ le 4 1000 ++ zeros 8 ++ zeros 8712

/-- States that meet the hypotheses of RecordsAreChainedAndSealed: the block's last, first and a middle record. -/
theorem meets_RecordsAreChainedAndSealed :
    (∃ (dt : Nat) (c : TlyCand) (t : List TlyItem) (k : TlySeal) (l : List TlySeal) (s : State) (b : Blk), b = s.blk.elapse dt ∧
      b.tly.supplied = true ∧ b.tly.taken = .cand c :: t ∧
      t.head?.all (fun y => match y with | .cand _ => true | .epoch _ _ => false) = true ∧ b.tly.block.count ≤ 255 ∧
      b.tly.block.count = 255 ∧ b.tly.block.count ≠ 0 ∧ b.tly.block.since + 3125000 ≤ b.now ∧ b.tly.toSign = k :: l ∧
      (b.tly.store.filter (fun i => i.isSeal)).length < 32) ∧
    (∃ (c : TlyCand) (b : Blk), b.tly.supplied = true ∧ b.tly.taken = [.cand c] ∧ b.tly.block.count = 0) ∧
    (∃ (c : TlyCand) (b : Blk), b.tly.supplied = true ∧ b.tly.taken = [.cand c] ∧ 0 < b.tly.block.count ∧
      b.tly.block.count < 255) :=
  ⟨⟨0, ca, [], sl1, [], W (tq (fun t => { t with
     block := { count := 255, first := 3, since := 5, hPrev := zeros 32 }, toSign := [sl1] })), _, rfl, by decide +kernel⟩,
   ⟨ca, tq (fun t => { t with block := {} }), by decide +kernel⟩,
   ⟨ca, tq (fun t => { t with block := { count := 254 } }), by decide +kernel⟩⟩

/-- States that meet the hypotheses of TheSealStateChangesAsCommanded. -/
theorem meets_TheSealStateChangesAsCommanded :
    (∃ (dt : Nat) (i : Fin 4) (isOpen : Bool) (s : State) (b : Blk), b = s.blk.elapse dt ∧ b.pwr.mode = PwrMode.run ∧
      b.sys.mode = SysMode.ready ∧ b.writeCheck (some i) Reg.TLY_SEAL_CMD = 0 ∧ b.domReady 1 = true ∧ (b.tly.sealSt ≠
      SealState.closed ∨ b.tly.unsealing = true ∨ ¬b.regF Reg.TLY_SEAL_ARG 23 0 = b.tly.counter) ∧ (b.tly.sealSt ≠
      SealState.unsealed ∨ ¬b.regF Reg.TLY_SEAL_ARG 23 0 = b.tly.counter) ∧ b.tly.unsealing = true ∧ b.writeCheck
      (some i) Reg.TLYC_PARAM_DATA = 0 ∧ b.tly.sealSt ≠ SealState.unsealed ∧ b.readCheck (some i) Reg.TLYC_PARAM_DATA
      = 0 ∧ lookupReg b.hiCapture Reg.TLYC_PARAM_DATA = none ∧ b.tly.supplied = true ∧ isOpen ≠ b.tly.tampOpen ∧
      b.time.ringRuns = true) ∧
    (∃ (dt : Nat) (i : Fin 4) (s : State) (b : Blk), b = s.blk.elapse dt ∧ b.pwr.mode = PwrMode.run ∧ b.sys.mode =
      SysMode.ready ∧ b.writeCheck (some i) Reg.TLY_SEAL_CMD = 0 ∧ b.domReady 1 = true ∧ (b.tly.sealSt ≠
      SealState.closed ∨ b.tly.unsealing = true ∨ ¬b.regF Reg.TLY_SEAL_ARG 23 0 = b.tly.counter) ∧ b.tly.sealSt =
      SealState.unsealed ∧ b.regF Reg.TLY_SEAL_ARG 23 0 = b.tly.counter ∧ b.tly.tampOpen = true ∧ b.writeCheck (some
      i) Reg.TLYC_PARAM_DATA = 0 ∧ b.readCheck (some i) Reg.TLYC_PARAM_DATA = 0 ∧ lookupReg b.hiCapture
      Reg.TLYC_PARAM_DATA = none) ∧
    (∃ (dt : Nat) (i : Fin 4) (isOpen : Bool) (s : State) (b : Blk), b = s.blk.elapse dt ∧ b.pwr.mode = PwrMode.run ∧
      b.sys.mode = SysMode.ready ∧ b.writeCheck (some i) Reg.TLY_SEAL_CMD = 0 ∧ b.domReady 1 = true ∧ (b.tly.sealSt ≠
      SealState.closed ∨ b.tly.unsealing = true ∨ ¬b.regF Reg.TLY_SEAL_ARG 23 0 = b.tly.counter) ∧ (b.tly.sealSt ≠
      SealState.unsealed ∨ ¬b.regF Reg.TLY_SEAL_ARG 23 0 = b.tly.counter) ∧ b.tly.sealSt = SealState.resealing ∧
      b.candWaits = false ∧ b.writeCheck (some i) Reg.TLYC_PARAM_DATA = 0 ∧ b.tly.sealSt ≠ SealState.unsealed ∧ b.readCheck (some i)
      Reg.TLYC_PARAM_DATA = 0 ∧ lookupReg b.hiCapture Reg.TLYC_PARAM_DATA = none ∧ b.tly.supplied = true ∧ isOpen ≠
      b.tly.tampOpen ∧ b.time.ringRuns = false) ∧
    (∃ (dt : Nat) (i : Fin 4) (isOpen : Bool) (s : State) (b : Blk), b = s.blk.elapse dt ∧ b.pwr.mode = PwrMode.run ∧
      b.sys.mode = SysMode.ready ∧ b.writeCheck (some i) Reg.TLY_SEAL_CMD = 0 ∧ b.domReady 1 = true ∧ (b.tly.sealSt ≠
      SealState.closed ∨ b.tly.unsealing = true ∨ ¬b.regF Reg.TLY_SEAL_ARG 23 0 = b.tly.counter) ∧ b.tly.sealSt =
      SealState.unsealed ∧ b.regF Reg.TLY_SEAL_ARG 23 0 = b.tly.counter ∧ b.tly.tampOpen = false ∧ paramOk
      b.stagedBlock = false ∧ b.writeCheck (some i) Reg.TLYC_PARAM_DATA = 0 ∧ b.readCheck (some i) Reg.TLYC_PARAM_DATA
      = 0 ∧ lookupReg b.hiCapture Reg.TLYC_PARAM_DATA = none ∧ b.tly.supplied = true ∧ isOpen ≠ b.tly.tampOpen ∧
      b.time.ringRuns = true ∧
      b.tly.unsealing = false ∧ b.tly.sealSt ≠ .resealing ∧ b.tly.tampOwed = []) ∧
    (∃ (dt : Nat) (i : Fin 4) (isOpen : Bool) (s : State) (b : Blk), b = s.blk.elapse dt ∧ b.pwr.mode = PwrMode.run ∧
      b.sys.mode = SysMode.ready ∧ b.writeCheck (some i) Reg.TLY_SEAL_CMD = 0 ∧ b.domReady 1 = true ∧ (b.tly.sealSt ≠
      SealState.closed ∨ b.tly.unsealing = true ∨ ¬b.regF Reg.TLY_SEAL_ARG 23 0 = b.tly.counter) ∧ b.tly.sealSt =
      SealState.unsealed ∧ b.regF Reg.TLY_SEAL_ARG 23 0 = b.tly.counter ∧ b.tly.tampOpen = false ∧ paramOk
      b.stagedBlock = true ∧ b.writeCheck (some i) Reg.TLYC_PARAM_DATA = 0 ∧ b.readCheck (some i) Reg.TLYC_PARAM_DATA
      = 0 ∧ lookupReg b.hiCapture Reg.TLYC_PARAM_DATA = none ∧ b.tly.supplied = true ∧ isOpen ≠ b.tly.tampOpen ∧
      b.time.ringRuns = true ∧
      b.tly.unsealing = false ∧ b.tly.sealSt ≠ .resealing ∧ b.tly.tampOwed = []) ∧
    (∃ (dt : Nat) (i : Fin 4) (isOpen : Bool) (s : State) (b : Blk), b = s.blk.elapse dt ∧ b.pwr.mode = PwrMode.run ∧
      b.sys.mode = SysMode.ready ∧ b.writeCheck (some i) Reg.TLY_SEAL_CMD = 0 ∧ b.domReady 1 = true ∧ b.tly.sealSt =
      SealState.closed ∧ b.tly.unsealing = false ∧ b.regF Reg.TLY_SEAL_ARG 23 0 = b.tly.counter ∧ b.tly.tampOpen =
      true ∧ (b.tly.sealSt ≠ SealState.unsealed ∨ ¬b.regF Reg.TLY_SEAL_ARG 23 0 = b.tly.counter) ∧ b.writeCheck (some
      i) Reg.TLYC_PARAM_DATA = 0 ∧ b.tly.sealSt ≠ SealState.unsealed ∧ b.readCheck (some i) Reg.TLYC_PARAM_DATA = 0 ∧
      lookupReg b.hiCapture Reg.TLYC_PARAM_DATA = none ∧ b.tly.supplied = true ∧ isOpen ≠ b.tly.tampOpen ∧
      b.time.ringRuns = true ∧
      b.tly.unsealing = false ∧ b.tly.sealSt ≠ .resealing ∧ b.tly.tampOwed = []) ∧
    (∃ (dt : Nat) (i : Fin 4) (isOpen : Bool) (s : State) (b : Blk), b = s.blk.elapse dt ∧ b.pwr.mode = PwrMode.run ∧
      b.sys.mode = SysMode.ready ∧ b.writeCheck (some i) Reg.TLY_SEAL_CMD = 0 ∧ b.domReady 1 = true ∧ b.tly.sealSt =
      SealState.closed ∧ b.tly.unsealing = false ∧ b.regF Reg.TLY_SEAL_ARG 23 0 = b.tly.counter ∧ b.tly.tampOpen =
      false ∧ b.tly.counter ≠ 16777214 ∧ (b.tly.sealSt ≠ SealState.unsealed ∨ ¬b.regF Reg.TLY_SEAL_ARG 23 0 =
      b.tly.counter) ∧ b.writeCheck (some i) Reg.TLYC_PARAM_DATA = 0 ∧ b.tly.sealSt ≠ SealState.unsealed ∧ b.readCheck
      (some i) Reg.TLYC_PARAM_DATA = 0 ∧ lookupReg b.hiCapture Reg.TLYC_PARAM_DATA = none ∧ b.tly.supplied = true ∧
      isOpen ≠ b.tly.tampOpen ∧ b.time.ringRuns = true ∧
      b.tly.unsealing = false ∧ b.tly.sealSt ≠ .resealing ∧ b.tly.tampOwed = []) ∧
    (∃ (dt : Nat) (i : Fin 4) (isOpen : Bool) (s : State) (b : Blk), b = s.blk.elapse dt ∧ b.pwr.mode = PwrMode.run ∧
      b.sys.mode = SysMode.ready ∧ b.writeCheck (some i) Reg.TLY_SEAL_CMD = 0 ∧ b.domReady 1 = true ∧ b.tly.sealSt =
      SealState.closed ∧ b.tly.unsealing = false ∧ b.regF Reg.TLY_SEAL_ARG 23 0 = b.tly.counter ∧ b.tly.tampOpen =
      false ∧ b.tly.counter = 16777214 ∧ (b.tly.sealSt ≠ SealState.unsealed ∨ ¬b.regF Reg.TLY_SEAL_ARG 23 0 =
      b.tly.counter) ∧ b.writeCheck (some i) Reg.TLYC_PARAM_DATA = 0 ∧ b.tly.sealSt ≠ SealState.unsealed ∧ b.readCheck
      (some i) Reg.TLYC_PARAM_DATA = 0 ∧ lookupReg b.hiCapture Reg.TLYC_PARAM_DATA = none ∧ b.tly.supplied = true ∧
      isOpen ≠ b.tly.tampOpen ∧ b.time.ringRuns = true ∧
      b.tly.unsealing = false ∧ b.tly.sealSt ≠ .resealing ∧ b.tly.tampOwed = []) ∧
    (∃ (b : Blk), b.tly.sealSt = .resealing ∧ b.candWaits = true) :=
  ⟨⟨0, ((2:Fin 4)), true, (W (sa 1 (fun t => { t with unsealing := true }))), _, rfl, by decide +kernel⟩,
   ⟨0, ((2:Fin 4)), (W {
      sa 0 (fun t => { t with sealSt := .unsealed, tampOpen := true }) with time := { N.time with ringRuns := false }
        }), _, rfl, by decide +kernel⟩,
   ⟨0, ((2:Fin 4)), true, (W {
      sa 0 (fun t => { t with sealSt := .resealing }) with time := { N.time with ringRuns := false } }), _, rfl,
    by decide +kernel⟩,
   ⟨0, ((2:Fin 4)), true, (W (sa 0 (fun t => { t with sealSt := .unsealed, staged := some (zeros 16) }))), _, rfl,
    by decide +kernel⟩,
   ⟨0, ((2:Fin 4)), true, (W (sa 0 (fun t => { t with sealSt := .unsealed, staged := some pblk }))), _, rfl,
    by decide +kernel⟩,
   ⟨0, ((2:Fin 4)), false, (W (sa 0 (fun t => { t with tampOpen := true }))), _, rfl, by decide +kernel⟩,
   ⟨0, ((2:Fin 4)), true, (W (sa 0 (fun t => t))), _, rfl, by decide +kernel⟩,
   ⟨0, ((2:Fin 4)), true, (W (sa 0xFFFFFE (fun t => { t with counter := 0xFFFFFE }))), _, rfl, by decide +kernel⟩,
   ⟨tq (fun t => { t with sealSt := .resealing }), by decide +kernel⟩⟩

end Tallying

namespace Calibrating

def CC : Blk := rg [(Reg.ADM_CAL_CTL, 7), (Reg.ADM_CAL_LIT_REF 2, 65536), (Reg.ADM_CAL_LIT_CFG, 0x100F000)] { N with
    now := 90000000000 }
def LC (n : Nat) : Blk := { CC with
    cal := { CC.cal with origin := 0, lit := upd CC.cal.lit 2 (fun _ => { num := n, den := 100, since := 3 }) } }
def pm0 : PdMeas := { ch := 2, since := 5, input := 0, k := 1024, code := 100, wait := 10, seen := 2068, sum0 := 7, sum1 := 6 }
def PM : Blk := rg [(Reg.PDC_CFG 2, 0x10000), (Reg.PDC_CFG 3, 0x10000)] { CC with
    pd := { CC.pd with calDue := [(2, 0)] } }
def PE : Blk := rg [(Reg.PDC_CFG 2, 0x10010)] { CC with pd := { CC.pd with calNow := [pm0], calDue := [(2, 0)] } }
def pm1 : PdMeas := { pm0 with sum0 := 5120, sum1 := 29466880 }
def PF : Blk := { PE with pd := { PE.pd with calNow := [pm1] } }
def z (l : CalLoop) (u : Nat) (b : Blk) : Blk := (b.slotMay l u).2
def eyb : Blk := { CC with
    lnk := { CC.lnk with lanes := upd CC.lnk.lanes 1 (fun l => { l with scanAsked := true }) } }
def lup : Blk := { CC with lnk := { CC.lnk with state := .up, eqLane := 2 } }
def camp : Campaign := { jobSeq := 12, tag := 77 }
def jc : Job := {
    seq := 12, desc := le 1 3 ++ le 1 3 ++ le 2 0 ++ le 4 77 ++ zeros 24 ++ le 2 2 ++ le 1 0 ++ le 1 0 ++ le 4 3 ++ le
      2 5 ++ zeros 6 ++ le 8 9000000 ++ zeros 8 ++ zeros 64 ++ zeros 32, acceptedAt := 0 }
def CB (c : Campaign) (c2 : Option Campaign := none) (t : Nat := 9000000) : Blk := { N with
    now := t, jobs := [jc], cal := { N.cal with units := [some c, c2] } }
def c2 : Campaign := { camp with start := some 8999000, deadline := 9624000, identity := zeros 16 }
def c3 : Campaign := { c2 with
    fitAt := some 8999500, entries := [some { seq := 1, used := true, x := 5, y := 6 }, some {
      seq := 2, used := false, x := 5, y := 6 }], firstSeq := some 1, lastSeq := 2 }

/-- States that meet the hypotheses of CalibrationLoopsAdjustTheirUnits. -/
theorem meets_CalibrationLoopsAdjustTheirUnits :
    (∃ (dt : Nat) (n : Nat) (i : Fin 4) (v : Word) (x : Blk) (s : State) (b : Blk) (k : LitLoop) (ref : Nat) (q : Q)
      (trim : Nat) (t : Nat) (step : Nat) (t2 : Nat) (step2 : Nat) (t3 : Nat) (step3 : Nat) (t4 : Nat) (t5 : Nat) (t6
      : Nat) (t7 : Nat) (t8 : Nat) (t9 : Nat) (t10 : Nat) (t11 : Nat) (t12 : Nat) (t13 : Nat) (t14 : Nat) (t15 : Nat)
      (t16 : Nat), b = s.blk.elapse dt ∧ k = b.cal.lit.getD n { : LitLoop } ∧ ref = b.regN (Reg.ADM_CAL_LIT_REF n) ∧
      nextTrim q trim trim = some t ∧ nextTrim q trim step = some t2 ∧ nextTrim q trim step2 = some t3 ∧ nextTrim q
      trim step3 = some t4 ∧ nextTrim q step trim = some t5 ∧ nextTrim q step step = some t6 ∧ nextTrim q step step2 =
      some t7 ∧ nextTrim q step step3 = some t8 ∧ nextTrim q step2 trim = some t9 ∧ nextTrim q step2 step = some t10 ∧
      nextTrim q step2 step2 = some t11 ∧ nextTrim q step2 step3 = some t12 ∧ nextTrim q step3 trim = some t13 ∧
      nextTrim q step3 step = some t14 ∧ nextTrim q step3 step2 = some t15 ∧ nextTrim q step3 step3 = some t16 ∧ n < 8
      ∧ bitN (b.regN Reg.ADM_CAL_CTL) 0 = true ∧ ref ≠ 0 ∧ k.since ≠ 0 ∧ k.num ≠ 0 ∧ k.lastSlot + 3125000 * b.regF
      Reg.ADM_CAL_LIT_CFG 23 16 ≤ b.now ∧ b.slotMay CalLoop.lit n = (true, x) ∧ 0 < q.d ∧ 0 < trim ∧ 0 < step ∧ 0 <
      step2 ∧ 0 < step3 ∧ b.pwr.mode = PwrMode.run ∧ b.sys.mode = SysMode.ready ∧ b.writeCheck (some i)
      Reg.ADM_CAL_LIT_CMD = 0 ∧ b.domReady 7 = true ∧ valueOk Reg.ADM_CAL_LIT_CMD (BitVec.toNat v) = true ∧
      b.cal.lit.length = 8 ∧ bitN (b.regN Reg.ADM_CAL_CTL) 1 = true ∧ b.slotDue CalLoop.pd 8 (312500 * b.regF
      Reg.ADM_CAL_PD_CFG 15 0) = true) ∧
    (∃ (dt : Nat) (ch : Nat) (i : Fin 4) (v : Word) (x : Blk) (s : State) (b : Blk) (gain : Nat) (d : Preset) (len :
      Nat) (ticks : Nat), b = s.blk.elapse dt ∧ gain = b.regF (Reg.PDC_CFG ch) 2 0 ∧ d = (b.pdch ch).preset ∧ len = 2
      ^ (10 + b.regF Reg.ADM_CAL_PD_CFG 18 16) ∧ ticks = b.sampleTicks ch (2 * (nAna gain d.d + nCic d.d + len)) ∧
      b.pwr.mode = PwrMode.run ∧ b.sys.mode = SysMode.ready ∧ b.writeCheck (some i) Reg.ADM_CAL_LIT_CMD = 0 ∧
      b.domReady 7 = true ∧ valueOk Reg.ADM_CAL_LIT_CMD (BitVec.toNat v) = true ∧ b.cal.lit.length = 8 ∧ bitN (b.regN
      Reg.ADM_CAL_CTL) 1 = true ∧ b.slotDue CalLoop.pd 8 (312500 * b.regF Reg.ADM_CAL_PD_CFG 15 0) = true ∧ b.chRuns
      ch = true ∧ ((b.pd.calDue.any fun (q : Nat × Nat) => q.fst == ch) = true) ∧ b.pd.calNow.any (fun q => q.ch == ch) = false ∧ b.injectorMay
      ch ticks (b.sampleTicks ch (settleN gain d)) = true ∧ b.slotMay CalLoop.pd ch = (true, x)) ∧
    (∃ (dt : Nat) (ch : Nat) (i : Fin 4) (v : Word) (m : PdMeas) (s : State) (b : Blk) (sums :
      Option (Nat × Nat)), b = s.blk.elapse dt ∧ sums = pdTrims m.k m.code (b.regF (Reg.PDC_CFG ch) 2 0) m.sum0 m.sum1 ∧
      b.pwr.mode = PwrMode.run ∧ b.sys.mode = SysMode.ready ∧ b.writeCheck (some i) Reg.ADM_CAL_LIT_CMD = 0 ∧
      b.domReady 7 = true ∧ valueOk Reg.ADM_CAL_LIT_CMD (BitVec.toNat v) = true ∧ b.cal.lit.length = 8 ∧ bitN (b.regN
      Reg.ADM_CAL_CTL) 1 = true ∧ b.slotDue CalLoop.pd 8 (312500 * b.regF Reg.ADM_CAL_PD_CFG 15 0) = true ∧
      b.pd.calNow.find? (fun q => q.ch = ch) = some m ∧ 2 * (m.wait + m.k) ≤ m.seen ∧ b.regF (Reg.PDC_CFG ch) 5 4 = 1 ∧ sums = none) ∧
    (∃ (dt : Nat) (ch : Nat) (o : Nat) (g : Nat) (i : Fin 4) (v : Word) (m : PdMeas) (s : State)
      (b : Blk) (sums : Option (Nat × Nat)), b = s.blk.elapse dt ∧ sums = pdTrims m.k m.code (b.regF (Reg.PDC_CFG ch)
      2 0) m.sum0 m.sum1 ∧ b.pwr.mode = PwrMode.run ∧ b.sys.mode = SysMode.ready ∧ b.writeCheck (some i) Reg.ADM_CAL_LIT_CMD =
      0 ∧ b.domReady 7 = true ∧ valueOk Reg.ADM_CAL_LIT_CMD (BitVec.toNat v) = true ∧ b.cal.lit.length = 8 ∧ bitN
      (b.regN Reg.ADM_CAL_CTL) 1 = true ∧ b.slotDue CalLoop.pd 8 (312500 * b.regF Reg.ADM_CAL_PD_CFG 15 0) = true ∧
      b.pd.calNow.find? (fun q => q.ch = ch) = some m ∧ 2 * (m.wait + m.k) ≤ m.seen ∧ b.regF (Reg.PDC_CFG ch) 5 4 = 1 ∧ sums = some (o,
      g)) ∧
    (∃ (dt : Nat) (n : Nat) (i : Fin 4) (v : Word) (x : Blk) (s : State) (b : Blk) (k : LitLoop) (ref : Nat) (next :
      Option Nat), b = s.blk.elapse dt ∧ k = b.cal.lit.getD n { : LitLoop } ∧ ref = b.regN (Reg.ADM_CAL_LIT_REF n) ∧
      next = nextTrim { n := ↑ref * ↑k.den, d := 65536 * k.num : Q } (b.regF (Reg.ADM_CAL_LIT_TRIM n) 15 0) (b.regF
      Reg.ADM_CAL_LIT_CFG 15 12) ∧ n < 8 ∧ bitN (b.regN Reg.ADM_CAL_CTL) 0 = true ∧ ref ≠ 0 ∧ k.since ≠ 0 ∧ k.num ≠ 0
      ∧ k.lastSlot + 3125000 * b.regF Reg.ADM_CAL_LIT_CFG 23 16 ≤ b.now ∧ b.slotMay CalLoop.lit n = (true, x) ∧ next =
      none ∧ b.pwr.mode = PwrMode.run ∧ b.sys.mode = SysMode.ready ∧ b.writeCheck (some i) Reg.ADM_CAL_LIT_CMD = 0 ∧
      b.domReady 7 = true ∧ valueOk Reg.ADM_CAL_LIT_CMD (BitVec.toNat v) = true ∧ b.cal.lit.length = 8 ∧ bitN (b.regN
      Reg.ADM_CAL_CTL) 1 = true ∧ b.slotDue CalLoop.pd 8 (312500 * b.regF Reg.ADM_CAL_PD_CFG 15 0) = true) :=
  ⟨⟨0, 2, ((1:Fin 4)), ((3:Word)), (((LC 300).slotMay .lit 2).2), (W (LC 300)), _, _, _, ((⟨3, 2⟩ : Q)), 32768, _, 8,
   _, 32900, _, 2, _, _, _, _, _, _, _, _, _, _, _, _, _, rfl, rfl, rfl, rfl, rfl, rfl, rfl, rfl, rfl, rfl, rfl, rfl,
   rfl, rfl, rfl, rfl, rfl, rfl, rfl, by decide +kernel⟩,
   ⟨0, 2, ((1:Fin 4)), ((3:Word)), ((PM.slotMay .pd 2).2), (W PM), _, _, _, _, _, rfl, rfl, rfl, rfl, rfl,
    by decide +kernel⟩,
   ⟨0, 2, ((1:Fin 4)), ((3:Word)), pm0, (W PE), _, _, rfl, rfl, by decide +kernel⟩,
   ⟨0, 2, 5, 37320, ((1:Fin 4)), ((3:Word)), pm1, (W PF), _, _, rfl, rfl,
    by decide +kernel⟩,
   ⟨0, 2, ((1:Fin 4)), ((3:Word)), (((LC 100).slotMay .lit 2).2), (W (LC 100)), _, _, _, _, rfl, rfl, rfl, rfl,
    by decide +kernel⟩⟩

/-- States that meet the hypotheses of SlotsRunWhenDue. -/
theorem meets_SlotsRunWhenDue :
    (∃ (dt : Nat) (l : Nat) (x : Blk) (s : State) (b : Blk) (asked : Option Nat), b = s.blk.elapse dt ∧ (asked =
      List.find? (fun (k : Nat) => (b.lane k).scanAsked) (List.range 5)) ∧ bitN (b.regN Reg.ADM_CAL_CTL) 2 = true ∧
      b.slotDue CalLoop.pace 0 312500000 = true ∧ b.slotMay CalLoop.pace 0 = (true, x) ∧ asked = some l ∧ b.slotMay
      CalLoop.eye l = (true, x) ∧ b.domReady 5 = true ∧ b.slotDue CalLoop.zq 0 40000000 = true ∧ b.slotMay CalLoop.zq
      0 = (true, x) ∧ b.slotDue CalLoop.dqs 0 5000000 = true ∧ b.slotMay CalLoop.dqs 0 = (true, x)) ∧
    (∃ (dt : Nat) (l : Nat) (x : Blk) (s : State) (b : Blk) (asked : Option Nat), b = s.blk.elapse dt ∧ (asked =
      List.find? (fun (k : Nat) => (b.lane k).scanAsked) (List.range 5)) ∧ bitN (b.regN Reg.ADM_CAL_CTL) 2 = true ∧
      b.slotDue CalLoop.pace 0 312500000 = true ∧ b.slotMay CalLoop.pace 0 = (true, x) ∧ asked = none ∧ nextLane
      b.eqLanes b.lnk.eqLane = some l ∧ b.linkUp = true ∧ b.lastEq + 3125000000 ≤ b.now ∧ b.slotMay CalLoop.eq l =
      (true, x) ∧ b.domReady 5 = true ∧ b.slotDue CalLoop.zq 0 40000000 = true ∧ b.slotMay CalLoop.zq 0 = (true, x) ∧
      b.slotDue CalLoop.dqs 0 5000000 = true ∧ b.slotMay CalLoop.dqs 0 = (true, x)) :=
  ⟨⟨0, 1, (z .eye 1 eyb), (W eyb), _, _, rfl, rfl, by decide +kernel⟩,
   ⟨0, 2, (z .eq 2 lup), (W lup), _, _, rfl, rfl, by decide +kernel⟩⟩

/-- States that meet the hypotheses of CampaignsAreFitted. -/
theorem meets_CampaignsAreFitted :
    (∃ (dt : Nat) (u : Nat) (j : Job) (c : Campaign) (s : State) (b : Blk), b = s.blk.elapse dt ∧ b.jobBySeq j.seq =
      some j ∧ b.campaign j.seq = some (u, c) ∧ c.isOver = false ∧ c.fitAt.isSome = true ∧ b.now ≤ c.deadline ∧ (b.fitUnit (1 - u) ≠ none ∨ c.deadline ≤ b.now + b.fitBound j + 3125)) ∧
    (∃ (dt : Nat) (u : Nat) (j : Job) (c : Campaign) (s : State) (b : Blk), b = s.blk.elapse dt ∧ b.jobBySeq j.seq =
      some j ∧ b.campaign j.seq = some (u, c) ∧ c.isOver = false ∧ c.start.isSome = true ∧ c.fitAt = none) ∧
    (∃ (dt : Nat) (u : Nat) (j : Job) (c : Campaign) (s : State) (b : Blk), b = s.blk.elapse dt ∧ b.jobBySeq j.seq =
      some j ∧ b.campaign j.seq = some (u, c) ∧ c.isOver = false ∧ c.start = none ∧ j.closeTime ≠ 0 ∧ j.closeTime ≤
      b.now) ∧
    (∃ (dt : Nat) (u : Nat) (j : Job) (c : Campaign) (s : State) (b : Blk), b = s.blk.elapse dt ∧ b.jobBySeq j.seq =
      some j ∧ b.campaign j.seq = some (u, c) ∧ c.isOver = false ∧ c.fitAt.isSome = true ∧ b.now ≤ c.deadline ∧ b.fitUnit (1 - u) = none ∧ b.now + b.fitBound j + 3125 < c.deadline) :=
  ⟨⟨0, 0, jc, ({ c3 with deadline := 9003000 }), (W (CB { c3 with deadline := 9003000 })), _, rfl, by decide +kernel⟩,
   ⟨0, 0, jc, c2, (W (CB c2)), _, rfl, by decide +kernel⟩,
   ⟨0, 0, jc, camp, (W (CB camp)), _, rfl, by decide +kernel⟩,
   ⟨0, 0, jc, c3, (W (CB c3)), _, rfl, by decide +kernel⟩⟩

/-- A state that meets the campaign's hypotheses of DeliveriesCommitOrAreForfeited. -/
theorem meets_DeliveriesCommitOrAreForfeited_3 :
    (∃ (dt u : Nat) (j : Job) (c : Campaign) (s : State) (b : Blk), b = s.blk.elapse dt ∧ b.jobBySeq j.seq = some j ∧
      j.kind ≠ 1 ∧ j.kind ≠ 2 ∧ b.campaign j.seq = some (u, c) ∧ c.start.isSome = true ∧ c.isOver = false ∧
      c.deadline ≤ b.now) :=
  ⟨0, 0, jc, c2, W (CB c2 none 9624000), _, rfl, by decide +kernel⟩

end Calibrating

namespace Lighting

def ws (f : PatSt → PatSt) (b : Blk := N) : Blk := { b with
    lit := { b.lit with
      pats := [f {
        running := true, rows := 5, level := 4095, slotRow := 0, slotAt4 := 35997500, stepAt4 := 35990000 }, {}] } }
def w0 (b : Blk) : Want := b.top.getD { src := .strobe, row := 9, ps := 0, cs := 0, ce := none }
def k0 : Conduct := {
    src := .pat0, row := 0, cols := List.replicate 24 { code := 1000 }, start4 := 35997500, end4 := some 36000000 }
def pr (b : Blk) : Blk := { b with lit := { b.lit with prech := some (.pat0, 0, 35997500) } }
def b1 := ws (fun p => p)
def b2 : Blk := { pr b1 with now := 8999800 }
def b4 : Blk := { b2 with lit := { b2.lit with pos := List.replicate 192 { st := 2 } } }
def b5 : Blk := { b1 with lit := { b1.lit with cond := some k0 } }
def k1 : Conduct := { k0 with end4 := none, cols := List.replicate 24 { code := 1300 } }
def b7 : Blk := { b1 with now := 99000000, lit := { b1.lit with clampAt := some 98999999, cond := some k1 } }
def k2 : Conduct := { k0 with end4 := some 36500000 }
def lb (k : Conduct) (f : LedPos → LedPos := id) : Blk := rg [(Reg.LIT_VLED, 24000)] { N with
    lit := { N.lit with cond := some k, pos := upd N.lit.pos 3 f } }
def pw (w : Nat) (f : PatSt → PatSt) : Blk := rg [(Reg.PAT_PROG 0 0, w)] (ws f)

/-- States that meet the hypotheses of RowsConductForTheirSource. -/
theorem meets_RowsConductForTheirSource :
    (∃ (dt : Nat) (e4 : Nat) (k : Conduct) (s : State) (b : Blk), b = s.blk.elapse dt ∧ b.lit.cond = some k ∧ k.end4 =
      some e4 ∧ b.dueQ e4 = true) ∧
    (∃ (dt : Nat) (row : Nat) (since : Nat) (src : LitSrc) (w : Want) (s : State) (b : Blk)
      (r : Blk), b = s.blk.elapse dt ∧ r = b.litReview ∧ b.lit.prech = some (src, row, since) ∧ b.top = some w ∧
      b.dueQ (max since (b.condAt w since - b.leadOf w)) = true ∧ r.lit.prech = some (src, row, since) ∧ r.top = some w ∧
      r.dueQ (r.condAt w since) = true ∧ (Option.all (fun (e : Nat) => decide (r.condAt w since < e)) w.ce = true) ∧
      (let l := r.latchCols row src r.wants
        let p := l.2.dropIdle row l.1 (w.ce.map (fun e => e - l.2.at4 (r.condAt w since)))
        (p.fst.any fun (d : ColDrive) => d.code != 0) = true)) ∧
    (∃ (dt : Nat) (w : Want) (s : State) (b : Blk) (r : Blk), b = s.blk.elapse dt ∧ r = b.litReview ∧ r.top = some w ∧
      r.lit.prech = none ∧ r.lit.cond = none ∧ r.dueQ w.ps = true ∧ (w.src = LitSrc.strobe → Option.all (fun (e : Nat)
      => decide (r.q < e)) w.ce = true)) ∧
    (∃ (dt : Nat) (col : Nat) (k : Conduct) (s : State) (b : Blk) (d : ColDrive), b = s.blk.elapse dt ∧ d =
      k.cols.getD col { : ColDrive } ∧ b.lit.cond = some k ∧ col < 24 ∧ (b.sink col).lowered = false ∧ hotCode (b.sink
      col).half d = true ∧ 250000 ≤ (b.hotTime col).fst ∧ (Option.any (fun (t : Nat) => decide (b.now < t + 625000))
      b.lit.clampAt = true)) ∧
    (∃ (dt : Nat) (row : Nat) (since : Nat) (src : LitSrc) (w : Want) (s : State) (b : Blk)
      (r : Blk), b = s.blk.elapse dt ∧ r = b.litReview ∧ b.lit.prech = some (src, row, since) ∧ b.top = some w ∧
      b.dueQ (max since (b.condAt w since - b.leadOf w)) = true ∧ r.lit.prech = some (src, row, since) ∧ r.top = some w ∧
      r.dueQ (r.condAt w since) = true ∧ (Option.all (fun (e : Nat) => decide (r.condAt w since < e)) w.ce = true) ∧
      (let l := r.latchCols row src r.wants
        let p := l.2.dropIdle row l.1 (w.ce.map (fun e => e - l.2.at4 (r.condAt w since)))
        (p.fst.all fun (d : ColDrive) => decide (d.code = 0)) = true)) :=
  ⟨⟨0, 36000000, k0, (W b5), _, rfl, by decide +kernel⟩,
   ⟨0, 0, 35997500, LitSrc.pat0, (w0 b2), (W b2), _, _, rfl, rfl, by decide +kernel⟩,
   ⟨0, (w0 b1), (W b1), _, _, rfl, rfl, by decide +kernel⟩,
   ⟨0, 3, k1, (W b7), _, _, rfl, rfl, by decide +kernel⟩,
   ⟨0, 0, 35997500, LitSrc.pat0, (w0 b4), (W b4), _, _, rfl, rfl, by decide +kernel⟩⟩

/-- States that meet the hypotheses of LampsAreTestedAndProtected. -/
theorem meets_LampsAreTestedAndProtected :
    (∃ (dt : Nat) (col : Nat) (ia : Nat) (ib : Nat) (volt : Nat) (ohms : Nat) (i : Fin 4) (v : Word) (k : Conduct) (s
      : State) (b : Blk) (d : ColDrive) (p : LedPos) (q : LedPos), b = s.blk.elapse dt ∧ d = k.cols.getD col {
        : ColDrive } ∧ p = b.ledPos k.row col ∧ q = p.judge (b.testClass (375 * d.code) (ia + ib) volt) ∧ b.lit.cond =
      some k ∧ col < 24 ∧ k.row < 8 ∧ b.lit.pos.length = 192 ∧ k.cols.length = 24 ∧ d.code ≠ 0 ∧ d.cut4 < 2000 ∧ ¬col
      ∈ k.tested ∧ k.readings = [] ∧ (Option.all (fun (e : Nat) => decide (d.start k.start4 + 2500 ≤ d.until e)) k.end4 = true) ∧ (k.end4 = none → d.stop4 = none) ∧ b.dueQ
      (d.start k.start4 + 2000) = true ∧ bitN (b.regN Reg.LITD_DIAG) 8 = true ∧ 100 * b.regF Reg.LITD_THRESH 23 16 ≤ b.regF
      Reg.LIT_VLED 15 0 ∧ q.st < 2 ∧ b.q < d.start k.start4 + 2500 ∧ b.pwr.mode = PwrMode.run ∧ b.sys.mode = SysMode.ready ∧
      b.writeCheck (some i) Reg.LITD_RETEST = 0 ∧ b.domReady 4 = true ∧ valueOk Reg.LITD_RETEST (BitVec.toNat v) =
      true ∧ b.regF Reg.LIT_THERM 1 0 = 1 ∧ 200 ≤ ohms ∧ ohms ≤ 1000000) ∧
    (∃ (dt : Nat) (col : Nat) (ia : Nat) (ib : Nat) (volt : Nat) (ohms : Nat) (i : Fin 4) (v : Word) (k : Conduct) (s
      : State) (b : Blk) (d : ColDrive) (p : LedPos) (q : LedPos), b = s.blk.elapse dt ∧ d = k.cols.getD col {
        : ColDrive } ∧ p = b.ledPos k.row col ∧ q = p.judge (b.testClass (375 * d.code) (ia + ib) volt) ∧ b.lit.cond =
      some k ∧ col < 24 ∧ k.row < 8 ∧ b.lit.pos.length = 192 ∧ k.cols.length = 24 ∧ d.code ≠ 0 ∧ d.cut4 < 2000 ∧ ¬col
      ∈ k.tested ∧ k.readings = [] ∧ (Option.all (fun (e : Nat) => decide (d.start k.start4 + 2500 ≤ d.until e)) k.end4 = true) ∧ (k.end4 = none → d.stop4 = none) ∧ b.dueQ
      (d.start k.start4 + 2000) = true ∧ bitN (b.regN Reg.LITD_DIAG) 8 = true ∧ 100 * b.regF Reg.LITD_THRESH 23 16 ≤ b.regF
      Reg.LIT_VLED 15 0 ∧ q.st < 2 ∧ d.start k.start4 + 2500 ≤ b.q ∧ d.live b.q = true ∧ b.lit.diagAt + 31250000 * b.regF Reg.LITD_DIAG 7 0 ≤ b.now ∧
      b.lit.shutdown = false ∧ b.pwr.mode = PwrMode.run ∧ b.sys.mode = SysMode.ready ∧ b.writeCheck (some i)
      Reg.LITD_RETEST = 0 ∧ b.domReady 4 = true ∧ valueOk Reg.LITD_RETEST (BitVec.toNat v) = true ∧ b.regF
      Reg.LIT_THERM 1 0 = 1 ∧ 1000000 < ohms ∧ b.lit.ntcOpen = false) ∧
    (∃ (dt : Nat) (col : Nat) (ohms : Nat) (i : Fin 4) (v : Word) (k : Conduct) (s : State) (b : Blk) (d : ColDrive),
      b = s.blk.elapse dt ∧ d = k.cols.getD col { : ColDrive } ∧ b.lit.cond = some k ∧ col < 24 ∧ k.row < 8 ∧
      b.lit.pos.length = 192 ∧ k.cols.length = 24 ∧ d.code ≠ 0 ∧ d.cut4 < 2000 ∧ ¬col ∈ k.tested ∧ k.readings = [] ∧ (Option.all (fun (e
      : Nat) => decide (d.start k.start4 + 2500 ≤ d.until e)) k.end4 = true) ∧ (k.end4 = none → d.stop4 = none) ∧ b.dueQ (d.start k.start4 + 2000) = true ∧ bitN (b.regN
      Reg.LITD_DIAG) 8 = true ∧ 100 * b.regF Reg.LITD_THRESH 23 16 ≤ b.regF Reg.LIT_VLED 15 0 ∧ b.pwr.mode =
      PwrMode.run ∧ b.sys.mode = SysMode.ready ∧ b.writeCheck (some i) Reg.LITD_RETEST = 0 ∧ b.domReady 4 = true ∧
      valueOk Reg.LITD_RETEST (BitVec.toNat v) = true ∧ b.regF Reg.LIT_THERM 1 0 = 1 ∧ ohms < 200 ∧ b.lit.ntcShort =
      false) :=
  ⟨⟨0, 3, 100, 100, 3, 10000, ((1:Fin 4)), ((0x1000:Word)), k2, (W { lb k2 with now := 8999900 }), _, _, _, _, rfl, rfl, rfl, rfl,
   by decide +kernel⟩,
   ⟨0, 3, 0, 0, 0, 1000001, ((1:Fin 4)), ((0x12:Word)), k2, (W { lb k2 with now := 90000000000 }), _, _, _, _, rfl,
    rfl, rfl, rfl, by decide +kernel⟩,
   ⟨0, 3, 100, ((1:Fin 4)), ((0x12:Word)), k2, (W (lb k2 (fun p => { p with opens := 1 }))), _, _, rfl, rfl,
    by decide +kernel⟩⟩

/-- States that meet the hypotheses of LampsAreTestedAndProtected. -/
theorem meets_LampsAreTestedAndProtected_3 :
    ∃ (dt col ia ib volt : Nat) (k : Conduct) (s : State) (b : Blk) (d : ColDrive) (p q : LedPos), b = s.blk.elapse dt ∧
      d = k.cols.getD col {} ∧ p = b.ledPos k.row col ∧ q = p.judge (b.testClass (375 * d.code) (ia + ib) volt) ∧
      b.lit.cond = some k ∧ d.start k.start4 + 2500 ≤ b.q ∧ q.st ≠ p.st ∧ 2 ≤ q.st :=
  ⟨0, 3, 0, 0, 0, k2, W { lb k2 (fun p => { p with opens := 1 }) with now := 90000000000 }, _, _, _, _, rfl, rfl, rfl, rfl, by decide +kernel⟩

/-- States that meet the hypotheses of PatternsRunTheirPrograms. -/
theorem meets_PatternsRunTheirPrograms :
    (∃ (dt : Nat) (e : Nat) (s : State) (b : Blk) (p : PatSt) (w : Nat) (n : Nat) (end4 : Nat), b = s.blk.elapse dt ∧
      p = b.pat e ∧ w = b.patWord e ∧ n = fld w 15 0 ∧ end4 = p.stepAt4 + n * b.unit4 e ∧ p.running = true ∧ b.dueQ
      end4 = true ∧ fld w 31 28 = 2 ∧ p.elapsed < n ∧ b.dueQ (p.stepAt4 + (p.elapsed + 1) * b.unit4 e) = true ∧
      p.elapsed + 1 = n ∧ 2 ≤ popcount 8 p.rows ∧ b.dueQ (p.slotAt4 + b.mux4) = true) ∧
    (∃ (dt : Nat) (e : Nat) (s : State) (b : Blk) (p : PatSt) (w : Nat) (n : Nat) (end4 : Nat), b = s.blk.elapse dt ∧
      p = b.pat e ∧ w = b.patWord e ∧ n = fld w 15 0 ∧ end4 = p.stepAt4 + n * b.unit4 e ∧ p.running = true ∧ b.dueQ
      end4 = true ∧ fld w 31 28 = 3 ∧ 2 ≤ popcount 8 p.rows ∧ b.dueQ (p.slotAt4 + b.mux4) = true) ∧
    (∃ (dt : Nat) (e : Nat) (s : State) (b : Blk) (p : PatSt) (w : Nat) (n : Nat) (end4 : Nat), b = s.blk.elapse dt ∧
      p = b.pat e ∧ w = b.patWord e ∧ n = fld w 15 0 ∧ end4 = p.stepAt4 + n * b.unit4 e ∧ p.running = true ∧ p.waiting
      = true ∧ n ≠ 0 ∧ b.dueQ end4 = true ∧ 2 ≤ popcount 8 p.rows ∧ b.dueQ (p.slotAt4 + b.mux4) = true) :=
  ⟨⟨0, 0, (W (pw 0x20100001 (fun p => p))), _, _, _, _, _, rfl, rfl, rfl, rfl, rfl, by decide +kernel⟩,
   ⟨0, 0, (W (pw 0x30000002 (fun p => p))), _, _, _, _, _, rfl, rfl, rfl, rfl, rfl, by decide +kernel⟩,
   ⟨0, 0, (W (pw 0x50100002 (fun p => { p with waiting := true }))), _, _, _, _, _, rfl, rfl, rfl, rfl, rfl,
    by decide +kernel⟩⟩

end Lighting

namespace More

def full : Blk := rg [(Reg.HDR_EVT_ENABLE 3, 5), (Reg.HDR_CONTROL 3, 3), (Reg.EVT_ROUTE, 1)] { B with
    evt := { B.evt with held := List.replicate 64 { seq := 1, code := 2, page := 3, bit := 4, time := 5 } } }
def many : Blk := { BB with jobs := List.replicate 128 (jb 1 3 1 1 0 2 0 1) }
def jf : Job := { j0 with desc := (j0.desc.take 33) ++ [1] ++ j0.desc.drop 34 }
def ef : Frame := { fr (fun f => { f with started := true }) with desc := jf.desc }
def L0 : Blk := { B with
    now := 40000000, lnk := { B.lnk with
      state := .up, ckPresent := true, creditLeft := 900, unacked := 1, rxSeq := 7, txSeq := 9 } }
def rc (k : SpareKind) (u : Nat) (w : Bool := false) : Recovery := { kind := k, u := u, wear := w, since := 100 }
def dj : Job := {
    seq := 6, desc := le 1 2 ++ zeros 31 ++ le 1 8 ++ zeros 3 ++ le 8 9000001 ++ zeros 84, acceptedAt := 0 }

/-- States that meet the hypotheses of EnabledEventsMakeNotices. -/
theorem meets_EnabledEventsMakeNotices_2 :
    (∃ (b : Blk) (page : Nat) (bit : Nat), bit < 32 ∧ bitN (b.regN (Reg.HDR_EVT_LATCH page)) bit = false ∧ bitN
      (b.regN (Reg.HDR_EVT_ENABLE page)) bit = true ∧ bitN (b.regN (Reg.HDR_CONTROL page)) 1 = true ∧ page < 256 ∧
      (bitN (b.regN Reg.EVT_ROUTE) 0 = true ∧ 64 ≤ b.evt.held.length ∨ bitN (b.regN Reg.EVT_ROUTE) 0 = false ∧
      b.linkUp = false)) :=
  ⟨full, 3, 0, by decide +kernel⟩

/-- States that meet the hypotheses of JobsAreAdmittedOrRefused. -/
theorem meets_JobsAreAdmittedOrRefused_2 :
    (∃ (dt : Nat) (f : Blk) (j2 : Job) (fault : Nat) (test : Nat) (off : Nat), f.judge dt j2 = some (fault, test, off)
      ∧ test ≠ 1 ∧ test = 3) :=
  ⟨1, many, (jb 1 3 2 1 0 2 0 1), 0xB104, 3, 0xFFFF, by decide +kernel⟩

/-- States that meet the hypotheses of ExposuresRunAndEnd. -/
theorem meets_ExposuresRunAndEnd_2 :
    (∃ (dt : Nat) (f : Frame) (s : State) (b : Blk), b = s.blk.elapse dt ∧ ((b.firstFrame fun (g : Frame) =>
      g.exposing && decide (ceilDiv g.expEnd4 4 ≤ b.now)) = some f) ∧ f.fault ≠ 12385 ∧ b.coppice = false ∧ f.job.full
      = true ∧ (∀ (g : Frame), g ∈ b.sns.frames → g.started = true → 4 * g.expStart + 1250 ≤ 4 * b.now)) :=
  ⟨0, ef, (W { F [ef] with jobs := [jf] }), _, rfl, by decide +kernel⟩

/-- States that meet the hypotheses of PacketsAreAcknowledgedAndReplayed. -/
theorem meets_PacketsAreAcknowledgedAndReplayed_2 :
    (∃ (dt : Nat) (lseq : Nat) (ptype : Nat) (s : State) (b : Blk) (d : Nat) (rest : List Pkt), b = s.blk.elapse dt ∧
      d = (b.lnk.rxSeq + 65536 - lseq % 65536) % 65536 ∧ (rest = List.filter (fun (p : Pkt) => !seqCovers lseq p.lseq)
      b.lnk.retry) ∧ b.linkUp = true ∧ rest = b.lnk.retry ∧ b.lnk.nakAt = none ∧ 4096 < d ∧ (0 < b.lnk.unacked ∨
      b.lnk.lastAckOut + 3125 ≤ b.now) ∧ inboundType ptype = false) :=
  ⟨0, 8, 3, (W L0), _, _, _, rfl, rfl, rfl, by decide +kernel⟩

/-- A packet without payload, cut into its SOP and its data (14 R523), and one whose last byte is wrong. -/
def sopOf (q : Nat) : List Byte := (packetBytes 3 0 q []).take 8
def restOf (q : Nat) : List Byte := (packetBytes 3 0 q []).drop 8

/-- An empty packet: SOP with lseq 0x1234, then four zeros and the CRC (14 R523, R524). -/
theorem test_packet_bytes : sopOf 0x1234 = [0x78, 3, 0, 0, 0, 0x34, 0x12, 0] ∧ (restOf 0x1234).take 4 = [0, 0, 0, 0] ∧
    packetCrcOk (sopOf 0x1234) (restOf 0x1234) = true ∧ packetCrcOk (sopOf 0x1235) (restOf 0x1234) = false := by decide +kernel

/-- States that meet the hypotheses of PacketsAreAcknowledgedAndReplayed. -/
theorem meets_PacketsAreAcknowledgedAndReplayed_3 :
    (∃ (sop data : List Byte) (b : Blk), b = (W L0).blk.elapse 0 ∧ b.linkUp = true ∧ b.lnk.nakAt = none ∧ packetCrcOk sop data = false) ∧
    (∃ (sop data : List Byte) (b : Blk), b = (W L0).blk.elapse 0 ∧ b.linkUp = true ∧ b.lnk.nakAt = none ∧ packetCrcOk sop data = true ∧
      4096 < b.behind sop) ∧
    (∃ (sop data : List Byte) (b : Blk) (t : Nat), b = (W { L0 with lnk := { L0.lnk with nakAt := some 39999999 } }).blk.elapse 0 ∧
      b.linkUp = true ∧ b.lnk.nakAt = some t ∧ b.now < t + b.regF Reg.LNK_REPLAY_LIMIT 11 0 ∧ packetCrcOk sop data = true ∧ 4096 < b.behind sop) ∧
    (∃ (sop data : List Byte) (b : Blk), b = (W L0).blk.elapse 0 ∧ b.linkUp = true ∧ packetCrcOk sop data = true ∧
      b.behind sop = 4096) ∧
    (∃ (b : Blk), b = (W { L0 with lnk := { L0.lnk with replayQ := [3] } }).blk.elapse 0 ∧ b.linkUp = true ∧ b.lnk.replayQ ≠ []) ∧
    (∃ (b : Blk) (r : Option Nat × Ready), b = (W { L0 with lnk := { L0.lnk with answers := [(2, [])] } }).blk.elapse 0 ∧ b.linkUp = true ∧
      b.lnk.replayQ = [] ∧ b.nextPacket = some r) :=
  ⟨⟨sopOf 1, restOf 2, _, rfl, by decide +kernel⟩,
   ⟨sopOf (L0.lnk.rxSeq + 1), restOf (L0.lnk.rxSeq + 1), _, rfl, by decide +kernel⟩,
   ⟨sopOf (L0.lnk.rxSeq + 1), restOf (L0.lnk.rxSeq + 1), _, 39999999, rfl, by decide +kernel⟩,
   ⟨sopOf ((L0.lnk.rxSeq + 61440) % 65536), restOf ((L0.lnk.rxSeq + 61440) % 65536), _, rfl, by decide +kernel⟩,
   ⟨_, rfl, by decide +kernel⟩,
   ⟨_, (none, { ptype := 2, payload := [], src := .answer }), rfl, by decide +kernel⟩⟩

/-- States that meet the hypotheses of ClocksAndLanesComeAndGo. -/
theorem meets_ClocksAndLanesComeAndGo_3 :
    (∃ (l : Nat) (b : Blk), b = (W L0).blk.elapse 0 ∧ b.lnk.state = LinkState.up ∧ b.lnk.lanes.length = 5 ∧ l < 5 ∧
      (b.lane l).rx = LaneRole.spare) ∧
    (∃ (l mask k : Nat) (b : Blk), b = (W L0).blk.elapse 0 ∧ b.lnk.state = LinkState.up ∧ b.lnk.lanes.length = 5 ∧ l < 5 ∧
      (b.lane l).tx = LaneRole.active ∧ (b.lanesOf true LaneRole.active).length ≤ 4 ∧ bitN mask l = false ∧ k < 5 ∧
      b.lanesOf true LaneRole.spare = [k] ∧ bitN mask k = true ∧
      (∀ (n : Nat), n < 5 → n ≠ l → (b.lane n).tx = LaneRole.active → bitN mask n = true)) :=
  ⟨⟨4, _, rfl, by decide +kernel⟩, ⟨2, 0x1b, 4, _, rfl, by decide +kernel⟩⟩

/-- States that meet the hypotheses of ClocksAndLanesComeAndGo. -/
theorem meets_ClocksAndLanesComeAndGo_2 :
    (∃ (dt : Nat) (l : Nat) (mask : Nat) (i : Fin 4) (v : Word) (s : State) (b : Blk) (held : Bool) (t : Nat) (k :
      Nat) (k2 : Nat) (a : Nat) (w : Nat), b = s.blk.elapse dt ∧ held = bitN (b.regN Reg.LNK_CTL) 1 ∧ a =
      Reg.LNK_EYE_CTL (l % 5) ∧ (w = (BitVec.toNat (v ||| 1))) ∧ b.lnk.absentAt = some t ∧ b.lanesOf false
      LaneRole.spare = [k] ∧ b.lanesOf true LaneRole.spare = [k2] ∧ b.lnk.ckPresent = false ∧ (b.lnk.state ≠
      LinkState.standalone ∨ b.now < t + 31250000) ∧ b.lnk.state = LinkState.up ∧ l < 5 ∧ b.lnk.lanes.length = 5 ∧
      (b.lane l).rx = LaneRole.active ∧ (b.lane l).tx = LaneRole.active ∧ bitN mask l = false ∧ k2 < 5 ∧ bitN mask k2
      = true ∧ (∀ (n : Nat), n < 5 → n ≠ l → (b.lane n).tx = LaneRole.active → bitN mask n = true) ∧ b.pwr.mode =
      PwrMode.run ∧ b.sys.mode = SysMode.ready ∧ b.domReady 6 = true ∧ b.writeCheck (some i) Reg.LNK_CTL = 0 ∧ held =
      false ∧ b.writeCheck (some i) a = 0 ∧ valueOk a w = true) :=
  ⟨0, 2, 0x1b, ((0:Fin 4)), ((0:Word)), (W { L0 with lnk := { L0.lnk with ckPresent := false, absentAt := some 3 } }),
   _, _, _, _, _, _, _, rfl, rfl, rfl, rfl, rfl, rfl, rfl, by decide +kernel⟩

/-- States that meet the hypotheses of DomainsGateAndWake. -/
theorem meets_DomainsGateAndWake_2 :
    (∃ (dt : Nat) (d : Nat) (i : Fin 4) (s : State) (b : Blk), b = s.blk.elapse dt ∧ b.pwr.mode = PwrMode.run ∧
      b.sys.mode = SysMode.ready ∧ b.readCheck (some i) d = 0 ∧ b.domReady (domOf d) = false ∧ (b.dom (domOf
      d)).powered = false) :=
  ⟨0, Reg.SNS_TRIG_TIME_LO, ((0:Fin 4)), (W (N.updDom 2 (fun x => { x with
     powered := false, ready := false, clamped := true }))), _, rfl, by decide +kernel⟩

/-- States that meet the hypotheses of TheEngineSleepsAndWakes. -/
theorem meets_TheEngineSleepsAndWakes_2 :
    (∃ (dt : Nat) (src : Nat) (s : State) (b : Blk), b = s.blk.elapse dt ∧ b.pwr.mode = PwrMode.rosemary ∧ 0 < src ∧
      src < 5 ∧ bitN (b.regN Reg.PWR_WAKE_EN) src = false) :=
  ⟨0, 2, (W (rg [(Reg.PWR_WAKE_EN, 1)] { N with pwr := { N.pwr with mode := .rosemary } })), _, rfl,
   by decide +kernel⟩

/-- States that meet the hypotheses of SparesTakeOver. -/
theorem meets_SparesTakeOver_2 :
    (∃ (dt : Nat) (u : Nat) (d : Nat) (r : Recovery) (s : State) (b : Blk), b = s.blk.elapse dt ∧
      b.ust.keySpared.contains 0 = false ∧ b.recovery = some r ∧ b.ust.queue = [r] ∧ r.kind = SpareKind.adc ∧ r.u = u
      ∧ u < 8 ∧ b.pd.chans.length = 8 ∧ b.adcSafe u = false ∧ b.doms.length = 26 ∧ d = b.unitDom r.kind r.u ∧ d ∈
      domCodes ∧ b.pwr.mode = PwrMode.run ∧ b.sys.mode = SysMode.ready ∧ d ≠ 0 ∧ d ≠ 1 ∧ (b.dom d).powered = true ∧
      (b.dom d).restartAt = none) :=
  ⟨0, 3, 3, (rc .adc 3), (W { N with jobs := [dj], ust := { N.ust with queue := [rc .adc 3], running := true } }), _,
   rfl, by decide +kernel⟩

/-- States that meet the hypotheses of LampsAreTestedAndProtected. -/
theorem meets_LampsAreTestedAndProtected_2 :
    (∃ (dt : Nat) (ohms : Nat) (i : Fin 4) (v : Word) (s : State) (b : Blk) (x : LedPos) (n : Nat) (n2 : Nat) (n3 :
      Nat) (x2 : LedPos) (t : Q), b = s.blk.elapse dt ∧ n = 1 ∧ n2 = 2 ∧ 1 ≤ x.opens ∧ n3 = 3 ∧ 1 ≤ x.shorts ∧
      x2.opens = 0 ∧ x2.shorts = 0 ∧ b.pwr.mode = PwrMode.run ∧ b.sys.mode = SysMode.ready ∧ b.writeCheck (some i)
      Reg.LITD_RETEST = 0 ∧ b.domReady 4 = true ∧ valueOk Reg.LITD_RETEST (BitVec.toNat v) = true ∧ b.regF
      Reg.LIT_THERM 1 0 = 1 ∧ 200 ≤ ohms ∧ ohms ≤ 1000000 ∧ { n := 95, d := 1 : Q }.le t = true) :=
  ⟨0, 10000, ((1:Fin 4)), ((0x1000:Word)), (W N), _, (({ opens := 1, shorts := 1 } : LedPos)), 1, 2, 3, (({}:LedPos)),
   ((⟨96, 1⟩ : Q)), rfl, by decide +kernel⟩

end More

namespace Hand

/-- A register write of session 1 with a MAC one off, and one with a counter already used and its right MAC. -/
def badMac (b : Blk) : Req :=
  { rq 5 1 [] b with mac := unle (macOf (b.slot 1).ks (counterOf (b.slot 1).counter 1).2 (b.chainAddr % 128) (cmdByte 5 1 true) []) + 1 }
def oldCtr (b : Blk) : Req :=
  { rq 5 1 [] b with
    seq := 5, mac := unle (macOf (b.slot 1).ks (counterOf (b.slot 1).counter 5).2 (b.chainAddr % 128) (cmdByte 5 1 true) []) }
def used5 : Blk := B.updSlot 1 (fun k => { k with counter := 5 })

theorem badMac_forged (b : Blk) :
    macOf (b.slot ((badMac b).slot % 4)).ks (counterOf (b.slot ((badMac b).slot % 4)).counter (badMac b).seq).2
      ((badMac b).addr % 128) (cmdByte 0x05 (badMac b).slot true) (badMac b).payload ≠ le 4 (badMac b).mac :=
  forged _ _ _ _ _
theorem oldCtr_mac (b : Blk) :
    macOf (b.slot ((oldCtr b).slot % 4)).ks (counterOf (b.slot ((oldCtr b).slot % 4)).counter (oldCtr b).seq).2
      ((oldCtr b).addr % 128) (cmdByte 0x05 (oldCtr b).slot true) (oldCtr b).payload = le 4 (oldCtr b).mac := by
  simp only [oldCtr, rq]
  exact le_macOf _ _ _ _ _

/-- States that meet the hypotheses of SessionsRefuseForgedAndReplayedRequests: a forged MAC, then a used counter. -/
theorem meets_SessionsRefuse_forged :
    ∃ (r : Req) (s : State) (b : Blk) (k : SesSlot), b = s.blk.elapse 0 ∧ k = b.slot (r.slot % 4) ∧
      macOf k.ks (counterOf k.counter r.seq).2 (r.addr % 128) (cmdByte 0x05 r.slot true) r.payload ≠ le 4 r.mac ∧
      (b.pwr.mode = .run ∧ b.sys.mode = .ready) ∧ r.link = false ∧ r.addr % 128 = b.chainAddr ∧ b.chainAddr < 0x7E ∧
      r.hasMac = true ∧ (b.ses.kept.getD (keptIdx r) {}).valid = false ∧ k.st = .opened ∧ k.link = false :=
  ⟨badMac (at0 B), W B, at0 B, (at0 B).slot ((badMac (at0 B)).slot % 4), rfl, rfl, badMac_forged (at0 B), by decide +kernel⟩
theorem meets_SessionsRefuse_replayed :
    ∃ (r : Req) (s : State) (b : Blk) (k : SesSlot), b = s.blk.elapse 0 ∧ k = b.slot (r.slot % 4) ∧
      macOf k.ks (counterOf k.counter r.seq).2 (r.addr % 128) (cmdByte 0x05 r.slot true) r.payload = le 4 r.mac ∧
      (b.pwr.mode = .run ∧ b.sys.mode = .ready) ∧ r.link = false ∧ r.addr % 128 = b.chainAddr ∧ b.chainAddr < 0x7E ∧
      r.hasMac = true ∧ (b.ses.kept.getD (keptIdx r) {}).valid = false ∧ k.st = .opened ∧ k.link = false ∧
      (counterOf k.counter r.seq).1 = false :=
  ⟨oldCtr (at0 used5), W used5, at0 used5, (at0 used5).slot ((oldCtr (at0 used5)).slot % 4), rfl, rfl, oldCtr_mac (at0 used5),
    by decide +kernel⟩

/-- A counter that is above the last accepted, one at the far end of what is, and one that is not. -/
theorem meets_SessionsRefuse_counters :
    (counterOf 5 6).1 = true ∧ (counterOf 5 ((5 + 32768) % 65536)).1 = true ∧ (counterOf 5 5).1 = false := by decide +kernel

/-- The hypotheses of the invariants: a state that agrees with its pins, and one that steps. -/
theorem meets_PinsAgreeAfterEveryStep : ∃ (s t : State), step s = .next t := ⟨State.reset, _, rfl⟩

/-- A state with a command waiting whose pins agree. -/
theorem meets_TheQueueRunsOut : ∃ s : State, s.Safe ∧ s.pending.length = 1 := by
  refine ⟨{ W B with pending := [.paceUpdate 0] }, ?_, rfl⟩
  unfold State.Safe Blk.pinsAgree
  decide +kernel

theorem meets_RegisterFileReadsBack_canonical : ∃ b c : Blk, b.regsCanonical ∧ c.regsCanonical ∧ ∀ a, b.reg a = c.reg a :=
  ⟨R, R, (by decide +kernel : regsWf R.regs = true), (by decide +kernel : regsWf R.regs = true), fun _ => rfl⟩

/-- A recovery from a failure stands before one from wear. -/
theorem meets_SparesTakeOver_placed : ∃ (x : Recovery) (m : List Recovery), x.wear = false ∧ m.length = 1 ∧ ∀ y ∈ m, y.wear = true :=
  ⟨{ kind := .adc, u := 3, wear := false, since := 0 }, [{ kind := .row, u := 3, wear := true, since := 0 }], rfl, rfl, by decide⟩

end Hand
namespace Crowd
def jd : List Byte := le 1 2 ++ zeros 31 ++ le 1 5 ++ zeros 3 ++ le 8 9001000 ++ le 8 9100000 ++ le 4 1000 ++ le 4 16 ++ zeros 68
def js : Job := { seq := 6, desc := jd, acceptedAt := 0 }
def smp : PosSample := { time := 9000400, x := 0, y := 0, arrival := 0 }
def crowd (n : Nat) : Blk :=
  { N with jobs := [js], swp := { N.swp with pos := { samples := List.replicate n smp, lastTime := some 900 } } }

theorem crowd_open (n : Nat) : (crowd n).openTau js = (crowd 0).openTau js := rfl

theorem crowd_from (n : Nat) : (crowd n).needsFrom js = ((crowd 0).span js).1 := by
  have h : ¬ 1024 * smp.time ≤ (crowd n).openTau js := by
    rw [crowd_open]
    decide +kernel
  have e : (crowd n).swp.pos.samples.filter (fun p => 1024 * p.time ≤ (crowd n).openTau js) = [] := by
    change List.filter _ (List.replicate n smp) = []
    rw [List.filter_replicate, if_neg (by simpa using h)]
  unfold Blk.needsFrom
  rw [e]
  rfl

theorem crowd_full (n : Nat) : (crowd n).samplesNeeded.length = n := by
  have h : ((crowd 0).span js).1 ≤ smp.time ∧ smp.time ≤ ((crowd 0).span js).2 := by decide +kernel
  have e : (crowd n).sweepJobs.map (fun j => ((crowd n).needsFrom j, ((crowd n).span j).2)) =
      [(((crowd 0).span js).1, ((crowd 0).span js).2)] := by
    have e2 : (crowd 0).sweepJobs = [js] := by decide +kernel
    rw [show (crowd n).sweepJobs = [js] from e2, ← crowd_from n]
    rfl
  unfold Blk.samplesNeeded
  rw [e]
  change (List.filter _ (List.replicate n smp)).length = n
  rw [List.filter_replicate, if_pos (by simpa using h), List.length_replicate]

/-- A full position buffer. -/
theorem meets_PositionsAreAcceptedInOrder_full : ∃ (c : Blk) (t : Int),
    c.swp.pos.lastTime.all (fun u => decide (u < t)) = true ∧ c.sweepsAt t ≠ [] ∧ 4096 ≤ c.samplesNeeded.length :=
  ⟨crowd 4096, 9000500, rfl, (by decide +kernel : (crowd 0).sweepsAt 9000500 ≠ []), Nat.le_of_eq (crowd_full 4096).symm⟩
end Crowd

/-- 00 R3: ID.DEVICE reads without a session: product code 0xF048, stepping C2. -/
theorem test_device : (State.reset.blk.readReg none Reg.ID_DEVICE).1 = some (0, 0xF0484302) := by decide

end Sys2Proof.Tests
end

section
/-! Timers, and registers whose read changes them (O18): the pages a direct access reaches while the engine is in Run, what
a read that reaches its register answers and changes (03 R129; 12 R475), and a timer's firing and pulse (12 R474). -/
namespace Sys2Proof.Machine

/-! ### An access in Run -/

theorem Blk.inRun.serving {b : Blk} (h : b.inRun) : b.serving = true := by
  obtain ⟨hmode, hsys⟩ := h
  simp [Blk.serving, hmode, hsys]

theorem Blk.inRun.reaches {b : Blk} (h : b.inRun) (wr : Bool) (a : Nat) : b.reaches wr a = true := by
  simp [Blk.reaches, h.serving]

/-- Outside Coppice every page of the index is listed (12 R441). -/
theorem Blk.inRun.pageListed {b : Blk} (h : b.inRun) (page : Nat) : b.pageListed page = (pageInfo page).isSome := by
  obtain ⟨-, hsys⟩ := h
  unfold Blk.pageListed
  cases pageInfo page with
  | none => rfl
  | some p => simp [Blk.coppice, hsys]

/-- Any open session may read an aligned register of a page in the index (12 R441). -/
theorem Blk.inRun.readCheck_eq_zero {b : Blk} (h : b.inRun) {who : Who} {a : Nat} (hrole : b.role who ≠ 0)
    (haligned : a % 4 = 0) (hpage : (pageInfo (pageOf a)).isSome = true) : b.readCheck who a = 0 := by
  simp [Blk.readCheck, haligned, h.pageListed, hpage, mayRead, hrole]

theorem Blk.readReg_of_ready {b : Blk} {who : Who} {a : Nat} (hcheck : b.readCheck who a = 0)
    (hready : b.domReady (domOf a) = true) :
    b.readReg who a = (some (0, ((b.reached a).readNow who a).1), ((b.reached a).readNow who a).2) := by
  simp [Blk.readReg, hcheck, hready, Blk.touch, Blk.reached]

/-- A session's read of a register of a ready domain is answered with what the register gives at that tick. -/
theorem Blk.inRun.read1_of_ready {b : Blk} (h : b.inRun) {who : Who} {a : Nat} (hrole : b.role who ≠ 0)
    (haligned : a % 4 = 0) (hpage : (pageInfo (pageOf a)).isSome = true) (hready : b.domReady (domOf a) = true) :
    b.read1 who a = ((b.reached a).readNow who a).2.answer 0 ((b.reached a).readNow who a).1 := by
  simp [Blk.read1, h.reaches, Blk.readReg_of_ready (h.readCheck_eq_zero hrole haligned hpage) hready]

/-! ### What a read itself changes -/

/-- A register with a captured value answers that value, and the capture is used up (03 R129). -/
theorem Blk.readNow_of_captured {b : Blk} {a : Nat} {w : Word} (who : Who) (h : lookupReg b.hiCapture a = some w) :
    b.readNow who a = (w.toNat, { b with hiCapture := eraseReg b.hiCapture a }) := by
  simp [Blk.readNow, takeCapture, h]

/-- A _LO register answers its own value and captures its _HI half (03 R129). -/
theorem Blk.readNow_of_hiOf {b : Blk} {lo hi : Nat} (who : Who) (hfree : lookupReg b.hiCapture lo = none)
    (hhi : hiOf lo = some hi) :
    b.readNow who lo = (b.regValue who lo,
      { b with hiCapture := insertReg b.hiCapture hi (BitVec.ofNat 32 (b.regValue who hi)) }) := by
  simp [Blk.readNow, takeCapture, hfree, hhi]

/-- TIMERS is read as it is stored. -/
theorem Blk.regValue_timers (b : Blk) (who : Who) : b.regValue who Reg.GPC_TIMERS = b.regN Reg.GPC_TIMERS := rfl

/-- A read of TIMERS restarts its firings (12 R475). -/
theorem Blk.readNow_timers {b : Blk} (who : Who) (hfree : lookupReg b.hiCapture Reg.GPC_TIMERS = none) :
    b.readNow who Reg.GPC_TIMERS = (b.regN Reg.GPC_TIMERS, b.setF Reg.GPC_TIMERS 15 8 0) := by
  have hhi : hiOf Reg.GPC_TIMERS = none := rfl
  simp [Blk.readNow, takeCapture, hfree, hhi, Blk.regValue_timers]

/-! ### Timestamp pairs (03 R129) -/

/-- Both halves of a pair are aligned registers of one page of the index. -/
theorem hiOf_pair {lo hi : Nat} (h : hiOf lo = some hi) :
    lo % 4 = 0 ∧ hi % 4 = 0 ∧ pageOf hi = pageOf lo ∧ (pageInfo (pageOf lo)).isSome = true := by
  unfold hiOf at h
  split at h
  · obtain rfl := Option.some.inj h
    rename_i hlo
    rcases hlo with rfl | rfl | rfl | rfl <;> decide
  · cases h

theorem domOf_eq_of_pageOf_eq {a b : Nat} (h : pageOf a = pageOf b) : domOf a = domOf b := by
  unfold domOf
  rw [h]

/-! ### A timer's firing and pulse (12 R474) -/

theorem upd_eq_set {α : Type} {l : List α} {i : Nat} {x : α} (h : l[i]? = some x) (f : α → α) :
    upd l i f = l.set i (f x) := by
  induction l generalizing i with
  | nil => simp at h
  | cons a t ih => cases i with
    | zero =>
      obtain rfl : a = x := by simpa using h
      rfl
    | succ i => simpa [upd] using ih (by simpa using h)

theorem Blk.updTimer_eq_set {b : Blk} {n : Nat} {k : TimerSt} (h : b.gpc.timers[n]? = some k) (f : TimerSt → TimerSt) :
    b.updTimer n f = { b with gpc := { b.gpc with timers := b.gpc.timers.set n (f k) } } := by
  simp only [Blk.updTimer, upd_eq_set h]

/-- A trigger no job names starts nothing. -/
@[simp] theorem Blk.acceptTrigger_nil (b : Blk) (start : Nat) : b.acceptTrigger start [] = b := rfl

/-- A timer that is due fires: it is shown, its pulse starts, and the jobs that name it are triggered. -/
theorem timerFire_of_due {b : Blk} {n : Nat} {k : TimerSt} {t : Nat} (hserving : b.serving = true)
    (hk : b.gpc.timers[n]? = some k) (hnext : k.next = some t) (hdue : t ≤ b.now) :
    timerFire n b =
      ((b.updTimer n (fun _ =>
          { next := if bitN (b.regN (Reg.GPC_T_CTL n)) 1 then some (t + max 1 (b.regN (Reg.GPC_T_PERIOD n))) else none,
            pulse := b.timerPin n, firedAt := b.now })).setF Reg.GPC_TIMERS (8 + n) (8 + n) 1).acceptTrigger
        (b.now + 40) (b.jobsNaming (0x10 + n)) := by
  have htimer : (b.gpc.timers.getD n {}).next = some t := by simp [hk, hnext]
  simp only [timerFire, htimer, hserving, Nat.not_lt.mpr hdue]
  rfl

/-- A pulse that has lasted 313 ticks ends. -/
theorem timerPulseEnd_of_over {b : Blk} {n : Nat} {k : TimerSt} (hk : b.gpc.timers[n]? = some k)
    (hpulse : k.pulse = true) (hover : k.firedAt + 313 ≤ b.now) :
    timerPulseEnd n b = b.updTimer n (fun k => { k with pulse := false }) := by
  simp [timerPulseEnd, hk, hpulse, hover]

/-! ### The commands -/

theorem exec_timerFire (dt n : Nat) (s : State) :
    exec (.timerFire dt n) s = .next (s.after (timerFire n (s.blk.elapse dt))) := rfl

theorem exec_timerPulseEnd (dt n : Nat) (s : State) :
    exec (.timerPulseEnd dt n) s = .next (s.after (timerPulseEnd n (s.blk.elapse dt))) := rfl

theorem exec_timersRead (dt : Nat) (who : Who) (s : State) :
    exec (.timersRead dt who) s = .next (s.after ((s.blk.elapse dt).read1 who Reg.GPC_TIMERS)) := rfl

theorem exec_timestampLoRead (dt : Nat) (who : Who) (a : Nat) (s : State) :
    exec (.timestampLoRead dt who a) s = .next (s.after ((s.blk.elapse dt).read1 who a)) := rfl

/-- Settles O18: a due timer's firing and the end of its pulse are changes of the timer's entry and of TIMERS; a read reaches
its register, since both halves of a pair stand on one page of the index, and does there what the register's kind says. -/
theorem timersAndTimestampsAreRead : Obligations.TimersAndTimestampsAreRead := by
  unfold Obligations.TimersAndTimestampsAreRead
  refine ⟨?timers, ?timestamps⟩
  case timers =>
    intro dt i n s k t b put next _ hk
    refine ⟨fun hrun hnext hdue hjobs => ?fires, fun hpulse hover => ?pulseEnds, fun hrun hrole hready hfree => ?read⟩
    case fires =>
      rw [exec_timerFire, timerFire_of_due hrun.serving hk hnext hdue, hjobs, Blk.acceptTrigger_nil, Blk.updTimer_eq_set hk]
    case pulseEnds =>
      rw [exec_timerPulseEnd, timerPulseEnd_of_over hk hpulse hover, Blk.updTimer_eq_set hk]
    case read =>
      rw [exec_timersRead, hrun.read1_of_ready (a := Reg.GPC_TIMERS) hrole rfl rfl hready,
        Blk.readNow_timers (b := b.reached Reg.GPC_TIMERS) _ hfree]
      rfl
  case timestamps =>
    intro dt i lo hi s b hrun hrole hhi hready
    obtain ⟨hlo4, hhi4, hpage, hindex⟩ := hiOf_pair hhi
    refine ⟨fun hfree => ?low, fun w hw => ?high⟩
    case low =>
      rw [exec_timestampLoRead, hrun.read1_of_ready hrole hlo4 hindex hready,
        Blk.readNow_of_hiOf (b := b.reached lo) _ hfree hhi]
      rfl
    case high =>
      rw [← domOf_eq_of_pageOf_eq hpage] at hready
      rw [exec_timestampLoRead, hrun.read1_of_ready hrole hhi4 (hpage ▸ hindex) hready,
        Blk.readNow_of_captured (b := b.reached hi) _ hw]
      rfl

end Sys2Proof.Machine
end

section
/-! Claims (O17): a direct write to a ready domain while the engine is in Run, the claim registers of the GPC page (12 R467), and
what a take and a release do, case by case, in the order of 12 R469, R470 and log 54. -/
namespace Sys2Proof.Machine

/-! ### A direct write in Run -/

/-- An access that takes effect at once, and is neither ignored nor staged in a bundle. -/
def Access.isDirect (acc : Access) : Prop := acc ≠ .ro ∧ acc ≠ .rsv ∧ acc ≠ .rwb

theorem Blk.writeReg_of_ready {b : Blk} {who : Who} {a : Nat} {v : Word} (hcheck : b.writeCheck who a = 0)
    (hready : b.domReady (domOf a) = true) (hacc : (accessOf a).isDirect) (hvalue : valueOk a v.toNat = true) :
    b.writeReg who a v = (some (((b.reached a).markChanged a).writeNow who a v.toNat).1,
      (((b.reached a).markChanged a).writeNow who a v.toNat).2) := by
  obtain ⟨hro, hrsv, hrwb⟩ := hacc
  simp [Blk.writeReg, hcheck, hready, hro, hrsv, hrwb, hvalue, Blk.touch, Blk.reached]

/-- A session's direct write that passes its checks is answered with what the register does with the value. -/
theorem Blk.inRun.write1_of_ready {b : Blk} (h : b.inRun) {who : Who} {a : Nat} {v : Word} (hcheck : b.writeCheck who a = 0)
    (hready : b.domReady (domOf a) = true) (hacc : (accessOf a).isDirect) (hvalue : valueOk a v.toNat = true) :
    b.write1 who a v = (((b.reached a).markChanged a).writeNow who a v.toNat).2.answer
      (((b.reached a).markChanged a).writeNow who a v.toNat).1 0 := by
  simp [Blk.write1, h.reaches, Blk.writeReg_of_ready hcheck hready hacc hvalue]

/-! ### The claim registers (12 R467) -/

theorem claimReg_eq (res : Nat) : claimReg res = 0x16100 + 4 * res := rfl

theorem pageOf_claimReg {res : Nat} (h : res < 33) : pageOf (claimReg res) = 0x58 := by
  rw [pageOf, claimReg_eq]
  omega

theorem offOf_claimReg {res : Nat} (h : res < 33) : offOf (claimReg res) = 0x100 + 4 * res := by
  rw [offOf, claimReg_eq]
  omega

theorem domOf_claimReg {res : Nat} (h : res < 33) : domOf (claimReg res) = 7 := by
  unfold domOf
  rw [pageOf_claimReg h]
  rfl

theorem accessOf_claimReg {res : Nat} (h : res < 33) : accessOf (claimReg res) = .claim := by
  revert res
  decide

/-- A claim register configures no resource, so no claim guards it. -/
theorem configResource_claimReg (res : Nat) : configResource (claimReg res) = none := by
  have hpins : ¬claimReg res < Reg.GPC_GP_CFG 8 := Nat.not_lt.mpr (Nat.le_trans (by decide) (Nat.le_add_right (claimReg 0) _))
  have htimers : ¬claimReg res < Reg.GPC_T_CTL 8 := Nat.not_lt.mpr (Nat.le_trans (by decide) (Nat.le_add_right (claimReg 0) _))
  rw [configResource, if_neg (fun h => hpins h.2), if_neg (fun h => htimers h.2)]

/-- The three commands of a claim register keep to its fields. -/
theorem valueOk_claimReg {res cmd : Nat} (h : res < 33) (hcmd : cmd ∈ [1, 2, 3]) :
    valueOk (claimReg res) (cmd * 0x100) = true := by
  have hall : ∀ r < 33, ∀ c ∈ [1, 2, 3], valueOk (claimReg r) (c * 0x100) = true := by decide
  exact hall res h cmd hcmd

/-- Any open session may write a claim register (13 R506). -/
theorem Blk.inRun.writeCheck_claimReg {b : Blk} (h : b.inRun) {who : Who} {res : Nat} (hrole : b.role who ≠ 0)
    (hres : res < 33) : b.writeCheck who (claimReg res) = 0 := by
  have haligned : claimReg res % 4 = 0 := by rw [claimReg_eq]; omega
  have hlisted : b.pageListed (pageOf (claimReg res)) = true := by
    rw [h.pageListed, pageOf_claimReg hres]
    rfl
  simp [Blk.writeCheck, haligned, hlisted, mayWrite, hrole, accessOf_claimReg hres, configResource_claimReg]

theorem Blk.markChanged_claimReg (b : Blk) {res : Nat} (h : res < 33) : b.markChanged (claimReg res) = b := by
  simp [Blk.markChanged, directSetting, accessOf_claimReg h]

theorem Blk.writeNow_claimReg (b : Blk) (who : Who) {res : Nat} (v : Nat) (h : res < 33) :
    b.writeNow who (claimReg res) v = b.claimWrite (b.role who) res (fld v 9 8) := by
  have hblock : ¬offOf (claimReg res) < 0x40 := by rw [offOf_claimReg h]; omega
  have hres : (claimReg res - claimReg 0) / 4 = res := by rw [claimReg_eq, claimReg_eq]; omega
  simp [Blk.writeNow, hblock, accessOf_claimReg h, hres]

/-- A command written to a claim register is carried out for the writer's role. -/
theorem Blk.inRun.write1_claimReg {b : Blk} (h : b.inRun) {who : Who} {res cmd : Nat} {v : Word} (hrole : b.role who ≠ 0)
    (hres : res < 33) (hready : b.domReady 7 = true) (hcmd : cmd ∈ [1, 2, 3]) (hv : v.toNat = cmd * 0x100) :
    b.write1 who (claimReg res) v = ((b.reached (claimReg res)).claimWrite (b.role who) res cmd).2.answer
      ((b.reached (claimReg res)).claimWrite (b.role who) res cmd).1 0 := by
  have hdirect : (accessOf (claimReg res)).isDirect := by simp [Access.isDirect, accessOf_claimReg hres]
  have hfld : fld (cmd * 0x100) 9 8 = cmd := by
    simp only [List.mem_cons, List.not_mem_nil, or_false] at hcmd
    rcases hcmd with rfl | rfl | rfl <;> rfl
  rw [← domOf_claimReg hres] at hready
  rw [h.write1_of_ready (h.writeCheck_claimReg hrole hres) hready hdirect (hv ▸ valueOk_claimReg hres hcmd),
    Blk.markChanged_claimReg _ hres, Blk.writeNow_claimReg _ _ _ hres, hv, hfld]
  rfl

/-! ### Takes (12 R469) -/

/-- A hardware feature owns the resource (12 R467). -/
def Blk.featureOwns (b : Blk) (res : Nat) : Prop := b.owner res = 0x10 ∨ b.owner res = 0x11

section Cases
variable {b : Blk} {role res : Nat}

theorem Blk.claimTake_of_own (hown : b.owner res = role) : b.claimTake role res = (0, b) := by
  simp [Blk.claimTake, hown]

theorem Blk.claimTake_of_other (hown : b.owner res ≠ role) (htaken : b.owner res ≠ 0) :
    b.claimTake role res = (0xB010, b.raise 0xB010) := by
  simp [Blk.claimTake, hown, htaken]

/-- A pool taken anew numbers its records from 0 (06 R241). -/
theorem Blk.claimTake_of_free (hrole : role ≠ 0) (hfree : b.owner res = 0) :
    b.claimTake role res = (0,
      if 16 ≤ res ∧ res < 32 then (b.setF (claimReg res) 7 0 role).updPool (res - 16) (fun p => { p with nextSeq := 0 })
      else b.setF (claimReg res) 7 0 role) := by
  simp [Blk.claimTake, hfree, Ne.symm hrole]

/-! ### Releases, in the order of their checks (12 R469, R470; log 54) -/

variable {force : Bool}

theorem Blk.claimRelease_of_feature (hfeature : b.featureOwns res) :
    b.claimRelease role res force = (0xB011, b.raise 0xB011) := by
  unfold Blk.featureOwns at hfeature
  simp [Blk.claimRelease, hfeature]

theorem Blk.claimRelease_force_of_notService (hfeature : ¬b.featureOwns res) (hrole : role ≠ 2) :
    b.claimRelease role res true = (0xB003, b.raise 0xB003) := by
  unfold Blk.featureOwns at hfeature
  simp [Blk.claimRelease, hfeature, hrole]

theorem Blk.claimRelease_of_notOwner (hfeature : ¬b.featureOwns res) (hown : b.owner res ≠ role) :
    b.claimRelease role res false = (0xB012, b.raise 0xB012) := by
  unfold Blk.featureOwns at hfeature
  simp [Blk.claimRelease, hfeature, hown]

/-- The role may free the resource: its owner by an ordinary release, Service by force; a free resource nobody. -/
def Blk.mayFree (b : Blk) (role res : Nat) (force : Bool) : Prop :=
  b.owner res ≠ 0 ∧ if force then role = 2 else b.owner res = role

/-- No check before the use of the resource refuses what the role may free. -/
theorem Blk.claimRelease_of_mayFree (hfeature : ¬b.featureOwns res) (hmay : b.mayFree role res force) :
    b.claimRelease role res force =
      if b.claimInUse res then (0xB011, b.raise 0xB011) else (0, b.setF (claimReg res) 7 0 0) := by
  obtain ⟨htaken, hwho⟩ := hmay
  unfold Blk.featureOwns at hfeature
  have hservice : ¬(force = true ∧ role ≠ 2) := fun ⟨hforce, hrole⟩ => hrole (by simpa [hforce] using hwho)
  have howner : ¬(b.owner res = 0 ∨ (force = false ∧ b.owner res ≠ role)) := by
    rintro (hfree | ⟨hplain, hother⟩)
    · exact htaken hfree
    · exact hother (by simpa [hplain] using hwho)
  cases huse : b.claimInUse res <;> simp [Blk.claimRelease, hfeature, hservice, howner, huse]

theorem Blk.claimRelease_of_unused (hfeature : ¬b.featureOwns res) (hmay : b.mayFree role res force)
    (huse : b.claimInUse res = false) : b.claimRelease role res force = (0, b.setF (claimReg res) 7 0 0) := by
  rw [Blk.claimRelease_of_mayFree hfeature hmay, huse]
  rfl

theorem Blk.claimRelease_of_inUse (hfeature : ¬b.featureOwns res) (hmay : b.mayFree role res force)
    (huse : b.claimInUse res = true) : b.claimRelease role res force = (0xB011, b.raise 0xB011) := by
  rw [Blk.claimRelease_of_mayFree hfeature hmay, huse]
  rfl

end Cases

/-! ### The commands -/

theorem exec_claimTake (dt : Nat) (who : Who) (res : Nat) (s : State) :
    exec (.claimTake dt who res) s = .next (s.after ((s.blk.elapse dt).write1 who (claimReg (res % 33)) 0x100)) := rfl

theorem exec_claimRelease (dt : Nat) (who : Who) (res : Nat) (s : State) :
    exec (.claimRelease dt who res) s = .next (s.after ((s.blk.elapse dt).write1 who (claimReg (res % 33)) 0x200)) := rfl

theorem exec_claimForceRelease (dt : Nat) (who : Who) (res : Nat) (s : State) :
    exec (.claimForceRelease dt who res) s = .next (s.after ((s.blk.elapse dt).write1 who (claimReg (res % 33)) 0x300)) := rfl

theorem Blk.claimWrite_take (b : Blk) (role res : Nat) : b.claimWrite role res 1 = b.claimTake role res := rfl

theorem Blk.claimWrite_release (b : Blk) (role res : Nat) : b.claimWrite role res 2 = b.claimRelease role res false := rfl

theorem Blk.claimWrite_forceRelease (b : Blk) (role res : Nat) : b.claimWrite role res 3 = b.claimRelease role res true := rfl

/-- Settles O17: a write to a claim register reaches the take or the release of the writer's role, since any open session may
write it; each then falls under one case of its own. -/
theorem claimsChangeHands : Obligations.ClaimsChangeHands := by
  unfold Obligations.ClaimsChangeHands
  intro dt i res s b r own hw hrun hready hres hroles
  have hrole : b.role (some i) ≠ 0 := by
    intro h
    simp [h] at hroles
  have hfeature : hw = true ↔ r.featureOwns res := by
    simp only [hw, Bool.or_eq_true, decide_eq_true_eq]
    rfl
  have hplain : hw = false → ¬r.featureOwns res := fun h hf => Bool.eq_false_iff.mp h (hfeature.mpr hf)
  -- The touch of the domain changes neither owner nor use, so what holds of `b` holds of `r` as well.
  have hownFree : b.owner res = b.role (some i) → r.mayFree (b.role (some i)) res false :=
    fun hown => ⟨hown ▸ hrole, hown⟩
  have hownPlain : b.owner res = b.role (some i) → ¬r.featureOwns res := fun hown hf => by
    have hcode : b.role (some i) = 0x10 ∨ b.role (some i) = 0x11 := hown ▸ hf
    rcases hcode with h | h <;> simp [h] at hroles
  have hforceFree : b.role (some i) = 2 → b.owner res ≠ 0 → r.mayFree (b.role (some i)) res true :=
    fun hrole2 htaken => ⟨htaken, hrole2⟩
  rw [exec_claimTake, exec_claimRelease, exec_claimForceRelease, Nat.mod_eq_of_lt hres,
    hrun.write1_claimReg (cmd := 1) (v := 0x100) hrole hres hready (by decide) rfl, Blk.claimWrite_take,
    hrun.write1_claimReg (cmd := 2) (v := 0x200) hrole hres hready (by decide) rfl, Blk.claimWrite_release,
    hrun.write1_claimReg (cmd := 3) (v := 0x300) hrole hres hready (by decide) rfl, Blk.claimWrite_forceRelease]
  refine ⟨fun hfree => ?takeFree, fun hown => ?takeOwn, fun htaken hown => ?takeOther, fun hown huse => ?releaseOwn,
    fun hkept => ?releaseKept, fun hhw hown => ?releaseOther, fun hrole2 hhw htaken huse => ?forceTaken,
    fun hrole2 hhw => ?forceNotService, fun hkept => ?forceKept⟩
  case takeFree => rw [Blk.claimTake_of_free (b := r) hrole hfree]
  case takeOwn => rw [Blk.claimTake_of_own (b := r) hown]
  case takeOther => rw [Blk.claimTake_of_other (b := r) hown htaken]; rfl
  case releaseOwn => rw [Blk.claimRelease_of_unused (b := r) (hownPlain hown) (hownFree hown) huse]
  case releaseKept =>
    rcases hkept with hhw | ⟨hown, huse⟩
    · rw [Blk.claimRelease_of_feature (hfeature.mp hhw)]; rfl
    · rw [Blk.claimRelease_of_inUse (b := r) (hownPlain hown) (hownFree hown) huse]; rfl
  case releaseOther => rw [Blk.claimRelease_of_notOwner (b := r) (hplain hhw) hown]; rfl
  case forceTaken => rw [Blk.claimRelease_of_unused (b := r) (hplain hhw) (hforceFree hrole2 htaken) huse]
  case forceNotService => rw [Blk.claimRelease_force_of_notService (b := r) (hplain hhw) hrole2]; rfl
  case forceKept =>
    by_cases hf : r.featureOwns res
    · rw [Blk.claimRelease_of_feature hf]; rfl
    · obtain ⟨hrole2, htaken, huse⟩ := hkept.resolve_left (fun hhw => hf (hfeature.mp hhw))
      rw [Blk.claimRelease_of_inUse (b := r) hf (hforceFree hrole2 htaken) huse]; rfl

end Sys2Proof.Machine
end

section
/-! Time kept and set (O57): what a field of a register holds after another is set, the window and the samples of the always-on
oscillator (16 R611, R612), a direct write to a command register of the TMB page (16 R614, R617, R618), and the alarm (16 R618). -/
namespace Sys2Proof.Machine

/-! ### Fields by their bits -/

theorem bitN_eq_testBit (n i : Nat) : bitN n i = n.testBit i := by
  rw [Nat.testBit_eq_decide_div_mod_eq]
  rfl

theorem testBit_fld (n hi lo j : Nat) : (fld n hi lo).testBit j = (decide (j < hi + 1 - lo) && n.testBit (lo + j)) := by
  rw [fld, Nat.testBit_mod_two_pow, Nat.testBit_div_two_pow, Nat.add_comm j lo]

/-- A number is its bits below a field, the field's own and those above it. -/
theorem putFld_eq_two_pow_mul_add (n hi lo v : Nat) : putFld n hi lo v =
    2 ^ lo * (2 ^ (hi + 1 - lo) * (n / 2 ^ lo / 2 ^ (hi + 1 - lo)) + v % 2 ^ (hi + 1 - lo)) + n % 2 ^ lo := by
  have hsplit : n = 2 ^ lo * (2 ^ (hi + 1 - lo) * (n / 2 ^ lo / 2 ^ (hi + 1 - lo)) + fld n hi lo) + n % 2 ^ lo := by
    rw [fld, Nat.div_add_mod, Nat.div_add_mod]
  unfold putFld
  generalize fld n hi lo = f at hsplit ⊢
  generalize n / 2 ^ lo / 2 ^ (hi + 1 - lo) = above at hsplit ⊢
  generalize n % 2 ^ lo = below at hsplit ⊢
  subst hsplit
  rw [Nat.mul_add, Nat.mul_add, Nat.mul_comm f, Nat.mul_comm (v % _)]
  omega

theorem testBit_putFld {hi lo : Nat} (h : lo ≤ hi) (n v j : Nat) :
    (putFld n hi lo v).testBit j = if lo ≤ j ∧ j ≤ hi then v.testBit (j - lo) else n.testBit j := by
  have hbelow : n % 2 ^ lo < 2 ^ lo := Nat.mod_lt _ (Nat.two_pow_pos _)
  have hfield : v % 2 ^ (hi + 1 - lo) < 2 ^ (hi + 1 - lo) := Nat.mod_lt _ (Nat.two_pow_pos _)
  rw [putFld_eq_two_pow_mul_add, Nat.testBit_two_pow_mul_add _ hbelow, Nat.testBit_two_pow_mul_add _ hfield]
  by_cases hlo : j < lo
  · simp [hlo, Nat.not_le.mpr hlo, Nat.testBit_mod_two_pow]
  · by_cases hhi : j ≤ hi
    · have hin : j - lo < hi + 1 - lo := by omega
      simp [hlo, Nat.not_lt.mp hlo, hhi, hin, Nat.testBit_mod_two_pow]
    · have hout : ¬ j - lo < hi + 1 - lo := by omega
      have hplace : j - lo - (hi + 1 - lo) + (hi + 1 - lo) + lo = j := by omega
      simp [hlo, hhi, hout, Nat.testBit_div_two_pow, hplace]

section Fields
variable (b : Blk) (a : Nat) {hi lo : Nat} (v : Nat)

theorem Blk.testBit_regN_setF (hle : lo ≤ hi) {j : Nat} (hj : j < 32) : ((b.setF a hi lo v).regN a).testBit j =
    if lo ≤ j ∧ j ≤ hi then v.testBit (j - lo) else (b.regN a).testBit j := by
  rw [Blk.setF_eq, Blk.regN, Blk.reg_setReg_same, BitVec.toNat_ofNat, Nat.testBit_mod_two_pow, testBit_putFld hle]
  simp [hj]

theorem Blk.regF_setF_same (hle : lo ≤ hi) (hhi : hi < 32) : (b.setF a hi lo v).regF a hi lo = v % 2 ^ (hi + 1 - lo) := by
  refine Nat.eq_of_testBit_eq fun j => ?_
  rw [Blk.regF, testBit_fld, Nat.testBit_mod_two_pow]
  by_cases hj : j < hi + 1 - lo
  · have hin : lo ≤ lo + j ∧ lo + j ≤ hi := by omega
    rw [Blk.testBit_regN_setF b a v hle (by omega), if_pos hin, Nat.add_sub_cancel_left]
  · simp [hj]

/-- A field outside the one that is set keeps its value. -/
theorem Blk.regF_setF_other (hle : lo ≤ hi) {hi' lo' : Nat} (hhi : hi' < 32) (h : hi < lo' ∨ hi' < lo) :
    (b.setF a hi lo v).regF a hi' lo' = b.regF a hi' lo' := by
  refine Nat.eq_of_testBit_eq fun j => ?_
  rw [Blk.regF, Blk.regF, testBit_fld, testBit_fld]
  by_cases hj : j < hi' + 1 - lo'
  · have hout : ¬(lo ≤ lo' + j ∧ lo' + j ≤ hi) := by omega
    rw [Blk.testBit_regN_setF b a v hle (by omega), if_neg hout]
  · simp [hj]

theorem Blk.bitN_setF_same {i : Nat} (hi : i < 32) : bitN ((b.setF a i i v).regN a) i = v.testBit 0 := by
  rw [bitN_eq_testBit, Blk.testBit_regN_setF b a v (Nat.le_refl i) hi, if_pos ⟨Nat.le_refl i, Nat.le_refl i⟩, Nat.sub_self]

theorem Blk.bitN_setF_other {i k : Nat} (hk : k < 32) (h : k ≠ i) :
    bitN ((b.setF a i i v).regN a) k = bitN (b.regN a) k := by
  have hout : ¬(i ≤ k ∧ k ≤ i) := by omega
  rw [bitN_eq_testBit, Blk.testBit_regN_setF b a v (Nat.le_refl i) hk, if_neg hout, bitN_eq_testBit]

end Fields

/-! ### A raised code latches its bit (12 R449) -/

/-- A notice lost is counted outside every page's header, so an event's own bit stands in its page's EVT_LATCH. -/
theorem Blk.bitN_event_latch (b : Blk) {page bit code : Nat} (hbit : bit < 32) :
    bitN ((b.event page bit code).regN (Reg.HDR_EVT_LATCH page)) bit = true := by
  have hlost : Reg.HDR_EVT_LATCH page ≠ Reg.EVT_LOST := fun h => by
    have haddr : page * 0x400 + 0x14 = 0x1464 := h
    omega
  have hset : ∀ c : Blk, bitN ((c.setN (Reg.HDR_EVT_LATCH page) (putBit (c.regN (Reg.HDR_EVT_LATCH page)) bit true)).regN
      (Reg.HDR_EVT_LATCH page)) bit = true := fun c => Blk.bitN_setF_same c _ _ hbit
  unfold Blk.event
  dsimp only
  split
  · rw [Blk.regN, Blk.reg_notice _ _ _ _ hlost]
    exact hset _
  · exact hset _

/-! ### How a command is shown to end -/

theorem leaves_of_exec {i : Instr} {s : State} {c : Blk} {P : Blk → Prop} (h : exec i s = .next (s.after c))
    (hP : P c.settle) : Leaves i s P :=
  ⟨s.after c, h, rfl, hP⟩

/-! ### The always-on oscillator (16 R611, R612) -/

theorem roundHalfUp_toNat (n d : Nat) : (roundHalfUp n d).toNat = (2 * n + d) / (2 * d) := by
  unfold roundHalfUp
  norm_cast

/-- A window that is complete gives the period: its ticks over its cycles, rounded half up to Q8.24 and kept in 32 bits. -/
theorem aonWindow_of_complete {b : Blk} {cycles : Nat} (temp : Nat) (hring : b.time.ringRuns = true) (hcycles : cycles ≠ 0)
    (hwindow : b.time.windowFrom + 31250000 ≤ b.now) :
    aonWindow cycles temp b =
      ({ b with time := { b.time with
          period := min ((31250000 * 2 ^ 25 + cycles) / (2 * cycles)) (2 ^ 32 - 1), nominal := false,
          windowAt := some b.now, windowFrom := b.now, aon := (b.time.aon + cycles) % 2 ^ 48 } } : Blk).setN
        Reg.TMB_TEMP (temp % 65536 + 65536 * (temp % 65536)) := by
  have hperiod : sat 32 (roundHalfUp ((31250000 * 2 ^ 24 : Nat) : Int) cycles).toNat =
      min ((31250000 * 2 ^ 25 + cycles) / (2 * cycles)) (2 ^ 32 - 1) := by
    rw [roundHalfUp_toNat]
    rfl
  have hguard : (!b.time.ringRuns || decide (cycles = 0) || decide (b.now < b.time.windowFrom + 31250000)) = false := by
    simp [hring, hcycles, Nat.not_lt.mpr hwindow]
  simp only [aonWindow, hperiod, hguard]
  rfl

/-- TMB.TEMP with the same temperature in both its fields. -/
theorem Blk.regF_temp_both (b : Blk) {t : Nat} (ht : t < 65536) :
    (b.setN Reg.TMB_TEMP (t + 65536 * t)).regF Reg.TMB_TEMP 15 0 = t ∧
    (b.setN Reg.TMB_TEMP (t + 65536 * t)).regF Reg.TMB_TEMP 31 16 = t := by
  have hword : (b.setN Reg.TMB_TEMP (t + 65536 * t)).regN Reg.TMB_TEMP = t + 65536 * t := by
    rw [Blk.setN_eq, Blk.regN, Blk.reg_setReg_same, BitVec.toNat_ofNat]
    omega
  rw [Blk.regF, Blk.regF, hword]
  constructor
  · change (t + 65536 * t) / 1 % 65536 = t
    omega
  · change (t + 65536 * t) / 65536 % 65536 = t
    rw [Nat.add_mul_div_left t t (by decide), Nat.div_eq_of_lt ht, Nat.zero_add, Nat.mod_eq_of_lt ht]

/-- A sample taken while the ring stands is shown, and marks the sleep when it lies beyond 5 °C of the window's. -/
theorem aonTempSample_of_stopped {b : Blk} (temp : Nat) (hring : b.time.ringRuns = false) :
    aonTempSample temp b = { b.setF Reg.TMB_TEMP 15 0 temp with time := { b.time with
      tempOk := b.time.tempOk && decide ((sgn 16 temp - sgn 16 (b.regF Reg.TMB_TEMP 31 16)).natAbs ≤ 1280) } } := by
  unfold aonTempSample
  rw [hring]
  rfl

/-! ### A write to a command register of the TMB page -/

/-- The registers of the TMB page whose write is a command of 16 R614, R617 or R618. -/
def timebaseCmds : List Nat := [Reg.TMB_SET_HI, Reg.TMB_ALARM_HI, Reg.TMB_ALARM_CTL, Reg.TMB_CTL]

/-- A command register of the TMB page lies in AON, takes a direct write, and is no setting of what runs. -/
theorem timebaseCmds_spec {a : Nat} (h : a ∈ timebaseCmds) : domOf a = 0 ∧ (accessOf a).isDirect ∧ accessOf a ≠ .claim ∧
    directSetting a = false ∧ ¬offOf a < 0x40 := by
  simp only [timebaseCmds, List.mem_cons, List.not_mem_nil, or_false] at h
  rcases h with rfl | rfl | rfl | rfl <;> exact ⟨rfl, ⟨by decide, by decide, by decide⟩, by decide, rfl, by decide⟩

/-- A command written to the TMB page by who may do so is carried out, and answered with its own status. -/
theorem Blk.inRun.write1_timebase {b : Blk} (h : b.inRun) {who : Who} {a : Nat} {v : Word} {r : Nat × Blk}
    (ha : a ∈ timebaseCmds) (hcheck : b.writeCheck who a = 0) (hready : b.domReady 0 = true)
    (hvalue : valueOk a v.toNat = true) (hcmd : (b.reached a).writeCmd a v.toNat = some r) :
    b.write1 who a v = r.2.answer r.1 0 := by
  obtain ⟨hdom, hdirect, hclaim, hsetting, hblock⟩ := timebaseCmds_spec ha
  have hmark : (b.reached a).markChanged a = b.reached a := by simp [Blk.markChanged, hsetting]
  rw [← hdom] at hready
  rw [h.write1_of_ready hcheck hready hdirect hvalue, hmark]
  simp [Blk.writeNow, hblock, hclaim, hcmd]

/-- Every word keeps to a field of 32 bits. -/
theorem fieldsOk_word (v : Word) : fieldsOk v.toNat [⟨31, 0, 0, 0xffffffff⟩] = true := by
  have hfld : fld v.toNat 31 0 = v.toNat := by
    unfold fld
    omega
  have hrest : putFld v.toNat 31 0 0 = 0 := by
    rw [putFld, hfld]
    omega
  have hmax : v.toNat ≤ 0xffffffff := by omega
  simp [fieldsOk, hfld, hrest, hmax]

theorem valueOk_setHi (v : Word) : valueOk Reg.TMB_SET_HI v.toNat = true := by
  have hfits : valueFits Reg.TMB_SET_HI v.toNat = fieldsOk v.toNat [⟨31, 0, 0, 0xffffffff⟩] := Bool.and_true _
  rw [valueOk, hfits, fieldsOk_word]
  rfl

theorem valueOk_alarmHi (v : Word) : valueOk Reg.TMB_ALARM_HI v.toNat = true := by
  have hfits : valueFits Reg.TMB_ALARM_HI v.toNat = fieldsOk v.toNat [⟨31, 0, 0, 0xffffffff⟩] := Bool.and_true _
  rw [valueOk, hfits, fieldsOk_word]
  rfl

/-! ### The counter set (16 R617) -/

/-- The counter moves by `d` and every kept time with it; time is valid and no bound stands. -/
def Blk.timeMoved (b : Blk) (d : Nat) : Blk :=
  { (b.shiftTime d).fromNow with time := { (b.shiftTime d).fromNow.time with valid := true, uncert := 0 } }

theorem Blk.timeMoved_spec (b : Blk) (d : Nat) : (b.timeMoved d).now = b.now + d ∧ (b.timeMoved d).time.valid = true ∧
    (b.timeMoved d).time.uncert = 0 ∧ (b.timeMoved d).regs = b.regs := ⟨rfl, rfl, rfl, rfl⟩

/-- `t` names the value written: compared by unfolding, its product by 2^32 is too deep for the kernel. -/
theorem Blk.setTime_of_permitted {b : Blk} {hi t : Nat} (ht : b.time.setLo + hi * 2 ^ 32 = t) (hvalid : b.time.valid = false)
    (hjobs : b.jobs = []) (hlater : b.now ≤ t) : b.setTime hi = (0, b.timeMoved (t - b.now)) := by
  subst ht
  simp only [Blk.setTime, Blk.jobLive, hvalid, hjobs, Nat.not_lt.mpr hlater]
  rfl

theorem Blk.setTime_of_refused {b : Blk} {hi : Nat}
    (h : b.time.valid = true ∨ b.jobs ≠ [] ∨ b.time.setLo + hi * 2 ^ 32 < b.now) :
    b.setTime hi = (0x1042, b.raise 0x1042) := by
  have hguard : (b.time.valid || b.jobLive || decide (b.time.setLo + hi * 2 ^ 32 < b.now)) = true := by
    simpa [Blk.jobLive, or_assoc] using h
  simp only [Blk.setTime, hguard]
  rfl

/-! ### The alarm (16 R618) -/

/-- The alarm fires: it is no longer armed, it is shown as fired, its event is latched on the TMB page, and its time stands. -/
theorem Blk.fireAlarm_spec (b : Blk) :
    bitN (b.fireAlarm.regN Reg.TMB_ALARM_CTL) 0 = false ∧ bitN (b.fireAlarm.regN Reg.TMB_ALARM_CTL) 1 = true ∧
    bitN (b.fireAlarm.regN (Reg.HDR_EVT_LATCH 0x07)) 3 = true ∧ b.fireAlarm.reg Reg.TMB_ALARM_HI = b.reg Reg.TMB_ALARM_HI := by
  have hkept : ∀ c : Blk, (c.raise 0x1044).reg Reg.TMB_ALARM_CTL = c.reg Reg.TMB_ALARM_CTL :=
    fun c => Blk.reg_raise c _ (by decide) (by decide) (by decide)
  unfold Blk.fireAlarm
  refine ⟨?armed, ?fired, ?latched, ?time⟩
  case armed =>
    rw [Blk.regN, hkept, ← Blk.regN, Blk.bitN_setF_other _ _ _ (by decide) (by decide), Blk.bitN_setF_same _ _ _ (by decide)]
    rfl
  case fired =>
    rw [Blk.regN, hkept, ← Blk.regN, Blk.bitN_setF_same _ _ _ (by decide)]
    rfl
  case latched => exact Blk.bitN_event_latch (page := 0x07) _ (by decide)
  case time =>
    rw [Blk.reg_raise _ _ (by decide) (by decide) (by decide), Blk.setF_eq, Blk.reg_setReg_other _ _ (by decide), Blk.setF_eq,
      Blk.reg_setReg_other _ _ (by decide)]

/-- The alarm's time written and the alarm armed, before the time is compared with the counter. -/
def Blk.alarmArmed (b : Blk) (hi : Word) : Blk := (b.setReg Reg.TMB_ALARM_HI hi).setF Reg.TMB_ALARM_CTL 0 0 1

theorem Blk.bitN_alarmArmed (b : Blk) (hi : Word) : bitN ((b.alarmArmed hi).regN Reg.TMB_ALARM_CTL) 0 = true :=
  Blk.bitN_setF_same _ _ _ (by decide)

theorem Blk.reg_alarmArmed (b : Blk) (hi : Word) : (b.alarmArmed hi).reg Reg.TMB_ALARM_HI = hi := by
  rw [Blk.alarmArmed, Blk.setF_eq, Blk.reg_setReg_other _ _ (by decide), Blk.reg_setReg_same]

theorem Blk.alarmDue_alarmArmed (b : Blk) (hi : Word) :
    (b.alarmArmed hi).alarmDue = decide (b.regN Reg.TMB_ALARM_LO + hi.toNat * 2 ^ 32 ≤ b.now) := by
  have hlo : (b.alarmArmed hi).regN Reg.TMB_ALARM_LO = b.regN Reg.TMB_ALARM_LO := by
    rw [Blk.regN, Blk.alarmArmed, Blk.setF_eq, Blk.reg_setReg_other _ _ (by decide), Blk.reg_setReg_other _ _ (by decide),
      Blk.regN]
  have hpair : (b.alarmArmed hi).pair Reg.TMB_ALARM_LO = b.regN Reg.TMB_ALARM_LO + hi.toNat * 2 ^ 32 := by
    have hhi : (b.alarmArmed hi).regN (Reg.TMB_ALARM_LO + 4) = hi.toNat := congrArg BitVec.toNat (b.reg_alarmArmed hi)
    rw [Blk.pair, hlo, hhi]
  have hnow : (b.alarmArmed hi).now = b.now := rfl
  rw [Blk.alarmDue, Blk.bitN_alarmArmed, hpair, hnow, Bool.true_and]

/-- A write to ALARM_HI arms the alarm for a time to come, and fires it at once for one that has passed. -/
theorem Blk.armAlarm_eq (b : Blk) (hi : Word) : b.armAlarm hi =
    if b.regN Reg.TMB_ALARM_LO + hi.toNat * 2 ^ 32 ≤ b.now then (b.alarmArmed hi).fireAlarm else b.alarmArmed hi := by
  have hdue := b.alarmDue_alarmArmed hi
  unfold Blk.alarmArmed at hdue
  simp only [Blk.armAlarm, hdue, decide_eq_true_eq]
  rfl

theorem Blk.writeCmd_alarmHi (b : Blk) (v : Word) : b.writeCmd Reg.TMB_ALARM_HI v.toNat = some (0, b.armAlarm v) := by
  have hcmd : ∀ n, b.writeCmd Reg.TMB_ALARM_HI n = some (0, b.armAlarm (BitVec.ofNat 32 n)) := fun _ => rfl
  rw [hcmd, BitVec.ofNat_toNat, BitVec.setWidth_eq]

theorem Blk.armAlarm_of_future {b : Blk} {hi : Word} (h : b.now < b.regN Reg.TMB_ALARM_LO + hi.toNat * 2 ^ 32) :
    b.armAlarm hi = b.alarmArmed hi := by
  rw [Blk.armAlarm_eq, if_neg (Nat.not_le.mpr h)]

theorem Blk.armAlarm_of_past {b : Blk} {hi : Word} (h : b.regN Reg.TMB_ALARM_LO + hi.toNat * 2 ^ 32 ≤ b.now) :
    b.armAlarm hi = (b.alarmArmed hi).fireAlarm := by
  rw [Blk.armAlarm_eq, if_pos h]

theorem Blk.reg_armAlarm (b : Blk) (hi : Word) : (b.armAlarm hi).reg Reg.TMB_ALARM_HI = hi := by
  obtain ⟨-, -, -, hkept⟩ := (b.alarmArmed hi).fireAlarm_spec
  rw [Blk.armAlarm_eq]
  split
  · rw [hkept, Blk.reg_alarmArmed]
  · exact b.reg_alarmArmed hi

/-- In Run a due alarm fires, and wakes nothing. -/
theorem tmbAlarm_of_due {b : Blk} (harmed : bitN (b.regN Reg.TMB_ALARM_CTL) 0 = true)
    (hdue : b.pair Reg.TMB_ALARM_LO ≤ b.now) (hmode : b.pwr.mode = .run) : tmbAlarm b = b.fireAlarm := by
  have hawake : b.fireAlarm.asleep = false := by simp [Blk.fireAlarm, Blk.asleep, hmode]
  simp [tmbAlarm, Blk.alarmDue, harmed, hdue, hmode, hawake]

theorem Blk.alarmCtl_of_clear (b : Blk) {v : Nat} (h : bitN v 0 = false) :
    b.alarmCtl v = b.setF Reg.TMB_ALARM_CTL 0 0 0 := by
  rw [Blk.alarmCtl, h]
  rfl

/-! ### The commands -/

theorem exec_aonWindow (dt cycles temp : Nat) (s : State) :
    exec (.aonWindow dt cycles temp) s = .next (s.after (aonWindow cycles temp (s.blk.elapse dt))) := rfl

theorem exec_aonTempSample (dt temp : Nat) (s : State) :
    exec (.aonTempSample dt temp) s = .next (s.after (aonTempSample temp (s.blk.elapse dt))) := rfl

theorem exec_tmbSet (dt : Nat) (who : Who) (v : Word) (s : State) :
    exec (.tmbSet dt who v) s = .next (s.after ((s.blk.elapse dt).write1 who Reg.TMB_SET_HI v)) := rfl

theorem exec_tmbAlarmArm (dt : Nat) (who : Who) (v : Word) (s : State) :
    exec (.tmbAlarmArm dt who v) s = .next (s.after ((s.blk.elapse dt).write1 who Reg.TMB_ALARM_HI v)) := rfl

theorem exec_tmbAlarm (dt : Nat) (s : State) :
    exec (.tmbAlarm dt) s = .next (s.after (tmbAlarm (s.blk.elapse dt))) := rfl

theorem exec_alarmDisarm (dt : Nat) (who : Who) (v : Word) (s : State) :
    exec (.alarmDisarm dt who v) s = .next (s.after ((s.blk.elapse dt).write1 who Reg.TMB_ALARM_CTL v)) := rfl

theorem exec_uncertClear (dt : Nat) (who : Who) (s : State) :
    exec (.uncertClear dt who) s = .next (s.after ((s.blk.elapse dt).write1 who Reg.TMB_CTL 1)) := rfl

/-- Settles O57: the window and the sample are changes of the time kept and of TMB.TEMP; each command of the TMB page that may be
written is carried out, and then sets the counter or refuses to, arms or fires the alarm, disarms it, or clears UNCERT. -/
theorem timeIsKeptAndSet : Obligations.TimeIsKeptAndSet := by
  unfold Obligations.TimeIsKeptAndSet
  intro dt cycles temp i v s b reach acked at_
  refine ⟨fun hring hcycles hwindow => ?window, fun hring htemp => ?sample, fun ⟨hrun, hcheck, hready⟩ => ?set,
    fun ⟨hrun, hcheck, hready⟩ => ?arm, fun harmed hdue hmode => ?fire, fun ⟨hrun, hcheck, hready⟩ hvalue hclear => ?disarm,
    fun ⟨hrun, hcheck, hready⟩ => ?uncert⟩
  case window =>
    refine leaves_of_exec (exec_aonWindow dt cycles temp s) ?_
    rw [aonWindow_of_complete (b := b) temp hring hcycles hwindow]
    obtain ⟨hnow, hwin⟩ := Blk.regF_temp_both ({ b with time := _ } : Blk) (Nat.mod_lt temp (by decide : 65536 > 0))
    exact ⟨rfl, hnow, hwin, rfl⟩
  case sample =>
    refine leaves_of_exec (exec_aonTempSample dt temp s) ?_
    rw [aonTempSample_of_stopped (b := b) temp hring]
    have hshown : (b.setF Reg.TMB_TEMP 15 0 temp).regF Reg.TMB_TEMP 15 0 = temp := by
      rw [Blk.regF_setF_same _ _ _ (by decide) (by decide)]
      exact Nat.mod_eq_of_lt htemp
    have hwin := b.regF_setF_other Reg.TMB_TEMP temp (by decide : 0 ≤ 15) (by decide : 31 < 32)
      (Or.inl (by decide) : 15 < 16 ∨ 31 < 0)
    exact ⟨hshown, hwin, rfl⟩
  case set =>
    have hwrite := hrun.write1_timebase (r := (b.reached Reg.TMB_SET_HI).setTime v.toNat) (by decide) hcheck hready
      (valueOk_setHi v) rfl
    refine ⟨fun hvalid hjobs hlater => ?permitted, fun hrefused => ?refused⟩
    case permitted =>
      obtain ⟨t, ht⟩ : ∃ t, b.time.setLo + v.toNat * 2 ^ 32 = t := ⟨_, rfl⟩
      have hlater : b.now ≤ t := ht ▸ hlater
      obtain ⟨hnow, hset, huncert, hregs⟩ := (b.reached Reg.TMB_SET_HI).timeMoved_spec (t - b.now)
      refine leaves_of_exec (exec_tmbSet dt (some i) v s) ?_
      rw [hwrite, Blk.setTime_of_permitted (b := b.reached Reg.TMB_SET_HI) ht hvalid hjobs hlater]
      exact ⟨(hnow.trans (Nat.add_sub_cancel' hlater)).trans ht.symm, hset, huncert, hregs, rfl⟩
    case refused =>
      rw [exec_tmbSet, hwrite, Blk.setTime_of_refused (b := b.reached Reg.TMB_SET_HI) hrefused]
  case arm =>
    have hwrite := hrun.write1_timebase (r := (0, (b.reached Reg.TMB_ALARM_HI).armAlarm v)) (v := v) (by decide) hcheck hready
      (valueOk_alarmHi v) (Blk.writeCmd_alarmHi _ v)
    refine leaves_of_exec (exec_tmbAlarmArm dt (some i) v s) ?_
    rw [hwrite]
    refine ⟨rfl, Blk.reg_armAlarm _ v, fun hfuture => ?future, fun hpast => ?past⟩
    case future =>
      rw [Blk.armAlarm_of_future (b := b.reached Reg.TMB_ALARM_HI) hfuture]
      exact Blk.bitN_alarmArmed _ v
    case past =>
      rw [Blk.armAlarm_of_past (b := b.reached Reg.TMB_ALARM_HI) hpast]
      obtain ⟨hcleared, hfired, -⟩ := ((b.reached Reg.TMB_ALARM_HI).alarmArmed v).fireAlarm_spec
      exact ⟨hcleared, hfired⟩
  case fire =>
    refine leaves_of_exec (exec_tmbAlarm dt s) ?_
    rw [tmbAlarm_of_due (b := b) harmed hdue hmode]
    obtain ⟨hcleared, hfired, hlatched, -⟩ := b.fireAlarm_spec
    exact ⟨hcleared, hfired, hlatched, by simp [Blk.fireAlarm], by simp [Blk.fireAlarm]⟩
  case disarm =>
    rw [exec_alarmDisarm, hrun.write1_timebase (by decide) hcheck hready hvalue rfl, Blk.alarmCtl_of_clear _ hclear]
  case uncert =>
    refine leaves_of_exec (exec_uncertClear dt (some i) s) ?_
    rw [hrun.write1_timebase (by decide) hcheck hready (by decide) rfl]
    exact ⟨rfl, rfl, rfl⟩

end Sys2Proof.Machine
end

section
/-! The machine as a whole (O1 to O6): a step and its command, the pins every command ends with (12 R449, R475; 03 R132; 16 R592),
the queue, and the one canonical form of the register file. -/
namespace Sys2Proof.Machine

/-! ### Steps and the queue -/

theorem step_cons (c : Instr) (l : List Instr) (s : State) : step { s with pending := c :: l } = exec c { s with pending := l } := rfl

/-- Every step ends in a next state, on the queue without its front, whose pins are up to date. -/
theorem step_done (s : State) : ∃ b, step s = done { s with pending := s.pending.tail } b := by
  obtain ⟨q, b⟩ := s
  cases q with
  | nil => exact ⟨_, rfl⟩
  | cons c l => exact exec_done c { pending := l, blk := b }

/-! ### The pins -/

/-- Brought up to date, the pins show what stands behind them. -/
theorem Blk.pinsAgree_settle (b : Blk) : b.settle.pinsAgree := by
  refine ⟨fun (h : (b.dom 7).clamped = false) => ?_, fun (h : (b.dom 2).clamped = false) => ?_,
    fun (h : (b.dom 2).clamped = true) => ?_, rfl, fun (h : (b.dom 6).clamped = true) => ?_⟩
  all_goals simp [Blk.settle, h, Blk.regN, Blk.reg]

theorem safe_of_step {s t : State} (h : step s = .next t) : t.Safe := by
  obtain ⟨b, hb⟩ := step_done s
  obtain rfl := Host.Outcome.next.inj (hb.symm.trans h)
  exact b.pinsAgree_settle

/-- Settles O1. -/
theorem stepRunsTheFrontCommand : Obligations.StepRunsTheFrontCommand := step_cons

/-- Settles O2: at reset the register file is empty, so that every register reads its reset value. -/
theorem resetLeavesTheStartComplete : Obligations.ResetLeavesTheStartComplete := by
  unfold Obligations.ResetLeavesTheStartComplete
  refine ⟨rfl, ⟨rfl, rfl⟩, rfl, rfl, rfl, fun _ => rfl, rfl, rfl, rfl, rfl, rfl, ?slots, rfl, rfl, rfl, by decide, rfl, rfl⟩
  case slots => decide

/-- Settles O3: no domain that drives a pin is clamped at reset, and each pin stands at the level its registers give. -/
theorem pinsAgreeAtReset : Obligations.PinsAgreeAtReset := by
  refine ⟨fun _ => ⟨rfl, ?gp⟩, fun _ => ?sync, fun h => ?clamped, rfl, fun _ => rfl⟩
  case gp => decide
  case sync => decide
  case clamped => exact absurd h (by decide)

/-- Settles O4: every step ends by bringing the pins up to date. -/
theorem pinsAgreeAfterEveryStep : Obligations.PinsAgreeAfterEveryStep := fun _ _ => safe_of_step

/-- As many steps as commands wait empty the queue. -/
theorem run_empties_queue (n : Nat) : ∀ s : State, s.pending.length = n → s.Safe →
    ∃ t : State, core.run n s = .next t ∧ t.pending = [] ∧ t.Safe := by
  induction n with
  | zero => exact fun s hlen hsafe => ⟨s, rfl, List.length_eq_zero_iff.mp hlen, hsafe⟩
  | succ n ih =>
    intro s hlen _
    obtain ⟨b, hb⟩ := step_done s
    have hstep : core.step s = .next { pending := s.pending.tail, blk := b.settle } := hb
    obtain ⟨t, hrun, hempty, hsafe⟩ := ih { pending := s.pending.tail, blk := b.settle }
      (by simp [hlen]) b.pinsAgree_settle
    refine ⟨t, ?_, hempty, hsafe⟩
    simp only [Host.Core.run, hstep]
    exact hrun

/-- Settles O5, by induction on the number of waiting commands: every step takes one and leaves the pins up to date. -/
theorem theQueueRunsOut : Obligations.TheQueueRunsOut := fun s => run_empties_queue s.pending.length s rfl

/-! ### The canonical form of the register file -/

theorem lookupReg_eq_none_of_keysAbove {l : List (Nat × Word)} {k a : Nat} (h : keysAbove k l) (ha : a ≤ k) :
    lookupReg l a = none := by
  induction l with
  | nil => rfl
  | cons p t ih =>
    have hp : a ≠ p.1 := Nat.ne_of_lt (Nat.lt_of_le_of_lt ha (h p List.mem_cons_self))
    rw [lookupReg, if_neg hp.symm]
    exact ih fun q hq => h q (List.mem_cons_of_mem _ hq)

/-- In a file in canonical form a listed register does not read its reset value. -/
theorem lookupReg_ne_resetOf {l : List (Nat × Word)} {a : Nat} {v : Word} (hl : regsWf l = true)
    (h : lookupReg l a = some v) : v ≠ resetOf a := by
  induction l with
  | nil => cases h
  | cons p t ih =>
    obtain ⟨k, w⟩ := p
    obtain ⟨hw, -, ht⟩ := (regsWf_cons k w t).mp hl
    rw [lookupReg] at h
    split at h
    · obtain rfl := Option.some.inj h
      subst k
      exact hw
    · exact ih ht h

/-- Files in canonical form that read the same everywhere list the same registers. -/
theorem lookupReg_eq_of_getReg_eq {l m : List (Nat × Word)} (hl : regsWf l = true) (hm : regsWf m = true)
    (h : ∀ a, getReg l a = getReg m a) (a : Nat) : lookupReg l a = lookupReg m a := by
  have ha := h a
  unfold getReg at ha
  cases hla : lookupReg l a with
  | none => cases hma : lookupReg m a with
    | none => rfl
    | some w =>
      rw [hla, hma] at ha
      exact absurd ha.symm (lookupReg_ne_resetOf hm hma)
  | some v => cases hma : lookupReg m a with
    | none =>
      rw [hla, hma] at ha
      exact absurd ha (lookupReg_ne_resetOf hl hla)
    | some w =>
      rw [hla, hma] at ha
      exact congrArg some ha

/-- A file in canonical form is determined by the registers it lists. -/
theorem regs_eq_of_lookupReg_eq {l m : List (Nat × Word)} (hl : regsWf l = true) (hm : regsWf m = true)
    (h : ∀ a, lookupReg l a = lookupReg m a) : l = m := by
  induction l generalizing m with
  | nil => cases m with
    | nil => rfl
    | cons q u => exact absurd (h q.1) (by simp [lookupReg])
  | cons p t ih => cases m with
    | nil => exact absurd (h p.1) (by simp [lookupReg])
    | cons q u =>
      obtain ⟨k, v⟩ := p
      obtain ⟨k', v'⟩ := q
      obtain ⟨-, habove, ht⟩ := (regsWf_cons k v t).mp hl
      obtain ⟨-, habove', hu⟩ := (regsWf_cons k' v' u).mp hm
      have hkey : k = k' := by
        rcases Nat.lt_trichotomy k k' with hlt | heq | hgt
        · have hnone := lookupReg_eq_none_of_keysAbove habove' (Nat.le_of_lt hlt)
          have := h k
          simp [lookupReg, hnone, Nat.ne_of_gt hlt] at this
        · exact heq
        · have hnone := lookupReg_eq_none_of_keysAbove habove (Nat.le_of_lt hgt)
          have := h k'
          simp [lookupReg, hnone, Nat.ne_of_gt hgt] at this
      subst hkey
      have hvalue : v = v' := by simpa [lookupReg] using h k
      subst hvalue
      refine congrArg _ (ih ht hu fun a => ?_)
      by_cases ha : a = k
      · subst ha
        rw [lookupReg_eq_none_of_keysAbove habove (Nat.le_refl _), lookupReg_eq_none_of_keysAbove habove' (Nat.le_refl _)]
      · simpa [lookupReg, Ne.symm ha] using h a

/-- Settles O6: reads after a write by the lookup lemmas, and the form's uniqueness by induction on the two lists. -/
theorem registerFileReadsBack : Obligations.RegisterFileReadsBack := by
  unfold Obligations.RegisterFileReadsBack
  refine ⟨fun b a v => ⟨b.reg_setReg_same a v, fun c hc => b.reg_setReg_other v hc, b.regsCanonical_setReg a v⟩, ?unique⟩
  case unique =>
    intro b c hb hc hread
    exact regs_eq_of_lookupReg_eq hb hc (lookupReg_eq_of_getReg_eq hb hc hread)

end Sys2Proof.Machine
end

section
/-! Events, faults and EVT_N (O8 to O10): what an event and a fault leave in their registers (12 R448, R449; 17 R642), the notices
of enabled events (13 R496), and the pages that report on EVT_N (12 R449). -/
namespace Sys2Proof.Machine

/-! ### Header registers -/

theorem hdr_ne_evtLost (page : Nat) {k : Nat} (hk : k < 0x40) : page * 0x400 + k ≠ Reg.EVT_LOST := by
  change page * 0x400 + k ≠ 0x1464
  omega

theorem hdr_ne_flogCount (page : Nat) {k : Nat} (hk : k < 0x40) : page * 0x400 + k ≠ Reg.SYS_FLOG_COUNT := by
  change page * 0x400 + k ≠ 0x488
  omega

theorem offOf_hdr (page : Nat) {k : Nat} (hk : k < 0x400) : offOf (page * 0x400 + k) = k := by
  rw [offOf]
  omega

theorem pageOf_hdr (page : Nat) {k : Nat} (hk : k < 0x400) : pageOf (page * 0x400 + k) = page := by
  rw [pageOf]
  omega

/-- A header register, in every page, is 0 at reset. -/
theorem resetOf_hdr (page : Nat) {k : Nat} (hk : k ∈ [0x0C, 0x10, 0x14, 0x18, 0x1C]) : resetOf (page * 0x400 + k) = 0 := by
  have hlt : k < 0x40 := by
    simp only [List.mem_cons, List.not_mem_nil, or_false] at hk
    omega
  have hdef : ∀ d, findDef k tblHDR = some d → d.reset = 0 := by
    simp only [List.mem_cons, List.not_mem_nil, or_false] at hk
    rcases hk with rfl | rfl | rfl | rfl | rfl <;> (intro d hd; cases hd; rfl)
  unfold resetOf regDef
  rw [pageOf_hdr page (by omega), offOf_hdr page (by omega), if_neg (by omega), if_neg (by omega), if_neg (by omega), if_neg (by omega)]
  cases pageInfo page with
  | none => rfl
  | some p =>
    simp only [if_pos hlt]
    cases hfind : findDef k tblHDR with
    | none => rfl
    | some d => exact congrArg (BitVec.ofNat 32) (hdef d hfind)

/-! ### An event (12 R448, R449) -/

/-- EVT_RAW and EVT_LATCH of the page with the bit set, before the notice. -/
def Blk.eventSet (b : Blk) (page bit : Nat) : Blk :=
  (b.setN (Reg.HDR_EVT_RAW page) (putBit (b.regN (Reg.HDR_EVT_RAW page)) bit true)).setN (Reg.HDR_EVT_LATCH page)
    (putBit (b.regN (Reg.HDR_EVT_LATCH page)) bit true)

theorem Blk.event_eq (b : Blk) (page bit code : Nat) : b.event page bit code =
    if !bitN (b.regN (Reg.HDR_EVT_LATCH page)) bit && bitN (b.regN (Reg.HDR_EVT_ENABLE page)) bit &&
        bitN (b.regN (Reg.HDR_CONTROL page)) 1
    then (b.eventSet page bit).notice page bit code else b.eventSet page bit := by
  have hother : ∀ k, k ≠ 0x10 → k ≠ 0x14 →
      (b.eventSet page bit).regN (page * 0x400 + k) = b.regN (page * 0x400 + k) := fun k h10 h14 => by
    rw [Blk.regN, Blk.eventSet, Blk.setN_eq, Blk.setN_eq, Blk.reg_setReg_other _ _ (by simpa using h14),
      Blk.reg_setReg_other _ _ (by simpa using h10), Blk.regN]
  have hlatch : (b.setN (Reg.HDR_EVT_RAW page) (putBit (b.regN (Reg.HDR_EVT_RAW page)) bit true)).regN (Reg.HDR_EVT_LATCH page) =
      b.regN (Reg.HDR_EVT_LATCH page) := by
    rw [Blk.regN, Blk.setN_eq, Blk.reg_setReg_other _ _ (by simp), Blk.regN]
  have henable := hother 0x18 (by decide) (by decide)
  have hcontrol := hother 0x0C (by decide) (by decide)
  rw [← henable, ← hcontrol]
  unfold Blk.event Blk.eventSet
  dsimp only
  rw [hlatch]

/-- A header register keeps through an event what the two bits set leave. -/
theorem Blk.reg_event_hdr (b : Blk) (page bit code : Nat) {a : Nat} (ha : a ≠ Reg.EVT_LOST) :
    (b.event page bit code).reg a = (b.eventSet page bit).reg a := by
  rw [Blk.event_eq]
  split
  · exact Blk.reg_notice _ _ _ _ ha
  · rfl

theorem Blk.reg_event_raw (b : Blk) (page bit code : Nat) : (b.event page bit code).reg (Reg.HDR_EVT_RAW page) =
    BitVec.ofNat 32 (putBit (b.regN (Reg.HDR_EVT_RAW page)) bit true) := by
  rw [Blk.reg_event_hdr _ _ _ _ (hdr_ne_evtLost page (by decide)), Blk.eventSet, Blk.setN_eq, Blk.setN_eq,
    Blk.reg_setReg_other _ _ (by simp), Blk.reg_setReg_same]

theorem Blk.reg_event_latch (b : Blk) (page bit code : Nat) : (b.event page bit code).reg (Reg.HDR_EVT_LATCH page) =
    BitVec.ofNat 32 (putBit (b.regN (Reg.HDR_EVT_LATCH page)) bit true) := by
  rw [Blk.reg_event_hdr _ _ _ _ (hdr_ne_evtLost page (by decide)), Blk.eventSet, Blk.setN_eq, Blk.setN_eq, Blk.reg_setReg_same]

theorem bitN_ofNat_putBit (n : Nat) {bit : Nat} (h : bit < 32) : bitN (BitVec.ofNat 32 (putBit n bit true)).toNat bit = true := by
  rw [bitN_eq_testBit, BitVec.toNat_ofNat, Nat.testBit_mod_two_pow, putBit, testBit_putFld (Nat.le_refl bit)]
  simp [h, b2n]

/-! ### EVT_N (12 R449) -/

/-- A register that does not read its reset value is listed in the file. -/
theorem mem_of_getReg_ne_resetOf {l : List (Nat × Word)} {a : Nat} (h : getReg l a ≠ resetOf a) : ∃ v, (a, v) ∈ l := by
  induction l with
  | nil => exact absurd rfl h
  | cons p t ih =>
    by_cases hp : p.1 = a
    · exact ⟨p.2, hp ▸ List.mem_cons_self⟩
    · have htail : getReg t a ≠ resetOf a := by simpa [getReg, lookupReg, hp] using h
      obtain ⟨v, hv⟩ := ih htail
      exact ⟨v, List.mem_cons_of_mem _ hv⟩

/-- A page with evt_pin set has its CONTROL in the file: it reads 0 at reset. -/
theorem mem_controlPages {l : List (Nat × Word)} {page : Nat} (h : bitN (getReg l (Reg.HDR_CONTROL page)).toNat 0 = true) :
    page ∈ controlPages l := by
  have hne : getReg l (Reg.HDR_CONTROL page) ≠ resetOf (Reg.HDR_CONTROL page) := fun heq => by
    rw [heq, resetOf_hdr page (by decide)] at h
    exact absurd h (by decide)
  obtain ⟨v, hv⟩ := mem_of_getReg_ne_resetOf hne
  have hoff : offOf (Reg.HDR_CONTROL page) = 0x00C := offOf_hdr page (by decide)
  exact List.mem_map.mpr ⟨_, List.mem_filter.mpr ⟨hv, by simp [hoff]⟩, pageOf_hdr page (by decide)⟩

theorem evtLow_iff (l : List (Nat × Word)) : evtLow l = true ↔
    ∃ page, (getReg l (Reg.HDR_EVT_LATCH page) &&& getReg l (Reg.HDR_EVT_ENABLE page)) ≠ 0 ∧
      bitN (getReg l (Reg.HDR_CONTROL page)).toNat 0 = true := by
  rw [evtLow, List.any_eq_true]
  simp only [evtPinPage, Bool.and_eq_true, bne_iff_ne]
  exact ⟨fun ⟨page, _, h⟩ => ⟨page, h⟩, fun ⟨page, h⟩ => ⟨page, mem_controlPages h.2, h⟩⟩

/-- Settles O8: an event sets its two bits and at most makes a notice; EVT_N follows the pages whose CONTROL the file lists. -/
theorem eventsShowInRegistersAndOnEvtN : Obligations.EventsShowInRegistersAndOnEvtN := by
  unfold Obligations.EventsShowInRegistersAndOnEvtN
  refine ⟨fun b page bit code hbit => ?event, fun b h => ?clamped, fun b h => ?driven⟩
  case event =>
    obtain ⟨r, e, hshape⟩ := b.event_shape page bit code
    refine ⟨by rw [hshape], b.reg_event_raw page bit code, b.reg_event_latch page bit code, ?_, b.bitN_event_latch hbit,
      fun a h1 h2 h3 => b.reg_event page bit code h1 h2 h3⟩
    rw [Blk.regN, Blk.reg_event_raw]
    exact bitN_ofNat_putBit _ hbit
  case clamped => simp [Blk.settle, h]
  case driven =>
    have hpin : b.settle.pins.evtLow = evtLow b.regs := by simp [Blk.settle, h]
    rw [hpin]
    exact evtLow_iff b.regs

/-! ### A fault (12 R450; 17 R642) -/

theorem fld_31_0 {n : Nat} (h : n < 2 ^ 32) : fld n 31 0 = n := by
  rw [fld]
  omega

theorem Blk.regN_lt (b : Blk) (a : Nat) : b.regN a < 2 ^ 32 := (b.reg a).isLt

/-- A counter of a whole register counts up to its largest value. -/
theorem Blk.regN_bump_word (b : Blk) (a k : Nat) : (b.bump a 31 0 k).regN a = min (b.regN a + k) (2 ^ 32 - 1) := by
  have hset : (b.bump a 31 0 k).regF a 31 0 = sat 32 (b.regF a 31 0 + k) % 2 ^ 32 :=
    Blk.regF_setF_same b a _ (by decide) (by decide)
  have hold : b.regF a 31 0 = b.regN a := fld_31_0 (b.regN_lt a)
  have hnew : (b.bump a 31 0 k).regF a 31 0 = (b.bump a 31 0 k).regN a := fld_31_0 (Blk.regN_lt _ a)
  rw [← hnew, hset, hold, sat]
  omega

/-- Settles O9: a fault's latch writes FAULT, puts its entry in front of the log and counts it. -/
theorem faultsLatchAndAreLogged : Obligations.FaultsLatchAndAreLogged := by
  unfold Obligations.FaultsLatchAndAreLogged
  intro b page code hcode hpage c n
  have hne : Reg.HDR_FAULT page ≠ Reg.SYS_FLOG_COUNT := hdr_ne_flogCount page (by decide)
  have hstarts : ∀ v, (b.setReg (Reg.HDR_FAULT page) v).regN Reg.SYS_STARTS = b.regN Reg.SYS_STARTS := fun v => by
    rw [Blk.regN, Blk.reg_setReg_other _ _ (by change 0x44C ≠ page * 0x400 + 0x1C; omega), Blk.regN]
  have hlog : c.sys.flog = (({ code := code, page := page, count := n, time := b.now, start := b.regN Reg.SYS_STARTS } : FlogEntry) ::
      b.sys.flog).take 64 := by
    rw [← hstarts]
    rfl
  refine ⟨rfl, ?fault, by rw [hlog]; rfl, by rw [hlog]; rfl, ?count, fun a h1 h2 => b.reg_latch page code h1 h2⟩
  case fault =>
    have hword : c.reg (Reg.HDR_FAULT page) = BitVec.ofNat 32 (code % 65536 + n * 65536) :=
      (Blk.reg_setReg_other _ _ hne).trans (b.reg_setReg_same _ _)
    rw [Blk.regN, hword, BitVec.toNat_ofNat, Nat.mod_eq_of_lt hcode, Nat.mod_eq_of_lt]
    have hn : n ≤ 255 := Nat.min_le_right _ _
    omega
  case count =>
    have hfault : ∀ v, (b.setReg (Reg.HDR_FAULT page) v).regN Reg.SYS_FLOG_COUNT = b.regN Reg.SYS_FLOG_COUNT := fun v => by
      rw [Blk.regN, Blk.reg_setReg_other _ _ hne.symm, Blk.regN]
    rw [← hfault]
    exact Blk.regN_bump_word _ _ _

/-! ### Notices (13 R496) -/

/-- The notice of an event, with the next event number. -/
def Blk.noticeOf (b : Blk) (page bit code : Nat) : Notice :=
  { seq := b.evt.nextSeq, code := code, page := page, bit := bit, time := b.now }

/-- The engine with the event number taken. -/
def Blk.numbered (b : Blk) : Blk := { b with evt := { b.evt with nextSeq := (b.evt.nextSeq + 1) % 65536 } }

section Notice
variable {b : Blk} (page bit code : Nat)

theorem Blk.notice_of_held (hroute : bitN (b.regN Reg.EVT_ROUTE) 0 = true) (hroom : b.evt.held.length < 64) :
    b.notice page bit code = { b.numbered with evt := { b.numbered.evt with held := b.evt.held ++ [b.noticeOf page bit code] } } := by
  have hroute' : bitN (b.numbered.regN Reg.EVT_ROUTE) 0 = true := hroute
  simp only [Blk.numbered] at hroute'
  simp only [Blk.notice, hroute', hroom, if_true]
  rfl

theorem Blk.notice_of_linked (hroute : bitN (b.regN Reg.EVT_ROUTE) 0 = false) (hlink : b.linkUp = true) :
    b.notice page bit code = { b.numbered with evt := { b.numbered.evt with toLink := b.evt.toLink ++ [b.noticeOf page bit code] } } := by
  have hroute' : bitN (b.numbered.regN Reg.EVT_ROUTE) 0 = false := hroute
  have hlink' : b.numbered.linkUp = true := hlink
  simp only [Blk.numbered] at hroute' hlink'
  simp only [Blk.notice, hroute', hlink', if_true]
  rfl

/-- A notice that finds its store full or its route down is lost, and counted. -/
theorem Blk.notice_of_lost (h : bitN (b.regN Reg.EVT_ROUTE) 0 = true ∧ 64 ≤ b.evt.held.length ∨
    bitN (b.regN Reg.EVT_ROUTE) 0 = false ∧ b.linkUp = false) :
    b.notice page bit code = b.numbered.bump Reg.EVT_LOST 15 0 1 := by
  rcases h with ⟨hroute, hfull⟩ | ⟨hroute, hlink⟩
  · have hroute' : bitN (b.numbered.regN Reg.EVT_ROUTE) 0 = true := hroute
    simp only [Blk.numbered] at hroute'
    simp only [Blk.notice, hroute', Nat.not_lt.mpr hfull, if_true, if_false]
    rfl
  · have hroute' : bitN (b.numbered.regN Reg.EVT_ROUTE) 0 = false := hroute
    have hlink' : b.numbered.linkUp = false := hlink
    simp only [Blk.numbered] at hroute' hlink'
    simp only [Blk.notice, hroute', hlink']
    rfl

end Notice

/-- A register outside the page's header is not touched by the two bits of an event. -/
theorem Blk.reg_eventSet_other (b : Blk) (page bit : Nat) {a : Nat} (h1 : a ≠ Reg.HDR_EVT_RAW page) (h2 : a ≠ Reg.HDR_EVT_LATCH page) :
    (b.eventSet page bit).reg a = b.reg a := by
  rw [Blk.eventSet, Blk.setN_eq, Blk.setN_eq, Blk.reg_setReg_other _ _ h2, Blk.reg_setReg_other _ _ h1]

/-- Settles O10: the event is newly latched, so a notice is made, and it goes where EVT.ROUTE and the stores allow. -/
theorem enabledEventsMakeNotices : Obligations.EnabledEventsMakeNotices := by
  unfold Obligations.EnabledEventsMakeNotices
  intro b page bit code _ hfresh henabled hpacket _ c n
  have hnotice : c = (b.eventSet page bit).notice page bit code := by
    simp only [c, Blk.event_eq, hfresh, henabled, hpacket]
    rfl
  have hroute : (b.eventSet page bit).reg Reg.EVT_ROUTE = b.reg Reg.EVT_ROUTE :=
    b.reg_eventSet_other page bit (by change 0x1460 ≠ page * 0x400 + 0x10; omega) (by change 0x1460 ≠ page * 0x400 + 0x14; omega)
  have hlost : (b.eventSet page bit).reg Reg.EVT_LOST = b.reg Reg.EVT_LOST :=
    b.reg_eventSet_other page bit (hdr_ne_evtLost page (by decide)).symm (hdr_ne_evtLost page (by decide)).symm
  have hrouteN : (b.eventSet page bit).regN Reg.EVT_ROUTE = b.regN Reg.EVT_ROUTE := congrArg BitVec.toNat hroute
  have hlostN : (b.eventSet page bit).numbered.regF Reg.EVT_LOST 15 0 = b.regF Reg.EVT_LOST 15 0 :=
    congrArg (fun w : Word => fld w.toNat 15 0) hlost
  rw [hnotice]
  refine ⟨?number, fun hr hroom => ?held, fun hr hlink => ?linked, fun hfull => ?lost⟩
  case number =>
    unfold Blk.notice
    dsimp only
    split <;> split <;> rfl
  case held =>
    rw [Blk.notice_of_held page bit code (b := b.eventSet page bit) (hrouteN ▸ hr) hroom]
    exact ⟨rfl, rfl, hlost⟩
  case linked =>
    rw [Blk.notice_of_linked page bit code (b := b.eventSet page bit) (hrouteN ▸ hr) hlink]
    exact ⟨rfl, rfl, hlost⟩
  case lost =>
    rw [Blk.notice_of_lost page bit code (b := b.eventSet page bit) (hrouteN ▸ hfull)]
    refine ⟨rfl, rfl, ?_⟩
    rw [Blk.bump, Blk.regF_setF_same _ _ _ (by decide) (by decide), hlostN, sat]
    omega

end Sys2Proof.Machine
end

section
/-! Register accesses (O11 to O14, O16): the checks of a write in their order (12 R441), registers without a behaviour of their own
(12 R442, R455), staging and the commands of BND.CMD (12 R453, R454), and the header registers a write clears (12 R449, R450). -/
namespace Sys2Proof.Machine

/-! ### Checks (12 R441) -/

theorem exec_regWriteOther (dt : Nat) (who : Who) (a : Nat) (v : Word) (s : State) :
    exec (.regWriteOther dt who a v) s = .next (s.after ((s.blk.elapse dt).write1 who a v)) := rfl

/-- A write that fails a check other than the lock is refused with that check's fault. -/
theorem Blk.inRun.write1_of_refused {b : Blk} (h : b.inRun) {who : Who} {a c : Nat} (v : Word) (hcheck : b.writeCheck who a = c)
    (hne : c ≠ 0) (hlock : c ≠ 0xB031) : b.write1 who a v = b.refuse c := by
  simp [Blk.write1, h.reaches, Blk.writeReg, hcheck, hne, hlock, Blk.refuse]

section Checks
variable {b : Blk} {who : Who} {a : Nat}

theorem Blk.writeCheck_of_misaligned (h : a % 4 ≠ 0) : b.writeCheck who a = 0xB001 := by
  rw [Blk.writeCheck, if_pos h]

theorem Blk.writeCheck_of_unlisted (halign : a % 4 = 0) (h : b.pageListed (pageOf a) = false) :
    b.writeCheck who a = 0xB002 := by
  simp [Blk.writeCheck, halign, h]

theorem Blk.writeCheck_of_role (halign : a % 4 = 0) (hlisted : b.pageListed (pageOf a) = true)
    (h : mayWrite (b.role who) a = false) : b.writeCheck who a = 0xB003 := by
  simp [Blk.writeCheck, halign, hlisted, h]

/-- The claim of the resource that a register configures lies with another role. -/
theorem Blk.writeCheck_of_claim (halign : a % 4 = 0) (hlisted : b.pageListed (pageOf a) = true)
    (hrole : mayWrite (b.role who) a = true) (h : (configResource a).any (fun r => b.owner r != b.role who) = true) :
    b.writeCheck who a = 0xB012 := by
  obtain ⟨r, hr, hown⟩ := (Option.any_eq_true _ _).mp h
  simp only [Blk.writeCheck, halign, hlisted, hrole, hr, hown]
  rfl

/-- A register that is no claimed resource's and is not staged passes when its page is listed and the role may write it. -/
theorem Blk.writeCheck_eq_zero (halign : a % 4 = 0) (hlisted : b.pageListed (pageOf a) = true)
    (hrole : mayWrite (b.role who) a = true) (hres : configResource a = none) (hacc : accessOf a ≠ .rwb) :
    b.writeCheck who a = 0 := by
  simp [Blk.writeCheck, halign, hlisted, hrole, hres, hacc]

/-- A staged write that passes its checks meets no lock. -/
theorem Blk.lockedFrom_of_writeCheck_eq_zero (h : b.writeCheck who a = 0) (hacc : accessOf a = .rwb) :
    b.lockedFrom (slotOf who) a = false := by
  by_contra hlock
  have hl : b.lockedFrom ((who.map Fin.val).getD 4) a = true := by simpa [slotOf] using hlock
  unfold Blk.writeCheck at h
  simp only [hacc, hl, decide_true, Bool.and_self, if_true] at h
  split_ifs at h

end Checks

/-- Settles O11: each check comes when those before it hold, and a refused access changes nothing but its fault. -/
theorem writesAreCheckedInOrder : Obligations.WritesAreCheckedInOrder := by
  unfold Obligations.WritesAreCheckedInOrder
  intro dt who a v s b hrun
  refine ⟨fun c hc hcheck => ?refused, Blk.writeCheck_of_misaligned, Blk.writeCheck_of_unlisted, Blk.writeCheck_of_role,
    Blk.writeCheck_of_claim⟩
  case refused =>
    have hcode : c ≠ 0 ∧ c ≠ 0xB031 := by
      simp only [List.mem_cons, List.not_mem_nil, or_false] at hc
      omega
    rw [exec_regWriteOther, hrun.write1_of_refused v hcheck hcode.1 hcode.2]

/-! ### Direct writes (12 R21, R442, R455) -/

/-- A row that covers an offset is one of its table, and the offset one of its registers'. -/
theorem findDef_spec {off : Nat} {l : List RegDef} {d : RegDef} (h : findDef off l = some d) :
    d ∈ l ∧ d.off ≤ off ∧ (off - d.off) % d.stride = 0 ∧ (off - d.off) / d.stride < d.count := by
  induction l with
  | nil => cases h
  | cons e t ih =>
    rw [findDef] at h
    split at h
    · obtain rfl := Option.some.inj h
      exact ⟨List.mem_cons_self, ‹_›⟩
    · exact ⟨List.mem_cons_of_mem _ (ih h).1, (ih h).2⟩

/-- The row of a register of a page's own table. -/
theorem regDef_of_block {a : Nat} {p : PageInfo} (hp : pageInfo (pageOf a) = some p) (hoff : 0x40 ≤ offOf a) :
    regDef a = findDef (offOf a) p.tbl := by
  simp [regDef, hp, Nat.not_lt.mpr hoff]

theorem exists_regDef_of_accessOf_rw {a : Nat} (h : accessOf a = .rw) : ∃ d, regDef a = some d ∧ d.acc = .rw := by
  unfold accessOf at h
  split at h
  · exact ⟨_, ‹_›, h⟩
  · cases h

/-- A page's own table has no RW register. -/
def noRw (p : PageInfo) : Bool := p.tbl.all (fun d => d.acc ≠ .rw)

/-- Outside the pages of the coefficients and of the resampler no settings page has an RW register of its own. -/
theorem settingsPage_noRw : ∀ p < 0x4D, settingsPage p = true → p ≠ 0x43 → p ≠ 0x42 → (pageInfo p).all noRw = true := by
  decide

/-- RSM.KERNEL_SEL is the one RW register of the resampler's page. -/
theorem resampler_rw : ∀ d ∈ tblRSM, d.acc = .rw → d.off = 0x54 ∧ d.count = 1 ∧ d.stride = 4 := by
  decide

theorem settingsPage_lt {p : Nat} (h : settingsPage p = true) : p < 0x4D := by
  simp only [settingsPage, Bool.or_eq_true, Bool.and_eq_true, decide_eq_true_eq] at h
  omega

/-- A direct write to a register of a page's own table marks nothing in progress, the coefficients apart. -/
theorem directSetting_of_block {a : Nat} (hrw : accessOf a = .rw) (hoff : 0x40 ≤ offOf a) (hcoef : pageOf a ≠ 0x43) :
    directSetting a = false := by
  by_contra hset
  simp only [directSetting, hrw, Bool.not_eq_false, Bool.and_eq_true, bne_iff_ne, decide_eq_true_eq, true_and] at hset
  obtain ⟨⟨hpage, -⟩, hkernel⟩ := hset
  obtain ⟨d, hd, hacc⟩ := exists_regDef_of_accessOf_rw hrw
  obtain ⟨p, hp⟩ : ∃ p, pageInfo (pageOf a) = some p := by
    cases hp : pageInfo (pageOf a) with
    | none => simp [regDef, hp] at hd
    | some p => exact ⟨p, rfl⟩
  rw [regDef_of_block hp hoff] at hd
  obtain ⟨hmem, hlow, hmod, hdiv⟩ := findDef_spec hd
  by_cases hrsm : pageOf a = 0x42
  · rw [hrsm] at hp
    obtain rfl : p = ⟨'R', 'S', 0, 3, 7, false, tblRSM⟩ := (Option.some.inj hp).symm
    obtain ⟨hd54, hone, hfour⟩ := resampler_rw d hmem hacc
    rw [hd54, hfour] at hmod hdiv
    rw [hone] at hdiv
    apply hkernel
    change a = 0x10854
    unfold pageOf offOf at *
    omega
  · have hno := settingsPage_noRw _ (settingsPage_lt hpage) hpage hcoef hrsm
    rw [hp] at hno
    simpa [hacc] using List.all_eq_true.mp hno d hmem

/-- The registers with a behaviour of their own that take no direct write, or one of another access. -/
def commandRegs : List Nat := [Reg.SYS_START_CTL, Reg.SES_CLOSE, Reg.PWR_CMD, Reg.TMB_SET_LO, Reg.TMB_SET_HI, Reg.ADM_CANCEL,
  Reg.ADM_SOFT_TRIG, Reg.ADM_CAL_LIT_CMD, Reg.LITD_RETEST, Reg.BND_CMD, Reg.TLYC_PARAM_DATA, Reg.TLY_SEAL_CMD]

theorem ne_of_accessOf_rw {a : Nat} (h : accessOf a = .rw) : ∀ x ∈ commandRegs, a ≠ x := by
  have hnot : ∀ x ∈ commandRegs, accessOf x ≠ .rw := by decide
  exact fun x hx heq => hnot x hx (heq ▸ h)

/-- The RW registers whose write does more than store the value. -/
def actingRegs : List Nat := [Reg.ADM_HIST_SEL, Reg.TLYC_PARAM_SEL, Reg.TLYA_LOG_SEL, Reg.LNK_CTL, Reg.TMB_ALARM_HI,
  Reg.TMB_ALARM_CTL, Reg.TMB_CTL]

/-- An RW register without a behaviour of its own stores the value. -/
theorem Blk.writeNow_of_plain (b : Blk) (who : Who) {a : Nat} (v : Word) (hrw : accessOf a = .rw) (hoff : 0x40 ≤ offOf a)
    (hcoef : pageOf a ≠ 0x43) (hlane : ¬(0x0B ≤ pageOf a ∧ pageOf a ≤ 0x0F)) (hacting : a ∉ actingRegs) :
    b.writeNow who a v.toNat = (0, b.setReg a v) := by
  have hcmd := ne_of_accessOf_rw hrw
  simp only [commandRegs, actingRegs, List.mem_cons, List.not_mem_nil, or_false, forall_eq_or_imp, forall_eq, not_or] at hcmd hacting
  have hlane' : ¬(0x0B ≤ pageOf a ∧ pageOf a ≤ 0x0F ∧ a = Reg.LNK_EYE_CTL (pageOf a - 0x0B)) := fun h => hlane ⟨h.1, h.2.1⟩
  simp only [Blk.writeNow, Blk.writeCmd, hrw, hcmd, hacting, hcoef, hlane', Nat.not_lt.mpr hoff, if_false, Blk.setN,
    BitVec.ofNat_toNat, BitVec.setWidth_eq, reduceCtorEq]

section Direct
variable {b : Blk} {who : Who} {a : Nat} {v : Word}

/-- A write to a register that keeps its value is answered, and ignored (12 R442). -/
theorem Blk.inRun.write1_of_readOnly (h : b.inRun) (hcheck : b.writeCheck who a = 0) (hready : b.domReady (domOf a) = true)
    (hacc : accessOf a = .ro ∨ accessOf a = .rsv) : b.write1 who a v = (b.reached a).answer 0 0 := by
  have hrwb : accessOf a ≠ .rwb := fun h => by simp [h] at hacc
  simp [Blk.write1, h.reaches, Blk.writeReg, hcheck, hready, hacc, hrwb, Blk.touch, Blk.reached]

/-- A direct write of a value that the register's fields do not allow is refused (12 R455). -/
theorem Blk.inRun.write1_of_badValue (h : b.inRun) (hcheck : b.writeCheck who a = 0) (hready : b.domReady (domOf a) = true)
    (hacc : (accessOf a).isDirect) (hvalue : valueOk a v.toNat = false) : b.write1 who a v = (b.reached a).refuse 0xB025 := by
  obtain ⟨hro, hrsv, hrwb⟩ := hacc
  simp [Blk.write1, h.reaches, Blk.writeReg, hcheck, hready, hro, hrsv, hrwb, hvalue, Blk.touch, Blk.reached, Blk.refuse]

end Direct

/-- Settles O12: a plain RW register stores the value and marks nothing in progress; RO and RSV registers ignore it; a value out of
its fields is refused. -/
theorem directWritesTakeEffectOrAreIgnored : Obligations.DirectWritesTakeEffectOrAreIgnored := by
  unfold Obligations.DirectWritesTakeEffectOrAreIgnored
  intro dt i a v s b hrun hcheck hready hoff
  refine ⟨fun hrw hcoef hlane hacting hvalue => ?plain, fun hacc => ?ignored, fun hacc hvalue => ?refused⟩
  case plain =>
    have hdirect : (accessOf a).isDirect := by simp [Access.isDirect, hrw]
    have hmark : (b.reached a).markChanged a = b.reached a := by
      simp [Blk.markChanged, directSetting_of_block hrw hoff hcoef]
    rw [exec_regWriteOther, hrun.write1_of_ready hcheck hready hdirect hvalue, hmark,
      Blk.writeNow_of_plain _ _ _ hrw hoff hcoef hlane hacting]
  case ignored => rw [exec_regWriteOther, hrun.write1_of_readOnly hcheck hready hacc]
  case refused =>
    have hdirect : (accessOf a).isDirect := by rcases hacc with h | h | h <;> simp [Access.isDirect, h]
    rw [exec_regWriteOther, hrun.write1_of_badValue hcheck hready hdirect hvalue]

/-! ### Staging (12 R454) -/

theorem exec_rwbWrite (dt : Nat) (who : Who) (a : Nat) (v : Word) (s : State) :
    exec (.rwbWrite dt who a v) s = .next (s.after ((s.blk.elapse dt).write1 who a v)) := rfl

/-- A write to an RWB register beside an open bundle reaches no domain: it is staged. -/
theorem Blk.inRun.write1_of_staged {b : Blk} (h : b.inRun) {who : Who} {a : Nat} {v : Word} {u : Bundle}
    (hcheck : b.writeCheck who a = 0) (hacc : accessOf a = .rwb) (hopen : b.openBundle (slotOf who) = some u) :
    b.write1 who a v = (b.rwbWrite who a v).2.answer (b.rwbWrite who a v).1 0 := by
  simp [Blk.write1, h.reaches, Blk.writeReg, hcheck, hacc, hopen]

/-- A write that suits its register, and for which there is room, takes its place among the staged ones. -/
theorem Blk.rwbWrite_of_open {b : Blk} {who : Who} {a : Nat} {v : Word} {u : Bundle} (hopen : b.openBundle (slotOf who) = some u)
    (hlock : b.lockedFrom (slotOf who) a = false) (hvalue : valueOk a v.toNat = true)
    (hroom : u.writes.length < 256 ∨ ∃ w ∈ u.writes, w.1 = a) :
    b.rwbWrite who a v = (0, { b with bnd := { b.bnd with opened := upd b.bnd.opened (slotOf who) (fun _ =>
      some { u with writes := placeWrite a v u.writes }) } }) := by
  have hfull : (decide (256 ≤ u.writes.length) && !u.writes.any (fun w => w.1 = a)) = false := by
    rcases hroom with hlt | ⟨w, hw, ha⟩
    · simp [hlt]
    · have : u.writes.any (fun w => w.1 = a) = true := List.any_eq_true.mpr ⟨w, hw, by simp [ha]⟩
      simp [this]
  simp only [Blk.rwbWrite, hopen, hlock, hvalue, hfull]
  rfl

/-- Settles O13: a write that passes its checks meets no lock, and is staged. -/
theorem openBundlesStageWrites : Obligations.OpenBundlesStageWrites := by
  unfold Obligations.OpenBundlesStageWrites
  intro dt i a v s u b hrun hcheck hacc hopen hvalue hroom
  have hopen' : b.openBundle (slotOf (some i)) = some u := hopen
  rw [exec_rwbWrite, hrun.write1_of_staged hcheck hacc hopen',
    Blk.rwbWrite_of_open hopen' (Blk.lockedFrom_of_writeCheck_eq_zero hcheck hacc) hvalue hroom]
  rfl

/-! ### BND.CMD (12 R453) -/

theorem exec_bndOpen (dt : Nat) (who : Who) (s : State) :
    exec (.bndOpen dt who) s = .next (s.after ((s.blk.elapse dt).write1 who Reg.BND_CMD 1)) := rfl

theorem exec_bndClose (dt : Nat) (who : Who) (point : Nat) (s : State) : exec (.bndClose dt who point) s =
    .next (s.after ((s.blk.elapse dt).write1 who Reg.BND_CMD (BitVec.ofNat 32 (2 + 256 * (point % 4))))) := rfl

theorem exec_bndAbort (dt : Nat) (who : Who) (s : State) :
    exec (.bndAbort dt who) s = .next (s.after ((s.blk.elapse dt).write1 who Reg.BND_CMD 3)) := rfl

theorem Blk.inRun.pageListed_of_isSome {b : Blk} (h : b.inRun) {page : Nat} (hp : (pageInfo page).isSome = true) :
    b.pageListed page = true := h.pageListed page ▸ hp

/-- Operator and Service may write BND.CMD; a command that keeps to its fields is carried out for the slot of its session. -/
theorem Blk.inRun.write1_bndCmd {b : Blk} (h : b.inRun) {who : Who} {v : Word} (hrole : b.role who = 1 ∨ b.role who = 2)
    (hready : b.domReady 7 = true) (hvalue : valueOk Reg.BND_CMD v.toNat = true) :
    b.write1 who Reg.BND_CMD v = ((b.reached Reg.BND_CMD).bndCmd who v.toNat).2.answer
      ((b.reached Reg.BND_CMD).bndCmd who v.toNat).1 0 := by
  have hmay : mayWrite (b.role who) Reg.BND_CMD = true := by rcases hrole with hr | hr <;> rw [hr] <;> rfl
  have hcheck : b.writeCheck who Reg.BND_CMD = 0 :=
    Blk.writeCheck_eq_zero rfl (h.pageListed_of_isSome rfl) hmay rfl (by decide)
  have hmark : (b.reached Reg.BND_CMD).markChanged Reg.BND_CMD = b.reached Reg.BND_CMD := rfl
  have hwrite : ∀ c : Blk, ∀ n, c.writeNow who Reg.BND_CMD n = c.bndCmd who n := fun _ _ => rfl
  rw [h.write1_of_ready (a := Reg.BND_CMD) hcheck hready ⟨by decide, by decide, by decide⟩ hvalue, hmark, hwrite]

section BndCmd
variable {b : Blk} {slot : Nat} {u : Bundle}

theorem Blk.bndOpen_of_room (role : Nat) (hfree : b.openBundle slot = none) (hroom : b.bundleRoom slot = true) :
    b.bndOpen slot role = (0, { b with bnd := { b.bnd with
      opened := upd b.bnd.opened slot (fun _ => some { id := b.bnd.nextId, slot := slot, writes := [], role := role }),
      nextId := b.bnd.nextId + 1 } }) := by
  simp [Blk.bndOpen, hfree, hroom]

theorem Blk.bndOpen_of_open (role : Nat) (hopen : b.openBundle slot = some u) :
    b.bndOpen slot role = (0xB022, b.raise 0xB022) := by
  simp [Blk.bndOpen, hopen]

theorem Blk.bndOpen_of_full (role : Nat) (hfree : b.openBundle slot = none) (hroom : b.bundleRoom slot = false) :
    b.bndOpen slot role = (0xB024, b.raise 0xB024) := by
  simp [Blk.bndOpen, hfree, hroom]

theorem Blk.bndClose_of_open (point : Nat) (hopen : b.openBundle slot = some u) :
    b.bndClose slot point = (0, ({ b with bnd := { b.bnd with
      opened := upd b.bnd.opened slot (fun _ => none),
      waiting := b.bnd.waiting ++ [{ u with point := point, closedAt := b.now }] } } : Blk).wakeFor u.writes) := by
  simp [Blk.bndClose, hopen]

theorem Blk.bndClose_of_none (point : Nat) (hfree : b.openBundle slot = none) :
    b.bndClose slot point = (0xB023, b.raise 0xB023) := by
  simp [Blk.bndClose, hfree]

theorem Blk.bndAbort_of_open (hopen : b.openBundle slot = some u) : b.bndAbort slot = (0, b.abortBundle u 0xB020 0 0) := by
  simp [Blk.bndAbort, hopen]

theorem Blk.bndAbort_of_none (hfree : b.openBundle slot = none) : b.bndAbort slot = (0xB023, b.raise 0xB023) := by
  simp [Blk.bndAbort, hfree]

end BndCmd

/-- The word of a close with a commit point. -/
theorem closeWord_spec : ∀ p < 3, (BitVec.ofNat 32 (2 + 256 * (p % 4))).toNat = 2 + 256 * p ∧
    valueOk Reg.BND_CMD (2 + 256 * p) = true ∧ fld (2 + 256 * p) 3 0 = 2 ∧ fld (2 + 256 * p) 9 8 = p := by
  decide

theorem Blk.bndCmd_close (b : Blk) (who : Who) {p : Nat} (hp : p < 3) :
    b.bndCmd who (2 + 256 * p) = b.bndClose (slotOf who) p := by
  obtain ⟨-, -, hcmd, hpoint⟩ := closeWord_spec p hp
  simp only [Blk.bndCmd, hcmd, hpoint]

/-- Settles O14: the command reaches BND.CMD, and does what the slot's open bundle and room allow. -/
theorem bundlesOpenCloseAndAbort : Obligations.BundlesOpenCloseAndAbort := by
  unfold Obligations.BundlesOpenCloseAndAbort
  intro dt i point s u b r hrun hready hrole hpoint
  have hopen1 := hrun.write1_bndCmd (v := 1) hrole hready (by decide)
  have habort1 := hrun.write1_bndCmd (v := 3) hrole hready (by decide)
  obtain ⟨hword, hvalue, -, -⟩ := closeWord_spec point hpoint
  have hclose1 := hrun.write1_bndCmd (v := BitVec.ofNat 32 (2 + 256 * (point % 4))) hrole hready (hword ▸ hvalue)
  rw [hword, Blk.bndCmd_close _ _ hpoint] at hclose1
  have hopenCmd : r.bndCmd (some i) (1 : Word).toNat = r.bndOpen i.val (b.role (some i)) := rfl
  have habortCmd : r.bndCmd (some i) (3 : Word).toNat = r.bndAbort i.val := rfl
  rw [hopenCmd] at hopen1
  rw [habortCmd] at habort1
  refine ⟨fun hfree hroom => ?opens, fun hopen => ⟨?closes, ?aborts⟩, fun hopen => ?beside, fun hfree hroom => ?full,
    fun hfree => ⟨?noClose, ?noAbort⟩⟩
  case opens => rw [exec_bndOpen, hopen1, Blk.bndOpen_of_room (b := r) _ hfree hroom]; rfl
  case closes =>
    rw [exec_bndClose, hclose1, Blk.bndClose_of_open (b := r) (slot := slotOf (some i)) point hopen]
    rfl
  case aborts => rw [exec_bndAbort, habort1, Blk.bndAbort_of_open (b := r) hopen]
  case beside => rw [exec_bndOpen, hopen1, Blk.bndOpen_of_open (b := r) _ hopen]; rfl
  case full => rw [exec_bndOpen, hopen1, Blk.bndOpen_of_full (b := r) _ hfree hroom]; rfl
  case noClose =>
    rw [exec_bndClose, hclose1, Blk.bndClose_of_none (b := r) (slot := slotOf (some i)) point hfree]
    rfl
  case noAbort => rw [exec_bndAbort, habort1, Blk.bndAbort_of_none (b := r) hfree]; rfl

/-! ### Header registers (12 R449, R450) -/

theorem exec_evtLatchClear (dt : Nat) (who : Who) (page : Nat) (bits : Word) (s : State) :
    exec (.evtLatchClear dt who page bits) s =
      .next (s.after ((s.blk.elapse dt).write1 who (Reg.HDR_EVT_LATCH page) bits)) := rfl

theorem exec_faultClear (dt : Nat) (who : Who) (page : Nat) (s : State) : exec (.faultClear dt who page) s =
    .next (s.after ((s.blk.elapse dt).write1 who (Reg.HDR_CONTROL page) ((s.blk.elapse dt).faultClearValue page))) := rfl

section Header
variable {page k : Nat}

theorem regDef_hdr (hpage : (pageInfo page).isSome = true) (hk : k < 0x40) :
    regDef (page * 0x400 + k) = findDef k tblHDR := by
  obtain ⟨p, hp⟩ := Option.isSome_iff_exists.mp hpage
  rw [regDef, pageOf_hdr page (by omega), offOf_hdr page (by omega), hp]
  exact if_pos hk

/-- No header register configures a claimed resource. -/
theorem configResource_hdr (page : Nat) (hk : k < 0x40) : configResource (page * 0x400 + k) = none := by
  unfold configResource
  rw [if_neg, if_neg]
  · change ¬(0x16080 ≤ page * 0x400 + k ∧ page * 0x400 + k < 0x16080 + 16 * 8)
    omega
  · change ¬(0x16040 ≤ page * 0x400 + k ∧ page * 0x400 + k < 0x16040 + 4 * 8)
    omega

/-- No header register holds a step of a pattern program or an engine's configuration. -/
theorem valueOk_hdr (page v : Nat) (hk : k < 0x40) : valueOk (page * 0x400 + k) v = valueFits (page * 0x400 + k) v := by
  have hprog : progOf (page * 0x400 + k) = none := by
    unfold progOf
    rw [if_neg, if_neg]
    · change ¬(0x12D00 ≤ page * 0x400 + k ∧ page * 0x400 + k < 0x12E00)
      omega
    · change ¬(0x12900 ≤ page * 0x400 + k ∧ page * 0x400 + k < 0x12A00)
      omega
  have hcfg : ¬(page * 0x400 + k = Reg.PAT_CFG 0 ∨ page * 0x400 + k = Reg.PAT_CFG 1) := by
    change ¬(page * 0x400 + k = 0x12844 ∨ page * 0x400 + k = 0x12C44)
    omega
  simp [valueOk, hprog, not_or.mp hcfg]

/-- Operator and Service may write a header register, Operator not that of UST (13 R506). -/
theorem mayWrite_hdr {role : Nat} (hk : k < 0x40) (hrole : role = 2 ∨ role = 1 ∧ page ≠ 0x08)
    (hacc : accessOf (page * 0x400 + k) = .rw ∨ accessOf (page * 0x400 + k) = .w1c) :
    mayWrite role (page * 0x400 + k) = true := by
  have hcancel : ¬(page * 0x400 + k = Reg.ADM_CANCEL ∨ page * 0x400 + k = Reg.ADM_SOFT_TRIG) := by
    change ¬(page * 0x400 + k = 0x1078 ∨ page * 0x400 + k = 0x107C)
    omega
  have hservice : ¬(page * 0x400 + k = Reg.SES_IDLE_LIMIT ∨ page * 0x400 + k = Reg.SES_CLOSE ∨
      page * 0x400 + k = Reg.SYS_START_CTL) := by
    change ¬(page * 0x400 + k = 0x860 ∨ page * 0x400 + k = 0x86C ∨ page * 0x400 + k = 0x444)
    omega
  have hpage : pageOf (page * 0x400 + k) = page := pageOf_hdr page (by omega)
  rcases hrole with rfl | ⟨rfl, hne⟩
  · rcases hacc with h | h <;> simp [mayWrite, h, hcancel]
  · rcases hacc with h | h <;> simp [mayWrite, h, hcancel, hservice, hpage, hne]

/-- A write to a header register that keeps to its fields is carried out. -/
theorem Blk.inRun.write1_hdr {b : Blk} (h : b.inRun) {who : Who} {v : Word} (hpage : (pageInfo page).isSome = true)
    (hready : b.domReady (domOf (page * 0x400)) = true) (hrole : b.role who = 2 ∨ b.role who = 1 ∧ page ≠ 0x08)
    (hk : k < 0x40) (halign : k % 4 = 0) (hacc : accessOf (page * 0x400 + k) = .rw ∨ accessOf (page * 0x400 + k) = .w1c)
    (hvalue : valueFits (page * 0x400 + k) v.toNat = true) :
    b.write1 who (page * 0x400 + k) v = (((b.reached (page * 0x400 + k)).markChanged (page * 0x400 + k)).writeHeader page k
      v.toNat).answer 0 0 := by
  have hpageOf : pageOf (page * 0x400 + k) = page := pageOf_hdr page (by omega)
  have hoff : offOf (page * 0x400 + k) = k := offOf_hdr page (by omega)
  have hpage0 : pageOf (page * 0x400) = page := by
    rw [pageOf]
    omega
  have hdom : domOf (page * 0x400) = domOf (page * 0x400 + k) := domOf_eq_of_pageOf_eq (hpage0.trans hpageOf.symm)
  have hdirect : (accessOf (page * 0x400 + k)).isDirect := by rcases hacc with ha | ha <;> simp [Access.isDirect, ha]
  have hcheck : b.writeCheck who (page * 0x400 + k) = 0 := by
    refine Blk.writeCheck_eq_zero (by omega) (h.pageListed_of_isSome (hpageOf.symm ▸ hpage)) (mayWrite_hdr hk hrole hacc)
      (configResource_hdr page hk) hdirect.2.2
  have hnow : ∀ c : Blk, c.writeNow who (page * 0x400 + k) v.toNat = (0, c.writeHeader page k v.toNat) := fun c => by
    simp [Blk.writeNow, hoff, hk, hpageOf]
  rw [hdom] at hready
  rw [h.write1_of_ready hcheck hready hdirect (valueOk_hdr page _ hk ▸ hvalue), hnow]

end Header

/-- Bits within a mask fit a field of that mask. -/
theorem and_mask_of_within {bits : Word} {mask : Nat} (h : bits &&& ~~~(BitVec.ofNat 32 mask) = 0) :
    bits.toNat &&& mask = bits.toNat := by
  refine Nat.eq_of_testBit_eq fun i => ?_
  rw [Nat.testBit_and]
  by_cases hi : i < 32
  · have hbit := congrArg (fun w : Word => w.getLsbD i) h
    simp only [BitVec.getLsbD_and, BitVec.getLsbD_not, BitVec.getLsbD_ofNat, hi, decide_true, Bool.true_and, BitVec.ofNat_eq_ofNat] at hbit
    rw [BitVec.getLsbD] at hbit
    cases hb : bits.toNat.testBit i
    · rfl
    · simpa [hb] using hbit
  · rw [Nat.testBit_lt_two_pow (Nat.lt_of_lt_of_le bits.isLt (Nat.pow_le_pow_right (by decide) (Nat.le_of_not_lt hi)))]
    rfl

theorem valueFits_evtLatch {page : Nat} {bits : Word} (hpage : (pageInfo page).isSome = true)
    (h : bits &&& ~~~(BitVec.ofNat 32 (evtMask page)) = 0) : valueFits (Reg.HDR_EVT_LATCH page) bits.toNat = true := by
  have hand := and_mask_of_within h
  have hle : bits.toNat ≤ evtMask page := hand ▸ Nat.and_le_right
  have hoff : offOf (Reg.HDR_EVT_LATCH page) = 0x014 := offOf_hdr page (by decide)
  have hpageOf : pageOf (Reg.HDR_EVT_LATCH page) = page := pageOf_hdr page (by decide)
  have hdef : regDef (Reg.HDR_EVT_LATCH page) = some ⟨0x14, 1, 4, .w1c, 0, [⟨31, 0, 0, 0xffffffff⟩]⟩ :=
    regDef_hdr hpage (by decide)
  have hrest : putFld bits.toNat 31 0 0 = 0 := by
    rw [putFld, fld_31_0 bits.isLt]
    omega
  simp [valueFits, hdef, hoff, hpageOf, fieldsOk, fld_31_0 bits.isLt, hle, hand, hrest]

/-- The word that clears FAULT and leaves the routing bits. -/
theorem faultClearWord_spec : ∀ c < 4, (BitVec.ofNat 32 (c + 256)).toNat = c + 256 ∧ fld (c + 256) 1 0 = c ∧
    bitN (c + 256) 8 = true ∧ fieldsOk (c + 256) [⟨0, 0, 0, 1⟩, ⟨1, 1, 0, 1⟩, ⟨8, 8, 0, 1⟩] = true := by
  decide

theorem valueFits_control {page c : Nat} (hpage : (pageInfo page).isSome = true) (hc : c < 4) :
    valueFits (Reg.HDR_CONTROL page) (c + 256) = true := by
  have hdef : regDef (Reg.HDR_CONTROL page) =
      some ⟨0xc, 1, 4, .rw, 0, [⟨0, 0, 0, 1⟩, ⟨1, 1, 0, 1⟩, ⟨8, 8, 0, 1⟩]⟩ := regDef_hdr hpage (by decide)
  have hoff : offOf (Reg.HDR_CONTROL page) = 0x00C := offOf_hdr page (by decide)
  obtain ⟨-, -, -, hfields⟩ := faultClearWord_spec c hc
  have ha : Reg.HDR_CONTROL page ≠ Reg.LOC_REF_AREA ∧ Reg.HDR_CONTROL page ≠ Reg.BND_CMD ∧
      Reg.HDR_CONTROL page ≠ Reg.TLYC_PARAM_SEL := by
    refine ⟨fun h => ?_, fun h => ?_, fun h => ?_⟩ <;> · have := congrArg offOf h; rw [hoff] at this; exact absurd this (by decide)
  simp only [valueFits, hdef, hoff, hfields, ha]
  rfl

/-- Settles O16: both registers stand in the page's header, where the value keeps to its fields. -/
theorem latchesAndFaultsClear : Obligations.LatchesAndFaultsClear := by
  unfold Obligations.LatchesAndFaultsClear
  intro dt i page bits s b hrun hpage hready hrole
  refine ⟨fun hbits => ?latch, fun hlit => ?fault⟩
  case latch =>
    have hacc : accessOf (page * 0x400 + 0x14) = .w1c := by rw [accessOf, regDef_hdr hpage (by decide)]; rfl
    have hmark : (b.reached (page * 0x400 + 0x14)).markChanged (page * 0x400 + 0x14) = b.reached (page * 0x400 + 0x14) := by
      simp [Blk.markChanged, directSetting, hacc]
    have hclear : ∀ c : Blk, c.writeHeader page 0x14 bits.toNat = c.setReg (Reg.HDR_EVT_LATCH page)
        (c.reg (Reg.HDR_EVT_LATCH page) &&& ~~~bits) := fun c => by
      simp [Blk.writeHeader]
    rw [exec_evtLatchClear, hrun.write1_hdr hpage hready hrole (by decide) (by decide) (Or.inr hacc)
      (valueFits_evtLatch hpage hbits), hmark, hclear]
    rfl
  case fault =>
    have hacc : accessOf (page * 0x400 + 0x0C) = .rw := by rw [accessOf, regDef_hdr hpage (by decide)]; rfl
    have hc : b.regF (Reg.HDR_CONTROL page) 1 0 < 4 := Nat.mod_lt _ (by decide)
    obtain ⟨hword, hroute, hclear, -⟩ := faultClearWord_spec _ hc
    have hvalue : (b.faultClearValue page).toNat = b.regF (Reg.HDR_CONTROL page) 1 0 + 256 := hword
    have hwrite : ∀ c : Blk, c.writeHeader page 0x0C (b.regF (Reg.HDR_CONTROL page) 1 0 + 256) =
        (c.setReg (Reg.HDR_CONTROL page) (BitVec.ofNat 32 (b.regF (Reg.HDR_CONTROL page) 1 0))).setReg (Reg.HDR_FAULT page) 0 :=
      fun c => by simp [Blk.writeHeader, Blk.writeControl, hclear, hroute, hlit]
    rw [exec_faultClear, hrun.write1_hdr hpage hready hrole (by decide) (by decide) (Or.inl hacc)
      (hvalue ▸ valueFits_control hpage hc), hvalue, hwrite]

end Sys2Proof.Machine
end

section
/-! Why O15 fails: a value committed at once reaches every frame the sensor still lists (`Blk.follow`), a frame whose delivery has ended
among them, while the statement leaves the settings of such a frame as they were. -/
namespace Sys2Proof.Machine

theorem exec_bundleCommitImmediate (dt id : Nat) (s : State) :
    exec (.bundleCommitImmediate dt id) s = .next (s.after (bundleCommitImmediate id (s.blk.elapse dt))) := rfl

/-- What a command leaves satisfies whatever `Leaves` says of it. -/
theorem Leaves.of_exec {i : Instr} {s : State} {c : Blk} {P : Blk → Prop} (h : Leaves i s P) (hexec : exec i s = .next (s.after c)) :
    P c.settle := by
  obtain ⟨t, ht, -, hP⟩ := h
  obtain rfl := Host.Outcome.next.inj (hexec.symm.trans ht)
  exact hP

/-- A frame whose delivery is over, taken under settings that are all 0; its storage window has still to end. -/
def deliveredFrame : Frame :=
  { jobSeq := 0, unit := 0, trigAt := 0, expStart := 0, expEnd4 := 0, busyUntil4 := 0, isOver := true, storage := true
    cfg := { sensorCfg := 0, seedEdge := 0, seedScore := 0, ambig := 0, levels := 0, refArea := 0, symEnable := 0, close := 0,
             cluster := 0, hypo := 0, specCtl := 0, guard := 0, spareLo := 0, spareHi := 0, degraded := [], trims := [] } }

/-- A bundle that sets Cruiser's start conditions, which frames in progress follow. -/
def specCtlBundle : Bundle := { id := 0, slot := 0, writes := [(Reg.CRU_SPEC_CTL, 5)] }

/-- The engine after reset with that frame and that bundle, closed and immediate. -/
def followState : State :=
  { pending := [], blk := { sns := { frames := [deliveredFrame] }, bnd := { waiting := [specCtlBundle] } } }

/-- The commit reaches the delivered frame. -/
theorem followState_specCtl :
    (bundleCommitImmediate 0 (followState.blk.elapse 0)).sns.frames.map (fun f => f.cfg.specCtl) = [5] := by
  decide

/-- Refutes O15: the immediate bundle of `followState` commits CRU.SPEC_CTL 5 into the settings of a frame whose delivery is over,
which the statement has keep its 0. -/
theorem not_bundlesCommitAllAtOnceOrExpire : ¬ Obligations.BundlesCommitAllAtOnceOrExpire := by
  unfold Obligations.BundlesCommitAllAtOnceOrExpire
  rintro ⟨hcommit, -⟩
  have hleaves := hcommit 0 followState specCtlBundle rfl rfl (by decide) (by decide) rfl (by decide) (by decide) (by decide)
  obtain ⟨-, -, -, -, -, -, hframes, -⟩ := hleaves.of_exec (exec_bundleCommitImmediate 0 0 followState)
  have hkept := congrArg (fun x : SnsSt => x.frames.map (fun f => f.cfg.specCtl)) hframes
  exact absurd (followState_specCtl.symm.trans hkept) (by decide)

end Sys2Proof.Machine
end

section
/-! The chain's front end (O19, O20): hops, repeating and discarding (13 R483 to R490), the front end's own commands (13 R494, R497,
R499), and how a request that is accepted reaches its command (13 R489, R493, R501). -/
namespace Sys2Proof.Machine

theorem Blk.inRun.chainAlive {b : Blk} (h : b.inRun) : b.chainAlive = true := by
  simp [Blk.chainAlive, h.1]

theorem Blk.inRun.asleep {b : Blk} (h : b.inRun) : b.asleep = false := by
  simp [Blk.asleep, h.1]

/-! ### Frames and hops (13 R483, R484, R487, R490) -/

theorem exec_chainFrameRepeat (dt : Nat) (cho : Bool) (bytes : List Byte) (s : State) :
    exec (.chainFrameRepeat dt cho bytes) s = .next (s.after (chainFrameRepeat cho bytes (s.blk.elapse dt))) := rfl

theorem exec_frameDiscard (dt : Nat) (cho : Bool) (cause : Nat) (s : State) :
    exec (.frameDiscard dt cho cause) s = .next (s.after (frameDiscard cause (s.blk.elapse dt))) := rfl

theorem exec_railError (dt : Nat) (cho : Bool) (s : State) :
    exec (.railError dt cho) s = .next (s.after (railError (s.blk.elapse dt))) := rfl

theorem exec_hopBroken (dt : Nat) (cho : Bool) (s : State) :
    exec (.hopBroken dt cho) s = .next (s.after (hopBroken cho (s.blk.elapse dt))) := rfl

theorem exec_hopTurn (dt : Nat) (cho collision : Bool) (s : State) :
    exec (.hopTurn dt cho collision) s = .next (s.after (hopTurn cho collision (s.blk.elapse dt))) := rfl

section Hops
variable {b : Blk} {cho : Bool} {bytes : List Byte}

theorem Blk.repeatFrame_of_whole (hwhole : b.hopBroken (!cho) = false) :
    b.repeatFrame cho bytes = (b.chainOut (!cho) bytes).count Reg.CHN_REPEATED 1 := by
  simp [Blk.repeatFrame, hwhole]

/-- A frame of another node, or an answer, is repeated out of the other side (13 R490). -/
theorem chainFrameRepeat_of_foreign (halive : b.chainAlive = true) (hwhole : b.hopBroken (!cho) = false)
    (hforeign : 128 ≤ getLe bytes 0 1 ∨ b.actsOn (getLe bytes 0 1) (getLe bytes 1 1 % 32) = false) :
    chainFrameRepeat cho bytes b = (b.chainOut (!cho) bytes).count Reg.CHN_REPEATED 1 := by
  have hguard : (!b.chainAlive || (decide (getLe bytes 0 1 < 128) && b.actsOn (getLe bytes 0 1) (getLe bytes 1 1 % 32))) = false := by
    rcases hforeign with h | h
    · simp [halive, Nat.not_lt.mpr h]
    · simp [halive, h]
  simp only [chainFrameRepeat, hguard]
  exact Blk.repeatFrame_of_whole hwhole

theorem frameDiscard_of_alive (halive : b.chainAlive = true) (cause : Nat) :
    frameDiscard cause b = (b.bump Reg.CHN_ERRORS 15 0 1).raise (if cause = 0 then 0x9013 else 0x9014) := by
  simp [frameDiscard, halive]

theorem railError_of_alive (halive : b.chainAlive = true) : railError b = (b.bump Reg.CHN_ERRORS 31 16 1).raise 0x9011 := by
  simp [railError, halive]

/-- A frame whose symbol waits too long is dropped, and its hop marked broken (13 R483). -/
theorem hopBroken_of_waiting (halive : b.chainAlive = true) (hwhole : b.hopBroken cho = false) (hsends : b.hopSends cho = true)
    (hwaits : b.hopWaits cho = true) : hopBroken cho b =
      ((b.cutFrames cho).setN Reg.CHN_HOP (putBit (b.regN Reg.CHN_HOP) (2 + b2n cho) true)).raise 0x9012 := by
  simp [hopBroken, halive, hwhole, hsends, hwaits]

/-- Within the engine's own turn a collision costs the neighbour's frame alone (13 R484; log 104). -/
theorem hopTurn_of_turning (halive : b.chainAlive = true) (hsends : b.hopSends cho = true) (hturning : b.turning cho = true)
    (collision : Bool) : hopTurn cho collision b = if collision then b.turnCollision else b := by
  simp [hopTurn, halive, hsends, hturning]

/-- The neighbour turns a hop the engine sends on; a collision costs the engine's frame (13 R484). -/
theorem hopTurn_of_settled (halive : b.chainAlive = true) (hsends : b.hopSends cho = true) (hturning : b.turning cho = false)
    (collision : Bool) :
    hopTurn cho collision b = (if collision then (b.cutFrames cho).turnCollision else b).flipHop cho := by
  simp [hopTurn, halive, hsends, hturning]

theorem Blk.chainOut_of_broken (h : b.hopBroken cho = true) : b.chainOut cho bytes = b := by
  simp [Blk.chainOut, h]

theorem Blk.chainOut_of_sends (hwhole : b.hopBroken cho = false) (hsends : b.hopSends cho = true) :
    b.chainOut cho bytes = b.putFrame cho bytes := by
  simp [Blk.chainOut, hwhole, hsends]

theorem Blk.chainOut_of_turned (hwhole : b.hopBroken cho = false) (hsends : b.hopSends cho = false) :
    b.chainOut cho bytes = (b.turnHop cho).putFrame cho bytes := by
  simp [Blk.chainOut, hwhole, hsends]

end Hops

/-- Settles O19: each command of the front end by its conditions, and the three ways of a frame out of a hop. -/
theorem framesTravelTheChain : Obligations.FramesTravelTheChain := by
  unfold Obligations.FramesTravelTheChain
  refine ⟨?commands, ?out⟩
  case commands =>
    intro dt cho cause bytes s b v cut hmode
    have halive : b.chainAlive = true := by simp [Blk.chainAlive, hmode]
    have hcut : b.cutFrames cho = cut := rfl
    refine ⟨fun hwhole hforeign => ?repeats, ?discards, ?rail, fun hwhole hsends hwaits => ?breaks,
      fun hsends hturning => ⟨?ownTurn, ?ownCollision⟩, fun hsends hturning => ⟨?turn, ?collision⟩⟩
    case repeats => rw [exec_chainFrameRepeat, chainFrameRepeat_of_foreign halive hwhole hforeign]
    case discards => rw [exec_frameDiscard, frameDiscard_of_alive halive]
    case rail => rw [exec_railError, railError_of_alive halive]
    case breaks =>
      rw [exec_hopBroken, hopBroken_of_waiting halive hwhole hsends hwaits, hcut]
    case ownTurn => rw [exec_hopTurn, hopTurn_of_turning halive hsends hturning, if_neg (by decide)]
    case ownCollision => rw [exec_hopTurn, hopTurn_of_turning halive hsends hturning, if_pos rfl, Blk.turnCollision]
    case turn => rw [exec_hopTurn, hopTurn_of_settled halive hsends hturning, if_neg (by decide), Blk.flipHop]
    case collision => rw [exec_hopTurn, hopTurn_of_settled halive hsends hturning, if_pos rfl, Blk.turnCollision, hcut]
  case out =>
    intro b cho bytes v k put turned
    exact ⟨Blk.chainOut_of_broken, Blk.chainOut_of_sends, Blk.chainOut_of_turned⟩

/-! ### A request that is accepted (13 R489, R493, R501) -/

section Accepted
variable {b f : Blk} {r : Req} {cmd : Nat} {c : Call}

theorem Blk.accepts.call (h : b.accepts r cmd c f) : c.r = r ∧ c.cmd = cmd ∧ c.at_ = f.now := by
  obtain ⟨-, -, -, -, -, ⟨-, rfl, rfl⟩ | ⟨-, ctr, -, -, -, -, rfl, rfl⟩⟩ := h <;> exact ⟨rfl, rfl, rfl⟩

/-- A request addressed to the running engine reaches acceptance, counted. -/
theorem Blk.inRun.request_chain (h : b.inRun) (run : Call → Blk → Blk) (hport : r.link = false)
    (haddr : r.addr % 128 = b.chainAddr) (hown : b.chainAddr < 0x7E) :
    b.request r cmd run = (b.count Reg.CHN_FRAMES 1).accept { r := r, cmd := cmd, at_ := b.now } run := by
  have hrun : (b.count Reg.CHN_FRAMES 1).inRun := h
  have hacts : b.actsOn (r.addr % 128) cmd = true := by simp [Blk.actsOn, haddr]
  have hsingle : isBroadcast { r := r, cmd := cmd, at_ := b.now } = false := by
    simp [isBroadcast, haddr, Nat.not_le.mpr hown]
  have hserves : (b.count Reg.CHN_FRAMES 1).servesCall { r := r, cmd := cmd, at_ := b.now } = true := by
    simp only [Blk.servesCall, hrun.serving, Bool.true_or]
  simp only [Blk.request, hport, Blk.chainArrive, h.chainAlive, hacts, hsingle, Blk.frontEnd, hrun.asleep, hserves, Bool.not_true,
    Bool.false_eq_true, if_false, if_true, ite_self]

theorem Blk.runCall_of_prompt (f : Blk) (c : Call) (run : Call → Blk → Blk) (h : f.now ≤ c.at_) : f.runCall c run = run c f := by
  have hlimit : f.now ≤ f.limitOf c := Nat.le_trans h (Nat.le_add_right _ _)
  simp [Blk.runCall, Nat.not_lt.mpr hlimit]

/-- A request that is taken and not kept passes on to its session's checks, or runs at once without a session. -/
theorem Blk.accept_of_fresh (g : Blk) (run : Call → Blk → Blk)
    (hkept : (g.ses.kept.getD (keptIdx c.r) {}).valid = true → (g.ses.kept.getD (keptIdx c.r) {}).asked = askedBytes c →
      isBroadcast c = true) :
    g.accept c run = if c.r.hasMac then (match g.sessionCheck c with
      | (some c, s) => s.runCall c run
      | (none, s) => s) else g.runCall c run := by
  unfold Blk.accept
  generalize g.ses.kept.getD (keptIdx c.r) {} = k at hkept
  have hguard : (k.valid && decide (k.asked = askedBytes c) && !isBroadcast c) = false := by
    cases hv : k.valid
    · rfl
    · by_cases ha : k.asked = askedBytes c
      · rw [hkept hv ha, Bool.not_true, Bool.and_false]
      · rw [decide_eq_false ha, Bool.and_false, Bool.false_and]
  dsimp only
  rw [hguard]
  cases c.r.hasMac <;> rfl

/-- A request whose MAC and counter pass runs with the counter value and the key it was accepted under. -/
theorem Blk.sessionCheck_of_valid {g : Blk} {ctr : Nat} (hopen : (g.slot (c.r.slot % 4)).st = .opened)
    (hport : (g.slot (c.r.slot % 4)).link = c.r.link)
    (hctr : counterOf (g.slot (c.r.slot % 4)).counter c.r.seq = (true, ctr))
    (hmac : macOf (g.slot (c.r.slot % 4)).ks ctr (c.r.addr % 128) (cmdByte c.cmd c.r.slot true) c.r.payload = le 4 c.r.mac) :
    g.sessionCheck c = (some { c with ctr := ctr, ks := (g.slot (c.r.slot % 4)).ks },
      g.updSlot (c.r.slot % 4) (fun k => { k with counter := ctr, since := g.now })) := by
  simp [Blk.sessionCheck, hopen, hport, hctr, hmac]

/-- An accepted request runs its command. -/
theorem Blk.accepts.request_eq (h : b.accepts r cmd c f) (run : Call → Blk → Blk) : b.request r cmd run = run c f := by
  obtain ⟨hrun, hport, haddr, hown, hkept, hsession⟩ := h
  rw [hrun.request_chain run hport haddr hown, Blk.accept_of_fresh _ run fun hv => absurd (hkept.symm.trans hv) (by decide)]
  rcases hsession with ⟨hmac, rfl, rfl⟩ | ⟨hmac, ctr, hopen, hlink, hctr, hmacOk, rfl, rfl⟩
  · rw [hmac]
    exact Blk.runCall_of_prompt _ _ run (Nat.le_refl _)
  · have hcheck := Blk.sessionCheck_of_valid (g := b.count Reg.CHN_FRAMES 1) (c := { r := r, cmd := cmd, at_ := b.now }) hopen
      (hlink.trans hport.symm) hctr hmacOk
    rw [hmac, hcheck]
    exact Blk.runCall_of_prompt _ _ run (Nat.le_refl _)

theorem Blk.accepts.inRun (h : b.accepts r cmd c f) : f.inRun := by
  obtain ⟨hrun, -, -, -, -, ⟨-, -, rfl⟩ | ⟨-, ctr, -, -, -, -, -, rfl⟩⟩ := h <;> exact hrun

end Accepted

/-! ### The front end's own commands (13 R494, R497, R499) -/

theorem exec_probe (dt : Nat) (r : Req) (s : State) :
    exec (.probe dt r) s = .next (s.after ((s.blk.elapse dt).request r 0x02 probe)) := rfl

theorem exec_mode (dt : Nat) (r : Req) (s : State) :
    exec (.mode dt r) s = .next (s.after ((s.blk.elapse dt).request r 0x03 modeSet)) := rfl

theorem exec_enum (dt : Nat) (r : Req) (s : State) :
    exec (.enum dt r) s = .next (s.after (enumFrame r (s.blk.elapse dt))) := rfl

theorem exec_chnCmdUnknown (dt : Nat) (r : Req) (cmd : Nat) (s : State) : exec (.chnCmdUnknown dt r cmd) s =
    .next (s.after (if listedCmd (cmd % 32) then s.blk.elapse dt else (s.blk.elapse dt).request r (cmd % 32) unknownCmd)) := rfl

theorem probe_of_running {c : Call} {f : Blk} (hrun : f.inRun) (hlen : c.r.payload = []) :
    probe c f = f.reply c 0 (le 1 f.chainAddr ++ le 1 (b2n f.spur) ++ le 1 (f.regN Reg.CHN_HOP) ++ le 1 0 ++
      le 4 (f.regN Reg.CHN_FRAMES)) := by
  obtain ⟨hmode, hsys⟩ := hrun
  simp [probe, hlen, Blk.probePower, hmode, Blk.coppice, hsys]

/-- An enumeration frame that fails its session's checks is not executed, and goes on unchanged (13 R501; log 104). -/
theorem enumFrame_of_refused {b g : Blk} {r : Req} (hlink : r.link = false) (haddr : r.addr % 128 = 0x7E)
    (halive : b.chainAlive = true) (hacts : b.enumActs r = true) (hmac : r.hasMac = true)
    (hfails : (b.count Reg.CHN_FRAMES 1).sessionCheck { r := r, cmd := 0x01, at_ := b.now } = (none, g)) :
    enumFrame r b = g.repeatFrame r.cho (frameOf (reqBytes r 0x01)) := by
  have hfails' : (b.count Reg.CHN_FRAMES 1).sessionCheck { r := r, cmd := 0x01, at_ := (b.count Reg.CHN_FRAMES 1).now } = (none, g) :=
    hfails
  simp only [enumFrame, hlink, haddr, halive, hacts, hmac, hfails', Bool.false_or, Nat.lt_irrefl, decide_false, Bool.not_true,
    Bool.false_eq_true, if_false, if_true]

/-- A broadcast receives no answer. -/
theorem Blk.answerWith_of_broadcast (b : Blk) {c : Call} (bytes : List Byte) (h : isBroadcast c = true) : b.answerWith c bytes = b := by
  simp [Blk.answerWith, h]

/-- A broadcast that fails its session's checks leaves the hops as they were. -/
theorem Blk.reg_hop_sessionCheck {b g : Blk} {c : Call} (hcast : isBroadcast c = true) (h : b.sessionCheck c = (none, g)) :
    g.reg Reg.CHN_HOP = b.reg Reg.CHN_HOP := by
  have hcount : ∀ (hi lo code : Nat), ((b.bump Reg.CHN_SEC_ERRORS hi lo 1).raise code).reg Reg.CHN_HOP = b.reg Reg.CHN_HOP :=
    fun hi lo code => by
      rw [Blk.reg_raise _ _ (by decide) (by decide) (by decide), Blk.bump_eq, Blk.reg_setReg_other _ _ (by decide)]
  have hcast' : ∀ ctr ks, isBroadcast { c with ctr := ctr, ks := ks } = true := fun _ _ => hcast
  unfold Blk.sessionCheck at h
  dsimp only at h
  split at h
  · obtain ⟨-, rfl⟩ := Prod.mk.inj h
    rw [Blk.answerWith_of_broadcast _ _ hcast]
  · split at h
    · obtain ⟨-, rfl⟩ := Prod.mk.inj h
      rw [Blk.answerWith_of_broadcast _ _ (hcast' _ _)]
      exact hcount _ _ _
    · split at h
      · obtain ⟨-, rfl⟩ := Prod.mk.inj h
        rw [Blk.answerWith_of_broadcast _ _ (hcast' _ _)]
        exact hcount _ _ _
      · cases (Prod.mk.inj h).1

section Enumerate
variable {b : Blk} {p : List Byte}

/-- An engine with an address keeps it, when no order clears it. -/
theorem Blk.enumerate_of_addressed (hclear : bitN (getLe p 2 1) 0 = false) (h : b.chainAddr ≠ 0) : b.enumerate p = (p, b) := by
  simp [Blk.enumerate, hclear, h]

theorem Blk.enumerate_of_free (hclear : bitN (getLe p 2 1) 0 = false) (h : b.chainAddr = 0) (hnext : getLe p 0 1 ≤ 0x20) :
    b.enumerate p = (le 1 (getLe p 0 1 + 1) ++ le 1 (getLe p 1 1 + 1) ++ p.drop 2, b.setN Reg.CHN_ADDR (getLe p 0 1)) := by
  simp [Blk.enumerate, hclear, h, hnext]

theorem Blk.enumerate_of_exhausted (hclear : bitN (getLe p 2 1) 0 = false) (h : b.chainAddr = 0) (hnext : 0x20 < getLe p 0 1) :
    b.enumerate p = (le 1 (getLe p 0 1) ++ le 1 0xFF ++ p.drop 2, b) := by
  simp [Blk.enumerate, hclear, h, Nat.not_le.mpr hnext]

end Enumerate

theorem Blk.counterEnd_of_noMac (b : Blk) {c : Call} (h : c.r.hasMac = false) : b.counterEnd c = b := by
  simp [Blk.counterEnd, h]

/-- A request without a session ends nothing, and its enumeration frame goes on by CHO. -/
theorem enumFrame_of_noMac {b : Blk} {r : Req} (hlink : r.link = false) (haddr : r.addr % 128 = 0x7E) (halive : b.chainAlive = true)
    (hacts : b.enumActs r = true) (hcho : r.cho = false) (hmac : r.hasMac = false) {p : List Byte} {g : Blk}
    (henum : (b.count Reg.CHN_FRAMES 1).enumerate r.payload = (p, g)) (hwhole : g.hopBroken true = false) :
    enumFrame r b = (g.chainOut true (frameOf (reqBytes { r with payload := p } 0x01))).count Reg.CHN_REPEATED 1 := by
  simp only [enumFrame, haddr, halive, hacts, hmac, henum, hlink, Bool.false_or, Nat.lt_irrefl, decide_false, Bool.not_true,
    Bool.false_eq_true, if_false, if_true]
  rw [Blk.counterEnd_of_noMac _ hmac, hcho]
  exact Blk.repeatFrame_of_whole hwhole

/-- Settles O20: the enumeration frame by the engine's address and the frame's next one, the other commands as accepted requests. -/
theorem frontEndCommandsAreCarriedOut : Obligations.FrontEndCommandsAreCarriedOut := by
  unfold Obligations.FrontEndCommandsAreCarriedOut
  refine ⟨?enumeration, ?commands⟩
  case enumeration =>
    intro dt r s b next count onward hmode hlink hcho haddr hspur hwhole hlen hnext hclear
    have halive : b.chainAlive = true := by simp [Blk.chainAlive, hmode]
    have hacts : b.enumActs r = true := by
      have hne : getLe r.payload 0 1 ≠ 0 := Nat.ne_of_gt hnext
      simp [Blk.enumActs, hspur, hcho, hlen, hne]
    have haddrKept : (b.count Reg.CHN_FRAMES 1).chainAddr = b.chainAddr := by
      rw [Blk.chainAddr, Blk.regF, Blk.regN, Blk.count_eq, Blk.reg_setReg_other _ _ (by decide)]
      rfl
    have hhop : (b.count Reg.CHN_FRAMES 1).reg Reg.CHN_HOP = b.reg Reg.CHN_HOP := by
      rw [Blk.count_eq, Blk.reg_setReg_other _ _ (by decide)]
    have hwholeOf : ∀ g : Blk, g.reg Reg.CHN_HOP = b.reg Reg.CHN_HOP → g.hopBroken true = false := fun g hg => by
      rw [← hwhole, Blk.hopBroken, Blk.regN, hg]
      rfl
    refine ⟨fun g hmac hfails => ?refused, fun hmac hfree hroom => ?addressed, fun hmac hfree hfull => ?exhausted,
      fun hmac hown => ?passed⟩
    case refused =>
      have hcast : isBroadcast { r := r, cmd := 0x01, at_ := b.now } = true := by simp [isBroadcast, hlink, haddr]
      have hg := hwholeOf g ((Blk.reg_hop_sessionCheck hcast hfails).trans hhop)
      rw [exec_enum, enumFrame_of_refused hlink haddr halive hacts hmac hfails, hcho, Blk.repeatFrame_of_whole hg]
      rfl
    case addressed =>
      have henum := Blk.enumerate_of_free (b := b.count Reg.CHN_FRAMES 1) hclear (haddrKept.trans hfree) hroom
      rw [exec_enum, enumFrame_of_noMac hlink haddr halive hacts hcho hmac henum (hwholeOf _ ?_)]
      rw [Blk.setN_eq, Blk.reg_setReg_other _ _ (by decide), hhop]
    case exhausted =>
      have henum := Blk.enumerate_of_exhausted (b := b.count Reg.CHN_FRAMES 1) hclear (haddrKept.trans hfree) hfull
      rw [exec_enum, enumFrame_of_noMac hlink haddr halive hacts hcho hmac henum (hwholeOf _ hhop)]
    case passed =>
      have henum := Blk.enumerate_of_addressed (b := b.count Reg.CHN_FRAMES 1) hclear (haddrKept ▸ hown)
      rw [exec_enum, enumFrame_of_noMac hlink haddr halive hacts hcho hmac henum (hwholeOf _ hhop)]
  case commands =>
    intro dt r cmd c s f b
    refine ⟨fun h hlen => ?probe, fun h hlen hring => ?ring, fun h hlen hspur => ?spur, fun hlisted h => ?unknown⟩
    case probe =>
      obtain ⟨hcall, -, -⟩ := h.call
      rw [exec_probe, h.request_eq, probe_of_running h.inRun (hcall ▸ hlen)]
    case ring =>
      obtain ⟨rfl, -, -⟩ := h.call
      rw [exec_mode, h.request_eq]
      simp only [modeSet, hlen, hring]
      rfl
    case spur =>
      obtain ⟨rfl, -, -⟩ := h.call
      rw [exec_mode, h.request_eq]
      simp only [modeSet, hlen, hspur]
      rfl
    case unknown =>
      rw [exec_chnCmdUnknown, hlisted, h.request_eq]
      rfl

end Sys2Proof.Machine
end

section
/-! Answers and register requests (O21 to O23): an answer is formed, kept and sent (13 R488, R491, R493), forged and replayed requests
(13 R501), and the registers a request names (13 R492, R494). -/
namespace Sys2Proof.Machine

/-! ### Answers (13 R488, R491, R493) -/

/-- A session whose counter is not at its end goes on after the answer (13 R502). -/
theorem Blk.counterEnd_of_below {b : Blk} {c : Call} (h : c.r.hasMac = true → c.ctr < 0xFFFF0000) : b.counterEnd c = b := by
  cases hmac : c.r.hasMac
  · exact b.counterEnd_of_noMac hmac
  · simp [Blk.counterEnd, Nat.not_le.mpr (h hmac)]

theorem Blk.sendAnswer_of_chain {b : Blk} {r : Req} (bytes : List Byte) (h : r.link = false) :
    b.sendAnswer r bytes = b.chainOut (if b.spur then r.cho else true) (frameOf bytes) := by
  simp [Blk.sendAnswer, h]

/-- The answer to a request that is not broadcast is kept, and sent. -/
theorem Blk.answerWith_of_single {b : Blk} {c : Call} (bytes : List Byte) (hsingle : isBroadcast c = false)
    (hslot : keptIdx c.r < b.ses.kept.length) : b.answerWith c bytes =
      ({ b with ses := { b.ses with
        kept := b.ses.kept.set (keptIdx c.r) { asked := askedBytes c, answer := bytes, valid := true } } } : Blk).sendAnswer c.r
        bytes := by
  simp only [Blk.answerWith, hsingle, Bool.false_eq_true, if_false, upd_eq_set (List.getElem?_eq_getElem hslot)]

theorem exec_regWrite (dt : Nat) (r : Req) (s : State) :
    exec (.regWrite dt r) s = .next (s.after ((s.blk.elapse dt).request r 0x05 regWrite)) := rfl

theorem exec_regRead (dt : Nat) (r : Req) (s : State) :
    exec (.regRead dt r) s = .next (s.after ((s.blk.elapse dt).request r 0x04 regRead)) := rfl

/-- A request that repeats the one answered last receives the kept answer once more, and is not executed (13 R493). -/
theorem Blk.accept_of_repeated {g : Blk} {c : Call} {k : Kept} (run : Call → Blk → Blk) (hkept : g.ses.kept[keptIdx c.r]? = some k)
    (hvalid : k.valid = true) (hasked : k.asked = askedBytes c) (hsingle : isBroadcast c = false) :
    g.accept c run = g.sendAnswer c.r k.answer := by
  simp [Blk.accept, hkept, hvalid, hasked, hsingle]

/-- Settles O21: an answer is kept in its request's place and leaves by its hop; a request found there is answered from it. -/
theorem answersAreKeptForRepeatedRequests : Obligations.AnswersAreKeptForRepeatedRequests := by
  unfold Obligations.AnswersAreKeptForRepeatedRequests
  refine ⟨?formed, ?again⟩
  case formed =>
    intro f c status body hport haddr hcontest hctr hslot p a k bytes kept
    have hsingle : isBroadcast c = false := by simp [isBroadcast, Nat.not_le.mpr haddr]
    have hbytes : answerBytes c true status (b2n (contested f.now (f.limitOf c))) body = bytes := by
      rw [hcontest]
      rfl
    rw [Blk.reply, Blk.counterEnd_of_below hctr, hbytes, Blk.answerWith_of_single _ hsingle hslot, Blk.sendAnswer_of_chain _ hport]
    rfl
  case again =>
    intro dt r s k b hrun hport haddr hown hkept hvalid hasked
    have hsingle : isBroadcast { r := r, cmd := 0x05, at_ := b.now } = false := by
      simp [isBroadcast, haddr, Nat.not_le.mpr hown]
    rw [exec_regWrite, hrun.request_chain regWrite hport haddr hown,
      Blk.accept_of_repeated (g := b.count Reg.CHN_FRAMES 1) (c := { r := r, cmd := 0x05, at_ := b.now }) regWrite hkept hvalid hasked
        hsingle]

/-! ### Counter values (13 R501) -/

/-- The counter value a request carries is the smallest above the last one with its low 16 bits. -/
theorem counterOf_fresh {last seq : Nat} (hseq : seq < 65536) (h : (counterOf last seq).1 = true) :
    last < (counterOf last seq).2 ∧ (counterOf last seq).2 ≤ last + 32768 ∧ (counterOf last seq).2 % 65536 = seq ∧
      ∀ w, last < w → w % 65536 = seq → (counterOf last seq).2 ≤ w := by
  unfold counterOf at *
  dsimp only at *
  split
  · rename_i hd
    simp only [Bool.and_eq_true, decide_eq_true_eq] at hd
    refine ⟨?_, ?_, ?_, fun w hw hlow => ?_⟩ <;> dsimp only <;> omega
  · rename_i hd
    simp [hd] at h

/-- A request is a replay when no value above the last one, by no more than 32 768, has its low 16 bits. -/
theorem counterOf_replay {last seq : Nat} (hseq : seq < 65536) (h : (counterOf last seq).1 = false) :
    ∀ w, last < w → w ≤ last + 32768 → w % 65536 ≠ seq := by
  unfold counterOf at h
  dsimp only at h
  split at h
  · cases h
  · rename_i hd
    simp only [Bool.and_eq_true, decide_eq_true_eq] at hd
    intro w hw hle hlow
    omega

/-! ### Forged and replayed requests (13 R501) -/

section Refused
variable {g : Blk} {c : Call}

theorem Blk.sessionCheck_of_forged (hopen : (g.slot (c.r.slot % 4)).st = .opened) (hport : (g.slot (c.r.slot % 4)).link = c.r.link)
    {ctr : Nat} (hctr : (counterOf (g.slot (c.r.slot % 4)).counter c.r.seq).2 = ctr)
    (hmac : macOf (g.slot (c.r.slot % 4)).ks ctr (c.r.addr % 128) (cmdByte c.cmd c.r.slot true) c.r.payload ≠ le 4 c.r.mac) :
    g.sessionCheck c = (none, ((g.bump Reg.CHN_SEC_ERRORS 15 0 1).raise 0x9033).answerWith
      { c with ctr := ctr, ks := (g.slot (c.r.slot % 4)).ks }
      (answerBytes { c with ctr := ctr, ks := (g.slot (c.r.slot % 4)).ks } false 0x9033 0 [])) := by
  subst hctr
  simp only [Blk.sessionCheck, hopen, hport, bne_self_eq_false, Bool.or_self, Bool.false_eq_true, if_false,
    bne_iff_ne.mpr hmac, if_true]

theorem Blk.sessionCheck_of_replayed (hopen : (g.slot (c.r.slot % 4)).st = .opened)
    (hport : (g.slot (c.r.slot % 4)).link = c.r.link) {ctr : Nat}
    (hctr : (counterOf (g.slot (c.r.slot % 4)).counter c.r.seq).2 = ctr)
    (hmac : macOf (g.slot (c.r.slot % 4)).ks ctr (c.r.addr % 128) (cmdByte c.cmd c.r.slot true) c.r.payload = le 4 c.r.mac)
    (hold : (counterOf (g.slot (c.r.slot % 4)).counter c.r.seq).1 = false) :
    g.sessionCheck c = (none, ((g.bump Reg.CHN_SEC_ERRORS 31 16 1).raise 0x9032).answerWith
      { c with ctr := ctr, ks := (g.slot (c.r.slot % 4)).ks }
      (answerBytes { c with ctr := ctr, ks := (g.slot (c.r.slot % 4)).ks } true 0x9032 0 [])) := by
  subst hctr
  simp only [Blk.sessionCheck, hopen, hport, bne_self_eq_false, Bool.or_self, Bool.false_eq_true, if_false, hmac, hold,
    Bool.not_false, if_true]

/-- A request that its session refuses is not executed. -/
theorem Blk.accept_of_refused {g' : Blk} (run : Call → Blk → Blk) (hmac : c.r.hasMac = true)
    (hkept : (g.ses.kept.getD (keptIdx c.r) {}).valid = false) (hcheck : g.sessionCheck c = (none, g')) : g.accept c run = g' := by
  rw [Blk.accept_of_fresh g run fun hv => absurd (hkept.symm.trans hv) (by decide), if_pos hmac, hcheck]

end Refused

/-- Settles O22: the two checks of a session in their order, and the counter value as arithmetic modulo 65 536. -/
theorem sessionsRefuseForgedAndReplayedRequests : Obligations.SessionsRefuseForgedAndReplayedRequests := by
  unfold Obligations.SessionsRefuseForgedAndReplayedRequests
  refine ⟨?refusals, fun last seq hseq => ⟨fun h => counterOf_fresh hseq h, fun h => counterOf_replay hseq h⟩⟩
  case refusals =>
    intro dt r s b f k ctr c mac hrun hport haddr hown hmac hkept hopen hlink
    have haccept := fun g => Blk.accept_of_refused (g := f) (g' := g) (c := { r := r, cmd := 0x05, at_ := b.now }) regWrite hmac hkept
    have hopen' : (f.slot (r.slot % 4)).st = .opened := hopen
    have hlink' : (f.slot (r.slot % 4)).link = r.link := hlink.trans hport.symm
    rw [exec_regWrite, hrun.request_chain regWrite hport haddr hown]
    refine ⟨fun hforged => ?forged, fun hok hold => ?replayed⟩
    case forged =>
      have hcheck := Blk.sessionCheck_of_forged (g := f) (c := { r := r, cmd := 0x05, at_ := b.now }) hopen' hlink' (ctr := ctr) rfl hforged
      rw [haccept _ hcheck]
      rfl
    case replayed =>
      have hcheck := Blk.sessionCheck_of_replayed (g := f) (c := { r := r, cmd := 0x05, at_ := b.now }) hopen' hlink' (ctr := ctr) rfl hok hold
      rw [haccept _ hcheck]
      rfl

end Sys2Proof.Machine
end

section
/-! Register requests (O23): the steps of REG_READ and REG_WRITE (13 R492, R494), and the end of a request's time while it waits. -/
namespace Sys2Proof.Machine

section Steps
variable {f : Blk} {c : Call}

/-- A read that is refused, or meets its register, does one of two things (12 R441). -/
theorem Blk.readReg_of_refused {who : Who} {a : Nat} (h : f.readCheck who a ≠ 0) :
    f.readReg who a = (some (f.readCheck who a, 0), f.raise (f.readCheck who a)) := by
  simp [Blk.readReg, h]

theorem Blk.writeReg_of_refused {who : Who} {a : Nat} {v : Word} (hne : f.writeCheck who a ≠ 0)
    (hlock : f.writeCheck who a ≠ 0xB031) :
    f.writeReg who a v = (some (f.writeCheck who a), f.raise (f.writeCheck who a)) := by
  simp [Blk.writeReg, hne, hlock]

/-- A register whose read changes nothing of its own answers its value. -/
theorem Blk.readNow_of_plain {who : Who} {a : Nat} (hfree : lookupReg f.hiCapture a = none) (hhi : hiOf a = none)
    (htimers : a ≠ Reg.GPC_TIMERS) (hparam : a ≠ Reg.TLYC_PARAM_DATA) : f.readNow who a = (f.regValue who a, f) := by
  simp [Blk.readNow, takeCapture, hfree, hhi, htimers, hparam]

theorem limitOf_prompt (h : c.at_ = f.now) : ¬ f.limitOf c < f.now := by
  rw [Blk.limitOf, h]
  exact Nat.not_lt.mpr (Nat.le_add_right _ _)

/-- A last register step that succeeds at once is followed by the answer. -/
theorem Blk.regRun_last_of_done {g : Blk} {k : Nat} {vals bytes : List Byte} (hprompt : c.at_ = f.now) (hnow : g.now = f.now)
    (hstep : f.regAccess c k = (some (0, bytes), g)) :
    f.regRun 1 c k vals = g.reply c 0 (doneBody (k + 1) (vals ++ bytes)) := by
  simp [Blk.regRun, limitOf_prompt hprompt, hstep, hnow]

/-- A refused step ends the request with its fault and the registers done before it. -/
theorem Blk.regRun_of_refused {g : Blk} {n k st : Nat} {vals bytes : List Byte} (hprompt : c.at_ = f.now) (hst : st ≠ 0)
    (hstep : f.regAccess c k = (some (st, bytes), g)) : f.regRun (n + 1) c k vals = g.reply c st (doneBody k vals) := by
  cases st with
  | zero => exact absurd rfl hst
  | succ m => simp [Blk.regRun, limitOf_prompt hprompt, hstep]

theorem Blk.regAccess_read {st v : Nat} {g : Blk} (k : Nat) (hcmd : c.cmd = 0x04)
    (h : f.readReg (callWho c) (stepAddr c k) = (some (st, v), g)) : f.regAccess c k = (some (st, le 4 v), g) := by
  simp [Blk.regAccess, hcmd, h]

theorem Blk.regAccess_write {st : Nat} {g : Blk} (k : Nat) (hcmd : c.cmd = 0x05)
    (h : f.writeReg (callWho c) (stepAddr c k) (BitVec.ofNat 32 (getLe c.r.payload (8 + 4 * k) 4)) = (some st, g)) :
    f.regAccess c k = (some (st, []), g) := by
  simp [Blk.regAccess, hcmd, h]

theorem regRead_of_one (hlen : c.r.payload.length = 8) (hone : getLe c.r.payload 4 1 = 1) : regRead c f = f.regRun 1 c 0 [] := by
  simp [regRead, Blk.regResume, regCount, hlen, hone]

theorem regWrite_of_one (hlen : c.r.payload.length = 12) (hone : getLe c.r.payload 4 1 = 1) : regWrite c f = f.regRun 1 c 0 [] := by
  simp [regWrite, Blk.regResume, regCount, hlen, hone]

end Steps

/-- RW registers outside the settings pages, without a behaviour of their own, that a request may set. -/
def ownRegs : List Nat := [Reg.SYS_FLOG_SEL, Reg.EVT_ROUTE, Reg.PWR_CTL, Reg.BND_WAIT_LIMIT, Reg.SES_IDLE_LIMIT, Reg.CHN_HOP_LIMIT,
  Reg.CHN_RESP_LIMIT]

theorem ownRegs_spec : ∀ a ∈ ownRegs, accessOf a = .rw ∧ 0x40 ≤ offOf a ∧ pageOf a ≠ 0x43 ∧ ¬(0x0B ≤ pageOf a ∧ pageOf a ≤ 0x0F) ∧
    a ∉ actingRegs := by
  decide

theorem Blk.writeReg_of_ownRegs {f : Blk} {who : Who} {a : Nat} {v : Word} (ha : a ∈ ownRegs) (hcheck : f.writeCheck who a = 0)
    (hready : f.domReady (domOf a) = true) (hvalue : valueOk a v.toNat = true) :
    f.writeReg who a v = (some 0, (f.reached a).setReg a v) := by
  obtain ⟨hrw, hoff, hcoef, hlane, hacting⟩ := ownRegs_spec a ha
  have hdirect : (accessOf a).isDirect := by simp [Access.isDirect, hrw]
  have hmark : (f.reached a).markChanged a = f.reached a := by
    simp [Blk.markChanged, directSetting_of_block hrw hoff hcoef]
  rw [Blk.writeReg_of_ready hcheck hready hdirect hvalue, hmark, Blk.writeNow_of_plain _ _ _ hrw hoff hcoef hlane hacting]

/-! ### The end of a request's time (13 R492) -/

theorem exec_chnRespTimeout (dt : Nat) (link : Bool) (s : State) :
    exec (.chnRespTimeout dt link) s = .next (s.after (chnRespTimeout link (s.blk.elapse dt))) := rfl

/-- The one waiting access, a request of the port whose limit has come, is answered with the registers done. -/
theorem chnRespTimeout_of_late {b : Blk} {c : Call} {d t k : Nat} {vals : List Byte}
    (hstall : b.chn.stalls = [{ dom := d, since := t, what := .req c k vals }]) (hlate : b.limitOf c ≤ b.now) :
    chnRespTimeout c.r.link b =
      ({ b with chn := { b.chn with stalls := [] } } : Blk).replyLate c (doneBody k vals) := by
  simp [chnRespTimeout, hstall, hlate]

/-- Settles O23: one step of a request by what its register access gives. -/
theorem registerRequestsReachRegisters : Obligations.RegisterRequestsReachRegisters := by
  unfold Obligations.RegisterRequestsReachRegisters
  refine ⟨?registers, ?late⟩
  case registers =>
    intro dt r c s f b a v hone
    refine ⟨fun h hlen hcheck hready hfree hhi htimers hparam => ?read, fun h hlen hcheck => ?readRefused,
      fun h hlen hcheck hready ha hvalue => ?write, fun h hlen hcheck => ?writeRefused⟩
    case read =>
      obtain ⟨rfl, hcmd, hat⟩ := h.call
      have hread : f.readReg (callWho c) (stepAddr c 0) = (some (0, (f.reached a).regValue (callWho c) a), f.reached a) := by
        rw [Blk.readReg_of_ready (a := stepAddr c 0) hcheck hready,
          Blk.readNow_of_plain (f := f.reached (stepAddr c 0)) (a := stepAddr c 0) hfree hhi htimers hparam]
        rfl
      rw [exec_regRead, h.request_eq, regRead_of_one hlen hone,
        Blk.regRun_last_of_done (g := f.reached a) hat rfl (Blk.regAccess_read 0 hcmd hread)]
      rfl
    case readRefused =>
      obtain ⟨rfl, hcmd, hat⟩ := h.call
      have hread := Blk.readReg_of_refused (f := f) (who := callWho c) (a := stepAddr c 0) hcheck
      rw [exec_regRead, h.request_eq, regRead_of_one hlen hone, Blk.regRun_of_refused hat hcheck (Blk.regAccess_read 0 hcmd hread)]
      rfl
    case write =>
      obtain ⟨rfl, hcmd, hat⟩ := h.call
      have hwrite := Blk.writeReg_of_ownRegs (f := f) (who := callWho c) (a := stepAddr c 0) ha hcheck hready hvalue
      rw [exec_regWrite, h.request_eq, regWrite_of_one hlen hone,
        Blk.regRun_last_of_done (g := (f.reached a).setReg a v) hat rfl (Blk.regAccess_write 0 hcmd hwrite)]
      rfl
    case writeRefused =>
      obtain ⟨rfl, hcmd, hat⟩ := h.call
      have hcode : f.writeCheck (callWho c) a ≠ 0 ∧ f.writeCheck (callWho c) a ≠ 0xB031 := by
        simp only [List.mem_cons, List.not_mem_nil, or_false] at hcheck
        omega
      have hwrite := Blk.writeReg_of_refused (f := f) (who := callWho c) (a := stepAddr c 0)
        (v := BitVec.ofNat 32 (getLe c.r.payload (8 + 4 * 0) 4)) hcode.1 hcode.2
      rw [exec_regWrite, h.request_eq, regWrite_of_one hlen hone,
        Blk.regRun_of_refused hat hcode.1 (Blk.regAccess_write 0 hcmd hwrite)]
      rfl
  case late =>
    intro dt s d t k c vals b hstall hlate
    rw [exec_chnRespTimeout, chnRespTimeout_of_late hstall hlate]
    rfl

end Sys2Proof.Machine
end

section
/-! Sessions (O25 to O27): challenge and proof on either port (13 R500, R505; 14 R526), the ends of a session (13 R504), and the keys
(13 R508). -/
namespace Sys2Proof.Machine

/-! ### A request taken on either port -/

section Taken
variable {b f g : Blk} {r q : Req} {cmd : Nat} {c c0 : Call}

theorem Blk.turnHop_shape (b : Blk) (cho : Bool) : ∃ regs chn, b.turnHop cho = { b with regs := regs, chn := chn } :=
  ⟨(b.flipHop cho).regs, _, rfl⟩

theorem Blk.chainOut_shape (b : Blk) (cho : Bool) (bytes : List Byte) :
    ∃ regs chn wire, b.chainOut cho bytes = { b with regs := regs, chn := chn, wire := wire } := by
  unfold Blk.chainOut
  split
  · exact ⟨_, _, _, rfl⟩
  · split
    · exact ⟨_, _, _, rfl⟩
    · obtain ⟨regs, chn, h⟩ := b.turnHop_shape cho
      rw [h]
      exact ⟨_, _, _, rfl⟩

theorem Blk.repeatFrame_shape (b : Blk) (cho : Bool) (bytes : List Byte) :
    ∃ regs chn wire, b.repeatFrame cho bytes = { b with regs := regs, chn := chn, wire := wire } := by
  unfold Blk.repeatFrame
  split
  · exact ⟨_, _, _, rfl⟩
  · obtain ⟨regs, chn, wire, h⟩ := b.chainOut_shape (!cho) bytes
    rw [h]
    exact ⟨_, _, _, rfl⟩

/-- What accepting a packet on the link can change. -/
theorem Blk.linkAccept_shape (b : Blk) : ∃ regs lnk, b.linkAccept = { b with regs := regs, lnk := lnk } := by
  unfold Blk.linkAccept
  dsimp only
  split <;> exact ⟨_, _, rfl⟩

/-- A session's checks hand on the call they were given, with its counter value and key. -/
theorem Blk.sessionCheck_passed (h : g.sessionCheck c0 = (some c, f)) :
    c.r = c0.r ∧ c.cmd = c0.cmd ∧ c.at_ = c0.at_ ∧ f.now = g.now ∧ f.pwr = g.pwr ∧ f.sys = g.sys := by
  unfold Blk.sessionCheck at h
  dsimp only at h
  split at h
  · cases (Prod.mk.inj h).1
  · split at h
    · cases (Prod.mk.inj h).1
    · split at h
      · cases (Prod.mk.inj h).1
      · obtain ⟨hc, rfl⟩ := Prod.mk.inj h
        obtain rfl := Option.some.inj hc
        exact ⟨rfl, rfl, rfl, rfl, rfl, rfl⟩

/-- The checks a taken request has passed: no repetition, and its session's where it has one. -/
def Blk.passes (g : Blk) (c0 c : Call) (f : Blk) : Prop :=
  ((g.ses.kept.getD (keptIdx c0.r) {}).valid = true → (g.ses.kept.getD (keptIdx c0.r) {}).asked = askedBytes c0 →
    isBroadcast c0 = true) ∧
  ((c0.r.hasMac = false ∧ c = c0 ∧ f = g) ∨ (c0.r.hasMac = true ∧ g.sessionCheck c0 = (some c, f)))

theorem Blk.passes.call (h : g.passes c0 c f) : c.r = c0.r ∧ c.cmd = c0.cmd ∧ c.at_ = c0.at_ ∧ f.now = g.now := by
  obtain ⟨-, ⟨-, rfl, rfl⟩ | ⟨-, hcheck⟩⟩ := h
  · exact ⟨rfl, rfl, rfl, rfl⟩
  · obtain ⟨hr, hcmd, hat, hnow, -⟩ := Blk.sessionCheck_passed hcheck
    exact ⟨hr, hcmd, hat, hnow⟩

theorem Blk.passes.accept_eq (h : g.passes c0 c f) (hat : c0.at_ = g.now) (run : Call → Blk → Blk) : g.accept c0 run = run c f := by
  obtain ⟨-, -, hatc, hnow⟩ := h.call
  obtain ⟨hkept, hsession⟩ := h
  have hprompt : f.runCall c run = run c f := Blk.runCall_of_prompt f c run (by rw [hatc, hat, hnow])
  rw [Blk.accept_of_fresh g run hkept]
  rcases hsession with ⟨hmac, rfl, rfl⟩ | ⟨hmac, hcheck⟩
  · rw [if_neg (by rw [hmac]; decide), hprompt]
  · rw [if_pos hmac, hcheck]
    exact hprompt

/-- A command that a packet type carries comes in an envelope to the engine. -/
theorem envelopeType_of_linkCarries {ptype : Nat} (h : linkCarries ptype cmd = true) : envelopeType ptype = true := by
  unfold linkCarries at h
  split at h
  · rfl
  · rfl
  · rfl
  · cases h

/-- A request taken on either port runs its command in the engine that accepted it. -/
theorem Blk.takes.request_eq (h : b.takes r cmd c f) (run : Call → Blk → Blk) : b.request r cmd run = run c f := by
  obtain ⟨hrun, q, g, hport, hkept, hsession⟩ := h
  rcases hport with ⟨hlink, rfl, hacts, rfl⟩ | ⟨hlink, rfl, hup, hcarries, rfl⟩
  · generalize hg : (let x := b.count Reg.CHN_FRAMES 1
      if 0x7E ≤ q.addr % 128 then x.repeatFrame q.cho (frameOf (reqBytes q cmd)) else x) = g at *
    have hshape : ∃ regs chn wire, g = { b with regs := regs, chn := chn, wire := wire } := by
      rw [← hg]
      dsimp only
      split
      · obtain ⟨regs, chn, wire, hs⟩ := (b.count Reg.CHN_FRAMES 1).repeatFrame_shape q.cho (frameOf (reqBytes q cmd))
        rw [hs]
        exact ⟨_, _, _, rfl⟩
      · exact ⟨_, _, _, rfl⟩
    obtain ⟨regs, chn, wire, rfl⟩ := hshape
    have hgrun : ({ b with regs := regs, chn := chn, wire := wire } : Blk).inRun := hrun
    have hcast : isBroadcast { r := q, cmd := cmd, at_ := b.now } = decide (0x7E ≤ q.addr % 128) := by
      simp [isBroadcast, hlink]
    have hserves : ({ b with regs := regs, chn := chn, wire := wire } : Blk).servesCall { r := q, cmd := cmd, at_ := b.now } = true := by
      simp only [Blk.servesCall, hgrun.serving, Bool.true_or]
    have hpasses : ({ b with regs := regs, chn := chn, wire := wire } : Blk).passes { r := q, cmd := cmd, at_ := b.now } c f :=
      ⟨hkept, hsession⟩
    have hfront : b.request q cmd run =
        ({ b with regs := regs, chn := chn, wire := wire } : Blk).accept { r := q, cmd := cmd, at_ := b.now } run := by
      rw [← hg] at hgrun hserves ⊢
      simp only [Blk.request, hlink, Blk.chainArrive, hrun.chainAlive, hacts, hcast, Blk.frontEnd, Bool.not_true, Bool.false_eq_true,
        if_false, decide_eq_true_eq] at hgrun hserves ⊢
      simp only [hgrun.asleep, hserves, Bool.false_eq_true, if_false, if_true, ite_self]
    rw [hfront, hpasses.accept_eq rfl]
  · obtain ⟨regs, lnk, hs⟩ := b.linkAccept_shape
    have hgrun : b.linkAccept.inRun := by rw [hs]; exact hrun
    have hnow : b.linkAccept.now = b.now := by rw [hs]
    have hserves : ∀ x, b.linkAccept.servesCall x = true := fun x => by
      simp only [Blk.servesCall, hgrun.serving, Bool.true_or]
    have hpasses : b.linkAccept.passes { r := { r with addr := 0 }, cmd := cmd, at_ := b.now } c f := ⟨hkept, hsession⟩
    have hfront : b.request r cmd run = b.linkAccept.accept { r := { r with addr := 0 }, cmd := cmd, at_ := b.now } run := by
      simp only [Blk.request, hlink, Blk.linkArrive, hup, envelopeType_of_linkCarries hcarries, hserves, hcarries, Bool.not_true,
        Bool.or_self, Bool.false_and, Bool.false_eq_true, if_false, if_true]
    rw [hfront, hpasses.accept_eq hnow.symm]

theorem Blk.takes.call (h : b.takes r cmd c f) :
    c.r.link = r.link ∧ c.r.slot = r.slot ∧ c.r.payload = r.payload ∧ c.r.hasMac = r.hasMac := by
  obtain ⟨-, q, g, hport, hkept, hsession⟩ := h
  have hr : c.r = q := by
    rcases hsession with ⟨-, rfl, -⟩ | ⟨-, hcheck⟩
    · rfl
    · exact (Blk.sessionCheck_passed hcheck).1
  rw [hr]
  rcases hport with ⟨-, rfl, -⟩ | ⟨-, rfl, -⟩ <;> exact ⟨rfl, rfl, rfl, rfl⟩

end Taken

end Sys2Proof.Machine
end

section
/-! Sessions that open and end, and their keys (O25 to O27; 13 R500 to R509). -/
namespace Sys2Proof.Machine

theorem exec_sesChallenge (dt : Nat) (r : Req) (s : State) :
    exec (.sesChallenge dt r) s = .next (s.after ((s.blk.elapse dt).request r 0x10 sesChallenge)) := rfl

theorem exec_sesProve (dt : Nat) (r : Req) (s : State) :
    exec (.sesProve dt r) s = .next (s.after ((s.blk.elapse dt).request r 0x11 sesProve)) := rfl

theorem exec_sesClose (dt : Nat) (r : Req) (s : State) :
    exec (.sesClose dt r) s = .next (s.after ((s.blk.elapse dt).request r 0x12 sesClose)) := rfl

theorem exec_sesKeySet (dt : Nat) (r : Req) (s : State) :
    exec (.sesKeySet dt r) s = .next (s.after ((s.blk.elapse dt).request r 0x13 sesKeySet)) := rfl

theorem exec_sesIdleClosed (dt n : Nat) (s : State) :
    exec (.sesIdleClosed dt n) s = .next (s.after (sesIdleClosed n (s.blk.elapse dt))) := rfl

theorem exec_sesChallengeExpired (dt n : Nat) (s : State) :
    exec (.sesChallengeExpired dt n) s = .next (s.after (sesChallengeExpired n (s.blk.elapse dt))) := rfl

theorem exec_sesBackoffEnd (dt role : Nat) (s : State) :
    exec (.sesBackoffEnd dt role) s = .next (s.after (sesBackoffEnd role (s.blk.elapse dt))) := rfl

theorem exec_sesForceClose (dt : Nat) (who : Who) (v : Word) (s : State) :
    exec (.sesForceClose dt who v) s = .next (s.after ((s.blk.elapse dt).write1 who Reg.SES_CLOSE v)) := rfl

/-! ### Slots -/

theorem Blk.slot_updSlot_same {b : Blk} {i : Nat} (f : SesSlot → SesSlot) (h : i < b.ses.slots.length) :
    (b.updSlot i f).slot i = f (b.slot i) := upd_getD_same _ _ _ _ h

/-- A slot that is not free stands in the list of slots. -/
theorem Blk.slot_lt_of_ne_free {b : Blk} {i : Nat} (h : (b.slot i).st ≠ .free) : i < b.ses.slots.length := by
  by_contra hge
  have hdefault : b.slot i = {} := List.getD_eq_default _ _ (Nat.not_lt.mp hge)
  exact h (by rw [hdefault])

/-- A slot without an open bundle closes: it is freed, and keeps the counter of its last session (13 R504). -/
theorem Blk.closeSlot_of_noBundle {b : Blk} {i : Nat} (hbundle : b.openBundle i = none) :
    b.closeSlot i = (if (b.slot i).st = .opened then
      { b with bnd := { b.bnd with waiting := b.bnd.waiting.map (fun u => if u.slot = i then { u with orphan := true } else u) } }
      else b : Blk).updSlot i (fun k => { counter := k.counter }) := by
  simp [Blk.closeSlot, hbundle]

theorem Blk.closeSlot_of_noBundle_shape {b : Blk} {i : Nat} (hbundle : b.openBundle i = none) :
    ∃ bnd, b.closeSlot i = ({ b with bnd := bnd } : Blk).updSlot i (fun k => { counter := k.counter }) := by
  rw [Blk.closeSlot_of_noBundle hbundle]
  split
  · exact ⟨_, rfl⟩
  · exact ⟨b.bnd, rfl⟩

/-! ### What a proof leaves (13 R500, R505) -/

theorem Blk.regF_congr {b c : Blk} (h : b.regs = c.regs) (a hi lo : Nat) : b.regF a hi lo = c.regF a hi lo := by
  rw [Blk.regF, Blk.regF, Blk.regN, Blk.regN, Blk.reg, Blk.reg, h]

theorem Blk.regF_bump_16 (b : Blk) (a : Nat) {hi lo : Nat} (k : Nat) (h : hi = lo + 15) (hhi : hi < 32) :
    (b.bump a hi lo k).regF a hi lo = min (b.regF a hi lo + k) 65535 := by
  have hwidth : hi + 1 - lo = 16 := by omega
  rw [Blk.bump, Blk.regF_setF_same _ _ _ (by omega) hhi, hwidth, sat]
  omega

section Proofs
variable {b : Blk} {i role : Nat}

/-- A session opened on a slot, by its parts. -/
theorem Blk.proofPassed_eq (b : Blk) (i role : Nat) (ks : List Byte) : b.proofPassed i role ks =
    ({ b with
        regs := (b.bump Reg.SES_OPENS 15 0 1).regs
        ses := { b.ses with
          slots := upd b.ses.slots i (fun k => { k with st := .opened, counter := 0, ks := BitVec.ofNat 128 (unle ks), since := b.now })
          fails := upd b.ses.fails role (fun _ => 0) } } : Blk) := rfl

theorem Blk.proofPassed_spec (ks : List Byte) (hi : i < b.ses.slots.length) (hrole : role < b.ses.fails.length) :
    (b.proofPassed i role ks).slot i =
        { b.slot i with st := .opened, counter := 0, ks := BitVec.ofNat 128 (unle ks), since := b.now } ∧
      (b.proofPassed i role ks).ses.fails.getD role 0 = 0 ∧
      (b.proofPassed i role ks).regF Reg.SES_OPENS 15 0 = min (b.regF Reg.SES_OPENS 15 0 + 1) 65535 := by
  rw [Blk.proofPassed_eq]
  refine ⟨?_, upd_getD_same _ _ _ _ hrole, ?_⟩
  · rw [Blk.slot]
    exact upd_getD_same _ _ _ _ hi
  · rw [← Blk.regF_bump_16 b Reg.SES_OPENS 1 (hi := 15) (lo := 0) rfl (by decide)]
    exact Blk.regF_congr rfl _ _ _

/-- A failed proof by its parts, without a bundle open on its slot: the slot freed, the failure counted, the backoff from the fourth on. -/
theorem Blk.proofFailed_shape (hbundle : b.openBundle i = none) : ∃ bnd, b.proofFailed i role =
    ({ b with
        regs := (b.bump Reg.SES_OPENS 31 16 1).regs
        bnd := bnd
        ses := { b.ses with
          slots := upd b.ses.slots i (fun k => { counter := k.counter })
          fails := upd b.ses.fails role (fun _ => sat 8 (b.ses.fails.getD role 0 + 1))
          backoff := if 4 ≤ sat 8 (b.ses.fails.getD role 0 + 1) then upd b.ses.backoff role (fun _ => some b.now)
            else b.ses.backoff } } : Blk) := by
  obtain ⟨bnd, hclose⟩ := Blk.closeSlot_of_noBundle_shape hbundle
  unfold Blk.proofFailed
  rw [hclose]
  refine ⟨bnd, ?_⟩
  dsimp only
  split <;> rfl

/-- A failed proof frees the slot and is counted; the fourth in a row, and each further one, starts the backoff. -/
theorem Blk.proofFailed_spec (hi : i < b.ses.slots.length) (hrole : role < b.ses.fails.length)
    (hback : role < b.ses.backoff.length) (hbundle : b.openBundle i = none) :
    (b.proofFailed i role).slot i = { counter := (b.slot i).counter } ∧
      (b.proofFailed i role).ses.fails.getD role 0 = sat 8 (b.ses.fails.getD role 0 + 1) ∧
      (b.proofFailed i role).regF Reg.SES_OPENS 31 16 = min (b.regF Reg.SES_OPENS 31 16 + 1) 65535 ∧
      (4 ≤ sat 8 (b.ses.fails.getD role 0 + 1) → (b.proofFailed i role).ses.backoff.getD role none = some b.now) ∧
      (sat 8 (b.ses.fails.getD role 0 + 1) < 4 → (b.proofFailed i role).ses.backoff = b.ses.backoff) := by
  obtain ⟨bnd, hfailed⟩ := Blk.proofFailed_shape (role := role) hbundle
  rw [hfailed]
  refine ⟨?_, upd_getD_same _ _ _ _ hrole, ?_, fun h4 => ?_, fun h4 => if_neg (Nat.not_le.mpr h4)⟩
  · rw [Blk.slot]
    exact upd_getD_same _ _ _ _ hi
  · rw [← Blk.regF_bump_16 b Reg.SES_OPENS 1 (hi := 31) (lo := 16) rfl (by decide)]
    exact Blk.regF_congr rfl _ _ _
  · dsimp only
    rw [if_pos h4]
    exact upd_getD_same _ _ _ _ hback

end Proofs

/-! ### Challenge and proof -/

/-- A challenge that comes too late, or a proof later than a second, finds its slot freed (13 R500). -/
theorem Blk.slotTimes_of_expired {b : Blk} {i : Nat} (hst : (b.slot i).st = .challenged) (h : (b.slot i).since + second ≤ b.now) :
    b.slotTimes i = { b.closeSlot i with ses := { (b.closeSlot i).ses with expired := i :: (b.closeSlot i).ses.expired } } := by
  simp [Blk.slotTimes, hst, h]

theorem Blk.slotTimes_of_idle {b : Blk} {i : Nat} (hst : (b.slot i).st = .opened)
    (h : (b.slot i).since + second * b.regF Reg.SES_IDLE_LIMIT 11 0 ≤ b.now) :
    b.slotTimes i = (b.closeSlot i).raise 0x9038 := by
  simp [Blk.slotTimes, hst, h]

/-- A challenge's answers in the order of its checks (13 R500, R505). -/
theorem sesChallenge_eq (c : Call) (f : Blk) : sesChallenge c f =
    (if c.r.payload.length ≠ 20 then f.reply c 0x9025 []
    else if f.ses.backoff.getD (getLe c.r.payload 0 1) none ≠ none then (f.raise 0x9034).reply c 0x9034 []
    else match (List.range 4).find? (fun i => decide ((f.slot i).st = .free)) with
      | none => f.reply c 0x9031 []
      | some i =>
        if f.keyOf (getLe c.r.payload 0 1) = none then f.reply c 0x9036 []
        else (({ f with ses := { f.ses with nonces := f.ses.nonces + 1, expired := f.ses.expired.filter (fun j => j != i) } }
          : Blk).updSlot i (fun _ =>
            { st := .challenged, role := getLe c.r.payload 0 1, link := c.r.link, nh := BitVec.ofNat 128 (getLe c.r.payload 4 16),
              nd := Config.freeNonce f.ses.nonces, since := f.now })).reply c 0
            (le 1 i ++ zeros 3 ++ le 16 (Config.freeNonce f.ses.nonces).toNat)) := by
  unfold sesChallenge
  dsimp only
  simp only [bne_iff_ne, Option.isSome_iff_ne_none, Option.isNone_iff_eq_none, Blk.lengthFault, Blk.replyFault] <;> rfl

/-- The engine in which a proof is judged: one that comes later than a second finds its slot freed (13 R500). -/
def Blk.proofSeen (f : Blk) (i : Nat) : Blk :=
  if decide ((f.slot i).st = .challenged) && decide ((f.slot i).since + 312500000 < f.now) then
    { f.closeSlot i with ses := { (f.closeSlot i).ses with expired := i :: (f.closeSlot i).ses.expired } }
  else f

theorem Blk.proofSeen_eq (f : Blk) (i : Nat) :
    (if (f.slot i).st = .challenged && (f.slot i).since + second < f.now then f.slotTimes i else f) = f.proofSeen i := by
  unfold Blk.proofSeen
  by_cases hlate : (f.slot i).st = .challenged ∧ (f.slot i).since + 312500000 < f.now
  · obtain ⟨hst, hsince⟩ := hlate
    have hseen : (decide ((f.slot i).st = .challenged) && decide ((f.slot i).since + 312500000 < f.now)) = true := by simp [hst, hsince]
    rw [Blk.slotTimes_of_expired hst (Nat.le_of_lt hsince), if_pos hseen]
    exact if_pos hseen
  · have hseen : ¬(decide ((f.slot i).st = .challenged) && decide ((f.slot i).since + 312500000 < f.now)) = true := by simpa using hlate
    rw [if_neg hseen]
    exact if_neg hseen

/-- A proof's answers in the order of its checks (13 R500, R505). -/
theorem sesProve_eq (c : Call) (f : Blk) : sesProve c f =
    (let i := c.r.slot % 4
     let g := f.proofSeen i
     let y := g.slot i
     let addr := if c.r.link then 0 else g.chainAddr
     if c.r.payload.length ≠ 16 then g.reply c 0x9025 []
     else if y.st ≠ .challenged ∨ y.link ≠ c.r.link then g.reply c (if g.ses.expired.contains i then 0x9037 else 0x903A) []
     else match g.keyOf y.role with
       | none => (g.closeSlot i).reply c 0x9036 []
       | some key =>
         if c.r.payload = cmac key (proofMsg 0x48 addr y) then
           (g.proofPassed i y.role (cmac key (proofMsg 0x53 addr y))).reply c 0 (cmac key (proofMsg 0x45 addr y))
         else ((g.proofFailed i y.role).raise 0x9035).reply c 0x9035 []) := by
  unfold sesProve
  dsimp only
  rw [Blk.proofSeen_eq]
  generalize f.proofSeen (c.r.slot % 4) = g
  simp only [bne_iff_ne, Bool.or_eq_true, Blk.lengthFault, Blk.replyFault] <;> rfl

/-- Settles O25: each command of a taken request by its own order of checks, and what the two outcomes of a proof leave. -/
theorem sessionsOpenByProof : Obligations.SessionsOpenByProof := by
  unfold Obligations.SessionsOpenByProof
  refine ⟨?challenge, ?prove, ?outcomes⟩
  case challenge =>
    intro dt r c s f b role nd x ses h
    obtain ⟨hlink, -, hpayload, -⟩ := h.call
    rw [exec_sesChallenge, h.request_eq, sesChallenge_eq, hpayload, hlink] <;> rfl
  case prove =>
    intro dt r c s f b i late freed g y m h
    obtain ⟨hlink, hslot, hpayload, -⟩ := h.call
    rw [exec_sesProve, h.request_eq, sesProve_eq, hpayload, hlink, hslot]
    rfl
  case outcomes =>
    intro b i role ks hi hslots hfails hback hrole hbundle p q n
    obtain ⟨hslot, hclear, hopens⟩ := Blk.proofPassed_spec ks (hslots ▸ hi) (hfails ▸ hrole)
    obtain ⟨hfreed, hcount, hfailed, hstart, hkeep⟩ :=
      Blk.proofFailed_spec (hslots ▸ hi) (hfails ▸ hrole) (hback ▸ hrole) hbundle
    exact ⟨hslot, hclear, hopens, hfreed, hcount, hfailed, hstart, hkeep⟩

/-! ### The ends of a session (13 R500, R504, R505, R513) -/

/-- A slot no session is open on, and no bundle, is freed without anything else changing. -/
theorem Blk.closeSlot_of_idle {b : Blk} {i : Nat} (hst : (b.slot i).st ≠ .opened) (hbundle : b.openBundle i = none) :
    b.closeSlot i = b.updSlot i (fun k => { counter := k.counter }) := by
  rw [Blk.closeSlot_of_noBundle hbundle, if_neg hst]

/-- The one slot named in a forced close is closed, where it is not free. -/
theorem Blk.forceClose_single {b : Blk} {n : Nat} (hn : n < 4) (h : (b.slot n).st ≠ .free) : b.forceClose (2 ^ n) = b.closeSlot n := by
  have hbit : ∀ k, bitN (2 ^ n) k = decide (n = k) := fun k => by
    rw [bitN_eq_testBit, Nat.testBit_two_pow]
  have hrange : List.range 4 = [0, 1, 2, 3] := rfl
  simp only [Blk.forceClose, hbit, hrange, List.foldl_cons, List.foldl_nil]
  interval_cases n <;> simp [h]

theorem Blk.accepts.role_callWho {b f : Blk} {r : Req} {cmd : Nat} {c : Call} (h : b.accepts r cmd c f) (hmac : r.hasMac = true) :
    f.role (callWho c) = (f.slot (r.slot % 4)).role := by
  have hr : c.r = r := h.call.1
  have hwho : callWho c = some (Fin.ofNat 4 r.slot) := by rw [callWho, hr, if_pos hmac]
  have hopened : (f.slot (r.slot % 4)).st = .opened := by
    obtain ⟨-, -, -, -, -, ⟨hno, -⟩ | ⟨-, ctr, hst, -, -, -, -, rfl⟩⟩ := h
    · rw [hmac] at hno
      cases hno
    · have hlt : r.slot % 4 < b.ses.slots.length := Blk.slot_lt_of_ne_free (by rw [hst]; decide)
      have hslot := Blk.slot_updSlot_same (b := b.count Reg.CHN_FRAMES 1) (fun k => { k with counter := ctr, since := b.now }) hlt
      rw [hslot]
      exact hst
  rw [hwho]
  exact if_pos hopened

/-- Settles O26: each end by itself, from what the slot holds. -/
theorem sessionsEnd : Obligations.SessionsEnd := by
  unfold Obligations.SessionsEnd
  intro dt r c s f i n role t b
  refine ⟨fun h hmac hpayload hrole => ?closed, fun h hn hst hidle => ?idle, fun h hn hst hlate hbundle => ?expired,
    fun hback hlate => ?backoff, fun h hready hservice hn hst => ?forced⟩
  case closed =>
    have hr : c.r = r := h.call.1
    rw [exec_sesClose, h.request_eq, sesClose, if_neg (by rw [hr, hpayload]; decide), h.role_callWho hmac, if_neg hrole, hr]
  case idle =>
    rw [exec_sesIdleClosed, sesIdleClosed, if_pos (by simp [b, h.serving, hst]), Blk.slotTimes_of_idle hst hidle]
  case expired =>
    rw [exec_sesChallengeExpired, sesChallengeExpired, if_pos (by simp [b, h.serving, hst]), Blk.slotTimes_of_expired hst hlate,
      Blk.closeSlot_of_idle (by rw [hst]; decide) hbundle]
    rfl
  case backoff =>
    have hend : sesBackoffEnd role b = { b with ses := { b.ses with backoff := upd b.ses.backoff role (fun _ => none) } } := by
      unfold sesBackoffEnd
      rw [hback]
      exact if_pos hlate
    rw [exec_sesBackoffEnd, hend]
  case forced =>
    have hvalue : (BitVec.ofNat 32 (2 ^ n)).toNat = 2 ^ n := by interval_cases n <;> rfl
    have hallowed : valueOk Reg.SES_CLOSE (BitVec.ofNat 32 (2 ^ n)).toNat = true := by interval_cases n <;> decide
    have hcheck : b.writeCheck (some i) Reg.SES_CLOSE = 0 :=
      Blk.writeCheck_eq_zero rfl (h.pageListed_of_isSome rfl) (by rw [hservice]; rfl) rfl (by decide)
    have hmark : (b.reached Reg.SES_CLOSE).markChanged Reg.SES_CLOSE = b.reached Reg.SES_CLOSE := rfl
    have hwrite : ∀ (g : Blk) v, g.writeNow (some i) Reg.SES_CLOSE v = (0, g.forceClose v) := fun _ _ => rfl
    rw [exec_sesForceClose, h.write1_of_ready hcheck hready ⟨by decide, by decide, by decide⟩ hallowed, hmark, hwrite, hvalue,
      Blk.forceClose_single (b := b.reached Reg.SES_CLOSE) hn hst]

/-! ### Keys (13 R508) -/

/-- Settles O27: a key block is taken in a permitted case with a good check, and refused otherwise. -/
theorem keysAreSetFromWrappedBlocks : Obligations.KeysAreSetFromWrappedBlocks := by
  unfold Obligations.KeysAreSetFromWrappedBlocks
  intro dt r c s f b role target key h hlen hrole
  have hr : c.r = r := h.call.1
  have hnamed : (role != 2 && role != 3) = false := by
    rcases List.mem_pair.mp hrole with h2 | h3
    · rw [h2]; rfl
    · rw [h3]; rfl
  have hrun : exec (.sesKeySet dt r) s = .next (s.after (
      if !f.mayRekey role target then f.replyFault c 0x9044
      else if (cmac key (zeros 16)).take 4 != slice r.payload 20 4 then f.replyFault c 0x9043
      else ((f.setKey target (.value (BitVec.ofNat 128 (unle key)))).event 0x02 4 0x0000).reply c 0 [])) := by
    rw [exec_sesKeySet, h.request_eq, sesKeySet, hr, if_neg (by rw [hlen]; decide), if_neg (by rw [hnamed]; decide)]
  rw [hrun]
  refine ⟨fun hmay hgood => ?_, fun hmay hbad => ?_, fun hmay => ?_⟩
  · rw [hmay, if_neg (by decide), if_neg (by rw [hgood]; simp)]
  · rw [hmay, if_neg (by decide), if_pos (bne_iff_ne.mpr hbad)]
    rfl
  · rw [hmay, if_pos (by decide)]
    rfl

end Sys2Proof.Machine
end

section
/-! Jobs: admission (O28; 02 R65 to R69, R90), and the ends of a job's right to triggers (O29; 02 R79, R82, R83, R682). -/
namespace Sys2Proof.Machine

theorem exec_jobSubmit (dt : Nat) (r : Req) (s : State) :
    exec (.jobSubmit dt r) s = .next (s.after ((s.blk.elapse dt).request r 0x06 jobSubmit)) := rfl

theorem exec_cancel (dt : Nat) (who : Who) (tag : Word) (s : State) :
    exec (.cancel dt who tag) s = .next (s.after ((s.blk.elapse dt).write1 who Reg.ADM_CANCEL tag)) := rfl

theorem exec_softTrig (dt : Nat) (who : Who) (tag : Word) (s : State) :
    exec (.softTrig dt who tag) s = .next (s.after ((s.blk.elapse dt).write1 who Reg.ADM_SOFT_TRIG tag)) := rfl

theorem exec_intervalEnd (dt seq : Nat) (s : State) :
    exec (.intervalEnd dt seq) s = .next (s.after (intervalEnd seq (s.blk.elapse dt))) := rfl

theorem exec_armTimeout (dt seq : Nat) (s : State) :
    exec (.armTimeout dt seq) s = .next (s.after (armTimeout seq (s.blk.elapse dt))) := rfl

/-! ### Admission -/

theorem nextAdmSeq_regN (b : Blk) :
    nextAdmSeq (b.regN Reg.ADM_SEQ) = if b.regN Reg.ADM_SEQ = 0xFFFFFFFF then 1 else b.regN Reg.ADM_SEQ + 1 := by
  have hlt := b.regN_lt Reg.ADM_SEQ
  unfold nextAdmSeq
  split <;> split <;> omega

theorem nextAdmSeq_lt (n : Nat) : nextAdmSeq n < 2 ^ 32 := by
  unfold nextAdmSeq
  split <;> omega

theorem Blk.regN_setN {b : Blk} (a : Nat) {v : Nat} (h : v < 2 ^ 32) : (b.setN a v).regN a = v := by
  rw [Blk.regN, Blk.setN_eq, Blk.reg_setReg_same]
  exact BitVec.toNat_ofNat v 32 ▸ Nat.mod_eq_of_lt h

/-- The live job a register names, in an engine with other jobs only. -/
theorem Blk.jobBySeq_eq_none {b : Blk} {seq : Nat} (h : ∀ k ∈ b.jobs, k.seq ≠ seq) : b.jobBySeq seq = none :=
  List.find?_eq_none.mpr fun k hk => by simpa using h k hk

theorem Blk.jobBySeq_append {b c : Blk} {j : Job} (hjobs : c.jobs = b.jobs ++ [j]) (h : ∀ k ∈ b.jobs, k.seq ≠ j.seq) :
    c.jobBySeq j.seq = some j := by
  rw [Blk.jobBySeq, hjobs, List.find?_append, List.find?_eq_none.mpr fun k hk => by simpa using h k hk]
  simp

section Judge
variable {b : Blk} {role : Nat} {j : Job} {fault test off : Nat}

theorem Blk.tests1to4_some (h : b.tests1to4 role j = some (fault, test, off)) :
    (test = 1 ∧ descOffence j ≠ none) ∨ (descOffence j = none ∧ off = 0xFFFF ∧
      ((test = 2 ∧ fault = 0xB102 ∧ b.jobs.any (fun k => k.tag = j.tag) = true) ∨
        (b.jobs.any (fun k => k.tag = j.tag) = false ∧ (test = 3 ∧ fault = 0xB104 ∧ 128 ≤ b.jobs.length ∨ test = 4)))) := by
  unfold Blk.tests1to4 at h
  split at h
  · next o ho =>
    obtain ⟨-, rfl, -⟩ := h
    exact .inl ⟨rfl, by rw [ho]; nofun⟩
  · next hnone =>
    refine .inr ⟨hnone, ?_⟩
    split_ifs at h with htag hfull hpool
    · obtain ⟨rfl, rfl, rfl⟩ := h
      exact ⟨rfl, .inl ⟨rfl, rfl, htag⟩⟩
    · obtain ⟨rfl, rfl, rfl⟩ := h
      exact ⟨rfl, .inr ⟨Bool.eq_false_iff.mpr htag, .inl ⟨rfl, rfl, hfull⟩⟩⟩
    · obtain ⟨rfl, rfl, rfl⟩ := h
      exact ⟨rfl, .inr ⟨Bool.eq_false_iff.mpr htag, .inr rfl⟩⟩

theorem Blk.tests1to4_none (h : b.tests1to4 role j = none) :
    descOffence j = none ∧ b.jobs.any (fun k => k.tag = j.tag) = false := by
  unfold Blk.tests1to4 at h
  split at h
  · cases h
  · next hnone =>
    split_ifs at h with htag
    exact ⟨hnone, Bool.eq_false_iff.mpr htag⟩

theorem Blk.test5_some (h : b.test5 j = some (fault, test, off)) : test = 5 ∧ off = 0xFFFF := by
  unfold Blk.test5 at h
  dsimp only at h
  split_ifs at h <;> obtain ⟨-, rfl, rfl⟩ := h <;> exact ⟨rfl, rfl⟩

theorem Blk.tests6to8_some (h : b.tests6to8 j = some (fault, test, off)) :
    off = 0xFFFF ∧ (test = 6 ∨ test = 8 ∨ test = 7 ∧ 2 ≤ b.regF Reg.ADM_SHORTFALL 1 0 ∧ fault = 0xB118) := by
  unfold Blk.tests6to8 at h
  split_ifs at h with hcamp hslots hshort hsensor
  · obtain ⟨-, rfl, rfl⟩ := h; exact ⟨rfl, .inl rfl⟩
  · obtain ⟨-, rfl, rfl⟩ := h; exact ⟨rfl, .inl rfl⟩
  · obtain ⟨rfl, rfl, rfl⟩ := h; exact ⟨rfl, .inr (.inr ⟨rfl, hshort, rfl⟩)⟩
  · obtain ⟨-, rfl, rfl⟩ := h; exact ⟨rfl, .inr (.inl rfl)⟩

theorem Blk.test9_some (h : b.test9 j = some (fault, test, off)) : test = 9 ∧ off = 0xFFFF := by
  unfold Blk.test9 at h
  dsimp only at h
  split_ifs at h <;> obtain ⟨-, rfl, rfl⟩ := h <;> exact ⟨rfl, rfl⟩

theorem Blk.tests10to13_some (h : b.tests10to13 j = some (fault, test, off)) : 10 ≤ test ∧ test ≤ 13 ∧ off = 0xFFFF := by
  unfold Blk.tests10to13 at h
  dsimp only at h
  split_ifs at h <;> obtain ⟨-, rfl, rfl⟩ := h <;> exact ⟨by decide, by decide, rfl⟩

/-- A verdict comes from the first group of tests that fails. -/
theorem Blk.judge_some (h : b.judge role j = some (fault, test, off)) :
    b.tests1to4 role j = some (fault, test, off) ∨ (b.tests1to4 role j = none ∧
      (b.test5 j = some (fault, test, off) ∨ b.tests6to8 j = some (fault, test, off) ∨ b.test9 j = some (fault, test, off) ∨
        b.tests10to13 j = some (fault, test, off))) := by
  unfold Blk.judge at h
  split at h
  · next hfirst => exact .inl (hfirst.trans h)
  · next hfirst =>
    refine .inr ⟨hfirst, ?_⟩
    split at h
    · next h5 => exact .inl (h5.trans h)
    · split at h
      · next h6 => exact .inr (.inl (h6.trans h))
      · split at h
        · next h9 => exact .inr (.inr (.inl (h9.trans h)))
        · exact .inr (.inr (.inr h))

/-- What the failing test and its fault say (02 R65). -/
theorem Blk.judge_spec (h : b.judge role j = some (fault, test, off)) :
    1 ≤ test ∧ test ≤ 13 ∧ (test = 1 ↔ descOffence j ≠ none) ∧ (off ≠ 0xFFFF → test = 1) ∧
      (test ≠ 1 → (test = 2 ↔ b.jobs.any (fun k => k.tag = j.tag) = true)) ∧ (test = 2 → fault = 0xB102) ∧
      (test = 3 → 128 ≤ b.jobs.length ∧ fault = 0xB104) ∧ (test = 7 → 2 ≤ b.regF Reg.ADM_SHORTFALL 1 0 ∧ fault = 0xB118) := by
  rcases Blk.judge_some h with h | ⟨hfirst, hrest⟩
  · rcases Blk.tests1to4_some h with ⟨rfl, hoff⟩ | ⟨hnone, rfl, ⟨rfl, rfl, htag⟩ | ⟨htag, ⟨rfl, rfl, hfull⟩ | rfl⟩⟩
    · simp [hoff]
    · simp [hnone, htag]
    · simp [hnone, htag, hfull]
    · simp [hnone, htag]
  · obtain ⟨hnone, htag⟩ := Blk.tests1to4_none hfirst
    rcases hrest with h | h | h | h
    · obtain ⟨rfl, rfl⟩ := Blk.test5_some h
      simp [hnone, htag]
    · obtain ⟨rfl, rfl | rfl | ⟨rfl, hshort, rfl⟩⟩ := Blk.tests6to8_some h
      · simp [hnone, htag]
      · simp [hnone, htag]
      · simp [hnone, htag, hshort]
    · obtain ⟨rfl, rfl⟩ := Blk.test9_some h
      simp [hnone, htag]
    · obtain ⟨hlow, hhigh, rfl⟩ := Blk.tests10to13_some h
      refine ⟨by omega, hhigh, ?_, by omega, fun _ => ?_, by omega, by omega, by omega⟩
      · simp only [hnone, ne_eq, not_true, iff_false]
        omega
      · simp only [htag, Bool.false_eq_true, iff_false]
        omega

end Judge

section Admit
variable {b : Blk} {role : Nat} {desc : List Byte} {j : Job} {e : HistEntry}

/-- A job that reaches admission is numbered and stands in front of the history (02 R29, R90). -/
def Blk.noted (b : Blk) (e : HistEntry) : Blk := { b.setN Reg.ADM_SEQ e.seq with hist := (e :: b.hist).take 64 }

theorem Blk.regN_seq_noted (b : Blk) (h : e.seq < 2 ^ 32) : (b.noted e).regN Reg.ADM_SEQ = e.seq :=
  Blk.regN_setN (b := b) Reg.ADM_SEQ h

theorem Blk.admitJob_of_accepted
    (hj : j = { seq := nextAdmSeq (b.regN Reg.ADM_SEQ), desc := desc, acceptedAt := b.now, armAt := b.now })
    (he : e = { tag := j.tag, seq := j.seq, verdict := 1, state := 0, fault := 0, time := b.now % 2 ^ 32 })
    (h : b.judge role j = none) :
    b.admitJob role desc = (b.admitPayload j none,
      if j.kind = 1 then ({ b.noted e with jobs := b.jobs ++ [j] } : Blk).wakeDom 2 else { b.noted e with jobs := b.jobs ++ [j] }) := by
  unfold Blk.admitJob
  dsimp only
  rw [← hj, h, he, hj]
  rfl

theorem Blk.admitJob_of_refused {fault test off : Nat}
    (hj : j = { seq := nextAdmSeq (b.regN Reg.ADM_SEQ), desc := desc, acceptedAt := b.now, armAt := b.now })
    (he : e = { tag := j.tag, seq := j.seq, verdict := 2, state := 4, fault := fault, time := b.now % 2 ^ 32 })
    (h : b.judge role j = some (fault, test, off)) :
    b.admitJob role desc = (b.admitPayload j (some (fault, test, off)),
      ((b.noted e).bump Reg.ADM_COUNTS 15 0 1).event 0x04 0 0x0000) := by
  unfold Blk.admitJob
  dsimp only
  rw [← hj, h, he, hj]
  rfl

end Admit

/-- Counting a refused job and showing its event leave the admission number. -/
theorem Blk.regN_seq_refused (b : Blk) :
    ((b.bump Reg.ADM_COUNTS 15 0 1).event 0x04 0 0x0000).regN Reg.ADM_SEQ = b.regN Reg.ADM_SEQ := by
  rw [Blk.regN, Blk.reg_event _ _ _ _ (by decide) (by decide) (by decide), Blk.bump_eq, Blk.reg_setReg_other _ _ (by decide), Blk.regN]

section Submit
variable {c : Call} {f g : Blk} {out : List Byte} {j : Job} {e : HistEntry}

theorem jobSubmit_of_live (hrole : f.role (callWho c) = 1) (hadmit : f.admitJob 1 c.r.payload = (out, g))
    (hlive : g.jobBySeq (g.regN Reg.ADM_SEQ) = some j) : jobSubmit c f = (g.jobAccepted j).reply c 0 out := by
  rw [jobSubmit, if_neg (by rw [hrole]; decide), hadmit]
  dsimp only
  rw [hlive]

theorem jobSubmit_of_notLive (hrole : f.role (callWho c) = 1) (hadmit : f.admitJob 1 c.r.payload = (out, g))
    (hlive : g.jobBySeq (g.regN Reg.ADM_SEQ) = none) : jobSubmit c f = g.reply c 0 out := by
  rw [jobSubmit, if_neg (by rw [hrole]; decide), hadmit]
  dsimp only
  rw [hlive]

variable (hrole : f.role (callWho c) = 1) (hfresh : ∀ k ∈ f.jobs, k.seq ≠ j.seq)
  (hj : j = { seq := nextAdmSeq (f.regN Reg.ADM_SEQ), desc := c.r.payload, acceptedAt := f.now, armAt := f.now })
include hrole hfresh hj

/-- An accepted job is live, and what it needs is set up for it (02 R65). -/
theorem jobSubmit_of_accepted (hpass : f.judge 1 j = none)
    (he : e = { tag := j.tag, seq := j.seq, verdict := 1, state := 0, fault := 0, time := f.now % 2 ^ 32 }) :
    jobSubmit c f = ((if j.kind = 1 then ({ f.noted e with jobs := f.jobs ++ [j] } : Blk).wakeDom 2
      else { f.noted e with jobs := f.jobs ++ [j] }).jobAccepted j).reply c 0 (f.admitPayload j none) := by
  refine jobSubmit_of_live hrole (Blk.admitJob_of_accepted hj he hpass) ?_
  have hnumber : (f.noted e).regN Reg.ADM_SEQ = j.seq := by
    rw [Blk.regN_seq_noted f (by rw [he, hj]; exact nextAdmSeq_lt _), he]
  have hlisted : ({ f.noted e with jobs := f.jobs ++ [j] } : Blk).jobBySeq j.seq = some j := Blk.jobBySeq_append (b := f) rfl hfresh
  rw [← hnumber] at hlisted
  split
  · exact hlisted
  · exact hlisted

/-- A refused job is numbered, counted, shown and answered, and no job becomes live (02 R65, R90). -/
theorem jobSubmit_of_refused {fault test off : Nat} (hfail : f.judge 1 j = some (fault, test, off))
    (he : e = { tag := j.tag, seq := j.seq, verdict := 2, state := 4, fault := fault, time := f.now % 2 ^ 32 }) :
    jobSubmit c f = (((f.noted e).bump Reg.ADM_COUNTS 15 0 1).event 0x04 0 0x0000).reply c 0
      (f.admitPayload j (some (fault, test, off))) := by
  refine jobSubmit_of_notLive hrole (Blk.admitJob_of_refused hj he hfail) ?_
  rw [Blk.regN_seq_refused, Blk.regN_seq_noted f (by rw [he, hj]; exact nextAdmSeq_lt _), he]
  refine Blk.jobBySeq_eq_none ?_
  rw [Blk.event_jobs]
  exact hfresh

end Submit

/-- Settles O28: the answer and the history of a job by its verdict, and the failing test by the first group of tests that fails. -/
theorem jobsAreAdmittedOrRefused : Obligations.JobsAreAdmittedOrRefused := by
  unfold Obligations.JobsAreAdmittedOrRefused
  refine ⟨?admitted, fun b role j fault test off h => Blk.judge_spec h⟩
  case admitted =>
    intro dt r c s f b seq j hist g h hfresh
    have hr : c.r = r := h.call.1
    have hseq : nextAdmSeq (f.regN Reg.ADM_SEQ) = seq := nextAdmSeq_regN f
    have hj : j = { seq := nextAdmSeq (f.regN Reg.ADM_SEQ), desc := c.r.payload, acceptedAt := f.now, armAt := f.now } := by
      rw [hseq, hr]
    refine ⟨fun hrole hpass => ?accepted, fun fault test off hrole hfail => ?refused, fun hrole => ?other⟩
    case accepted =>
      rw [exec_jobSubmit, h.request_eq, jobSubmit_of_accepted hrole hfresh hj hpass rfl]
      rfl
    case refused =>
      rw [exec_jobSubmit, h.request_eq, jobSubmit_of_refused hrole hfresh hj hfail rfl]
      rfl
    case other =>
      rw [exec_jobSubmit, h.request_eq, jobSubmit, if_pos (bne_iff_ne.mpr hrole)]
      rfl

end Sys2Proof.Machine
end

section
/-! A direct write to a command register, and the ends of a job's right to triggers (O29; 02 R79, R82, R83, R682). -/
namespace Sys2Proof.Machine

/-! ### A direct write to a command register in Run -/

/-- A register outside the resources and settings that is written directly and not staged. -/
def isCommandReg (a : Nat) : Bool :=
  a % 4 = 0 && (pageInfo (pageOf a)).isSome && configResource a = none && accessOf a != .ro && accessOf a != .rsv &&
    accessOf a != .rwb && !directSetting a

/-- A permitted write to a command register is answered with what the register does with the value (12 R440, R444). -/
theorem Blk.inRun.write1_command {b : Blk} (h : b.inRun) {who : Who} {a : Nat} {v : Word} (ha : isCommandReg a = true)
    (hrole : mayWrite (b.role who) a = true) (hready : b.domReady (domOf a) = true) (hvalue : valueOk a v.toNat = true) :
    b.write1 who a v = ((b.reached a).writeNow who a v.toNat).2.answer ((b.reached a).writeNow who a v.toNat).1 0 := by
  simp only [isCommandReg, Bool.and_eq_true, decide_eq_true_eq, bne_iff_ne, Bool.not_eq_true'] at ha
  obtain ⟨⟨⟨⟨⟨⟨halign, hpage⟩, hres⟩, hro⟩, hrsv⟩, hrwb⟩, hset⟩ := ha
  have hcheck : b.writeCheck who a = 0 := Blk.writeCheck_eq_zero halign (h.pageListed_of_isSome hpage) hrole hres hrwb
  have hmark : (b.reached a).markChanged a = b.reached a := by rw [Blk.markChanged, hset]; rfl
  rw [h.write1_of_ready hcheck hready ⟨hro, hrsv, hrwb⟩ hvalue, hmark]

theorem valueOk_cancel (v : Word) : valueOk Reg.ADM_CANCEL v.toNat = true := by
  have hdef : (regDef Reg.ADM_CANCEL).map (·.flds) = some [⟨31, 0, 0, 0xFFFFFFFF⟩] := rfl
  have h : valueOk Reg.ADM_CANCEL v.toNat = (fieldsOk v.toNat [⟨31, 0, 0, 0xFFFFFFFF⟩] && true && true && true) := rfl
  rw [h, fieldsOk_word]
  rfl

theorem valueOk_softTrig (v : Word) : valueOk Reg.ADM_SOFT_TRIG v.toNat = true := by
  have h : valueOk Reg.ADM_SOFT_TRIG v.toNat = (fieldsOk v.toNat [⟨31, 0, 0, 0xFFFFFFFF⟩] && true && true && true) := rfl
  rw [h, fieldsOk_word]
  rfl

/-- Reaching a register leaves every domain as ready as it was. -/
theorem Blk.domReady_reached (b : Blk) (a d : Nat) : (b.reached a).domReady d = b.domReady d := by
  unfold Blk.domReady Blk.dom Blk.reached Blk.updDom
  by_cases hd : domIdx d = domIdx (domOf a)
  · by_cases hlt : domIdx (domOf a) < b.doms.length
    · rw [hd, upd_getD_same _ _ _ _ hlt]
    · rw [hd, List.getD_eq_default _ _ (by simpa using hlt), List.getD_eq_default _ _ (Nat.not_lt.mp hlt)]
  · rw [upd_getD_other _ _ _ _ _ hd]

/-! ### The end of a job's right to triggers -/

section Jobs
variable {b : Blk} {j : Job}

theorem Blk.jobBySeq_updJob {seq : Nat} (g : Job → Job) (hg : ∀ k, (g k).seq = k.seq) (h : b.jobBySeq seq = some j) :
    (b.updJob seq g).jobBySeq seq = some (g j) := by
  have hpred : (fun k : Job => decide ((if k.seq = seq then g k else k).seq = seq)) = fun k => decide (k.seq = seq) := by
    funext k
    split
    · rw [hg]
    · rfl
  have hj : j.seq = seq := by simpa using List.find?_some h
  rw [Blk.jobBySeq] at h ⊢
  rw [Blk.updJob, List.find?_map, Function.comp_def, hpred, h, Option.map_some, if_pos hj]

theorem Blk.maybeEndExposure_of_owed {seq : Nat} (h : b.framesOwed seq ≠ 0) : b.maybeEndExposure seq = b := by
  unfold Blk.maybeEndExposure
  split
  · rfl
  · simp [h]

/-- An exposure job that takes no further trigger ends once no frame of it is owed (02 R84). -/
theorem Blk.maybeEndExposure_of_stopped {seq : Nat} (hjob : b.jobBySeq seq = some j) (hkind : j.kind = 1)
    (hstopped : j.stopped ≠ .live) (howed : b.framesOwed seq = 0) : b.maybeEndExposure seq = b.endJob seq := by
  simp [Blk.maybeEndExposure, hjob, hkind, hstopped, howed]

end Jobs

section Cancel
variable {b : Blk} {j : Job} {tag : Nat}

/-- A job that takes no further trigger, with the cause it is given unless it has one already. -/
def Job.cancelled (j : Job) : Job := if j.stopped = .live then { j with stopped := .cancelled } else j

theorem Job.cancelled_seq (j : Job) : j.cancelled.seq = j.seq := by
  unfold Job.cancelled
  split <;> rfl

theorem Job.cancelled_kind (j : Job) : j.cancelled.kind = j.kind := by
  unfold Job.cancelled
  split <;> rfl

theorem Job.cancelled_stopped (j : Job) : j.cancelled.stopped ≠ .live := by
  unfold Job.cancelled
  split
  · nofun
  · assumption

theorem Blk.cancel_of_exposure (hjob : b.jobByTag tag = some j) (hkind : j.kind = 1) :
    b.cancel tag = ((b.updJob j.seq Job.cancelled).maybeEndExposure j.seq).jobsOver := by
  rw [Blk.cancel, hjob]
  dsimp only
  rw [if_pos hkind]
  rfl

theorem Blk.cancel_of_owed (hjob : b.jobByTag tag = some j) (hkind : j.kind = 1) (howed : b.framesOwed j.seq ≠ 0) :
    b.cancel tag = (b.updJob j.seq Job.cancelled).jobsOver := by
  rw [Blk.cancel_of_exposure hjob hkind, Blk.maybeEndExposure_of_owed (b := b.updJob j.seq Job.cancelled) howed]

theorem Blk.cancel_of_noneOwed (hjob : b.jobByTag tag = some j) (hlive : b.jobBySeq j.seq = some j) (hkind : j.kind = 1)
    (howed : b.framesOwed j.seq = 0) : b.cancel tag = ((b.updJob j.seq Job.cancelled).endJob j.seq).jobsOver := by
  rw [Blk.cancel_of_exposure hjob hkind, Blk.maybeEndExposure_of_stopped (b := b.updJob j.seq Job.cancelled)
    (Blk.jobBySeq_updJob _ Job.cancelled_seq hlive) (j.cancelled_kind.trans hkind) j.cancelled_stopped howed]

theorem Job.takes_kind (h : j.takes = true) : j.kind = 1 := by
  simp only [Job.takes, Bool.and_eq_true, decide_eq_true_eq] at h
  exact h.1.1

/-- A software trigger for a job that may take one takes its frame (02 R83). -/
theorem Blk.softTrig_of_takes (hjob : b.jobByTag tag = some j) (htakes : j.takes = true) (hsource : j.trigger = 2)
    (hready : b.domReady 2 = true) (hfree : b.sensorBusy j (b.now + 40) = false) (hended : b.intervalEnded j = true) :
    b.softTrig tag = (0, b.takeFrame j (b.now + 40)) := by
  simp [Blk.softTrig, hjob, Job.takes_kind htakes, hsource, Blk.acceptTrigger, hready, htakes, hended, hfree]

theorem Blk.softTrig_of_other (hjob : b.jobByTag tag = some j) (h : j.kind ≠ 1 ∨ j.trigger ≠ 2) :
    b.softTrig tag = (0xB105, b.raise 0xB105) := by
  have hno : (decide (j.kind = 1) && decide (j.trigger = 2)) = false := by
    rcases h with h | h <;> simp [h]
  rw [Blk.softTrig, hjob]
  dsimp only
  rw [hno]
  rfl

end Cancel

section Timed
variable {b : Blk} {j : Job}

theorem intervalEnd_of_due (hone : ∀ k ∈ b.jobs, k.seq = j.seq → k = j) (h : j.nextOk ≤ b.now) :
    intervalEnd j.seq b = b.updJob j.seq (fun k => { k with nextOk := 0 }) := by
  unfold intervalEnd Blk.updJob
  congr 1
  refine List.map_congr_left fun k hk => ?_
  split
  · next hseq =>
      rw [hone k hk hseq]
      exact if_pos h
  · rfl

/-- An arm timeout that expires ends the job's right to triggers (02 R682). -/
theorem armTimeout_of_due (hlive : b.jobBySeq j.seq = some j) (htakes : j.takes = true) (harm : j.armTimeout ≠ 0)
    (hdue : j.armAt + ceilDiv (j.armTimeout * 625) 2 ≤ b.now) : armTimeout j.seq b =
      (((b.updJob j.seq (fun k => { k with stopped := .armTimeout })).raise 0xB131).maybeEndExposure j.seq).jobsOver := by
  simp [armTimeout, hlive, htakes, harm, hdue]

end Timed

/-- Settles O29: a cancel and an arm timeout through the job's frames that are owed, a software trigger through what it meets. -/
theorem jobsAreCancelledTriggeredAndTimed : Obligations.JobsAreCancelledTriggeredAndTimed := by
  unfold Obligations.JobsAreCancelledTriggeredAndTimed
  refine ⟨?written, ?timed⟩
  case written =>
    intro dt i tag j s b cancelled r h hrole hready hjob hlive
    have hcancel : ∀ g, (b.reached Reg.ADM_CANCEL).cancel tag.toNat = g →
        exec (.cancel dt (some i) tag) s = .next (s.after (g.answer 0 0)) := by
      intro g hg
      have hnow : (b.reached Reg.ADM_CANCEL).writeNow (some i) Reg.ADM_CANCEL tag.toNat =
          (0, (b.reached Reg.ADM_CANCEL).cancel tag.toNat) := rfl
      rw [exec_cancel, h.write1_command (a := Reg.ADM_CANCEL) (by decide) (by rw [hrole]; rfl) hready (valueOk_cancel tag), hnow, hg]
    have htrig : ∀ code g, r.softTrig tag.toNat = (code, g) →
        exec (.softTrig dt (some i) tag) s = .next (s.after (g.answer code 0)) := by
      intro code g hg
      have hnow : r.writeNow (some i) Reg.ADM_SOFT_TRIG tag.toNat = r.softTrig tag.toNat := rfl
      rw [exec_softTrig, h.write1_command (a := Reg.ADM_SOFT_TRIG) (by decide) (by rw [hrole]; rfl) hready (valueOk_softTrig tag), hnow, hg]
    refine ⟨fun hkind howed => hcancel _ ?_, fun hkind howed => hcancel _ ?_, fun htakes hsource hloc hfree hended => htrig _ _ ?_,
      fun hother => htrig _ _ ?_⟩
    · exact Blk.cancel_of_owed (b := b.reached Reg.ADM_CANCEL) hjob hkind howed
    · exact Blk.cancel_of_noneOwed (b := b.reached Reg.ADM_CANCEL) hjob hlive hkind howed
    · exact Blk.softTrig_of_takes (b := r) hjob htakes hsource ((b.domReady_reached _ 2).trans hloc) hfree
        (Bool.or_eq_true_iff.mpr (hended.imp decide_eq_true decide_eq_true))
    · exact Blk.softTrig_of_other (b := r) hjob hother
  case timed =>
    intro dt j s b armed hlive hone
    refine ⟨fun hdue => ?_, fun htakes harm hdue => ⟨fun howed => ?_, fun howed => ?_⟩⟩
    · rw [exec_intervalEnd, intervalEnd_of_due hone hdue]
    · rw [exec_armTimeout, armTimeout_of_due hlive htakes harm hdue, Blk.maybeEndExposure_of_owed]
      rw [Blk.framesOwed, Blk.raise_sns]
      exact howed
    · have hkind : j.kind = 1 := Job.takes_kind htakes
      have hstopped : armed.jobBySeq j.seq = some { j with stopped := .armTimeout } := by
        rw [Blk.jobBySeq, Blk.raise_jobs]
        exact Blk.jobBySeq_updJob (fun k => { k with stopped := .armTimeout }) (fun _ => rfl) hlive
      have howed' : armed.framesOwed j.seq = 0 := by
        rw [Blk.framesOwed, Blk.raise_sns]
        exact howed
      rw [exec_armTimeout, armTimeout_of_due hlive htakes harm hdue,
        Blk.maybeEndExposure_of_stopped hstopped hkind (by nofun) howed']

end Sys2Proof.Machine
end

section
/-! Pace, stages and accounting windows (O30; 02 R54, R71, R74). -/
namespace Sys2Proof.Machine

theorem exec_paceSample (dt fabric : Nat) (gauges : List Nat) (s : State) :
    exec (.paceSample dt fabric gauges) s = .next (s.after (paceSample fabric gauges (s.blk.elapse dt))) := rfl

theorem exec_paceUpdate (dt : Nat) (s : State) : exec (.paceUpdate dt) s = .next (s.after (paceUpdate (s.blk.elapse dt))) := rfl

theorem exec_accountingWindow (dt : Nat) (s : State) :
    exec (.accountingWindow dt) s = .next (s.after (accountingWindow (s.blk.elapse dt))) := rfl

/-! ### Samples -/

/-- The gauges as a sample leaves them (02 R54). -/
def Blk.sampledGauges (b : Blk) (gauges : List Nat) : List Nat := (List.range 18).map (fun e => sat 16 (gauges.getD e (b.gaugeOf e)))

theorem Blk.sampledGauges_getD (b : Blk) (gauges : List Nat) (d : Nat) {e : Nat} (he : e < 18) :
    (b.sampledGauges gauges).getD e d = min (gauges.getD e (b.gaugeOf e)) 65535 := by
  simp [Blk.sampledGauges, he, sat]

theorem List.getD_zip_min {l m : List Nat} {e : Nat} (hl : e < l.length) (hm : e < m.length) (d : Nat) :
    ((l.zip m).map (fun p => min p.1 p.2)).getD e d = min (l.getD e d) (m.getD e d) := by
  simp [hl, hm]

theorem paceSample_of_due {b : Blk} (fabric : Nat) (gauges : List Nat) (h : b.now % 3125 = 0) :
    paceSample fabric gauges b = { b with dec := { b.dec with
      fabric := sat 16 fabric, fabricLow := min b.dec.fabricLow (sat 16 fabric), gauge := b.sampledGauges gauges,
      engLow := (b.dec.engLow.zip (b.sampledGauges gauges)).map (fun p => min p.1 p.2),
      engMin := (b.dec.engMin.zip (b.sampledGauges gauges)).map (fun p => slideMin b.now p.2 p.1) } } := by
  rw [paceSample, if_neg (by simp [h])]
  rfl

/-! ### Updates -/

theorem stageOf_cases (l : Frac) :
    (l.num * 100 ≤ 85 * l.den ∧ stageOf l = 0) ∨ (85 * l.den < l.num * 100 ∧ l.num * 100 ≤ 97 * l.den ∧ stageOf l = 1) ∨
      (97 * l.den < l.num * 100 ∧ l.num * 100 ≤ 100 * l.den ∧ stageOf l = 2) ∨ (100 * l.den < l.num * 100 ∧ stageOf l = 3) := by
  unfold stageOf Frac.le
  simp only [decide_eq_true_eq]
  split
  · exact .inl ⟨‹_›, rfl⟩
  · split
    · exact .inr (.inl ⟨by omega, ‹_›, rfl⟩)
    · split
      · exact .inr (.inr (.inl ⟨by omega, ‹_›, rfl⟩))
      · exact .inr (.inr (.inr ⟨by omega, rfl⟩))

theorem nextStage_of_rise {stage : Nat} {l : Frac} (h : stage < stageOf l) : nextStage stage l = stageOf l := by
  simp [nextStage, h]

theorem nextStage_of_fall {stage : Nat} {l : Frac} (h : stageOf l ≤ stage) (hpos : 0 < stage)
    (hlow : l.num * 100 ≤ [0, 83, 95, 98].getD stage 0 * l.den) : nextStage stage l = stage - 1 := by
  rw [nextStage, if_neg (Nat.not_lt.mpr h)]
  exact if_pos (by simp only [hpos, decide_true, Bool.true_and, Frac.le, decide_eq_true_eq]; exact hlow)

theorem nextStage_of_stay {stage : Nat} {l : Frac} (h : stageOf l ≤ stage)
    (hlow : stage = 0 ∨ [0, 83, 95, 98].getD stage 0 * l.den < l.num * 100) : nextStage stage l = stage := by
  rw [nextStage, if_neg (Nat.not_lt.mpr h)]
  refine if_neg ?_
  simp only [Bool.and_eq_true, decide_eq_true_eq, Frac.le]
  omega

theorem fld_high {p m : Nat} (hp : p < 65536) (hm : m < 65536) : fld (p + m * 65536) 31 16 = m := by
  unfold fld
  omega

theorem Blk.setStage_of_same {b : Blk} (h : nextStage (b.regF Reg.ADM_SHORTFALL 1 0) (b.engineLoad b.jobs b.paceMeasured) =
    b.regF Reg.ADM_SHORTFALL 1 0) : b.setStage = b := by
  rw [Blk.setStage]
  exact if_pos h

/-- The lowest of the gauges over the fabric and the engines in service since the last update (02 R54). -/
def Blk.lowestPace (b : Blk) : Nat :=
  ((List.range 18).filter b.engActive).foldl (fun m e => min m (lowOr (b.dec.engLow.getD e 0xFFFF) (b.gaugeOf e)))
    (lowOr b.dec.fabricLow b.dec.fabric)

/-- The word of ADM.PACE_PLAN for a measured pace: the planning pace below it. -/
def Blk.paceWord (b : Blk) (m : Nat) : Nat := (m - b.regF Reg.ADM_PACE_GUARD 15 0) + m * 65536

theorem Blk.paceMeasured_congr {b c : Blk} (h : c.regs = b.regs) : c.paceMeasured = b.paceMeasured := Blk.regF_congr h _ _ _

theorem Blk.engineLoad_congr {b c : Blk} (h : c.regs = b.regs) (jobs : List Job) (pace : Nat) :
    c.engineLoad jobs pace = b.engineLoad jobs pace := by
  rw [Blk.engineLoad, Blk.engineLoad, Blk.nEngines, Blk.nEngines, Blk.regN, Blk.regN, Blk.reg, Blk.reg, h]

theorem Blk.paceMeasured_setN {b : Blk} {m : Nat} (hm : m < 65536) :
    (b.setN Reg.ADM_PACE_PLAN (b.paceWord m)).paceMeasured = m := by
  have hp : m - b.regF Reg.ADM_PACE_GUARD 15 0 < 65536 := by omega
  have hword : b.paceWord m < 2 ^ 32 := by rw [Blk.paceWord]; omega
  rw [Blk.paceMeasured, Blk.regF, Blk.regN_setN _ hword, Blk.paceWord, fld_high hp hm]

/-- The two paces as an update sets them, and the samples started afresh (02 R54). -/
def Blk.paceSet (b : Blk) : Blk :=
  { b.setN Reg.ADM_PACE_PLAN (b.paceWord b.lowestPace) with
    dec := { b.dec with fabricLow := 0xFFFF, engLow := List.replicate 18 0xFFFF } }

theorem paceUpdate_of_due {b : Blk} (h : b.now % 31250 = 0) : paceUpdate b =
    if b.paceSet.setStage.regF Reg.ADM_SHORTFALL 1 0 = 3 then
      (b.paceSet.setStage.forfeitPace (b.paceSet.setStage.pendingDeliveries.length + 1)).recordPace
    else b.paceSet.setStage.columnSlot := by
  rw [paceUpdate, if_neg (by simp [h])]
  rfl

/-- With no shortfall before and after, an update only sets the two paces and starts the samples afresh (02 R54, R74). -/
theorem paceUpdate_of_noShortfall {b : Blk} (hdue : b.now % 31250 = 0) (hm : b.lowestPace < 65536)
    (hstage : nextStage (b.regF Reg.ADM_SHORTFALL 1 0) (b.paceSet.engineLoad b.jobs b.lowestPace) = 0)
    (hlow : b.regF Reg.ADM_SHORTFALL 1 0 = 0) : paceUpdate b = b.paceSet.columnSlot := by
  have hregs : b.paceSet.regs = (b.setN Reg.ADM_PACE_PLAN (b.paceWord b.lowestPace)).regs := rfl
  have hmeasured : b.paceSet.paceMeasured = b.lowestPace := by rw [Blk.paceMeasured_congr hregs, Blk.paceMeasured_setN hm]
  have hother : b.paceSet.regF Reg.ADM_SHORTFALL 1 0 = 0 := by
    rw [Blk.regF_congr hregs, Blk.regF, Blk.regN, Blk.setN_eq, Blk.reg_setReg_other _ _ (by decide)]
    exact hlow
  have hjobs : b.paceSet.jobs = b.jobs := rfl
  have hsame : b.paceSet.setStage = b.paceSet := by
    rw [Blk.setStage_of_same]
    rw [hother, hmeasured, hjobs, ← hlow, hstage, hlow]
  rw [paceUpdate_of_due hdue, hsame, hother, if_neg (by decide)]

/-! ### The accounting window -/

/-- What of the engine an accounting window speaks of stands as it was: the decode state, jobs and results, at the same tick. -/
structure Blk.SameWork (b c : Blk) : Prop where
  now : c.now = b.now
  dec : c.dec = b.dec
  jobs : c.jobs = b.jobs
  store : c.store = b.store

theorem Blk.SameWork.refl (b : Blk) : b.SameWork b := ⟨rfl, rfl, rfl, rfl⟩

theorem Blk.SameWork.trans {b c d : Blk} (h : b.SameWork c) (k : c.SameWork d) : b.SameWork d :=
  ⟨k.now.trans h.now, k.dec.trans h.dec, k.jobs.trans h.jobs, k.store.trans h.store⟩

theorem Blk.SameWork.ite {b c d : Blk} {p : Prop} [Decidable p] (h : b.SameWork c) (k : b.SameWork d) :
    b.SameWork (if p then c else d) := by
  split
  · exact h
  · exact k

theorem Blk.engStage_shape (b : Blk) (point : Nat) (a : EngAct) : ∃ bnd, b.engStage point a = { b with bnd := bnd } := by
  unfold Blk.engStage
  split
  · exact ⟨b.bnd, rfl⟩
  · exact ⟨_, rfl⟩

theorem Blk.sameWork_engStage (b : Blk) (point : Nat) (a : EngAct) : b.SameWork (b.engStage point a) := by
  obtain ⟨bnd, h⟩ := b.engStage_shape point a
  rw [h]
  exact ⟨rfl, rfl, rfl, rfl⟩

theorem Blk.sameWork_setReg (b : Blk) (a : Nat) (v : Word) : b.SameWork (b.setReg a v) := ⟨rfl, rfl, rfl, rfl⟩

theorem Blk.sameWork_raise (b : Blk) (code : Nat) : b.SameWork (b.raise code) := by
  constructor <;> simp

theorem Blk.sameWork_event (b : Blk) (page bit code : Nat) : b.SameWork (b.event page bit code) := by
  constructor <;> simp

theorem Blk.sameWork_recoveryStats (b : Blk) (since : Nat) : b.SameWork (b.recoveryStats since) :=
  (((b.sameWork_setReg _ _).trans (Blk.sameWork_setReg _ _ _)).trans (Blk.sameWork_setReg _ _ _)).trans
    (Blk.sameWork_event _ _ _ _)

theorem Blk.sameWork_exhausted (b : Blk) (k : SpareKind) (u : Nat) : b.SameWork (b.exhausted k u) :=
  Blk.sameWork_raise _ _ |> (Blk.sameWork_setReg b _ _).trans

theorem Blk.sameWork_updPd (b : Blk) (ch : Nat) (f : PdCh → PdCh) : b.SameWork (b.updPd ch f) := ⟨rfl, rfl, rfl, rfl⟩

theorem Blk.sameWork_ust (b : Blk) (ust : UstSt) : b.SameWork { b with ust := ust } := ⟨rfl, rfl, rfl, rfl⟩

theorem Blk.sameWork_startCopy (b : Blk) (u : Nat) (retire : Bool) : b.SameWork (b.startCopy u retire) := ⟨rfl, rfl, rfl, rfl⟩

theorem Blk.sameWork_beginRecovery (b : Blk) (r : Recovery) : b.SameWork (b.beginRecovery r) := by
  unfold Blk.beginRecovery
  split
  · cases b.spareEngines.head? <;> exact ⟨rfl, rfl, rfl, rfl⟩
  · exact b.sameWork_engStage _ _
  · exact b.sameWork_startCopy _ _
  all_goals exact .refl b

theorem Blk.SameWork.orExhausted {b c : Blk} (h : b.SameWork c) (p : Bool) (k : SpareKind) (u : Nat) :
    b.SameWork (if p then c else c.exhausted k u) := h.ite (h.trans (c.sameWork_exhausted k u))

theorem Blk.sameWork_exhaustedEffect (b : Blk) (r : Recovery) : b.SameWork (b.exhaustedEffect r) := by
  have hretired : b.SameWork (if r.wear then b else b.retireEngine r.u) := by
    split
    · exact .refl b
    · exact ⟨rfl, rfl, rfl, rfl⟩
  unfold Blk.exhaustedEffect
  dsimp only
  split
  · exact (hretired.trans (Blk.sameWork_raise _ _)).orExhausted _ _ _
  · exact (b.sameWork_engStage _ _).orExhausted _ _ _
  · exact (b.sameWork_updPd _ _).orExhausted _ _ _
  · exact (Blk.SameWork.refl b).orExhausted _ _ _
  · exact (b.sameWork_raise _).orExhausted _ _ _
  · exact (b.sameWork_startCopy _ _).orExhausted _ _ _
  all_goals exact (Blk.SameWork.refl b).orExhausted _ _ _

/-- The start of a recovery leaves the engines' tasks, the jobs and the results. -/
theorem Blk.sameWork_startHead (n : Nat) (b : Blk) : b.SameWork (Blk.startHead n b) := by
  induction n generalizing b with
  | zero => exact .refl b
  | succ n ih =>
    unfold Blk.startHead
    split
    · exact ⟨rfl, rfl, rfl, rfl⟩
    · next r t hq =>
      dsimp only
      generalize hg : ({ b with ust := { b.ust with running := true, queue := { r with since := b.now, escalated := false } :: t } } : Blk) = g
      have hstart : b.SameWork g := by rw [← hg]; exact ⟨rfl, rfl, rfl, rfl⟩
      split
      · have hover := (hstart.trans (g.sameWork_exhaustedEffect { r with since := b.now, escalated := false })).trans
          (Blk.sameWork_recoveryStats _ b.now)
        exact (hover.trans (Blk.sameWork_ust _ _)).trans (ih _)
      · exact hstart.trans (g.sameWork_beginRecovery _)

theorem Blk.sameWork_offer (b : Blk) (k : SpareKind) (u : Nat) (wear : Bool) : b.SameWork (b.offer k u wear) := by
  unfold Blk.offer
  split
  · exact .refl b
  · dsimp only
    generalize hg : ({ b with ust := _ } : Blk) = g
    have hqueued : b.SameWork g := by rw [← hg]; exact ⟨rfl, rfl, rfl, rfl⟩
    split
    · exact hqueued.trans (Blk.sameWork_startHead _ g)
    · have hraised := hqueued.trans (g.sameWork_raise 0xA101)
      exact (hraised.trans (Blk.sameWork_startHead _ _)).ite hraised

/-- One column's update leaves the engines' tasks, the jobs and the results. -/
theorem Blk.sameWork_offsetCol (b : Blk) (limit u c : Nat) (step : Int) : b.SameWork (b.offsetCol limit u c step).2 := by
  have hsns (sns : SnsSt) : b.SameWork { b with sns := sns } := ⟨rfl, rfl, rfl, rfl⟩
  unfold Blk.offsetCol
  exact ((((hsns _).trans ((Blk.sameWork_setReg _ _ _))).trans (Blk.sameWork_raise _ _)).trans (Blk.sameWork_offer _ _ _ _)).ite
    (hsns _)

theorem Blk.sameWork_foldl {α β : Type} (f : β × Blk → α → β × Blk) (hf : ∀ (p : β × Blk) x, p.2.SameWork (f p x).2) (l : List α) (p : β × Blk) :
    p.2.SameWork (l.foldl f p).2 := by
  induction l generalizing p with
  | nil => exact .refl p.2
  | cons x l ih => exact (hf p x).trans (ih (f p x))

theorem Blk.sameWork_offsetRun (b : Blk) (w : ColumnIn) : b.SameWork (b.offsetRun w) := by
  unfold Blk.offsetRun
  dsimp only
  generalize hfold : List.foldl _ _ _ = acc
  have hcols : b.SameWork acc.2 := by
    rw [← hfold]
    refine Blk.sameWork_foldl _ (fun p x => ?_) _ ([], b)
    split
    · exact .refl p.2
    · exact p.2.sameWork_offsetCol _ _ _ _
  exact hcols.ite (hcols.trans (Blk.sameWork_engStage _ _ _))

theorem Blk.sameWork_slotMay (b : Blk) (l : CalLoop) (u : Nat) : b.SameWork (b.slotMay l u).2 := by
  unfold Blk.slotMay
  dsimp only
  split_ifs <;> exact ⟨rfl, rfl, rfl, rfl⟩

theorem Blk.rollWindow_of_kept {b : Blk} (h : windowOf b.now = b.dec.win) : b.rollWindow = b := by
  rw [Blk.rollWindow]
  exact if_pos h

/-- The column-offset slot, in the window kept, books its own ticks and leaves the rest of the account, the jobs and the results. -/
theorem Blk.columnSlot_spec {b : Blk} (hwin : windowOf b.now = b.dec.win) :
    ∃ n, b.columnSlot.dec = { b.dec with calTicks := n } ∧ b.columnSlot.jobs = b.jobs ∧ b.columnSlot.store = b.store := by
  unfold Blk.columnSlot
  split
  · exact ⟨_, rfl, rfl, rfl⟩
  · next w hw =>
    have hmay := b.sameWork_slotMay .column 0
    dsimp only
    generalize (b.slotMay .column 0).2 = g at hmay
    split
    · exact ⟨b.dec.calTicks, hmay.dec, hmay.jobs, hmay.store⟩
    · generalize hh : ({ g with cal := { g.cal with columnIn := none } } : Blk) = h
      have hgh : g.SameWork h := by rw [← hh]; exact ⟨rfl, rfl, rfl, rfl⟩
      have hbh := hmay.trans hgh
      have hkept : h.rollWindow = h := Blk.rollWindow_of_kept (by rw [hbh.now, hbh.dec]; exact hwin)
      have hrun : (h.slotRun .column 0 3750).dec = { b.dec with calTicks := b.dec.calTicks + 3750 } := by
        rw [Blk.slotRun, hkept, ← hbh.dec]
        rfl
      have hjobs : (h.slotRun .column 0 3750).jobs = b.jobs := by
        rw [Blk.slotRun, hkept, ← hbh.jobs]
        rfl
      have hstore : (h.slotRun .column 0 3750).store = b.store := by
        rw [Blk.slotRun, hkept, ← hbh.store]
        rfl
      have hlast := (h.slotRun .column 0 3750).sameWork_offsetRun w
      exact ⟨_, hlast.dec.trans hrun, hlast.jobs.trans hjobs, hlast.store.trans hstore⟩

theorem Blk.columnSlot_of_none {b : Blk} (h : b.cal.columnIn = none) : b.columnSlot = b := by
  rw [Blk.columnSlot, h]

theorem accountingWindow_of_due {b : Blk} (h : b.now % 312500 = 0) :
    accountingWindow b = ((b.rollWindow.setF Reg.ADM_CAL_STATE 0 0 1).memFigures).columnSlot := by
  rw [accountingWindow, if_neg (by simp [h])]

/-- The window that follows the one kept, opened with the engines active now and nothing used, and the last one's use kept (02 R71). -/
def Blk.nextWindow (b : Blk) (regs : List (Nat × Word)) (mem : MemSt) : Blk :=
  { b with
    regs := regs
    mem := mem
    cal := { b.cal with slotsRun := 0 }
    dec := { b.dec with win := windowOf b.now, winN := b.nEngines, specTicks := 0, calTicks := 0, specBytes := 0, calBytes := 0,
                        lastN := b.dec.winN, lastSpec := b.dec.specTicks, lastCal := b.dec.calTicks } }

theorem Blk.rollWindow_of_next {b : Blk} (h : b.dec.win + 1 = windowOf b.now) : ∃ regs, b.rollWindow = b.nextWindow regs b.mem := by
  have hne : windowOf b.now ≠ b.dec.win := by omega
  have hn : (b.setF Reg.ADM_CAL_STATE 31 16 (sat 16 b.cal.slotsRun)).nEngines = b.nEngines := by
    rw [Blk.nEngines, Blk.nEngines, Blk.regN, Blk.regN, Blk.setF_eq, Blk.reg_setReg_other _ _ (by decide)]
  refine ⟨(b.setF Reg.ADM_CAL_STATE 31 16 (sat 16 b.cal.slotsRun)).regs, ?_⟩
  rw [Blk.rollWindow, if_neg hne, ← h, Blk.nextWindow]
  simp only [decide_true, if_true, hn, ← h]
  rfl

theorem Blk.setN_setN_mem (b : Blk) (a c x y : Nat) (mem : MemSt) :
    ({ (b.setN a x).setN c y with mem := mem } : Blk) = { b with regs := ((b.setN a x).setN c y).regs, mem := mem } := rfl

theorem Blk.memFigures_shape (b : Blk) : ∃ regs mem, b.memFigures = { b with regs := regs, mem := mem } := by
  rw [Blk.memFigures]
  exact ⟨_, _, Blk.setN_setN_mem b _ _ _ _ _⟩

theorem accountingWindow_of_next {b : Blk} (hdue : b.now % 312500 = 0) (h : b.dec.win + 1 = windowOf b.now) :
    ∃ regs mem, accountingWindow b = (b.nextWindow regs mem).columnSlot := by
  obtain ⟨regs, hroll⟩ := Blk.rollWindow_of_next h
  obtain ⟨regs', mem, hfigures⟩ := ((b.nextWindow regs b.mem).setF Reg.ADM_CAL_STATE 0 0 1).memFigures_shape
  rw [accountingWindow_of_due hdue, hroll, hfigures]
  exact ⟨regs', mem, rfl⟩

/-- A readable register with a view of its own reads that view (12 R442). -/
theorem Blk.regValue_of_view {b : Blk} {who : Who} {a v : Nat} {p : PageInfo} {d : RegDef} (hp : pageInfo (pageOf a) = some p)
    (hd : regDef a = some d) (hacc : d.acc ≠ .wo ∧ d.acc ≠ .rsv) (hoff : 0x40 ≤ offOf a) (hv : b.viewPage who a = some v) :
    b.regValue who a = v := by
  simp [Blk.regValue, hp, hd, hacc, Nat.not_lt.mpr hoff, hv]

theorem Blk.viewPage_adm (b : Blk) (who : Who) {a : Nat} (h : pageOf a = 4) : b.viewPage who a = b.viewAdm who a := by
  simp [Blk.viewPage, h]

theorem Blk.regValue_specUsed (b : Blk) : b.regValue none Reg.ADM_SPEC_USED = b.usedPct (b.lastUsed false) := by
  refine Blk.regValue_of_view rfl rfl (by decide) (by decide) ?_
  rw [b.viewPage_adm none rfl]
  simp [Blk.viewAdm, show ¬(Reg.ADM_COST 0 ≤ Reg.ADM_SPEC_USED ∧ Reg.ADM_SPEC_USED ≤ Reg.ADM_COST 39) by decide,
    show ¬(Reg.ADM_POOL 0 ≤ Reg.ADM_SPEC_USED ∧ Reg.ADM_SPEC_USED ≤ Reg.ADM_POOL 15) by decide]

theorem Blk.regValue_calUsed (b : Blk) : b.regValue none Reg.ADM_CAL_USED = b.usedPct (b.lastUsed true) := by
  refine Blk.regValue_of_view rfl rfl (by decide) (by decide) ?_
  rw [b.viewPage_adm none rfl]
  simp [Blk.viewAdm, show ¬(Reg.ADM_COST 0 ≤ Reg.ADM_CAL_USED ∧ Reg.ADM_CAL_USED ≤ Reg.ADM_COST 39) by decide,
    show ¬(Reg.ADM_POOL 0 ≤ Reg.ADM_CAL_USED ∧ Reg.ADM_CAL_USED ≤ Reg.ADM_POOL 15) by decide]

/-- Settles O30: each of the three periods at its tick, and the stage by the range that holds the load. -/
theorem paceIsSampledAndAccounted : Obligations.PaceIsSampledAndAccounted := by
  unfold Obligations.PaceIsSampledAndAccounted
  refine ⟨?periods, ?stages⟩
  case periods =>
    intro dt fabric gauges s b act m
    refine ⟨fun hdue => ?sample, fun hdue hm hstage hlow => ?update, fun hdue hwin => ?kept, fun hdue hwin => ?next⟩
    case sample =>
      refine leaves_of_exec (exec_paceSample dt fabric gauges s) ?_
      rw [paceSample_of_due (b := b) fabric gauges hdue]
      have hgauge : ∀ e, e < 18 → (b.sampledGauges gauges).getD e 16384 = (b.sampledGauges gauges).getD e 0 := fun e he => by
        rw [b.sampledGauges_getD gauges _ he, b.sampledGauges_getD gauges _ he]
      refine ⟨rfl, rfl, fun e he => b.sampledGauges_getD gauges _ he, fun hlen e he => ?_, rfl⟩
      rw [Blk.gaugeOf]
      exact (List.getD_zip_min (hlen ▸ he) (by simpa [Blk.sampledGauges] using he) 0).trans (congrArg _ (hgauge e he).symm)
    case update =>
      have hload := Blk.engineLoad_congr (b := b.setN Reg.ADM_PACE_PLAN (b.paceWord b.lowestPace)) (c := b.paceSet) rfl b.jobs b.lowestPace
      rw [exec_paceUpdate, paceUpdate_of_noShortfall (b := b) hdue hm (by rw [hload]; exact hstage) hlow]
      rfl
    case kept =>
      have hroll : b.rollWindow = b := Blk.rollWindow_of_kept hwin.symm
      rw [exec_accountingWindow, accountingWindow_of_due (b := b) hdue, hroll]
    case next =>
      refine leaves_of_exec (exec_accountingWindow dt s) ?_
      obtain ⟨regs, mem, hnext⟩ := accountingWindow_of_next (b := b) hdue hwin
      rw [hnext]
      obtain ⟨n, hdec, hjobs, hstore⟩ := Blk.columnSlot_spec (b := b.nextWindow regs mem) rfl
      refine ⟨Blk.regValue_specUsed _, Blk.regValue_calUsed _, ?_, ?_, ?_, ?_, ?_, ?_, ?_, ?_, fun hnone => ?_, hjobs, hstore⟩
      case refine_9 =>
        rw [Blk.columnSlot_of_none (b := b.nextWindow regs mem) hnone]
        exact ⟨rfl, rfl⟩
      all_goals
        rw [Blk.settle_dec, hdec]
        rfl
  case stages =>
    intro stage l hstage low
    refine ⟨nextStage_of_rise, nextStage_of_fall, nextStage_of_stay, ?_, ?_, ?_⟩
    all_goals
      rcases stageOf_cases l with ⟨hl, hs⟩ | ⟨hl, hu, hs⟩ | ⟨hl, hu, hs⟩ | ⟨hl, hs⟩ <;> rw [hs] <;> omega

end Sys2Proof.Machine
end

section
/-! A result group is stored whole or lost (O31; 06 R239 to R241). -/
namespace Sys2Proof.Machine

/-- What of a record says where and when it was stored. -/
def Rec.place (x : Rec) : Nat × Nat × Nat := (x.jobSeq, x.unitSeq, x.order)

/-- The record that a pool takes next for some bytes (06 R241). -/
def Blk.nextRec (b : Blk) (p jobSeq unit size : Nat) (bytes : List Byte) : Rec :=
  { seq := (b.pool p).nextSeq, jobSeq := jobSeq, unitSeq := unit, bytes := setLe2 bytes 58 (b.pool p).nextSeq,
    order := b.store.nextOrder, groupBytes := size }

section Store
variable {b : Blk} {p : Nat} (jobSeq unit size : Nat)

theorem Blk.pool_storeRec_same (bytes : List Byte) (hp : p < b.store.pools.length) :
    ((b.storeRec p jobSeq unit size bytes).pool p).recs = (b.pool p).recs ++ [b.nextRec p jobSeq unit size bytes] := by
  rw [Blk.storeRec, Blk.pool, Blk.updPool, upd_getD_same _ _ _ _ hp]
  rfl

theorem Blk.pool_storeRec_other (bytes : List Byte) {q : Nat} (hq : q ≠ p) :
    (b.storeRec p jobSeq unit size bytes).pool q = b.pool q := upd_getD_other _ _ _ _ _ hq

theorem Blk.storeRec_shape (bytes : List Byte) : ∃ pools, pools.length = b.store.pools.length ∧
    b.storeRec p jobSeq unit size bytes =
      { b with store := { b.store with pools := pools, nextOrder := b.store.nextOrder + 1 } } :=
  ⟨_, upd_length _ _ _, rfl⟩

/-- Records stored one after another stand behind those of their pool, in the order of commit (06 R241). -/
theorem Blk.storeRecs_spec (recs : List (List Byte)) (hp : p < b.store.pools.length) :
    let c := recs.foldl (fun c r => c.storeRec p jobSeq unit size r) b
    (∃ l, (c.pool p).recs = (b.pool p).recs ++ l ∧
      l.map Rec.place = (List.range recs.length).map (fun k => (jobSeq, unit, b.store.nextOrder + k))) ∧
    (∀ q, q ≠ p → c.pool q = b.pool q) ∧
    ∃ pools, c = { b with store := { b.store with pools := pools, nextOrder := b.store.nextOrder + recs.length } } := by
  induction recs generalizing b with
  | nil => exact ⟨⟨[], (List.append_nil _).symm, rfl⟩, fun _ _ => rfl, b.store.pools, rfl⟩
  | cons r recs ih =>
    obtain ⟨pools, hlen, hshape⟩ := Blk.storeRec_shape (b := b) (p := p) jobSeq unit size r
    have hrecs := Blk.pool_storeRec_same jobSeq unit size r hp
    have hplace : (b.nextRec p jobSeq unit size r).place = (jobSeq, unit, b.store.nextOrder) := rfl
    have hother : ∀ q, q ≠ p → (b.storeRec p jobSeq unit size r).pool q = b.pool q := fun q hq =>
      Blk.pool_storeRec_other jobSeq unit size r hq
    have hnext : (b.storeRec p jobSeq unit size r).store.nextOrder = b.store.nextOrder + 1 := by rw [hshape]
    obtain ⟨⟨l, hl, hmap⟩, hrest, pools', hall⟩ := ih (b := b.storeRec p jobSeq unit size r) (by rw [hshape]; exact hlen ▸ hp)
    refine ⟨⟨b.nextRec p jobSeq unit size r :: l, ?_, ?_⟩, fun q hq => (hrest q hq).trans (hother q hq), pools', ?_⟩
    · rw [List.foldl_cons, hl, hrecs, List.append_assoc]
      rfl
    · rw [List.map_cons, hplace, hmap, hnext, List.length_cons, List.range_succ_eq_map]
      simp [Nat.add_assoc, Nat.add_comm 1]
    · rw [List.foldl_cons, hall, hshape, List.length_cons]
      simp only [Nat.add_assoc, Nat.add_comm 1]

end Store

section Group
variable {b : Blk} {j : Job} {unit : Nat} {recs : List (List Byte)}

/-- A group that fits is stored record by record; a count of lost groups may start anew with it (06 R235, R239). -/
theorem Blk.storeGroup_of_fits (h : b.groupFits j recs = true) : ∃ size jobs, b.storeGroup j unit recs =
    { recs.foldl (fun c r => c.storeRec j.pool j.seq unit size r) b with jobs := jobs } := by
  rw [Blk.storeGroup]
  refine ⟨(recs.map List.length).foldl (· + ·) 0, ?_⟩
  rw [if_pos (by simpa [Blk.groupFits] using h)]
  split
  · exact ⟨_, rfl⟩
  · exact ⟨_, rfl⟩

theorem Blk.storeGroup_of_full (h : b.groupFits j recs = false) : b.storeGroup j unit recs =
    (((b.raise 0xB141).bump Reg.ADM_POOL_LOST 15 0 1).setF Reg.ADM_POOL_LOST 19 16 j.pool).updJob j.seq
      (fun k => { k with lost := min (k.lost + 1) 65535 }) := by
  rw [Blk.storeGroup]
  exact if_neg (by simpa [Blk.groupFits] using h)

end Group

/-- Settles O31: record by record where the group fits, and by the count of lost groups where it does not. -/
theorem groupsAreStoredWholeOrLost : Obligations.GroupsAreStoredWholeOrLost := by
  unfold Obligations.GroupsAreStoredWholeOrLost
  intro b j unit recs hpool
  refine ⟨fun hfits => ?fits, fun hfull => ?full⟩
  case fits =>
    obtain ⟨size, jobs, hstored⟩ := Blk.storeGroup_of_fits (unit := unit) hfits
    obtain ⟨⟨l, hrecs, hplace⟩, hother, pools, hshape⟩ := Blk.storeRecs_spec (b := b) j.seq unit size recs hpool
    intro c
    have hc : c = { recs.foldl (fun c r => c.storeRec j.pool j.seq unit size r) b with jobs := jobs } := hstored
    have hcrecs : (c.pool j.pool).recs = (b.pool j.pool).recs ++ l := by rw [hc]; exact hrecs
    refine ⟨?_, ?_, ?_, ?_, ?_, fun p hp => ?_, ?_⟩
    · rw [hcrecs, List.map_append, List.drop_left' (by simp)]
      exact hplace
    · rw [hcrecs, List.take_left' rfl]
    · rw [hc, hshape]
    · rw [hc, hshape]
    · rw [hc, hshape]
    · rw [hc]; exact hother p hp
    · rw [hc, hshape]
  case full =>
    have hlost : (b.raise 0xB141).regF Reg.ADM_POOL_LOST 15 0 = b.regF Reg.ADM_POOL_LOST 15 0 := by
      rw [Blk.regF, Blk.regF, Blk.regN, Blk.regN, Blk.reg_raise _ _ (by decide) (by decide) (by decide)]
    intro c
    have hc : c = (((b.raise 0xB141).bump Reg.ADM_POOL_LOST 15 0 1).setF Reg.ADM_POOL_LOST 19 16 j.pool).updJob j.seq
        (fun k => { k with lost := min (k.lost + 1) 65535 }) := Blk.storeGroup_of_full hfull
    have hregs : c.regs = (((b.raise 0xB141).bump Reg.ADM_POOL_LOST 15 0 1).setF Reg.ADM_POOL_LOST 19 16 j.pool).regs := by
      rw [hc, Blk.updJob_regs]
    refine ⟨?_, ?_, ?_, ?_⟩
    · rw [hc]; simp
    · rw [hc]; simp [Blk.updJob]
    · rw [Blk.regF_congr hregs, Blk.regF_setF_other _ _ _ (by decide) (by decide) (by decide), Blk.regF_bump_16 _ _ _ rfl (by decide), hlost]
    · rw [Blk.regF_congr hregs, Blk.regF_setF_same _ _ _ (by decide) (by decide)]
      rfl

end Sys2Proof.Machine
end

section
/-! Deliveries: the commit of a ready group, the deadline and the commit cut (O32; 02 R79; 04 R171). -/
namespace Sys2Proof.Machine

theorem exec_groupCommit (dt path : Nat) (s : State) :
    exec (.groupCommit dt path) s = .next (s.after (groupCommit path (s.blk.elapse dt))) := rfl

theorem exec_deliveryDeadline (dt seq unit : Nat) (s : State) :
    exec (.deliveryDeadline dt seq unit) s = .next (s.after (deliveryDeadline seq unit (s.blk.elapse dt))) := rfl

theorem exec_commitCut (dt seq unit : Nat) (s : State) :
    exec (.commitCut dt seq unit) s = .next (s.after (commitCut seq unit (s.blk.elapse dt))) := rfl

section Delivery
variable {b : Blk} {j : Job} {f : Frame} {w : Sweep} {c : Campaign} {path seq unit u : Nat}

theorem groupCommit_of_frame (hf : b.committingFrame = some f) (hj : b.jobBySeq f.jobSeq = some j) :
    groupCommit 0 b = b.commitFrame j f := by
  simp [groupCommit, hf, hj]

theorem groupCommit_of_sweep (hpath : path ≠ 0) (hw : b.committingSweep = some w) (hj : b.jobBySeq w.jobSeq = some j) :
    groupCommit path b = b.commitSweep j w := by
  simp [groupCommit, hpath, hw, hj]

/-- A frame's delivery that is not over at its deadline is forfeited with the fault recorded against it (02 R79). -/
theorem deliveryDeadline_of_frame (hj : b.jobBySeq seq = some j) (hkind : j.kind = 1) (hf : b.frame seq unit = some f)
    (hzero : f.zero.isSome = true) (hover : f.isOver = false) (hdue : f.deadline ≤ b.now) :
    deliveryDeadline seq unit b = (((b.forfeitFrame seq unit (deadlineFault f.fault) 2
      (lostRace (b.frameReady f && !b.frameBlocked f) (b.frameSoon f) b.now f.deadline seq unit)).closeAccount seq
      unit).pruneFrames).freeSlots.jobsOver := by
  have hopen : (f.zero.isNone || f.isOver || decide (b.now < f.deadline)) = false := by
    simp [hover, hzero, hdue]
  rw [deliveryDeadline, hj]
  dsimp only
  rw [if_pos hkind, hf]
  dsimp only
  rw [hopen]
  exact if_neg Bool.false_ne_true

theorem deliveryDeadline_of_sweep (hj : b.jobBySeq seq = some j) (hkind : j.kind = 2) (hw : b.sweep seq = some w)
    (hclosed : w.closed = true) (hover : w.isOver = false) (hdue : w.deadline ≤ b.now) :
    deliveryDeadline seq unit b = b.forfeitSweep seq (deadlineFault w.fault) 2
      (lostRace (w.ready j && !b.sweepBlocked w) (w.profiled j) b.now w.deadline seq w.unit) := by
  have hopen : (!w.closed || w.isOver || decide (b.now < w.deadline)) = false := by simp [hclosed, hover, hdue]
  rw [deliveryDeadline, hj]
  dsimp only
  rw [if_neg (by rw [hkind]; decide), if_pos hkind, hw]
  dsimp only
  rw [hopen]
  exact if_neg Bool.false_ne_true

theorem deliveryDeadline_of_campaign (hj : b.jobBySeq seq = some j) (hkind : j.kind ≠ 1 ∧ j.kind ≠ 2)
    (hc : b.campaign seq = some (u, c)) (hstart : c.start.isSome = true) (hover : c.isOver = false) (hdue : c.deadline ≤ b.now) :
    deliveryDeadline seq unit b = b.forfeitCampaign seq (deadlineFault c.fault) 2
      (lostRace false c.fitAt.isSome b.now c.deadline seq 0) := by
  have hopen : (c.start.isNone || c.isOver || decide (b.now < c.deadline)) = false := by
    simp [hover, hstart, hdue]
  rw [deliveryDeadline, hj]
  dsimp only
  rw [if_neg hkind.1, if_neg hkind.2, hc]
  dsimp only
  rw [hopen]
  exact if_neg Bool.false_ne_true

/-- At the commit cut of an open delivery its speculative tasks are squashed, and none starts any more (04 R171). -/
theorem commitCut_of_due (hf : b.frame seq unit = some f) (hzero : f.zero.isSome = true) (hover : f.isOver = false)
    (hcut : f.cut = false) (hdue : f.deadline ≤ b.now + 3125) :
    commitCut seq unit b = (b.dec.running.filter (fun t => !t.admitted && !t.shadow && t.jobSeq = seq && t.unit = unit)).foldl
      (fun g t => (g.squashTask Reg.CRU_SQ_OTHER t).afterSquash t) (b.updFrame seq unit (fun g => { g with cut := true })) := by
  have hopen : (f.zero.isNone || f.isOver || f.cut || decide (b.now + 3125 < f.deadline)) = false := by
    simp [hover, hcut, hzero, hdue]
  rw [commitCut, hf]
  dsimp only
  rw [hopen]
  exact if_neg Bool.false_ne_true

end Delivery

/-- Settles O32: a commit, a deadline by the kind of its job, and the commit cut. -/
theorem deliveriesCommitOrAreForfeited : Obligations.DeliveriesCommitOrAreForfeited := by
  unfold Obligations.DeliveriesCommitOrAreForfeited
  intro dt path u j f w c s b
  refine ⟨fun hf hj => ?_, fun hpath hw hj => ?_, fun hj hkind hf hzero hover hdue => ?_, fun hj hkind hw hclosed hover hdue => ?_,
    fun hj hk1 hk2 hc hstart hover hdue => ?_, fun hf hzero hover hcut hdue => ?_⟩
  · rw [exec_groupCommit, groupCommit_of_frame hf hj]
  · rw [exec_groupCommit, groupCommit_of_sweep hpath hw hj]
  · rw [exec_deliveryDeadline, deliveryDeadline_of_frame hj hkind hf hzero hover hdue, deadlineFault]
  · rw [exec_deliveryDeadline, deliveryDeadline_of_sweep hj hkind hw hclosed hover hdue, deadlineFault]
  · rw [exec_deliveryDeadline, deliveryDeadline_of_campaign hj ⟨hk1, hk2⟩ hc hstart hover hdue, deadlineFault]
  · rw [exec_commitCut, commitCut_of_due hf hzero hover hcut hdue]

end Sys2Proof.Machine
end

section
/-! Why O33 fails: an edge on TRIGn also notes its tick (`levelAt`, by which the pin wakes a sleeping engine), which the statement leaves
as it was. -/
namespace Sys2Proof.Machine

theorem exec_triggerInput (dt pin : Nat) (level : Bool) (s : State) :
    exec (.triggerInput dt pin level) s = .next (s.after (triggerInput pin level (s.blk.elapse dt))) := rfl

/-- Two commands' outcomes with one queue agree only where their engines do, the pins apart. -/
theorem settle_eq_of_next_after {s : State} {b c : Blk}
    (h : (Host.Outcome.next (s.after b) : Host.Outcome State Fault Refusal) = .next (s.after c)) : b.settle = c.settle :=
  congrArg State.blk (Host.Outcome.next.inj h)

/-- Refutes O33: an edge on TRIG0 a tick after reset is noted at tick 1, where the statement keeps the tick of reset. -/
theorem not_triggersAreQualifiedAndTakeFrames : ¬ Obligations.TriggersAreQualifiedAndTakeFrames := by
  unfold Obligations.TriggersAreQualifiedAndTakeFrames
  rintro ⟨hinput, -⟩
  obtain ⟨hedge, -⟩ := hinput 1 0 true [] 0 0 State.reset
  obtain ⟨hactive, -⟩ := hedge (by decide)
  have hnext := (exec_triggerInput 1 0 true State.reset).symm.trans (hactive (by decide) (by decide))
  have hnoted := congrArg (fun c : Blk => c.sns.levelAt) (settle_eq_of_next_after hnext)
  exact absurd hnoted (by decide)

end Sys2Proof.Machine
end

section
/-! What the light can change (11): the lamps' state, the register file with its events and fault log, the frames, and the touch and
gating of domains; all else stands as it was. -/
namespace Sys2Proof.Machine

/-- `c` differs from `b` in the lamps' state, the register file, the events and fault log, the frames and the domains alone. -/
def Blk.LightOnly (b c : Blk) : Prop :=
  ∃ lit regs evt flog frames doms, c =
    { b with lit := lit, regs := regs, evt := evt, sys := { b.sys with flog := flog }, sns := { b.sns with frames := frames }, doms := doms }

theorem Blk.LightOnly.refl (b : Blk) : b.LightOnly b := ⟨b.lit, b.regs, b.evt, b.sys.flog, b.sns.frames, b.doms, rfl⟩

theorem Blk.LightOnly.trans {b c d : Blk} (h : b.LightOnly c) (k : c.LightOnly d) : b.LightOnly d := by
  obtain ⟨lit, regs, evt, flog, frames, doms, rfl⟩ := h
  obtain ⟨lit', regs', evt', flog', frames', doms', rfl⟩ := k
  exact ⟨lit', regs', evt', flog', frames', doms', rfl⟩

theorem Blk.LightOnly.ite {b c d : Blk} {p : Prop} [Decidable p] (h : b.LightOnly c) (k : b.LightOnly d) :
    b.LightOnly (if p then c else d) := by
  split
  · exact h
  · exact k

/-- A fold of steps that keep to the light keeps to it. -/
theorem Blk.lightOnly_foldl {α β : Type} {blk : β → Blk} {f : β → α → β} (hf : ∀ x a, (blk x).LightOnly (blk (f x a))) (l : List α)
    (x : β) : (blk x).LightOnly (blk (l.foldl f x)) := by
  induction l generalizing x with
  | nil => exact .refl _
  | cons a l ih => exact (hf x a).trans (ih (f x a))

section Steps
variable (b : Blk)

theorem Blk.lightOnly_lit (lit : LitSt) : b.LightOnly { b with lit := lit } := ⟨lit, b.regs, b.evt, b.sys.flog, b.sns.frames, b.doms, rfl⟩

theorem Blk.lightOnly_setReg (a : Nat) (v : Word) : b.LightOnly (b.setReg a v) :=
  ⟨b.lit, putReg b.regs a v, b.evt, b.sys.flog, b.sns.frames, b.doms, rfl⟩

theorem Blk.lightOnly_raise (code : Nat) : b.LightOnly (b.raise code) := by
  obtain ⟨regs, evt, flog, h⟩ := b.raise_shape code
  exact ⟨b.lit, regs, evt, flog, b.sns.frames, b.doms, h⟩

theorem Blk.lightOnly_frames (frames : List Frame) : b.LightOnly { b with sns := { b.sns with frames := frames } } :=
  ⟨b.lit, b.regs, b.evt, b.sys.flog, frames, b.doms, rfl⟩

theorem Blk.lightOnly_updDom (d : Nat) (f : DomSt → DomSt) : b.LightOnly (b.updDom d f) :=
  ⟨b.lit, b.regs, b.evt, b.sys.flog, b.sns.frames, _, rfl⟩

theorem Blk.lightOnly_updPos (row col : Nat) (f : LedPos → LedPos) : b.LightOnly (b.updPos row col f) := b.lightOnly_lit _

theorem Blk.lightOnly_updSink (col : Nat) (f : SinkSt → SinkSt) : b.LightOnly (b.updSink col f) := b.lightOnly_lit _

theorem Blk.lightOnly_updPat (e : Nat) (f : PatSt → PatSt) : b.LightOnly (b.updPat e f) := b.lightOnly_lit _

theorem Blk.lightOnly_notePulse (p : Pulse) : b.LightOnly (b.notePulse p) := b.lightOnly_frames _

/-! ### Conductions -/

theorem Blk.lightOnly_judgeReading (row code : Nat) (k : LedReading) : b.LightOnly (b.judgeReading row code k) := by
  unfold Blk.judgeReading
  dsimp only
  have hsink (g : Blk) (p : Prop) [Decidable p] (f : SinkSt → SinkSt) : g.LightOnly (if p then g else g.updSink k.col f) :=
    (Blk.LightOnly.refl g).ite (g.lightOnly_updSink _ _)
  exact Blk.LightOnly.ite (((b.lightOnly_updPos _ _ _).trans (hsink _ _ _)).trans (Blk.lightOnly_raise _ _))
    ((b.lightOnly_updPos _ _ _).trans (hsink _ _ _))

theorem Blk.lightOnly_judged : b.LightOnly b.judged := by
  unfold Blk.judged
  split
  · exact .refl b
  · exact (Blk.lightOnly_foldl (blk := id) (fun g k => g.lightOnly_judgeReading _ _ k) _ b).trans (Blk.lightOnly_lit _ _)

theorem Blk.lightOnly_endCol (c : Conduct) (e4 col : Nat) (d : ColDrive) : b.LightOnly (b.endCol c e4 col d) := by
  unfold Blk.endCol
  dsimp only
  exact (Blk.LightOnly.refl b).ite (((b.lightOnly_updPos _ _ _).trans (Blk.lightOnly_updSink _ _ _)).ite (b.lightOnly_updPos _ _ _))

theorem Blk.lightOnly_endCond : b.LightOnly b.endCond := by
  unfold Blk.endCond
  dsimp only
  split
  · exact b.lightOnly_judged
  · next c hc =>
    refine ((b.lightOnly_judged.trans ?_).trans (Blk.lightOnly_notePulse _ _)).trans (Blk.lightOnly_lit _ _)
    exact Blk.lightOnly_foldl (blk := id) (fun g p => g.lightOnly_endCol _ _ _ _) _ b.judged

theorem Blk.lightOnly_endIdle : b.LightOnly b.endIdle := by
  unfold Blk.endIdle
  split
  · exact (Blk.LightOnly.refl b).ite b.lightOnly_endCond
  · exact .refl b

theorem Blk.lightOnly_turnCol (c : Conduct) (col : Nat) (d : ColDrive) : b.LightOnly (b.turnCol c col d).2 := by
  unfold Blk.turnCol
  exact (Blk.LightOnly.refl b).ite ((b.lightOnly_endCol _ _ _ _).trans (Blk.lightOnly_notePulse _ _))

theorem Blk.lightOnly_latchCol (row c : Nat) (top : LitSrc) (l : List Want) : b.LightOnly (b.latchCol row c top l).2 := by
  unfold Blk.latchCol
  dsimp only
  have hset (g : Blk) (p : Prop) [Decidable p] (v : Nat) : g.LightOnly
      ((if p then g.bump Reg.LIT_CLAMPS 31 16 1 else g).setF (Reg.LITC_COL_STAT c) 11 0 v) :=
    Blk.LightOnly.trans ((g.lightOnly_setReg _ _).ite (.refl g)) (Blk.lightOnly_setReg _ _ _)
  split
  · exact b.lightOnly_updSink _ _
  · split
    · exact b.lightOnly_updSink _ _
    · exact (b.lightOnly_updSink _ _).trans (hset _ _ _)

theorem Blk.lightOnly_shareCol (c : Conduct) (col : Nat) (l : List Want) : b.LightOnly (b.shareCol c col l).2 := by
  unfold Blk.shareCol
  extract_lets d gone c' now old c''
  split
  · have hlatch := b.lightOnly_latchCol c''.row col c''.src l
    dsimp only
    split
    · exact hlatch.trans (Blk.lightOnly_turnCol _ _ _ _)
    · exact hlatch
  · exact .refl b

theorem Blk.lightOnly_shareCols : b.LightOnly b.shareCols := by
  unfold Blk.shareCols
  dsimp only
  split
  · exact b.lightOnly_judged
  · refine ((b.lightOnly_judged.trans ?_).trans (Blk.lightOnly_lit _ _)).trans (Blk.lightOnly_endIdle _)
    exact Blk.lightOnly_foldl (blk := fun x : Conduct × Blk => x.2) (fun x i => x.2.lightOnly_shareCol _ _ _) _ (_, b.judged)

theorem Blk.lightOnly_litReview : b.LightOnly b.litReview := by
  unfold Blk.litReview
  extract_lets lit swept top ok reviewed
  have hswept : b.LightOnly swept := b.lightOnly_lit _
  have hreviewed : swept.LightOnly reviewed := by
    simp only [reviewed]
    split
    · exact swept.lightOnly_shareCols.ite swept.lightOnly_endCond
    · exact .refl swept
  split
  · exact (hswept.trans hreviewed).trans ((Blk.LightOnly.refl reviewed).ite (reviewed.lightOnly_lit _))
  · exact hswept.trans hreviewed

/-! ### Pattern engines and exposures -/

theorem Blk.lightOnly_lightsOff : b.LightOnly b.lightsOff := b.lightOnly_endCond.trans (Blk.lightOnly_lit _ _)

theorem Blk.lightOnly_glowOver : b.LightOnly b.glowOver :=
  (b.lightOnly_lightsOff.trans (Blk.lightOnly_updDom _ _ _)).ite (.refl b)

theorem Blk.lightOnly_dropPre (e : Nat) : b.LightOnly (b.dropPre e) := by
  unfold Blk.dropPre
  split
  · exact (b.lightOnly_lit _).ite (.refl b)
  · exact .refl b

theorem Blk.lightOnly_dropServed (e : Nat) : b.LightOnly (b.dropServed e) := by
  unfold Blk.dropServed
  split
  · exact b.lightOnly_lit _
  · exact .refl b

theorem Blk.lightOnly_patMoved (e : Nat) (old : PatSt) : b.LightOnly (b.patMoved e old) := by
  unfold Blk.patMoved
  extract_lets p touched freed single dropped
  have htouched : b.LightOnly touched := (b.lightOnly_updDom _ _).ite (.refl b)
  have hfreed : touched.LightOnly freed := (touched.lightOnly_dropPre e).ite (.refl touched)
  have hdropped : freed.LightOnly dropped := (freed.lightOnly_dropServed e).ite (.refl freed)
  have hover : dropped.LightOnly dropped.litReview.glowOver := dropped.lightOnly_litReview.trans (Blk.lightOnly_glowOver _)
  refine ((htouched.trans hfreed).trans hdropped).trans ?_
  split
  · exact ((dropped.lightOnly_endCond.trans (Blk.lightOnly_litReview _)).trans (Blk.lightOnly_glowOver _)).ite hover
  · exact hover

theorem Blk.lightOnly_patRun (n e : Nat) : b.LightOnly (Blk.patRun n e b) := by
  induction n generalizing b with
  | zero => exact .refl b
  | succ n ih =>
    unfold Blk.patRun
    extract_lets p
    refine (Blk.LightOnly.refl b).ite ?_
    split
    · exact (b.lightOnly_updPat _ _).trans (ih _)
    · exact b.lightOnly_updPat _ _

theorem Blk.lightOnly_patNext (e t4 : Nat) (f : PatSt → PatSt) : b.LightOnly (b.patNext e t4 f) :=
  ((b.lightOnly_updPat _ _).trans (Blk.lightOnly_patRun _ _ _)).trans (Blk.lightOnly_patMoved _ _ _)

theorem Blk.lightOnly_patEdge (light : Nat) (isEnd : Bool) : b.LightOnly (b.patEdge light isEnd) :=
  Blk.lightOnly_foldl (blk := id) (fun g _ => (g.lightOnly_patNext _ _ _).ite (.refl g)) [0, 1] b

theorem Blk.lightOnly_updFrame (seq unit : Nat) (g : Frame → Frame) : b.LightOnly (b.updFrame seq unit g) := b.lightOnly_frames _

theorem Blk.lightOnly_litExposureEnd (f : Frame) : b.LightOnly (b.litExposureEnd f) := by
  unfold Blk.litExposureEnd
  extract_lets pulsed shown
  have hpulsed : b.LightOnly pulsed := by
    simp only [pulsed]
    split
    · exact b.lightOnly_updFrame _ _ _
    · exact .refl b
  exact ((hpulsed.trans (pulsed.lightOnly_setReg _ _)).trans (Blk.lightOnly_patEdge _ _ _)).trans (Blk.lightOnly_litReview _)

end Steps

theorem Blk.LightOnly.coppice {b c : Blk} (h : b.LightOnly c) : c.coppice = b.coppice := by
  obtain ⟨lit, regs, evt, flog, frames, doms, rfl⟩ := h
  rfl

end Sys2Proof.Machine
end

section
/-! Exposures start and end (O34; 03 R96, R101, R126, R127, R132). -/
namespace Sys2Proof.Machine

theorem exec_exposureStart (dt : Nat) (s : State) : exec (.exposureStart dt) s = .next (s.after (exposureStart (s.blk.elapse dt))) := rfl

theorem exec_exposureEnd (x : ExposureSeen) (s : State) :
    exec (.exposureEnd x) s = .next (s.after (exposureEnd x.img (s.blk.elapse x.dt))) := rfl

theorem exec_snsTransfer (dt : Nat) (s : State) : exec (.snsTransfer dt) s = .next (s.after (snsTransfer (s.blk.elapse dt))) := rfl

theorem exec_syncPulseEnd (dt : Nat) (s : State) : exec (.syncPulseEnd dt) s = .next (s.after (syncPulseEnd (s.blk.elapse dt))) := rfl

theorem exec_storageWindowEnd (dt : Nat) (s : State) :
    exec (.storageWindowEnd dt) s = .next (s.after (storageWindowEnd (s.blk.elapse dt))) := rfl

theorem exec_snsTempRange (dt : Nat) (temp : Word) (s : State) :
    exec (.snsTempRange dt temp) s = .next (s.after (snsTempRange temp.toNat (s.blk.elapse dt))) := rfl

section Exposure
variable {b : Blk} {f : Frame}

/-- The engine as the exposure of a frame that waits for it starts (03 R101, R132). -/
theorem exposureStart_of_due (h : b.firstFrame (fun g => !g.started && g.expStart ≤ b.now) = some f) :
    exposureStart b = (let v := b.voidStretch.updFrame f.jobSeq f.unit (fun g => { g with started := true })
      ({ v with sns := { v.sns with syncPulse := fld f.cfg.syncCfg 1 0 = 2 } } : Blk).litExposureStart f.light) := by
  rw [exposureStart, h]

theorem Blk.holdStorage_shape (b : Blk) (f : Frame) (e : Nat) : ∃ sns, b.holdStorage f e = { b with sns := sns } := by
  unfold Blk.holdStorage
  split
  · split
    · exact ⟨_, rfl⟩
    · exact ⟨b.sns, rfl⟩
  · exact ⟨b.sns, rfl⟩

theorem Blk.endExposure_kept (b : Blk) (f : Frame) (e : Nat) (storage : Bool) (img : List (Nat × List Nat)) :
    (b.endExposure f e storage img).now = b.now ∧ (b.endExposure f e storage img).coppice = b.coppice := by
  obtain ⟨lit, regs, evt, flog, frames, doms, hlit⟩ := b.lightOnly_litExposureEnd f
  obtain ⟨sns, hheld⟩ := (b.litExposureEnd f).holdStorage_shape f e
  unfold Blk.endExposure
  rw [hheld, hlit]
  exact ⟨rfl, rfl⟩

/-- An exposure that ends outside Coppice, its delivery not held up by a full archive, keeps its charges and counts its readout. -/
theorem exposureEnd_of_due (img : List (Nat × List Nat)) (h : b.endingFrame 0 = some f) (hfault : f.fault ≠ 0x3061)
    (hcoppice : b.coppice = false) : exposureEnd img b =
      if f.job.full then (b.endExposure f b.now true img).fullFigures b.now else b.endExposure f b.now true img := by
  obtain ⟨hnow, hmode⟩ := b.endExposure_kept f b.now true img
  rw [exposureEnd, h]
  dsimp only
  rw [if_neg hfault, hmode, hcoppice, if_neg Bool.false_ne_true, hnow]

theorem snsTransfer_of_late (h : b.endingFrame 625 = some f) : snsTransfer b =
    (((b.endExposure f f.dueEnd false []).raise 0x4042).forfeitFrame f.jobSeq f.unit 0x4042 0 false).pruneFrames.jobsOver := by
  rw [snsTransfer, h]

theorem syncPulseEnd_of_over (h : ∀ g ∈ b.sns.frames, g.started = true → 4 * g.expStart + 1250 ≤ 4 * b.now) :
    syncPulseEnd b = { b with sns := { b.sns with syncPulse := false } } := by
  refine if_pos (List.all_eq_true.mpr fun g hg => ?_)
  cases hs : g.started
  · rfl
  · simpa using h g hg hs

/-- The frame whose storage window ends is the first whose window is over. -/
theorem storageWindowEnd_of_over
    (h : b.firstFrame (fun g => g.zero.any (fun e => g.storage && decide (e + storageTicks g.job.readout ≤ b.now))) = some f) :
    storageWindowEnd b = ((b.updFrame f.jobSeq f.unit (fun g =>
      { (if g.job.full && g.archive then g.archiveRest b.sns.defects else g) with
        storage := false, bandQueue := [], converting := none, img := [] })).noteClipped f.jobSeq f.unit).pruneFrames := by
  have hends : (fun g : Frame => g.zero.any (fun e => g.storage && decide (e + storageTicks g.job.readout ≤ b.now))) =
      fun g => match g.zero with
        | some e => g.storage && decide (e + storageTicks g.job.readout ≤ b.now)
        | none => false := by
    funext g
    cases g.zero <;> rfl
  rw [hends] at h
  unfold storageWindowEnd
  dsimp only
  split
  · next hnone => exact absurd (hnone.symm.trans h) (by nofun)
  · next g hg =>
    obtain rfl : g = f := Option.some.inj (hg.symm.trans h)
    rfl

/-- Leaving or re-entering the sensor's range is raised (03 R126). -/
theorem snsTempRange_eq (b : Blk) (temp : Nat) : snsTempRange temp b =
    if tempOut (temp % 65536) = tempOut (b.regF Reg.SNS_TEMP 15 0) then b.setF Reg.SNS_TEMP 15 0 temp
    else (b.setF Reg.SNS_TEMP 15 0 temp).raise 0x4051 := by
  unfold snsTempRange
  by_cases h : tempOut (temp % 65536) = tempOut (b.regF Reg.SNS_TEMP 15 0) <;> simp [h]

theorem tempOut_eq (t : Nat) : tempOut t = !(decide (0 ≤ sgn 16 t) && decide (sgn 16 t ≤ 60 * 256)) := by
  rw [tempOut, Bool.not_and, ← decide_not, ← decide_not]
  simp only [Int.not_le]

end Exposure

/-- Settles O34: each edge of an exposure by the frame it concerns, and the temperature by the range it stands in. -/
theorem exposuresRunAndEnd : Obligations.ExposuresRunAndEnd := by
  unfold Obligations.ExposuresRunAndEnd
  intro dt f temp img s b put inRange
  refine ⟨fun h => ?start, fun h hfault hcoppice => ?ends, fun h => ?late, fun h => ?pulse, fun h => ?window, ?temp⟩
  case start =>
    intro v
    rw [exec_exposureStart, exposureStart_of_due (b := b) h]
  case ends =>
    have hend := exposureEnd_of_due (b := b) img h hfault hcoppice
    refine ⟨fun hfull => ?_, fun hfull => ?_⟩
    · rw [exec_exposureEnd, hend, hfull]
      rfl
    · rw [exec_exposureEnd, hend, hfull]
      rfl
  case late =>
    rw [exec_snsTransfer, snsTransfer_of_late (b := b) h]
    rfl
  case pulse => rw [exec_syncPulseEnd, syncPulseEnd_of_over (b := b) h]
  case window => rw [exec_storageWindowEnd, storageWindowEnd_of_over (b := b) h]
  case temp =>
    have hrange : ∀ t, inRange (sgn 16 t) = !tempOut t := fun t => by rw [tempOut_eq, Bool.not_not]
    intro c
    rw [exec_snsTempRange, snsTempRange_eq, hrange, hrange]
    exact congrArg (fun g => Host.Outcome.next (s.after g)) (if_congr ⟨fun h => congrArg _ h.symm, fun h => (Bool.not_inj h).symm⟩ rfl rfl)

end Sys2Proof.Machine
end

section
/-! Why O35 fails: with row 191 the map is complete, and the column-offset slot that it brings (`Blk.offsetLoop`) keeps the sensor's
domain awake for its 12 µs (`Blk.slotRun`), while the statement leaves the domains as they were. -/
namespace Sys2Proof.Machine

theorem exec_tileRowComplete (dt : Nat) (tiles : List TileIn) (s : State) :
    exec (.tileRowComplete dt tiles) s = .next (s.after (tileRowComplete tiles (s.blk.elapse dt))) := rfl

/-- A frame that the locator reads on after a late storage transfer (0x3061), but for its last row, with the dark levels of two columns far
apart and the column-offset loop on; it has no reference area. -/
def lastRowFrame : Frame :=
  { jobSeq := 0, unit := 0, trigAt := 0, expStart := 0, expEnd4 := 0, busyUntil4 := 0, zero := some 0, storage := true, isOver := true
    fault := 0x3061, rows := List.replicate 191 [], dark := [(0, 1), (100, 1)]
    cfg := { sensorCfg := 0, seedEdge := 0, seedScore := 0, ambig := 0, levels := 0, refArea := 0x00020000, symEnable := 0, close := 0,
             cluster := 0, hypo := 0, specCtl := 0, guard := 0, spareLo := 0, spareHi := 0, degraded := [], trims := [], offsetLoop := 1 } }

/-- The engine after reset with that frame. -/
def lastRowState : State := { pending := [], blk := { sns := { frames := [lastRowFrame] } } }

/-- The row completes the map, and its slot keeps the sensor's domain touched until 3 750. -/
theorem lastRowState_touched :
    ((tileRowComplete [] (lastRowState.blk.elapse 0)).doms.map (fun d => d.touched)).getD 2 0 = 3750 := by
  decide +kernel

theorem lastRowState_untouched : ((lastRowState.blk.elapse 0).doms.map (fun d => d.touched)).getD 2 0 = 0 := rfl

theorem lastRowState_doms_ne : (tileRowComplete [] (lastRowState.blk.elapse 0)).doms ≠ (lastRowState.blk.elapse 0).doms := by
  intro h
  have htouched := lastRowState_touched
  rw [h, lastRowState_untouched] at htouched
  exact absurd htouched (by decide)

theorem lastRowFrame_rows : lastRowFrame.rows.length < 192 := by
  have h : lastRowFrame.rows.length = 191 := List.length_replicate
  omega

/-- Refutes O35: row 191 of `lastRowFrame` completes its map, whose column-offset slot notes in the sensor's domain the tick of its end,
3 750, where the statement has every domain as it was. -/
theorem not_tilesAndBandsAreRead : ¬ Obligations.TilesAndBandsAreRead := by
  unfold Obligations.TilesAndBandsAreRead
  intro h
  obtain ⟨hrow, -⟩ := h 0 [] [] lastRowFrame 0 0 0 lastRowState
  have hleaves := hrow rfl lastRowFrame_rows
  obtain ⟨-, -, -, -, -, -, hdoms⟩ := hleaves.of_exec (exec_tileRowComplete 0 [] lastRowState)
  exact lastRowState_doms_ne ((Blk.settle_doms _).symm.trans hdoms)

end Sys2Proof.Machine
end

section
/-! Which engine a decode task finds (04 R156, R165 to R168; 17 R634): O36. -/
namespace Sys2Proof.Machine

/-! ### The first engine that no other exceeds -/

/-- Of one kept so far and the next one offered, the one kept: the next only where its figure is greater. -/
def keepBest {α : Type} [LinearOrder α] (g : Nat → α) (m : Option Nat) (e : Nat) : Option Nat :=
  match m with
  | none => some e
  | some k => if g k < g e then some e else some k

/-- No member of the list exceeds `e`, and each before it falls short of it. -/
def FirstBest {α : Type} [LinearOrder α] (g : Nat → α) (l : List Nat) (e : Nat) : Prop :=
  e ∈ l ∧ (∀ k ∈ l, g k ≤ g e) ∧ ∀ k ∈ l, k < e → g k < g e

theorem FirstBest.unique {α : Type} [LinearOrder α] {g : Nat → α} {l : List Nat} {d e : Nat} (hd : FirstBest g l d)
    (he : FirstBest g l e) : d = e := by
  obtain ⟨hdmem, hdmax, hdfirst⟩ := hd
  obtain ⟨hemem, hemax, hefirst⟩ := he
  rcases Nat.lt_trichotomy d e with hlt | heq | hgt
  · exact absurd (hdmax e hemem) (not_le.mpr (hefirst d hdmem hlt))
  · exact heq
  · exact absurd (hemax d hdmem) (not_le.mpr (hdfirst e hemem hgt))

theorem foldl_keepBest_some {α : Type} [LinearOrder α] (g : Nat → α) (l : List Nat) (k : Nat)
    (hl : (k :: l).Pairwise (fun x y => x < y)) : ∃ e, l.foldl (keepBest g) (some k) = some e ∧ FirstBest g (k :: l) e := by
  induction l generalizing k with
  | nil => exact ⟨k, rfl, by simp [FirstBest]⟩
  | cons a l ih =>
    obtain ⟨hk, hal⟩ := List.pairwise_cons.mp hl
    have hka : k < a := hk a (by simp)
    by_cases hlt : g k < g a
    · obtain ⟨e, hfold, hmem, hmax, hfirst⟩ := ih a hal
      have hke : g k < g e := lt_of_lt_of_le hlt (hmax a (by simp))
      refine ⟨e, by simpa [keepBest, hlt] using hfold, List.mem_cons_of_mem _ hmem, ?_, ?_⟩
      · exact List.forall_mem_cons.mpr ⟨hke.le, hmax⟩
      · exact List.forall_mem_cons.mpr ⟨fun _ => hke, hfirst⟩
    · have hkl : (k :: l).Pairwise (fun x y => x < y) :=
        List.pairwise_cons.mpr ⟨fun x hx => hk x (by simp [hx]), (List.pairwise_cons.mp hal).2⟩
      obtain ⟨e, hfold, hmem, hmax, hfirst⟩ := ih k hkl
      obtain ⟨hmaxk, hmaxl⟩ := List.forall_mem_cons.mp hmax
      obtain ⟨hfirstk, hfirstl⟩ := List.forall_mem_cons.mp hfirst
      have hak : g a ≤ g k := not_lt.mp hlt
      refine ⟨e, by simpa [keepBest, hlt] using hfold, ?_, ?_, ?_⟩
      · rcases List.mem_cons.mp hmem with rfl | h <;> simp [*]
      · exact List.forall_mem_cons.mpr ⟨hmaxk, List.forall_mem_cons.mpr ⟨hak.trans hmaxk, hmaxl⟩⟩
      · exact List.forall_mem_cons.mpr ⟨hfirstk, List.forall_mem_cons.mpr
          ⟨fun hae => lt_of_le_of_lt hak (hfirstk (hka.trans hae)), hfirstl⟩⟩

theorem foldl_keepBest_iff {α : Type} [LinearOrder α] (g : Nat → α) (l : List Nat) (e : Nat) (hl : l.Pairwise (fun x y => x < y)) :
    l.foldl (keepBest g) none = some e ↔ FirstBest g l e := by
  cases l with
  | nil => simp [FirstBest]
  | cons a l =>
    obtain ⟨d, hfold, hd⟩ := foldl_keepBest_some g l a hl
    have hfold' : (a :: l).foldl (keepBest g) none = some d := hfold
    rw [hfold', Option.some.injEq]
    exact ⟨fun h => h ▸ hd, fun h => hd.unique h⟩

theorem foldl_keepBest_eq_none {α : Type} [LinearOrder α] (g : Nat → α) (l : List Nat) (hl : l.Pairwise (fun x y => x < y)) :
    l.foldl (keepBest g) none = none ↔ l = [] := by
  cases l with
  | nil => simp
  | cons a l =>
    obtain ⟨d, hfold, -⟩ := foldl_keepBest_some g l a hl
    have hfold' : (a :: l).foldl (keepBest g) none = some d := hfold
    simp [hfold']

theorem Blk.fastest_eq_foldl (b : Blk) (l : List Nat) : b.fastest l = l.foldl (keepBest b.gaugeOf) none := rfl

theorem Blk.slowest_eq_foldl (b : Blk) (l : List Nat) :
    b.slowest l = l.foldl (keepBest (fun e => OrderDual.toDual (b.gaugeOf e))) none := rfl

theorem Blk.fastest_iff (b : Blk) {l : List Nat} (e : Nat) (hl : l.Pairwise (fun x y => x < y)) :
    b.fastest l = some e ↔ e ∈ l ∧ (∀ k ∈ l, b.gaugeOf k ≤ b.gaugeOf e) ∧ ∀ k ∈ l, k < e → b.gaugeOf k < b.gaugeOf e := by
  rw [b.fastest_eq_foldl, foldl_keepBest_iff _ _ _ hl, FirstBest]

theorem Blk.slowest_iff (b : Blk) {l : List Nat} (e : Nat) (hl : l.Pairwise (fun x y => x < y)) :
    b.slowest l = some e ↔ e ∈ l ∧ (∀ k ∈ l, b.gaugeOf e ≤ b.gaugeOf k) ∧ ∀ k ∈ l, k < e → b.gaugeOf e < b.gaugeOf k := by
  rw [b.slowest_eq_foldl, foldl_keepBest_iff _ _ _ hl]
  simp only [FirstBest, OrderDual.toDual_le_toDual, OrderDual.toDual_lt_toDual]

theorem Blk.fastest_eq_none (b : Blk) {l : List Nat} (hl : l.Pairwise (fun x y => x < y)) : b.fastest l = none ↔ l = [] := by
  rw [b.fastest_eq_foldl, foldl_keepBest_eq_none _ _ hl]

theorem Blk.slowest_eq_none (b : Blk) {l : List Nat} (hl : l.Pairwise (fun x y => x < y)) : b.slowest l = none ↔ l = [] := by
  rw [b.slowest_eq_foldl, foldl_keepBest_eq_none _ _ hl]

/-! ### Cruiser's speculative tasks -/

theorem exec_specTaskStart (dt : Nat) (s : State) : exec (.specTaskStart dt) s = .next (s.after (specTaskStart (s.blk.elapse dt))) := rfl

section
variable {b : Blk} {l : List (Frame × Cluster)} {f : Frame} {c : Cluster} {j : Job} {e fam : Nat}
  (hwaits : b.waitingCands = (f, c) :: l) (hjob : b.jobBySeq f.jobSeq = some j)
include hwaits hjob

theorem specTaskStart_of_primary (h : b.primaryStart j f c = some (e, fam)) : specTaskStart b = b.startSpec f c false fam e := by
  simp [specTaskStart, hwaits, hjob, h]

theorem specTaskStart_of_secondary (hprim : b.primaryStart j f c = none) (hmap : f.mapDone = false)
    (hruns : (b.taskOf f c.id false).isSome = true) (h : b.secondaryStart j f c = some (e, fam)) :
    specTaskStart b = b.startSpec f c true fam e := by
  simp [specTaskStart, hwaits, hjob, hprim, hmap, hruns, h]

end

/-! ### The admitted queue -/

theorem exec_taskAssign (dt : Nat) (s : State) : exec (.taskAssign dt) s = .next (s.after (taskAssign (s.blk.elapse dt))) := rfl

section
variable {b : Blk} {t u : Task} {rest : List Task} {e : Nat} (hqueue : b.dec.queue = t :: rest)
include hqueue

theorem taskAssign_of_free (h : b.fastest ((List.range 18).filter b.freeAdmitted) = some e) :
    taskAssign b = b.assignTo t rest e := by
  simp only [taskAssign, hqueue, h]

theorem taskAssign_of_preempt (h : b.fastest ((List.range 18).filter b.freeAdmitted) = none) (hlast : b.lastSpec = some u) :
    taskAssign b = (((b.squashTask Reg.CRU_SQ_PREEMPT u).slotAgain u).assignTo t rest u.eng).afterSquash u := by
  simp only [taskAssign, hqueue, h, hlast]

end

theorem Blk.slotAgain_of_decode (b : Blk) {u : Task} (h : u.shadow = false) : b.slotAgain u = b := by
  simp [Blk.slotAgain, h]

theorem Blk.afterSquash_of_primary (b : Blk) {u : Task} (h : u.secondary = false) : b.afterSquash u = b := by
  simp [Blk.afterSquash, h]

/-! ### Shadow slots and engine faults -/

theorem exec_shadowDecode (dt : Nat) (s : State) : exec (.shadowDecode dt) s = .next (s.after (shadowDecode (s.blk.elapse dt))) := rfl

/-- The candidate a shadow slot decodes again. -/
def shadowInOf (f : Frame) (c : Cluster) (o : Outcome) : ShadowIn := { jobSeq := f.jobSeq, unit := f.unit, cand := c.id, family := o.family }

theorem shadowDecode_of_due {b x : Blk} {f : Frame} {c : Cluster} {o : Outcome} {e : Nat} (hcoppice : b.coppice = false)
    (hdue : b.lastSlot .shadow 0 + 312500000 * b.regF Reg.DECC_SHADOW 15 0 ≤ b.now) (hsuspect : b.ust.suspect = [])
    (hin : b.cal.shadowIn = none) (hhead : b.shadowable.head? = some (f, c, o))
    (hengine : (b.specEngines.filter (fun k => k != o.eng)).find? (fun k => b.cal.shadowNext ≤ k) = some e)
    (hmay : b.slotMay .shadow 0 = (true, x)) :
    shadowDecode b = ({ x.slotRun .shadow 0 0 with
      cal := { (x.slotRun .shadow 0 0).cal with shadowNext := (e + 1) % 18 } } : Blk).startShadow (shadowInOf f c o) f c o e := by
  have hthird : b.thirdWaits = none := by simp [Blk.thirdWaits, hin]
  have hnone : b.shadowable.find? (fun _ => false) = none := List.find?_eq_none.mpr (by simp)
  have hnow : b.shadowNow = some (f, c, o) := by simp [Blk.shadowNow, hin, hsuspect, hhead, hnone]
  have heng : b.shadowEngine o = some e := by simp [Blk.shadowEngine, hengine]
  have hnotEarly : ¬ b.now < b.lastSlot .shadow 0 + 312500000 * b.regF Reg.DECC_SHADOW 15 0 := by omega
  simp only [shadowDecode, hthird, hnow, heng, hmay, hcoppice, hnotEarly, decide_false, Bool.false_and, Bool.or_self, Bool.false_eq_true,
    if_false, Bool.not_true, shadowInOf]

theorem exec_decEngineFault (dt eng : Nat) (store : Bool) (s : State) :
    exec (.decEngineFault dt eng store) s = .next (s.after (decEngineFault eng store (s.blk.elapse dt))) := rfl

theorem decEngineFault_of_active {b : Blk} {eng : Nat} (store : Bool) (heng : eng < 18) (h : bitN (b.regN Reg.DECC_ACTIVE) eng = true) :
    decEngineFault eng store b =
      (let r := b.rollWindow.raiseAt (0x20 + eng) 0x5011
       let q := (if store = true then r.bump (Reg.DEC_STORE_ECC eng) 31 16 1 else r).dropEngineWork eng
       (q.setN Reg.DECC_ACTIVE (putBit (q.regN Reg.DECC_ACTIVE) eng false)).offer .engine eng false) := by
  have hguard : (decide (18 ≤ eng) || !b.engActive eng) = false := by simp [Blk.engActive, h]; omega
  rw [decEngineFault, hguard]
  rfl

/-! ### O36 -/

/-- Settles O36: Cruiser's pick, the queue's head, the shadow slot and the fault each take the branch the hypotheses name, and
`fastest` and `slowest` keep the first best of a list in order. -/
theorem tasksFindTheirEngines : Obligations.TasksFindTheirEngines := by
  unfold Obligations.TasksFindTheirEngines
  refine ⟨?_, fun b l e hl => ⟨b.fastest_iff e hl, b.slowest_iff e hl, b.fastest_eq_none hl, b.slowest_eq_none hl⟩⟩
  intro dt eng store l f c j e fam t u rest o x s b
  refine ⟨fun hwaits hjob => ⟨fun h => ?_, fun hprim hmap hruns h => ?_⟩, fun hqueue => ⟨fun h => ?_, fun h hlast => ⟨?_, ?_⟩⟩, ?_, ?_⟩
  · rw [exec_specTaskStart, specTaskStart_of_primary hwaits hjob h]
  · rw [exec_specTaskStart, specTaskStart_of_secondary hwaits hjob hprim hmap hruns h]
  · rw [exec_taskAssign, taskAssign_of_free hqueue h]
    rfl
  · rw [exec_taskAssign, taskAssign_of_preempt hqueue h hlast]
    rfl
  · intro hshadow hsec
    rw [exec_taskAssign, taskAssign_of_preempt hqueue h hlast, Blk.slotAgain_of_decode _ hshadow, Blk.afterSquash_of_primary _ hsec]
    rfl
  · intro hcoppice hdue hsuspect hin hhead hengine hmay
    rw [exec_shadowDecode, shadowDecode_of_due hcoppice hdue hsuspect hin hhead hengine hmay]
    rfl
  · intro heng hactive
    rw [exec_decEngineFault, decEngineFault_of_active store heng hactive]

end Sys2Proof.Machine
end

section
/-! What an offer to Understory (17 R635) can change: events and faults, the recovery queue and what a first step stages or wakes, and a few
registers. Statements about other parts of the engine use this in place of the queue's own case analysis. -/
namespace Sys2Proof.Machine

/-- A register that neither an offer nor a raised code writes. -/
def keptByOffers (a : Nat) : Bool :=
  decide (0x40 ≤ offOf a) && !([Reg.EVT_LOST, Reg.SYS_FLOG_COUNT, Reg.DECC_ACTIVE, Reg.DECC_SPARE, Reg.DECC_RETIRED, Reg.UST_DEGRADED,
    Reg.UST_LAST, Reg.UST_COUNTS].contains a)

/-- All that an offer can change: the named parts, none of the other registers, and no memory rank. -/
structure Blk.OfferOnly (b c : Blk) : Prop where
  shape : ∃ regs evt flog ust bnd pd mem doms, c =
    { b with regs := regs, evt := evt, sys := { b.sys with flog := flog }, ust := ust, bnd := bnd, pd := pd, mem := mem, doms := doms }
  reg : ∀ a, keptByOffers a = true → c.reg a = b.reg a
  ranks : ∀ ch, (c.memCh ch).ranks = (b.memCh ch).ranks

theorem Blk.OfferOnly.refl (b : Blk) : b.OfferOnly b where
  shape := ⟨b.regs, b.evt, b.sys.flog, b.ust, b.bnd, b.pd, b.mem, b.doms, rfl⟩
  reg _ _ := rfl
  ranks _ := rfl

theorem Blk.OfferOnly.trans {b c d : Blk} (h : b.OfferOnly c) (k : c.OfferOnly d) : b.OfferOnly d where
  shape := by
    obtain ⟨regs, evt, flog, ust, bnd, pd, mem, doms, rfl⟩ := h.shape
    obtain ⟨regs', evt', flog', ust', bnd', pd', mem', doms', rfl⟩ := k.shape
    exact ⟨regs', evt', flog', ust', bnd', pd', mem', doms', rfl⟩
  reg a ha := (k.reg a ha).trans (h.reg a ha)
  ranks ch := (k.ranks ch).trans (h.ranks ch)

theorem Blk.OfferOnly.ite {b c d : Blk} {p : Prop} [Decidable p] (h : b.OfferOnly c) (k : b.OfferOnly d) :
    b.OfferOnly (if p then c else d) := by
  split
  · exact h
  · exact k

section
variable (b : Blk)

theorem Blk.offerOnly_setReg {a : Nat} (v : Word) (ha : keptByOffers a = false) : b.OfferOnly (b.setReg a v) where
  shape := ⟨_, b.evt, b.sys.flog, b.ust, b.bnd, b.pd, b.mem, b.doms, rfl⟩
  reg k hk := Blk.reg_setReg_other _ _ (by rintro rfl; simp [ha] at hk)
  ranks _ := rfl

theorem keptByOffers_of_low {a : Nat} (h : offOf a < 0x40) : keptByOffers a = false := by
  simp only [keptByOffers, Bool.and_eq_false_iff, decide_eq_false_iff_not]
  left
  omega

theorem hdr_ne_of_kept {a : Nat} (ha : keptByOffers a = true) (page k : Nat) (hk : k < 0x40) : a ≠ page * 0x400 + k := by
  rintro rfl
  rw [keptByOffers_of_low (by unfold offOf; omega)] at ha
  exact absurd ha (by decide)

theorem ne_of_kept {a c : Nat} (ha : keptByOffers a = true) (hc : keptByOffers c = false) : a ≠ c := by
  rintro rfl
  simp [ha] at hc

theorem Blk.offerOnly_raiseAt (page code : Nat) : b.OfferOnly (b.raiseAt page code) where
  shape := by
    obtain ⟨regs, evt, flog, h⟩ := b.raiseAt_shape page code
    exact ⟨regs, evt, flog, b.ust, b.bnd, b.pd, b.mem, b.doms, h⟩
  reg a ha := Blk.reg_raiseAt b page code (hdr_ne_of_kept ha page _ (by decide)) (hdr_ne_of_kept ha page _ (by decide))
    (hdr_ne_of_kept ha page _ (by decide)) (ne_of_kept ha (by decide)) (ne_of_kept ha (by decide))
  ranks ch := by simp [Blk.memCh]

theorem Blk.offerOnly_raise (code : Nat) : b.OfferOnly (b.raise code) := by
  unfold Blk.raise
  split
  · exact .refl b
  · exact b.offerOnly_raiseAt _ _

theorem Blk.offerOnly_event (page bit code : Nat) : b.OfferOnly (b.event page bit code) where
  shape := by
    obtain ⟨regs, evt, h⟩ := b.event_shape page bit code
    exact ⟨regs, evt, b.sys.flog, b.ust, b.bnd, b.pd, b.mem, b.doms, h⟩
  reg a ha := Blk.reg_event b page bit code (hdr_ne_of_kept ha page _ (by decide)) (hdr_ne_of_kept ha page _ (by decide))
    (ne_of_kept ha (by decide))
  ranks ch := by simp [Blk.memCh]

theorem Blk.offerOnly_ust (ust : UstSt) : b.OfferOnly { b with ust := ust } where
  shape := ⟨b.regs, b.evt, b.sys.flog, ust, b.bnd, b.pd, b.mem, b.doms, rfl⟩
  reg _ _ := rfl
  ranks _ := rfl

theorem Blk.offerOnly_engStage (point : Nat) (a : EngAct) : b.OfferOnly (b.engStage point a) := by
  obtain ⟨bnd, h⟩ := b.engStage_shape point a
  rw [h]
  exact ⟨⟨b.regs, b.evt, b.sys.flog, b.ust, bnd, b.pd, b.mem, b.doms, rfl⟩, fun _ _ => rfl, fun _ => rfl⟩

theorem Blk.offerOnly_updDom (d : Nat) (f : DomSt → DomSt) : b.OfferOnly (b.updDom d f) :=
  ⟨⟨b.regs, b.evt, b.sys.flog, b.ust, b.bnd, b.pd, b.mem, _, rfl⟩, fun _ _ => rfl, fun _ => rfl⟩

theorem Blk.offerOnly_updPd (ch : Nat) (f : PdCh → PdCh) : b.OfferOnly (b.updPd ch f) :=
  ⟨⟨b.regs, b.evt, b.sys.flog, b.ust, b.bnd, _, b.mem, b.doms, rfl⟩, fun _ _ => rfl, fun _ => rfl⟩

/-- A channel's change that keeps some figure of every channel keeps that figure of each. -/
theorem Blk.memCh_updMem {α : Type} (g : MemCh → α) (ch : Nat) {f : MemCh → MemCh} (hf : ∀ c, g (f c) = g c) (k : Nat) :
    g ((b.updMem ch f).memCh k) = g (b.memCh k) := by
  unfold Blk.memCh Blk.updMem
  by_cases hk : k = ch
  · subst hk
    by_cases hlt : k < b.mem.chans.length
    · rw [upd_getD_same _ _ _ _ hlt, hf]
    · rw [List.getD_eq_default _ _ (by simpa using hlt), List.getD_eq_default _ _ (by simpa using hlt)]
  · rw [upd_getD_other _ _ _ _ _ hk]

theorem Blk.offerOnly_updMem (ch : Nat) {f : MemCh → MemCh} (hf : ∀ c, (f c).ranks = c.ranks) : b.OfferOnly (b.updMem ch f) :=
  ⟨⟨b.regs, b.evt, b.sys.flog, b.ust, b.bnd, b.pd, _, b.doms, rfl⟩, fun _ _ => rfl, b.memCh_updMem MemCh.ranks ch hf⟩

theorem Blk.offerOnly_startCopy (u : Nat) (retire : Bool) : b.OfferOnly (b.startCopy u retire) :=
  b.offerOnly_updMem _ (fun c => by split <;> rfl)

/-! ### The steps of the recovery queue (17 R631, R636) -/

theorem Blk.offerOnly_beginRecovery (r : Recovery) : b.OfferOnly (b.beginRecovery r) := by
  unfold Blk.beginRecovery
  split
  · cases b.spareEngines.head?
    · exact .refl b
    · exact b.offerOnly_updDom _ _
  · exact b.offerOnly_engStage _ _
  · exact b.offerOnly_startCopy _ _
  all_goals exact .refl b

theorem Blk.offerOnly_exhausted (k : SpareKind) (u : Nat) : b.OfferOnly (b.exhausted k u) :=
  (b.offerOnly_setReg _ (by decide)).trans (Blk.offerOnly_raise _ _)

theorem Blk.offerOnly_retireEngine (e : Nat) : b.OfferOnly (b.retireEngine e) :=
  ((b.offerOnly_setReg _ (by decide)).trans (Blk.offerOnly_setReg _ _ (by decide))).trans (Blk.offerOnly_setReg _ _ (by decide))

theorem Blk.offerOnly_recoveryStats (since : Nat) : b.OfferOnly (b.recoveryStats since) :=
  (((b.offerOnly_setReg _ (by decide)).trans (Blk.offerOnly_setReg _ _ (by decide))).trans
    (Blk.offerOnly_setReg _ _ (by decide))).trans (Blk.offerOnly_event _ _ _ _)

theorem Blk.OfferOnly.orExhausted {c : Blk} (h : b.OfferOnly c) (p : Bool) (k : SpareKind) (u : Nat) :
    b.OfferOnly (if p then c else c.exhausted k u) := h.ite (h.trans (c.offerOnly_exhausted k u))

theorem Blk.offerOnly_exhaustedEffect (r : Recovery) : b.OfferOnly (b.exhaustedEffect r) := by
  have hretired : b.OfferOnly (if r.wear then b else b.retireEngine r.u) := (Blk.OfferOnly.refl b).ite (b.offerOnly_retireEngine _)
  unfold Blk.exhaustedEffect
  dsimp only
  split
  · exact (hretired.trans (Blk.offerOnly_raise _ _)).orExhausted _ _ _ _
  · exact (b.offerOnly_engStage _ _).orExhausted _ _ _ _
  · exact (b.offerOnly_updPd _ _).orExhausted _ _ _ _
  · exact (Blk.OfferOnly.refl b).orExhausted _ _ _ _
  · exact (b.offerOnly_raise _).orExhausted _ _ _ _
  · exact (b.offerOnly_startCopy _ _).orExhausted _ _ _ _
  all_goals exact (Blk.OfferOnly.refl b).orExhausted _ _ _ _

end

theorem Blk.offerOnly_startHead (n : Nat) (b : Blk) : b.OfferOnly (Blk.startHead n b) := by
  induction n generalizing b with
  | zero => exact .refl b
  | succ n ih =>
    unfold Blk.startHead
    split
    · exact b.offerOnly_ust _
    · next r t hq =>
      dsimp only
      generalize hg : ({ b with ust := { b.ust with running := true, queue := { r with since := b.now, escalated := false } :: t } } : Blk) = g
      have hstart : b.OfferOnly g := by rw [← hg]; exact b.offerOnly_ust _
      split
      · have hover := (hstart.trans (g.offerOnly_exhaustedEffect { r with since := b.now, escalated := false })).trans
          (Blk.offerOnly_recoveryStats _ b.now)
        exact (hover.trans (Blk.offerOnly_ust _ _)).trans (ih _)
      · exact hstart.trans (g.offerOnly_beginRecovery _)

theorem Blk.offerOnly_offer (b : Blk) (k : SpareKind) (u : Nat) (wear : Bool) : b.OfferOnly (b.offer k u wear) := by
  unfold Blk.offer
  split
  · exact .refl b
  · dsimp only
    generalize hg : ({ b with ust := _ } : Blk) = g
    have hqueued : b.OfferOnly g := by rw [← hg]; exact b.offerOnly_ust _
    split
    · exact hqueued.trans (Blk.offerOnly_startHead _ g)
    · have hraised := hqueued.trans (g.offerOnly_raise 0xA101)
      exact (hraised.trans (Blk.offerOnly_startHead _ _)).ite hraised

end Sys2Proof.Machine
end

section
/-! The end of a decode task (04 R157, R163; 05 R181; 15 R577): O37. -/
namespace Sys2Proof.Machine

/-! ### Reads of the external memory keep its rows -/

/-- The external memory has the same rows: as many ranks on each channel, and as many rows in a bank. -/
structure Blk.SameRows (b c : Blk) : Prop where
  config : c.reg Reg.MEM_CONFIG = b.reg Reg.MEM_CONFIG
  ranks : ∀ ch, ((c.memCh ch).ranks).length = ((b.memCh ch).ranks).length

theorem Blk.SameRows.refl (b : Blk) : b.SameRows b := ⟨rfl, fun _ => rfl⟩

theorem Blk.SameRows.trans {b c d : Blk} (h : b.SameRows c) (k : c.SameRows d) : b.SameRows d :=
  ⟨k.config.trans h.config, fun ch => (k.ranks ch).trans (h.ranks ch)⟩

theorem Blk.SameRows.ite {b c d : Blk} {p : Prop} [Decidable p] (h : b.SameRows c) (k : b.SameRows d) :
    b.SameRows (if p then c else d) := by
  split
  · exact h
  · exact k

theorem Blk.SameRows.rowExists {b c : Blk} (h : b.SameRows c) (ch rank bank row : Nat) :
    c.rowExists ch rank bank row = b.rowExists ch rank bank row := by
  have hrows : c.rowsPerBank = b.rowsPerBank := by rw [Blk.rowsPerBank, Blk.regN, h.config]; rfl
  rw [Blk.rowExists, hrows, h.ranks]
  rfl

theorem Blk.OfferOnly.sameRows {b c : Blk} (h : b.OfferOnly c) : b.SameRows c :=
  ⟨h.reg _ (by decide), fun ch => congrArg List.length (h.ranks ch)⟩

section
variable (b : Blk)

theorem Blk.sameRows_setReg {a : Nat} (v : Word) (ha : Reg.MEM_CONFIG ≠ a) : b.SameRows (b.setReg a v) :=
  ⟨Blk.reg_setReg_other _ _ ha, fun _ => rfl⟩

theorem Blk.sameRows_updMem (ch : Nat) {f : MemCh → MemCh} (hf : ∀ c, ((f c).ranks).length = c.ranks.length) :
    b.SameRows (b.updMem ch f) :=
  ⟨rfl, b.memCh_updMem (fun c => c.ranks.length) ch hf⟩

theorem Blk.sameRows_activate (ch rank bank row : Nat) : b.SameRows (b.activate ch rank bank row) := by
  unfold Blk.activate
  dsimp only
  have hcount (n : Nat) (t : List (Nat × Nat)) : b.SameRows (b.updMem ch (fun c => c.updRank rank (fun k =>
      { k.updBank bank (fun b => { b with dist := t }) with distMax := max k.distMax n }))) :=
    b.sameRows_updMem ch (fun c => upd_length _ _ _)
  split
  · exact (hcount _ _).trans (Blk.sameRows_updMem _ _ (fun _ => rfl))
  · exact hcount _ _

theorem Blk.sameRows_access (ch rank bank row : Nat) (chunk : Bool) : b.SameRows (b.access ch rank bank row chunk) := by
  unfold Blk.access
  extract_lets row' k hit p stay opened m counted
  have hopened : b.SameRows opened := (Blk.SameRows.refl b).ite (b.sameRows_activate ch rank bank row')
  have hcounted : opened.SameRows counted := ⟨rfl, fun _ => rfl⟩
  exact (hopened.trans hcounted).trans (Blk.sameRows_updMem _ _ (fun c => upd_length _ _ _))

theorem Blk.sameRows_accessRow (a : RowAt) : b.SameRows (b.accessRow a) :=
  (b.sameRows_access _ _ _ _ _).ite ((b.sameRows_access _ _ _ _ _).trans (Blk.sameRows_access _ _ _ _ _ _))

theorem Blk.sameRows_offerRow (ch rank bank row : Nat) (uncorr : Bool) : b.SameRows (b.offerRow ch rank bank row uncorr) := by
  unfold Blk.offerRow
  dsimp only
  have hnoted := (b.sameRows_updMem ch (f := fun c => { c with uncorr := (rank, bank, row) :: c.uncorr.filter (fun r => r != (rank, bank, row)) })
    (fun _ => rfl)).ite (p := uncorr = true) (.refl b)
  exact hnoted.ite (hnoted.trans (Blk.offerOnly_offer _ _ _ _).sameRows)

theorem Blk.sameRows_corrected (ch rank bank row n : Nat) : b.SameRows (b.corrected ch rank bank row n) := by
  unfold Blk.corrected
  dsimp only
  have hcount : b.SameRows (b.bumpCh Reg.MEM_ECC_CORR ch n) := b.sameRows_setReg _ (by decide)
  have hraised (g : Blk) (m : MemSt) (hm : m.chans = g.mem.chans) : g.SameRows (({ g with mem := m } : Blk).raise 0x3011) :=
    Blk.SameRows.trans (c := { g with mem := m }) ⟨rfl, fun ch => by simp only [Blk.memCh, hm]⟩ (Blk.offerOnly_raise _ _).sameRows
  have hshown (p : Prop) [Decidable p] := hcount.trans (Blk.SameRows.ite (p := p) (hraised _
    { (b.bumpCh Reg.MEM_ECC_CORR ch n).mem with lastCorrEvt := some b.now } rfl) (.refl _))
  have hadd (g : Blk) : g.SameRows (g.updMem ch (fun c => c.addErrors (rank, bank, row) n)) :=
    g.sameRows_updMem ch (fun c => by unfold MemCh.addErrors; split <;> rfl)
  have hfull (p : Prop) [Decidable p] := (hshown p).trans (hadd _)
  exact (Blk.SameRows.refl b).ite (((hfull _).trans (Blk.sameRows_offerRow _ _ _ _ _ _)).ite (hfull _))

theorem Blk.sameRows_uncorrectable (ch rank bank row : Nat) : b.SameRows (b.uncorrectable ch rank bank row) :=
  ((b.sameRows_setReg _ (by decide)).trans (Blk.offerOnly_raise _ _).sameRows).trans (Blk.sameRows_offerRow _ _ _ _ _ _)

theorem Blk.sameRows_dataBad (a : RowAt) (w : Nat) (bits : List Nat) : b.SameRows (b.dataBad a w bits) := by
  unfold Blk.dataBad
  split
  · exact .refl b
  · dsimp only
    split <;> exact ⟨rfl, fun _ => rfl⟩

theorem Blk.sameRows_foldl {α : Type} {f : Blk → α → Blk} (hf : ∀ g a, Blk.SameRows g (f g a)) (l : List α) : b.SameRows (l.foldl f b) := by
  induction l generalizing b with
  | nil => exact .refl b
  | cons a l ih => exact (hf b a).trans (ih _)

theorem Blk.sameRows_readRow (a : RowAt) (e : RowSeen) : b.SameRows (b.readRow a e) := by
  unfold Blk.readRow
  dsimp only
  have hread (p : Prop) [Decidable p] := (Blk.SameRows.refl b).ite (p := p) (b.sameRows_accessRow a)
  have hmoved (g : Blk) (n : Nat) : g.SameRows (g.moveRaw n false) := ⟨rfl, fun _ => rfl⟩
  exact (((hread _).trans (hmoved _ _)).trans (Blk.sameRows_corrected _ _ _ _ _ _)).trans
    (Blk.sameRows_foldl _ (fun g n => (g.sameRows_uncorrectable _ _ _ _).trans (Blk.sameRows_dataBad _ _ _ _)) _)

end

theorem foldl_readRow_sameRows (rows : List (RowAt × RowSeen)) (b y : Blk) (h : y.SameRows b) :
    rows.foldl (fun s p => if s.rowExists p.1.ch p.1.rank p.1.bank p.1.row then s.readRow p.1 p.2 else s) b =
      rows.foldl (fun s p => if y.rowExists p.1.ch p.1.rank p.1.bank p.1.row = true then s.readRow p.1 p.2 else s) b := by
  induction rows generalizing b with
  | nil => rfl
  | cons p rows ih =>
    have hnext : b.SameRows (if y.rowExists p.1.ch p.1.rank p.1.bank p.1.row = true then b.readRow p.1 p.2 else b) :=
      (b.sameRows_readRow _ _).ite (.refl b)
    rw [List.foldl_cons, List.foldl_cons, h.rowExists, ih _ (h.trans hnext)]

/-! ### Errors of the engine's own store (05 R181) -/

theorem Blk.OfferOnly.now {b c : Blk} (h : b.OfferOnly c) : c.now = b.now := by
  obtain ⟨regs, evt, flog, ust, bnd, pd, mem, doms, rfl⟩ := h.shape
  rfl

theorem Blk.storeErrors_zero (b : Blk) (eng : Nat) : b.storeErrors eng 0 = b := rfl

/-- Some errors are counted; whatever follows writes no register but an offer's. -/
theorem Blk.storeErrors_spec (b : Blk) (eng n : Nat) (hn : n ≠ 0) : (b.storeErrors eng n).now = b.now ∧
    ∀ a, keptByOffers a = true → (b.storeErrors eng n).reg a = (b.bump (Reg.DEC_STORE_ECC eng) 15 0 n).reg a := by
  unfold Blk.storeErrors
  rw [if_neg hn]
  dsimp only
  split
  · have hoffer := (Blk.offerOnly_raiseAt _ (0x20 + eng) 0x5043).trans (Blk.offerOnly_offer
      (({ b.bump (Reg.DEC_STORE_ECC eng) 15 0 n with
        dec := { b.dec with eccLog := upd b.dec.eccLog eng (fun _ => []) } } : Blk).raiseAt (0x20 + eng) 0x5043) .engine eng true)
    exact ⟨hoffer.now, fun a ha => hoffer.reg a ha⟩
  · exact ⟨rfl, fun _ _ => rfl⟩

theorem keptByOffers_storeEcc {eng : Nat} (h : eng < 18) : keptByOffers (Reg.DEC_STORE_ECC eng) = true := by
  have hall : ∀ e : Fin 18, keptByOffers (Reg.DEC_STORE_ECC e.val) = true := by decide
  exact hall ⟨eng, h⟩

theorem Blk.storeErrors_now (b : Blk) (eng n : Nat) : (b.storeErrors eng n).now = b.now := by
  by_cases hn : n = 0
  · rw [hn, Blk.storeErrors_zero]
  · exact (b.storeErrors_spec eng n hn).1

theorem Blk.regF_lt (b : Blk) (a : Nat) {hi lo n : Nat} (h : hi + 1 - lo = n) : b.regF a hi lo < 2 ^ n := by
  subst h
  exact Nat.mod_lt _ (Nat.two_pow_pos _)

theorem Blk.regF_storeErrors (b : Blk) {eng : Nat} (n : Nat) (heng : eng < 18) :
    (b.storeErrors eng n).regF (Reg.DEC_STORE_ECC eng) 15 0 = min (b.regF (Reg.DEC_STORE_ECC eng) 15 0 + n) 65535 := by
  by_cases hn : n = 0
  · have hlt := b.regF_lt (Reg.DEC_STORE_ECC eng) (hi := 15) (lo := 0) rfl
    rw [hn, Blk.storeErrors_zero]
    omega
  · obtain ⟨-, hreg⟩ := b.storeErrors_spec eng n hn
    rw [Blk.regF, Blk.regN, hreg _ (keptByOffers_storeEcc heng)]
    exact b.regF_bump_16 _ n rfl (by decide)

/-! ### The end of a task -/

theorem exec_decodeTaskEnd (dt eng : Nat) (g : Finding) (m : TaskSeen) (s : State) :
    exec (.decodeTaskEnd dt eng g m) s = .next (s.after (decodeTaskEnd eng g m (s.blk.elapse dt))) := rfl

section
variable {b y : Blk} {eng : Nat} {g : Finding} {m : TaskSeen} {t u : Task} {j : Job} {f0 : Frame} {c : Cluster}
  (hon : b.taskOn eng = some t) (hy : b.storeErrors eng m.ecc = y)
include hon hy

theorem decodeTaskEnd_of_shadow (hshadow : t.shadow = true) : decodeTaskEnd eng g m b = y.shadowEnd t g := by
  simp only [decodeTaskEnd, hon, hy, hshadow, if_true]

variable (hjob : y.jobBySeq t.jobSeq = some j) (hframe : y.frame t.jobSeq t.unit = some f0) (hshadow : t.shadow = false)
include hjob hframe hshadow

theorem decodeTaskEnd_of_search (hfam : t.family = 0) : decodeTaskEnd eng g m b = y.coppiceFind j f0 t g := by
  simp only [decodeTaskEnd, hon, hy, hshadow, hjob, hframe, hfam, Bool.false_eq_true, if_false, if_true]

/-- What a task's reads of the external memory leave, the tile words spoilt by them included (15 R577). -/
def Blk.regionRead (y : Blk) (rows : List (RowAt × RowSeen)) : Blk :=
  rows.foldl (fun x p => if y.rowExists p.1.ch p.1.rank p.1.bank p.1.row = true then x.readRow p.1 p.2 else x) y

variable (hfam : t.family ≠ 0) (hcand : f0.cluster t.cand = some c) (hbands : f0.bandsIn j.full b.now c = true)
include hfam hcand hbands

/-- Without a task of the other hypothesis that ends with it, the task's own finding stands (05 R157). -/
theorem decodeTaskEnd_of_alone (halone : m.twin = none ∨ (y.regionRead m.rows).otherTask t = none) : decodeTaskEnd eng g m b =
    (let z := y.regionRead m.rows
     let f := (z.frame t.jobSeq t.unit).getD f0
     ((z.taskFound j f c t g).resolve f.jobSeq f.unit t.cand).noteClipped f.jobSeq f.unit) := by
  have hnow : y.now = b.now := hy ▸ b.storeErrors_now eng m.ecc
  have hread : m.rows.foldl _ y = y.regionRead m.rows := foldl_readRow_sameRows m.rows y y (.refl y)
  simp only [decodeTaskEnd, hon, hy, hshadow, hjob, hframe, hfam, hcand, hnow, hbands, Bool.false_eq_true, if_false, Bool.not_true, hread]
  rcases halone with h | h
  · rw [h]
  · rw [h]
    cases m.twin <;> rfl

/-- Of two that end together the primary passes first, and the secondary's finding stands unless both decode (05 R163). -/
theorem decodeTaskEnd_of_twin {g2 : Finding} (htwin : m.twin = some g2) (hother : (y.regionRead m.rows).otherTask t = some u) :
    decodeTaskEnd eng g m b =
      (let z := y.regionRead m.rows
       let f := (z.frame t.jobSeq t.unit).getD f0
       let first := if t.secondary then z.taskFound j f c u g2 else z.taskFound j f c t g
       let second := if t.secondary then first.taskFound j f c t g else first.taskFound j f c u g2
       let x := if z.decodes j f c t g ∧ z.decodes j f c u g2 then first else second
       (x.resolve f.jobSeq f.unit t.cand).noteClipped f.jobSeq f.unit) := by
  have hnow : y.now = b.now := hy ▸ b.storeErrors_now eng m.ecc
  have hread : m.rows.foldl _ y = y.regionRead m.rows := foldl_readRow_sameRows m.rows y y (.refl y)
  simp only [decodeTaskEnd, hon, hy, hshadow, hjob, hframe, hfam, hcand, hnow, hbands, Bool.false_eq_true, if_false, Bool.not_true, hread,
    htwin, hother]
  cases t.secondary
  · simp only [Bool.false_eq_true, if_false, Bool.and_eq_true]
  · simp only [if_true, Bool.and_eq_true, and_comm]

end

/-- The task of the other hypothesis is of the same candidate. -/
theorem Blk.otherTask_cand {b : Blk} {t u : Task} (h : b.otherTask t = some u) : u.cand = t.cand := by
  have hfound := List.find?_some h
  simp only [Bool.and_eq_true, decide_eq_true_eq] at hfound
  exact hfound.1.2

/-! ### O37 -/

/-- Settles O37: the task ends alone, beside its twin, as a shadow's or as a search's, each by its lemma; the rows read before keep the
memory's rows, and the store's errors are counted in a register no offer writes. -/
theorem decodeTasksEnd : Obligations.DecodeTasksEnd := by
  unfold Obligations.DecodeTasksEnd
  intro dt eng ecc rows g g2 t u j f0 c s b y z f found after_ hon hjob hframe
  refine ⟨fun hshadow hfam hcand hbands => ⟨?_, fun hother => ⟨Blk.otherTask_cand hother, ?_⟩, fun hother => ?_⟩, fun hshadow => ?_,
    fun hrows => ?_, fun hshadow hfam => ?_, fun hecc => by simp only [y, hecc, Blk.storeErrors_zero], fun heng => b.regF_storeErrors ecc heng⟩
  · rw [exec_decodeTaskEnd, decodeTaskEnd_of_alone (y := y) hon rfl hjob hframe hshadow hfam hcand hbands (.inl rfl)]
    rfl
  · rw [exec_decodeTaskEnd, decodeTaskEnd_of_twin (m := { twin := some g2, rows := rows, ecc := ecc }) (y := y) hon rfl hjob hframe hshadow hfam hcand hbands rfl hother]
    rfl
  · rw [exec_decodeTaskEnd, decodeTaskEnd_of_alone (m := { twin := some g2, rows := rows, ecc := ecc }) (y := y) hon rfl hjob hframe
      hshadow hfam hcand hbands (.inr hother)]
    rfl
  · rw [exec_decodeTaskEnd, decodeTaskEnd_of_shadow (y := y) hon rfl hshadow]
  · subst hrows
    exact ⟨rfl, by simp only [f, z, List.foldl_nil, hframe, Option.getD_some]⟩
  · rw [exec_decodeTaskEnd, decodeTaskEnd_of_search (y := y) hon rfl hjob hframe hshadow hfam]

end Sys2Proof.Machine
end

section
/-! Why O38 fails: an edge on a freeze pin makes its cause count again on every channel (`PdCh.renew`), also on one whose preset does not
name the pin but under which a switch has ended a freeze of that cause, while the statement leaves such a channel as it was. -/
namespace Sys2Proof.Machine

theorem exec_freezePinEdge (dt pin : Nat) (level : Bool) (s : State) :
    exec (.freezePinEdge dt pin level) s = .next (s.after ((s.blk.elapse dt).onFreezePin pin level)) := rfl

theorem Blk.settle_pdch (b : Blk) (ch : Nat) : b.settle.pdch ch = b.pdch ch := rfl

/-- The engine after reset, but that a switch of channel 0 has ended a freeze by pin 0 of a preset it no longer has. -/
def endedPinFreeze : State :=
  { pending := [], blk := { pd := { chans := { adc := 0, ended := [(3, 0)] } :: (List.range' 1 7).map (fun i => { adc := i }) } } }

/-- The edge takes the ended cause off channel 0. -/
theorem endedPinFreeze_renewed : (((endedPinFreeze.blk.elapse 0).onFreezePin 0 true).pdch 0).ended = [] := by
  decide +kernel

/-- Refutes O38: a rising edge on pin 0 changes channel 0 of `endedPinFreeze`, whose preset has no freeze pin: its ended cause counts
again. -/
theorem not_photodiodeSettingsChange : ¬ Obligations.PhotodiodeSettingsChange := by
  unfold Obligations.PhotodiodeSettingsChange
  rintro ⟨-, hedge⟩
  have hleaves := hedge 0 0 true endedPinFreeze rfl rfl (by decide)
  obtain ⟨-, hchans, -⟩ := hleaves.of_exec (exec_freezePinEdge 0 0 true endedPinFreeze)
  obtain ⟨-, hother, -⟩ := hchans 0 (by decide)
  obtain ⟨hsame, -⟩ := hother (by decide)
  rw [Blk.settle_pdch] at hsame
  have hended := endedPinFreeze_renewed
  rw [hsame] at hended
  exact absurd hended (by decide)

end Sys2Proof.Machine
end

section
/-! A channel's chain samples and the resampler's kernel (07 R258 to R285): O39. -/
namespace Sys2Proof.Machine

/-! ### Values that fit (07 R260, R266, R269, R278) -/

theorem clampI_range {lo hi : Int} (h : lo ≤ hi) (i : Int) : lo ≤ clampI lo hi i ∧ clampI lo hi i ≤ hi := by
  unfold clampI
  split
  · omega
  · split <;> omega

theorem sat18_range (x : Int) : -131072 ≤ (sat18 x).1 ∧ (sat18 x).1 ≤ 131071 := clampI_range (by decide) x

theorem Blk.firOut_range (b : Blk) (bank : Bool) (x : List Int) : -131072 ≤ (b.firOut bank x).1 ∧ (b.firOut bank x).1 ≤ 131071 :=
  sat18_range _

/-- A value on the way from one to another, rounded, lies between them. -/
theorem between_range {lo hi o n len k : Int} (ho : lo ≤ o ∧ o ≤ hi) (hn : lo ≤ n ∧ n ≤ hi) (hk : 0 ≤ k) (hkl : k ≤ len) (hlen : 0 < len) :
    lo ≤ o + ((n - o) * k * 2 + len) / (2 * len) ∧ o + ((n - o) * k * 2 + len) / (2 * len) ≤ hi := by
  constructor
  · have hdown : (lo - o) * (2 * len) ≤ (n - o) * k * 2 + len := by nlinarith
    have := Int.le_ediv_of_mul_le (by omega) hdown
    omega
  · have hup : (n - o) * k * 2 + len < (hi - o + 1) * (2 * len) := by nlinarith
    have := Int.ediv_lt_of_lt_mul (by omega) hup
    omega

/-- The FIR's output fits 18 bits, in a cross-fade as well (R266, R269). -/
theorem Blk.firStage_range (b : Blk) (c : PdCh) (x : List Int) : -131072 ≤ (b.firStage c x).1 ∧ (b.firStage c x).1 ≤ 131071 := by
  unfold Blk.firStage
  dsimp only
  split
  · next t len m hfade hm =>
    split
    · exact b.firOut_range _ _
    · exact between_range (b.firOut_range _ _) (b.firOut_range _ _) (by omega) (by omega) (by omega)
  · exact b.firOut_range _ _
  · exact b.firOut_range _ _

/-! ### A chain sample -/

/-- A chain sample by its parts: what it computes of the ADC codes stands under names of its own. -/
theorem Blk.chainStep_eq (b : Blk) (ch : Nat) (codes : List Int) :
    ∃ v sat clipAt clamped last nclip clamps integ combs rank base fir clipped rankSat firSat calNow,
      let c := b.pdch ch
      let left := b.regN (Reg.PDC_SUPPRESS ch)
      let t := sampleTime b.pd.epoch c.preset.d c.nextJ
      let q : Smp := { j := c.nextJ, tau := attributed c.preset c.phase t, t := t, y := v, sup := c.suppressing && left != 0, sat := sat }
      b.chainStep ch codes =
        ((((q :: c.line).drop (c.phase / 256)).reverse.map (fun m => { m with arr := t }), t, clipAt, clamped),
          ((if c.adc = 8 then [ch, 8] else [ch]).foldl (fun s a => (s.setN (Reg.PDC_LAST a) last).bump (Reg.PDC_CLIPS a) 31 0 nclip)
            (({ b with pd := { b.pd with
              chans := upd b.pd.chans ch (fun c => { c with
                integ := integ, combs := combs, nextJ := c.nextJ + 1, nextN := (b.pdch ch).preset.d * (c.nextJ + 1)
                rank := rank, base := base, fir := fir, clipped := clipped, rankSat := rankSat, firSat := firSat, suppressing := q.sup
                line := (q :: (b.pdch ch).line).take (c.phase / 256), fade := c.fade.map (· + 1) })
              calNow := calNow } } : Blk).setN (Reg.PDC_SUPPRESS ch) (left - 1))).bump (Reg.PDC_STAGE_SAT ch) 15 0 clamps) ∧
      (-131072 ≤ v ∧ v ≤ 131071) ∧ (c.frozen = true → base = c.base) := by
  refine ⟨_, _, _, _, _, _, _, _, _, _, _, _, _, _, _, _, rfl, ?_, ?_⟩
  · exact b.firStage_range _ _
  · intro hfrozen
    exact if_pos (by simp [hfrozen])

/-- Some registers other than the suppression count are written. -/
theorem Blk.foldl_adcs (l : List Nat) (b : Blk) (ch last nclip : Nat) :
    ∃ regs, l.foldl (fun s a => (s.setN (Reg.PDC_LAST a) last).bump (Reg.PDC_CLIPS a) 31 0 nclip) b = { b with regs := regs } ∧
      ({ b with regs := regs } : Blk).regN (Reg.PDC_SUPPRESS ch) = b.regN (Reg.PDC_SUPPRESS ch) := by
  induction l generalizing b with
  | nil => exact ⟨b.regs, rfl, rfl⟩
  | cons a l ih =>
    obtain ⟨regs, hfold, hreg⟩ := ih ((b.setN (Reg.PDC_LAST a) last).bump (Reg.PDC_CLIPS a) 31 0 nclip)
    refine ⟨regs, hfold, hreg.trans ?_⟩
    rw [Blk.bump_eq, Blk.regN, Blk.reg_setReg_other _ _ (by simp only [Reg.PDC_SUPPRESS, Reg.PDC_CLIPS]; omega), Blk.setN_eq,
      Blk.reg_setReg_other _ _ (by simp only [Reg.PDC_SUPPRESS, Reg.PDC_LAST]; omega), Blk.regN]

/-- A chain sample as a change of the engine: registers, the channel, and what a measurement takes (07 R257 to R285). -/
theorem Blk.chainStep_shape (b : Blk) {ch : Nat} (codes : List Int) :
    ∃ v sat clipAt clamped integ combs rank base fir clipped rankSat firSat calNow regs,
      let c := b.pdch ch
      let left := b.regN (Reg.PDC_SUPPRESS ch)
      let t := sampleTime b.pd.epoch c.preset.d c.nextJ
      let q : Smp := { j := c.nextJ, tau := attributed c.preset c.phase t, t := t, y := v, sup := c.suppressing && left != 0, sat := sat }
      let x : Blk := { b with regs := regs, pd := { b.pd with
        chans := upd b.pd.chans ch (fun c => { c with
          integ := integ, combs := combs, nextJ := c.nextJ + 1, nextN := (b.pdch ch).preset.d * (c.nextJ + 1)
          rank := rank, base := base, fir := fir, clipped := clipped, rankSat := rankSat, firSat := firSat, suppressing := q.sup
          line := (q :: (b.pdch ch).line).take (c.phase / 256), fade := c.fade.map (· + 1) })
        calNow := calNow } }
      b.chainStep ch codes =
        ((((q :: c.line).drop (c.phase / 256)).reverse.map (fun m => { m with arr := t }), t, clipAt, clamped), x) ∧
      (-131072 ≤ v ∧ v ≤ 131071) ∧ (c.frozen = true → base = c.base) ∧ x.regN (Reg.PDC_SUPPRESS ch) = left - 1 := by
  obtain ⟨v, sat, clipAt, clamped, last, nclip, clamps, integ, combs, rank, base, fir, clipped, rankSat, firSat, calNow, heq, hv, hbase⟩ :=
    b.chainStep_eq ch codes
  dsimp only at heq
  generalize hg : Blk.setN _ (Reg.PDC_SUPPRESS ch) _ = g at heq
  obtain ⟨regs, hfold, hreg⟩ := g.foldl_adcs (if (b.pdch ch).adc = 8 then [ch, 8] else [ch]) ch last nclip
  rw [hfold] at heq
  refine ⟨v, sat, clipAt, clamped, integ, combs, rank, base, fir, clipped, rankSat, firSat, calNow,
    (({ g with regs := regs } : Blk).bump (Reg.PDC_STAGE_SAT ch) 15 0 clamps).regs, heq.trans ?_, hv, hbase, ?_⟩
  · rw [← hg]
    rfl
  · have hleft : g.regN (Reg.PDC_SUPPRESS ch) = b.regN (Reg.PDC_SUPPRESS ch) - 1 := by
      rw [← hg]
      exact Blk.regN_setN _ (by have := b.regN_lt (Reg.PDC_SUPPRESS ch); omega)
    have hkept : (({ g with regs := regs } : Blk).bump (Reg.PDC_STAGE_SAT ch) 15 0 clamps).regN (Reg.PDC_SUPPRESS ch) =
        ({ g with regs := regs } : Blk).regN (Reg.PDC_SUPPRESS ch) := by
      rw [Blk.bump_eq, Blk.regN, Blk.reg_setReg_other _ _ (by simp only [Reg.PDC_SUPPRESS, Reg.PDC_STAGE_SAT]; omega), Blk.regN]
    exact hkept.trans (hreg.trans hleft)

theorem exec_chainSample (dt ch : Nat) (codes : List Int) (s : State) :
    exec (.chainSample dt ch codes) s = .next (s.after (chainSample ch codes (s.blk.elapse dt))) := rfl

theorem chainSample_of_due {b : Blk} {ch : Nat} (codes : List Int) (hruns : b.chRuns ch = true)
    (hdue : sampleTime b.pd.epoch (b.pdch ch).preset.d (b.pdch ch).nextJ ≤ 1024 * (b.now : Int)) :
    chainSample ch codes b =
      (((b.chainStep ch codes).2.noteClips ch (b.chainStep ch codes).1.2.1 (b.chainStep ch codes).1.2.2.1
        (b.chainStep ch codes).1.2.2.2).keepSmps ch (b.chainStep ch codes).1.1).carrySweeps := by
  simp only [chainSample, hruns, hdue, decide_true, Bool.and_self, if_true]

/-- A line and its newest member, split where the phase delay says, keep their order (07 R274). -/
theorem line_split {α : Type} (g : α → α) (hg : ∀ a, g (g a) = g a) (q : α) (line : List α) (n : Nat) :
    ((((q :: line).drop n).reverse.map g) ++ ((q :: line).take n).reverse).map g = (line.reverse ++ [q]).map g := by
  have hcut : ((q :: line).drop n).reverse ++ ((q :: line).take n).reverse = line.reverse ++ [q] := by
    rw [← List.reverse_append, List.take_append_drop, List.reverse_cons]
  rw [← hcut, List.map_append, List.map_append, List.map_map]
  congr 1
  exact List.map_congr_left (fun a _ => hg a)

theorem Blk.chRuns_lt {b : Blk} {ch : Nat} (h : b.chRuns ch = true) : ch < 8 := by
  unfold Blk.chRuns at h
  simp only [Bool.and_eq_true, decide_eq_true_eq] at h
  exact h.1.1.1.1

/-! ### The kernel (07 R277, R278) -/

theorem sum_upd_add (l : List Int) (d : Int) {i : Nat} (h : i < l.length) : (upd l i (fun w => w + d)).sum = l.sum + d := by
  induction l generalizing i with
  | nil => simp at h
  | cons a l ih =>
    cases i with
    | zero => simp only [upd, List.sum_cons]; omega
    | succ i => simp only [upd, List.sum_cons, ih (Nat.lt_of_succ_lt_succ h)]; omega

theorem kernel_zero : kernel 0 = [0, 0, 0, 0, 0, 0, 0, 131072, 0, 0, 0, 0, 0, 0, 0, 0] := rfl

/-- Sixteen taps brought to their sum at one of the two in the middle. -/
theorem kernel_of_ne {phase : Nat} (h : phase ≠ 0) : ∃ taps centre, taps.length = 16 ∧ centre < 16 ∧
    kernel phase = upd taps centre (fun w => w + (131072 - taps.sum)) := by
  unfold kernel
  rw [if_neg h]
  dsimp only
  refine ⟨_, _, ?_, ?_, by rw [List.sum_eq_foldl]⟩
  · simp
  · split <;> omega

theorem kernel_spec (phase : Nat) : (kernel phase).length = 16 ∧ (kernel phase).sum = 131072 := by
  by_cases h : phase = 0
  · rw [h, kernel_zero]
    decide
  · obtain ⟨taps, centre, hlen, hcentre, hk⟩ := kernel_of_ne h
    rw [hk, sum_upd_add _ _ (by omega), upd_length]
    exact ⟨hlen, by omega⟩

theorem resample_range (phase : Nat) (x : List Int) : -32767 ≤ (resample phase x).1 ∧ (resample phase x).1 ≤ 32767 :=
  clampI_range (by decide) _

/-- Phase 0 passes its middle input: 131 072 of 2^17, from Q14.4 to Q14.2. -/
theorem resample_zero {x : List Int} (h : x.length = 16) : (resample 0 x).1 = clampI (-32767) 32767 ((x.getD 7 0 + 2) / 4) := by
  obtain ⟨x0, x1, x2, x3, x4, x5, x6, x7, x8, x9, x10, x11, x12, x13, x14, x15, rfl⟩ :
      ∃ x0 x1 x2 x3 x4 x5 x6 x7 x8 x9 x10 x11 x12 x13 x14 x15, x = [x0, x1, x2, x3, x4, x5, x6, x7, x8, x9, x10, x11, x12, x13, x14, x15] := by
    match x, h with
    | [x0, x1, x2, x3, x4, x5, x6, x7, x8, x9, x10, x11, x12, x13, x14, x15], _ => exact ⟨x0, x1, x2, x3, x4, x5, x6, x7, x8, x9, x10, x11, x12, x13, x14, x15, rfl⟩
  have hv : (131072 * x7 + 262144) / 524288 = (x7 + 2) / 4 := by omega
  simp [resample, kernel_zero, hv]

/-! ### O39 -/

/-- What a chain sample leaves on its channel, and what it leaves alone (07 R259, R274, R283). -/
theorem chainStep_spec {b : Blk} {ch : Nat} (codes : List Int) (hch : ch < b.pd.chans.length) :
    let c := b.pdch ch
    let t := sampleTime b.pd.epoch c.preset.d c.nextJ
    let m := (b.chainStep ch codes).1
    let x := (b.chainStep ch codes).2
    let at_ (l : List Smp) : List Smp := l.map (fun q => { q with arr := t })
    m.2.1 = t ∧
    (∃ q : Smp, q.j = c.nextJ ∧ q.t = t ∧ q.tau = attributed c.preset c.phase t ∧
      -131072 ≤ q.y ∧ q.y ≤ 131071 ∧ (q.sup = true ↔ c.suppressing = true ∧ b.regN (Reg.PDC_SUPPRESS ch) ≠ 0) ∧
      at_ (m.1 ++ (x.pdch ch).line.reverse) = at_ (c.line.reverse ++ [q])) ∧
    at_ m.1 = m.1 ∧ (x.pdch ch).line.length = min (c.phase / 256) (c.line.length + 1) ∧
    x.regN (Reg.PDC_SUPPRESS ch) = b.regN (Reg.PDC_SUPPRESS ch) - 1 ∧ (x.pdch ch).nextJ = c.nextJ + 1 ∧
    (x.pdch ch).nextN = c.preset.d * (c.nextJ + 1) ∧
    (c.frozen = true → (x.pdch ch).base = c.base) ∧ (∀ k, k ≠ ch → x.pdch k = b.pdch k) ∧
    x = { b with regs := x.regs, pd := x.pd } := by
  obtain ⟨v, sat, clipAt, clamped, integ, combs, rank, base, fir, clipped, rankSat, firSat, calNow, regs, hstep, hv, hbase, hleft⟩ :=
    b.chainStep_shape (ch := ch) codes
  dsimp only at hstep
  rw [hstep]
  intro c t m x at_
  have hown : x.pdch ch = _ := upd_getD_same b.pd.chans ch _ _ hch
  have hother : ∀ k, k ≠ ch → x.pdch k = b.pdch k := fun k hk => upd_getD_other b.pd.chans ch k _ _ hk
  rw [hown]
  refine ⟨rfl, ⟨_, rfl, rfl, rfl, hv.1, hv.2, ?sup,
    line_split (fun n : Smp => { n with arr := t }) (fun _ => rfl) _ _ _⟩, ?out, ?line, hleft, rfl, rfl, hbase, hother, rfl⟩
  case sup => simp [c]
  case out => exact (List.map_map ..).trans rfl
  case line => exact List.length_take ..

/-- Settles O39: the sample's parts by `chainStep_spec`, the kernel's taps by their correction at the middle tap. -/
theorem chainSamplesAreTaken : Obligations.ChainSamplesAreTaken := by
  unfold Obligations.ChainSamplesAreTaken
  refine ⟨?_, fun phase _ => kernel_spec phase, resample_range, fun x h => resample_zero h⟩
  intro dt ch codes s b c t m x at_ hruns hlen hdue
  obtain ⟨ht, hspec⟩ := chainStep_spec (b := b) codes (hlen ▸ Blk.chRuns_lt hruns)
  refine ⟨?_, hspec⟩
  rw [exec_chainSample, chainSample_of_due codes hruns hdue, ht]

end Sys2Proof.Machine
end

section
/-! Why O40 fails: what the resampler has done for a channel is put back by the sweep's job (`Blk.feedDone`), so of two sweeps of one job the
second's part of a channel, shut by a third window, replaces the first's, while the statement has the first sweep's part stay open. -/
namespace Sys2Proof.Machine

theorem exec_windowStart (dt seq : Nat) (s : State) : exec (.windowStart dt seq) s = .next (s.after (windowStart seq (s.blk.elapse dt))) := rfl

/-- A sweep job whose window has come. -/
def twiceSweptJob : Job := { seq := 1, desc := [], acceptedAt := 0 }

/-- Its sweep on channel 0, whose window has still to open. -/
def openSweep : Sweep := { jobSeq := 1, unit := 1, desc := [], boundary := 0, deadline := 0, chans := [{ ch := 0 }] }

/-- A second sweep of the same job, whose part of the channel is shut. -/
def shutSweep : Sweep := { jobSeq := 1, unit := 2, desc := [], boundary := 0, deadline := 0, chans := [{ ch := 0, shut := true }] }

/-- The engine after reset with that job and those sweeps. -/
def twiceSweptState : State := { pending := [], blk := { jobs := [twiceSweptJob], swp := { sweeps := [openSweep, shutSweep] } } }

/-- Once the first window is open both parts are shut. -/
theorem twiceSweptState_shut :
    (((windowStart 1 (twiceSweptState.blk.elapse 0)).sweep 1).map (fun w => w.chans.map (fun c => c.shut))) = some [true] := by
  decide +kernel

theorem Blk.settle_sweep (b : Blk) (seq : Nat) : b.settle.sweep seq = b.sweep seq := rfl

/-- Refutes O40: the window of `openSweep` opens on a channel that no other window is open on, and its part of the channel is shut after it,
for the resampler has put `shutSweep`'s part in its place. -/
theorem not_sweepsPassTheirBoundaries : ¬ Obligations.SweepsPassTheirBoundaries := by
  unfold Obligations.SweepsPassTheirBoundaries
  intro h
  obtain ⟨-, -, hwindow⟩ := h 0 twiceSweptJob openSweep [] twiceSweptState rfl rfl
  obtain ⟨hopen, -⟩ := hwindow rfl rfl rfl (by decide) (by decide)
  have hleaves := hopen rfl (by decide)
  obtain ⟨⟨v, hv, -, -, -, hchans, hparts⟩, -⟩ := hleaves.of_exec (exec_windowStart 0 1 twiceSweptState)
  have hshut := twiceSweptState_shut
  rw [Blk.settle_sweep] at hv
  rw [show (windowStart 1 (twiceSweptState.blk.elapse 0)).sweep 1 = some v from hv, Option.map_some, Option.some.injEq] at hshut
  obtain ⟨k, hk, hkshut⟩ : ∃ k ∈ v.chans, k.shut = true := List.mem_map.mp (hshut ▸ List.mem_singleton_self true)
  have hkch : k.ch = 0 := by
    have hmem : k.ch ∈ v.chans.map (·.ch) := List.mem_map_of_mem hk
    rw [hchans] at hmem
    exact List.mem_singleton.mp hmem
  obtain ⟨-, -, hclear⟩ := hparts k hk
  rw [hkch] at hclear
  have hopenShut := (hclear (by decide) (by decide)).2
  exact absurd (hkshut.symm.trans hopenShut) (by decide)

end Sys2Proof.Machine
end

section
/-! The position stream and late profile samples (08 R299 to R304; 07 R280): O41. -/
namespace Sys2Proof.Machine

theorem exec_posPacket (dt : Nat) (payload : List Byte) (s : State) : exec (.posPacket dt payload) s =
    .next (s.after (if (s.blk.elapse dt).linkUp then posPacketIn payload (s.blk.elapse dt).linkAccept else s.blk.elapse dt)) := rfl

theorem Blk.linkAccept_state (b : Blk) : ∃ regs lnk, b.linkAccept = { b with regs := regs, lnk := lnk } ∧ lnk.state = b.lnk.state := by
  unfold Blk.linkAccept
  dsimp only
  split <;> exact ⟨_, _, rfl, rfl⟩

theorem Blk.linkAccept_linkUp (b : Blk) : b.linkAccept.linkUp = b.linkUp := by
  obtain ⟨regs, lnk, h, hstate⟩ := b.linkAccept_state
  rw [h, Blk.linkUp, Blk.linkUp, hstate]

theorem Blk.linkAccept_swp (b : Blk) : b.linkAccept.swp = b.swp := by
  obtain ⟨regs, lnk, h⟩ := b.linkAccept_shape
  rw [h]

theorem Blk.linkAccept_now (b : Blk) : b.linkAccept.now = b.now := by
  obtain ⟨regs, lnk, h⟩ := b.linkAccept_shape
  rw [h]

theorem Blk.once_now (b : Blk) (seq code : Nat) : (b.once seq code).now = b.now := by
  unfold Blk.once
  split <;> split <;> first | rfl | exact Blk.raise_now _ _

theorem Blk.onceEach_now (b : Blk) (code : Nat) (l : List Nat) : (b.onceEach code l).now = b.now := by
  induction l generalizing b with
  | nil => rfl
  | cons q l ih => exact (ih _).trans (b.once_now q code)

/-! ### A POS packet -/

/-- The samples of a POS payload: times, shifted by RSM.TIME_OFS, and the two coordinates (08 R299). -/
def Blk.posSamples (b : Blk) (p : List Byte) (n : Nat) : List (Int × Int × Int) :=
  (List.range n).map (fun i => ((getLe p (16 + 16 * i) 8 : Int) + sgn 32 (b.regN Reg.RSM_TIME_OFS),
    sgn 32 (getLe p (8 + 16 * i) 4), sgn 32 (getLe p (12 + 16 * i) 4)))

theorem Blk.posPacket_of_malformed {b : Blk} {p : List Byte} (h : getLe p 4 2 = 0 ∨ 64 < getLe p 4 2 ∨ p.length ≠ 8 + 16 * getLe p 4 2) :
    b.posPacket p = b.bump Reg.LNK_RX_DISCARD 15 0 1 :=
  if_pos (h.imp_left (by omega))

theorem Blk.posPacket_of_wellFormed {b : Blk} {p : List Byte} (h1 : 1 ≤ getLe p 4 2) (h64 : getLe p 4 2 ≤ 64)
    (hlen : p.length = 8 + 16 * getLe p 4 2) :
    b.posPacket p =
      (let l := b.posSamples p (getLe p 4 2)
       let newest := l.foldl (fun (x : Int) t => max x t.1) (l.headD (0, 0, 0)).1
       let oldest := l.foldl (fun (x : Int) t => min x t.1) (b.swp.pos.lastTime.getD newest)
       let g := if b.swp.pos.lastSeq.all (fun q => getLe p 0 4 == (q + 1) % 2 ^ 32) = true then b
         else (b.bump Reg.RSM_POS_SEQ_GAP 31 0 1).onceEach 0x6066 (b.sweepsOver oldest newest)
       let x : Blk := { g with swp := { g.swp with pos := { g.swp.pos with lastSeq := some (getLe p 0 4) } } }
       (l.foldl (fun c t => c.acceptPos t.1 t.2.1 t.2.2) ((x.setN Reg.RSM_POS_AGE (posAge b.now newest)).prunePos)).carrySweeps) := by
  unfold Blk.posPacket
  dsimp only
  rw [if_neg (by omega)]
  cases hseq : b.swp.pos.lastSeq with
  | none => rfl
  | some q =>
    by_cases hnext : getLe p 0 4 = (q + 1) % 2 ^ 32
    · simp only [hnext, bne_self_eq_false, Bool.false_eq_true, if_false, Option.all_some, beq_self_eq_true, if_true]
      rfl
    · have hgap : (getLe p 0 4 != (q + 1) % 2 ^ 32) = true := by simpa using hnext
      have hno : (getLe p 0 4 == (q + 1) % 2 ^ 32) = false := by simpa using hnext
      simp only [hgap, hno, if_true, Option.all_some, Bool.false_eq_true, if_false, Blk.onceEach_now]
      rfl

/-! ### One sample -/

theorem Blk.acceptPos_of_old {c : Blk} {t : Int} (x y : Int) (h : c.swp.pos.lastTime.any (fun u => decide (t ≤ u)) = true) :
    c.acceptPos t x y = c.bump Reg.RSM_POS_DISCARD 15 0 1 := by
  unfold Blk.acceptPos
  cases hlast : c.swp.pos.lastTime with
  | none => simp [hlast] at h
  | some u => rw [if_pos (by simpa [hlast] using h)]

/-- A sample later than the last accepted is dropped, counted or accepted by the sweeps that span it and the samples held. -/
theorem Blk.acceptPos_of_new {c : Blk} {t : Int} (x y : Int) (h : c.swp.pos.lastTime.all (fun u => decide (u < t)) = true) :
    c.acceptPos t x y =
      if (c.sweepsAt t).isEmpty then c
      else if 4096 ≤ c.samplesNeeded.length then (c.bump Reg.RSM_POS_DISCARD 31 16 1).onceEach 0x6065 (c.sweepsAt t)
      else (({ c with swp := { c.swp with pos := { c.swp.pos with
        samples := c.swp.pos.samples ++ [{ time := t, x := x, y := y, arrival := c.now }], lastTime := some t } } } : Blk).count
          Reg.RSM_POS_COUNT 1).setPair Reg.RSM_POS_LAST_LO (twos 64 t) := by
  unfold Blk.acceptPos
  cases hlast : c.swp.pos.lastTime with
  | none => rfl
  | some u =>
    have hnew : ¬ t ≤ u := by simpa [hlast] using h
    exact if_neg (by simpa using hnew)

/-! ### Late positions and overspeed samples -/

theorem exec_posLate (dt seq ch j : Nat) (s : State) : exec (.posLate dt seq ch j) s = .next (s.after (posLate seq ch j (s.blk.elapse dt))) :=
  rfl

theorem exec_rsmOverspeed (dt ch seq : Nat) (s : State) :
    exec (.rsmOverspeed dt ch seq) s = .next (s.after (rsmOverspeed ch seq (s.blk.elapse dt))) := rfl

section
variable {b : Blk} {seq ch : Nat} {w : Sweep} {k : SwCh} (hsweep : b.sweep seq = some w) (hch : w.chans.find? (fun c => c.ch = ch) = some k)
include hsweep hch

theorem posLate_of_expired {m : Smp} (hsmp : k.smps.find? (fun x => x.j = m.j) = some m) (hopen : m.pos = .undecided)
    (hlate : lateLimit w.posLate m.tau ≤ b.now) :
    posLate seq ch m.j b =
      ((b.updSweep seq (fun v => v.updCh ch (fun c => { c with smps := c.smps.map (fun x =>
        if x.j = m.j then { x with pos := .invalid } else x) }))).notePos seq { dec := .invalid, late := true }).carrySweeps := by
  simp only [posLate, hsweep, hch, hsmp, Option.bind_some, hopen, hlate, and_self, if_true]

theorem rsmOverspeed_of_late {v : Nat} (hlate : k.late = some v) :
    rsmOverspeed ch seq b =
      (((((b.updSweep seq (fun w => w.updCh ch (fun c => { c with late := none, words := c.words ++ [v] }))).count
        Reg.RSM_OUT_COUNT 1).count Reg.RSM_OVERSPEED 1).capture w ch 1).once seq 0x6042).carrySweeps := by
  simp only [rsmOverspeed, hsweep, hch, hlate]

end

/-! ### O41 -/

/-- Settles O41: a packet by its form, a sample by its time and the sweeps that span it, a late position and a late sample by the channel's
part of their sweep. -/
theorem positionsAreAcceptedInOrder : Obligations.PositionsAreAcceptedInOrder := by
  unfold Obligations.PositionsAreAcceptedInOrder
  intro dt ch seq n payload w k m s b a ofs l newest
  refine ⟨fun hup hn => ⟨fun h1 h64 hlen => ?_, fun hbad => ?_⟩, fun c t x y => ⟨Blk.acceptPos_of_old x y, fun hnew => ?_⟩,
    fun hsweep hch => ⟨fun hsmp hopen hlate => ?_, fun v hlate => ?_⟩⟩
  · subst hn
    have haup : a.linkUp = true := b.linkAccept_linkUp.trans hup
    rw [exec_posPacket, if_pos hup, posPacketIn, if_pos haup, Blk.posPacket_of_wellFormed h1 h64 hlen, b.linkAccept_now, b.linkAccept_swp]
    rfl
  · subst hn
    have haup : a.linkUp = true := b.linkAccept_linkUp.trans hup
    rw [exec_posPacket, if_pos hup, posPacketIn, if_pos haup, Blk.posPacket_of_malformed hbad]
  · rw [Blk.acceptPos_of_new x y hnew]
    refine ⟨fun hnone => by simp [hnone], fun hsome hfull => ?_, fun hsome hroom => ?_⟩
    · rw [if_neg (by simpa using hsome), if_pos hfull]
    · rw [if_neg (by simpa using hsome), if_neg (by omega)]
      exact ⟨rfl, rfl, rfl⟩
  · rw [exec_posLate, posLate_of_expired hsweep hch hsmp hopen hlate]
  · rw [exec_rsmOverspeed, rsmOverspeed_of_late hsweep hch hlate]

end Sys2Proof.Machine
end

section
/-! Tally's records, blocks and seals (09 R335, R345 to R350): O42. -/
namespace Sys2Proof.Machine

/-! ### The measurement and its record -/

theorem exec_tallyAppend (dt : Nat) (m : TallyMeas) (s : State) : exec (.tallyAppend dt m) s = .next (s.after (tallyAppend m (s.blk.elapse dt))) :=
  rfl

theorem Blk.fieldPoint_shape (b : Blk) (ix iy : Nat) : ∃ free, (b.fieldPoint ix iy).2.2 = { b with free := free } := by
  unfold Blk.fieldPoint
  split
  · exact ⟨b.free, rfl⟩
  · exact ⟨b.free + 1, rfl⟩

/-- A measurement takes at most a free value. -/
theorem Blk.measureStaring_shape (b : Blk) (c : TlyCand) (m : TallyMeas) : ∃ free, (b.measureStaring c m).2 = { b with free := free } := by
  unfold Blk.measureStaring
  dsimp only
  split
  · exact ⟨b.free, rfl⟩
  · split
    · exact ⟨b.free, rfl⟩
    · exact b.fieldPoint_shape _ _

/-- What Tally measures of a candidate: its mark in its sweep, if that is still there, or its image (09 R331, R336). -/
def Blk.measured (x : Blk) (c : TlyCand) (m : TallyMeas) : Measured :=
  if c.sweep = true then ((x.sweep c.jobSeq).map (fun w => x.measureSweep w w.job c)).getD { status := 0x04 } else (x.measureStaring c m).1

/-- Tally's head candidate taken off its queue. -/
def Blk.tookCand (b : Blk) (t : List TlyItem) : Blk := { b with tly := { b.tly with taken := t } }

theorem Blk.tallyAppend_of_cand {b : Blk} {c : TlyCand} {t : List TlyItem} (m : TallyMeas) (h : b.tly.taken = .cand c :: t) :
    ∃ free, b.tallyAppend m = (some (c, (b.tookCand t).measured c m),
      ((({ b.tookCand t with free := free } : Blk).appendRaw c.seq false (b.recordBytes c ((b.tookCand t).measured c m))).flushed)) := by
  have hrecord (free : Nat) (r : Measured) : ({ b.tookCand t with free := free } : Blk).recordBytes c r = b.recordBytes c r := rfl
  unfold Blk.tallyAppend Blk.measured
  rw [h]
  dsimp only
  rw [show ({ b with tly := { b.tly with taken := t } } : Blk) = b.tookCand t from rfl]
  cases hsweep : c.sweep with
  | true =>
    refine ⟨(b.tookCand t).free, ?_⟩
    rw [← hrecord (b.tookCand t).free]
    rw [show ({ b.tookCand t with free := (b.tookCand t).free } : Blk) = b.tookCand t from rfl]
    cases hw : (b.tookCand t).sweep c.jobSeq <;>
      simp only [if_true, Option.map_none, Option.map_some, Option.getD_none, Option.getD_some]
  | false =>
    obtain ⟨free, hfree⟩ := (b.tookCand t).measureStaring_shape c m
    refine ⟨free, ?_⟩
    rw [← hrecord free, ← hfree]
    simp only [Bool.false_eq_true, if_false]

/-! ### A record in the chain -/

/-- A closed block takes its records to be signed, and leaves the chain, the queue and the store alone (09 R348). -/
theorem Blk.closeBlock_spec {b : Blk} (cause : Nat) (h : b.tly.block.count ≠ 0) : ∃ k : TlySeal, b.closeBlock cause =
    { b with tly := { b.tly with toSign := b.tly.toSign ++ [k], block := {}, blockNo := b.tly.blockNo + 1 } } :=
  ⟨_, if_neg h⟩

/-- The block after one more record. -/
def Blk.nextBlock (b : Blk) (num : Nat) : TlyBlock :=
  if b.tly.block.count = 0 then { count := 1, first := num, since := b.now, hPrev := b.chainValue }
  else { b.tly.block with count := b.tly.block.count + 1 }

/-- The engine with one more record in the chain, the store and the open block. -/
def Blk.chained (b : Blk) (num : Nat) (bytes : List Byte) : Blk :=
  { b with tly := { b.tly with
    chain := some (sha256 (b.chainValue ++ bytes)), block := b.nextBlock num
    store := b.tly.store ++ [{ isSeal := false, num := num, bytes := bytes, seg := b.tly.segment }] } }

theorem Blk.appendRaw_of_room {b : Blk} (num : Nat) (bytes : List Byte) (h : b.tly.block.count < 255) :
    b.appendRaw num false bytes = b.chained num bytes := by
  have hcount : ¬ 256 ≤ (b.nextBlock num).count := by
    unfold Blk.nextBlock
    split
    · simp
    · dsimp only; omega
  exact if_neg hcount

theorem Blk.appendRaw_of_last {b : Blk} (num : Nat) (bytes : List Byte) (h : b.tly.block.count = 255) :
    b.appendRaw num false bytes = (b.chained num bytes).closeBlock 0x01 := by
  have hcount : 256 ≤ (b.nextBlock num).count := by
    unfold Blk.nextBlock
    rw [if_neg (by omega), h]
  exact if_pos hcount

theorem Blk.chained_free (b : Blk) (free num : Nat) (bytes : List Byte) :
    ({ b with free := free } : Blk).chained num bytes = { b.chained num bytes with free := free } := rfl

theorem Blk.closeBlock_free (b : Blk) (free cause : Nat) :
    ({ b with free := free } : Blk).closeBlock cause = { b.closeBlock cause with free := free } := by
  unfold Blk.closeBlock
  dsimp only
  split <;> rfl

/-- Behind a candidate nothing is flushed. -/
theorem Blk.flushed_of_cand {b : Blk} (h : b.tly.taken.head?.all (fun y => match y with | .cand _ => true | .epoch _ _ => false) = true) :
    b.flushed = b := by
  unfold Blk.flushed flushEpochs
  split
  · next num bytes t ht => simp [ht] at h
  · rfl

/-! ### What hears of the record -/

/-- Tally and the results stand as they were. -/
def Blk.SameTally (b c : Blk) : Prop := c.tly = b.tly ∧ c.store = b.store

theorem Blk.SameTally.trans {b c d : Blk} (h : b.SameTally c) (k : c.SameTally d) : b.SameTally d := ⟨k.1.trans h.1, k.2.trans h.2⟩

theorem Blk.sameTally_closePassed (b : Blk) (j : Job) : b.SameTally (b.closePassed j) := by
  unfold Blk.closePassed
  split
  · split <;> exact ⟨rfl, rfl⟩
  · exact ⟨rfl, rfl⟩

theorem Blk.SameTally.refl (b : Blk) : b.SameTally b := ⟨rfl, rfl⟩

theorem Blk.SameTally.ite {b c d : Blk} {p : Prop} [Decidable p] (h : b.SameTally c) (k : b.SameTally d) :
    b.SameTally (if p then c else d) := by
  split
  · exact h
  · exact k

theorem Blk.sameTally_campaignTakes (b : Blk) (c : TlyCand) (r : Measured) : b.SameTally (b.campaignTakes c r) := by
  unfold Blk.campaignTakes
  split
  · exact .refl b
  · next j hj =>
    extract_lets g
    refine (b.sameTally_closePassed j).trans (c := g) ?_
    split
    · extract_lets near x
      refine (Blk.SameTally.refl g).ite (.ite ⟨rfl, rfl⟩ (.ite ⟨rfl, rfl⟩ ?_))
      have hentry : g.SameTally x := ⟨rfl, rfl⟩
      refine hentry.trans ?_
      split
      · exact .ite ⟨rfl, rfl⟩ (.refl x)
      · exact .refl x
    · exact .refl g

theorem tallyAppend_sameTally {b z : Blk} {c : TlyCand} {r : Measured} {m : TallyMeas} (hsupplied : b.tly.supplied = true)
    (h : b.tallyAppend m = (some (c, r), z)) : z.SameTally (tallyAppend m b) := by
  unfold tallyAppend
  rw [hsupplied, h]
  have hheard : z.SameTally ((if c.sweep then
      (z.updSweep c.jobSeq (fun w => { w with marks := w.marks.map (fun k => if k.index = c.index then { k with tallied := true } else k) })).pruneSweeps
    else z.updFrame c.jobSeq c.unit (fun f => f.updCluster c.cluster (fun k => { k with tallied := true }))).freeSlots) := by
    split <;> exact ⟨rfl, rfl⟩
  exact hheard.trans (Blk.sameTally_campaignTakes _ c r)

/-- Tally's state once the head candidate has its record. -/
theorem tallyAppend_tly {b : Blk} {c : TlyCand} {t : List TlyItem} (m : TallyMeas) (hsupplied : b.tly.supplied = true)
    (h : b.tly.taken = .cand c :: t)
    (hhead : t.head?.all (fun y => match y with | .cand _ => true | .epoch _ _ => false) = true) (hcount : b.tly.block.count ≤ 255) :
    (tallyAppend m b).store = b.store ∧ (tallyAppend m b).tly =
      (let z := (b.tookCand t).chained c.seq (b.recordBytes c ((b.tookCand t).measured c m))
       if b.tly.block.count = 255 then (z.closeBlock 0x01).tly else z.tly) := by
  obtain ⟨free, hshape⟩ := Blk.tallyAppend_of_cand m h
  obtain ⟨htly, hstore⟩ := tallyAppend_sameTally hsupplied hshape
  rw [htly, hstore]
  dsimp only
  generalize b.recordBytes c ((b.tookCand t).measured c m) = bytes
  by_cases hlast : b.tly.block.count = 255
  · have hcloses (z : Blk) (hz : z.tly.taken = t) (hk : z.tly.block.count ≠ 0) :
        (z.closeBlock 0x01).tly.taken = t ∧ (z.closeBlock 0x01).store = z.store := by
      obtain ⟨k, hclose⟩ := Blk.closeBlock_spec 0x01 hk
      rw [hclose]
      exact ⟨hz, rfl⟩
    have hnext : (b.nextBlock c.seq).count ≠ 0 := by simp [Blk.nextBlock, hlast]
    obtain ⟨htaken, hkept⟩ := hcloses (({ b.tookCand t with free := free } : Blk).chained c.seq bytes) rfl hnext
    rw [Blk.appendRaw_of_last (b := { b.tookCand t with free := free }) _ _ hlast, Blk.flushed_of_cand (by rw [htaken]; exact hhead), if_pos hlast]
    refine ⟨hkept, ?_⟩
    rw [Blk.chained_free, Blk.closeBlock_free]
  · rw [Blk.appendRaw_of_room (b := { b.tookCand t with free := free }) _ _ (by change b.tly.block.count < 255; omega), Blk.flushed_of_cand hhead, if_neg hlast]
    exact ⟨rfl, rfl⟩

/-- The record of the head candidate in the chain, the store and its block (09 R335, R346, R348). -/
theorem tallyAppend_spec {b : Blk} {c : TlyCand} {t : List TlyItem} (m : TallyMeas) (hsupplied : b.tly.supplied = true)
    (h : b.tly.taken = .cand c :: t)
    (hhead : t.head?.all (fun y => match y with | .cand _ => true | .epoch _ _ => false) = true) (hcount : b.tly.block.count ≤ 255) :
    let y := tallyAppend m b
    let bytes := b.recordBytes c ((b.tookCand t).measured c m)
    y.tly.taken = t ∧ y.tly.store = b.tly.store ++ [{ isSeal := false, num := c.seq, bytes := bytes, seg := b.tly.segment }] ∧
    y.tly.chain = some (sha256 (b.chainValue ++ bytes)) ∧
    (b.tly.block.count = 255 → y.tly.block = {} ∧ y.tly.toSign.length = b.tly.toSign.length + 1) ∧
    (0 < b.tly.block.count → b.tly.block.count < 255 →
      y.tly.block = { b.tly.block with count := b.tly.block.count + 1 } ∧ y.tly.toSign = b.tly.toSign) ∧
    (b.tly.block.count = 0 → y.tly.block = { count := 1, first := c.seq, since := b.now, hPrev := b.chainValue }) ∧
    y.tly.counter = b.tly.counter ∧ y.tly.sealSt = b.tly.sealSt ∧ y.tly.log = b.tly.log ∧ y.store = b.store := by
  obtain ⟨hstore, htly⟩ := tallyAppend_tly m hsupplied h hhead hcount
  dsimp only at htly ⊢
  rw [htly, hstore]
  generalize b.recordBytes c ((b.tookCand t).measured c m) = bytes
  by_cases hlast : b.tly.block.count = 255
  · obtain ⟨k, hclose⟩ := Blk.closeBlock_spec (b := (b.tookCand t).chained c.seq bytes) 0x01 (by
      change (b.nextBlock c.seq).count ≠ 0
      simp [Blk.nextBlock, hlast])
    rw [if_pos hlast, hclose]
    exact ⟨rfl, rfl, rfl, fun _ => ⟨rfl, List.length_append⟩, fun _ _ => by omega, fun _ => by omega, rfl, rfl, rfl, rfl⟩
  · rw [if_neg hlast]
    exact ⟨rfl, rfl, rfl, fun hfull => absurd hfull hlast, fun hmore _ => ⟨if_neg (by change b.tly.block.count ≠ 0; omega), rfl⟩,
      fun hfirst => if_pos hfirst, rfl, rfl, rfl, rfl⟩

/-! ### Blocks close and are signed -/

theorem exec_blockCloseAge (dt : Nat) (s : State) : exec (.blockCloseAge dt) s = .next (s.after (blockCloseAge (s.blk.elapse dt))) := rfl

theorem exec_blockSigned (dt : Nat) (s : State) : exec (.blockSigned dt) s = .next (s.after (blockSigned (s.blk.elapse dt))) := rfl

theorem exec_tallyWatchdog (dt : Nat) (storeOk : Bool) (s : State) :
    exec (.tallyWatchdog dt storeOk) s = .next (s.after ((tallyWatchdog storeOk (s.blk.elapse dt)).dropMarks)) := rfl

theorem blockCloseAge_of_unsupplied {b : Blk} (h : b.tly.supplied = false) : blockCloseAge b = b := by
  simp only [blockCloseAge, h, Bool.false_and, Bool.false_eq_true, if_false]

theorem blockCloseAge_of_old {b : Blk} (h : b.tly.supplied = true) (hcount : b.tly.block.count ≠ 0)
    (hold : b.tly.block.since + 3125000 ≤ b.now) : blockCloseAge b = b.closeBlock 0x02 :=
  if_pos (by simp [h, hcount, hold])

theorem blockSigned_of_unsupplied {b : Blk} (h : b.tly.supplied = false) : blockSigned b = b := by
  unfold blockSigned
  split
  · rfl
  · rw [h]
    rfl

theorem blockSigned_of_room {b : Blk} {k : TlySeal} {l : List TlySeal} (h : b.tly.supplied = true) (hsign : b.tly.toSign = k :: l)
    (hroom : (b.tly.store.filter (fun i => i.isSeal)).length < 32) :
    blockSigned b = { b with tly := { b.tly with
      toSign := l, store := placeSeal k (k.bytes ++ edSign tallySeedBytes k.bytes) b.tly.store, signed := b.tly.signed + 1 } } := by
  have hfree : ¬ 32 ≤ (b.tly.store.filter (fun i => i.isSeal)).length := by omega
  simp only [blockSigned, hsign, h, hfree, decide_false, Bool.not_true, Bool.or_self, Bool.false_eq_true, if_false]

/-! ### O42 -/

/-- Settles O42: the record of the head candidate by `tallyAppend_tly`, blocks and the watchdog by the branch that the hypotheses name. -/
theorem recordsAreChainedAndSealed : Obligations.RecordsAreChainedAndSealed := by
  unfold Obligations.RecordsAreChainedAndSealed
  intro dt m c t k l s b x r bytes
  refine ⟨fun hsupplied htaken hhead hcount => ?_, fun hno => ⟨?_, ?_⟩, fun hsupplied hcount hold => ?_, fun hsupplied hsign hroom => ?_,
    fun hsupplied => ⟨?_, ?_⟩⟩
  · exact leaves_of_exec (exec_tallyAppend dt m s) (tallyAppend_spec m hsupplied htaken hhead hcount)
  · rw [exec_blockCloseAge, blockCloseAge_of_unsupplied hno]
  · rw [exec_blockSigned, blockSigned_of_unsupplied hno]
  · rw [exec_blockCloseAge, blockCloseAge_of_old hsupplied hcount hold]
    exact congrArg (fun y => Host.Outcome.next (s.after y)) (if_neg hcount)
  · rw [exec_blockSigned, blockSigned_of_room hsupplied hsign hroom]
  · rw [exec_tallyWatchdog, tallyWatchdog, if_pos hsupplied]
    rfl
  · rw [exec_tallyWatchdog, tallyWatchdog, if_pos hsupplied]
    rfl

end Sys2Proof.Machine
end

section
/-! Tally's seal state (09 R352 to R356, R363): O43. -/
namespace Sys2Proof.Machine

theorem exec_unseal (dt : Nat) (who : Who) (s : State) :
    exec (.unseal dt who) s = .next (s.after ((s.blk.elapse dt).write1 who Reg.TLY_SEAL_CMD 1)) := rfl

theorem exec_reseal (dt : Nat) (who : Who) (s : State) :
    exec (.reseal dt who) s = .next (s.after ((s.blk.elapse dt).write1 who Reg.TLY_SEAL_CMD 2)) := rfl

theorem exec_paramDataWrite (dt : Nat) (who : Who) (v : Word) (s : State) :
    exec (.paramDataWrite dt who v) s = .next (s.after ((s.blk.elapse dt).write1 who Reg.TLYC_PARAM_DATA v)) := rfl

theorem exec_paramDataRead (dt : Nat) (who : Who) (s : State) :
    exec (.paramDataRead dt who) s = .next (s.after ((s.blk.elapse dt).read1 who Reg.TLYC_PARAM_DATA)) := rfl

theorem exec_unsealComplete (dt : Nat) (s : State) : exec (.unsealComplete dt) s = .next (s.after (unsealComplete (s.blk.elapse dt))) := rfl

theorem exec_resealComplete (dt : Nat) (s : State) : exec (.resealComplete dt) s = .next (s.after (resealComplete (s.blk.elapse dt))) := rfl

theorem exec_tamperChange (dt : Nat) (isOpen : Bool) (s : State) :
    exec (.tamperChange dt isOpen) s = .next (s.after (tamperChange isOpen (s.blk.elapse dt))) := rfl

/-! ### SEAL_CMD -/

section Commands
variable {b : Blk}

theorem Blk.unseal_of_wrong (h : b.tly.sealSt ≠ .closed ∨ b.tly.unsealing = true ∨ ¬ b.regF Reg.TLY_SEAL_ARG 23 0 = b.tly.counter) :
    b.unseal = (0x8031, b.sealRefused 0x8031) := by
  have hcode : (b.tly.sealSt != .closed || b.tly.unsealing || b.regF Reg.TLY_SEAL_ARG 23 0 != b.tly.counter) = true := by
    simpa [Bool.or_eq_true, or_assoc] using h
  simp [Blk.unseal, hcode]

theorem Blk.unseal_of_code {code : Nat} (hst : b.tly.sealSt = .closed) (hrun : b.tly.unsealing = false)
    (hright : b.regF Reg.TLY_SEAL_ARG 23 0 = b.tly.counter)
    (hcode : (if b.tly.tampOpen = true then 0x8032 else if b.tly.counter = 0xFFFFFE then 0x8034 else 0) = code) (hne : code ≠ 0) :
    b.unseal = (code, b.sealRefused code) := by
  simp [Blk.unseal, hst, hrun, hright, hcode, hne]

/-- An unseal that passes its checks closes the block, counts and stages the active block (09 R353). -/
theorem Blk.unseal_of_right (hst : b.tly.sealSt = .closed) (hrun : b.tly.unsealing = false)
    (hright : b.regF Reg.TLY_SEAL_ARG 23 0 = b.tly.counter) (hshut : b.tly.tampOpen = false) (hmore : b.tly.counter ≠ 0xFFFFFE) :
    b.unseal = (0, ({ b.closeBlock 0x03 with tly := { (b.closeBlock 0x03).tly with
      counter := (b.closeBlock 0x03).tly.counter + 1, unsealing := true, staged := some (b.closeBlock 0x03).activeBlock } } : Blk).setN
        Reg.TLY_SEAL_RESULT 1) := by
  simp [Blk.unseal, hst, hrun, hright, hshut, hmore]

theorem Blk.reseal_of_wrong (h : b.tly.sealSt ≠ .unsealed ∨ ¬ b.regF Reg.TLY_SEAL_ARG 23 0 = b.tly.counter) :
    b.reseal = (0x8031, b.sealRefused 0x8031) := by
  have hcode : (b.tly.sealSt != .unsealed || b.regF Reg.TLY_SEAL_ARG 23 0 != b.tly.counter) = true := by
    simpa [Bool.or_eq_true] using h
  simp [Blk.reseal, hcode]

theorem Blk.reseal_of_code {code : Nat} (hst : b.tly.sealSt = .unsealed) (hright : b.regF Reg.TLY_SEAL_ARG 23 0 = b.tly.counter)
    (hcode : (if b.tly.tampOpen = true then 0x8032 else if (!paramOk b.stagedBlock) = true then 0x8033 else 0) = code) (hne : code ≠ 0) :
    b.reseal = (code, b.sealRefused code) := by
  simp only [Bool.not_eq_true'] at hcode
  simp [Blk.reseal, hst, hright, hcode, hne]

theorem Blk.reseal_of_right (hst : b.tly.sealSt = .unsealed) (hright : b.regF Reg.TLY_SEAL_ARG 23 0 = b.tly.counter)
    (hshut : b.tly.tampOpen = false) (hok : paramOk b.stagedBlock = true) :
    b.reseal = (0, ({ b with tly := { b.tly with sealSt := .resealing } } : Blk).setN Reg.TLY_SEAL_RESULT 1) := by
  simp [Blk.reseal, hst, hright, hshut, hok]

/-- Closing a block leaves the counter and the parameter blocks alone. -/
theorem Blk.closeBlock_kept (b : Blk) (cause : Nat) :
    (b.closeBlock cause).tly.counter = b.tly.counter ∧ (b.closeBlock cause).activeBlock = b.activeBlock ∧
      (b.closeBlock cause).stagedBlock = b.stagedBlock := by
  unfold Blk.closeBlock
  dsimp only
  split <;> exact ⟨rfl, rfl, rfl⟩

theorem isDirect_sealCmd : (accessOf Reg.TLY_SEAL_CMD).isDirect := ⟨by decide, by decide, by decide⟩

theorem isDirect_paramData : (accessOf Reg.TLYC_PARAM_DATA).isDirect := ⟨by decide, by decide, by decide⟩

/-- A permitted write of SEAL_CMD is answered with what the seal command says (09 R353). -/
theorem Blk.inRun.write1_sealCmd (h : b.inRun) {who : Who} {v : Word} (hcheck : b.writeCheck who Reg.TLY_SEAL_CMD = 0)
    (hready : b.domReady 1 = true) (hvalue : valueOk Reg.TLY_SEAL_CMD v.toNat = true) {code : Nat} {g : Blk}
    (hcmd : (b.reached Reg.TLY_SEAL_CMD).sealCmd v.toNat = (code, g)) :
    b.write1 who Reg.TLY_SEAL_CMD v = (if code = 0 then g.setN Reg.TLY_SEAL_CMD v.toNat else g).answer code 0 := by
  have hmark : (b.reached Reg.TLY_SEAL_CMD).markChanged Reg.TLY_SEAL_CMD = b.reached Reg.TLY_SEAL_CMD := by
    rw [Blk.markChanged, show directSetting Reg.TLY_SEAL_CMD = false from rfl]
    rfl
  have hnow : (b.reached Reg.TLY_SEAL_CMD).writeNow who Reg.TLY_SEAL_CMD v.toNat =
      (((b.reached Reg.TLY_SEAL_CMD).sealCmd v.toNat).1, if ((b.reached Reg.TLY_SEAL_CMD).sealCmd v.toNat).1 = 0
        then ((b.reached Reg.TLY_SEAL_CMD).sealCmd v.toNat).2.setN Reg.TLY_SEAL_CMD v.toNat
        else ((b.reached Reg.TLY_SEAL_CMD).sealCmd v.toNat).2) := rfl
  rw [h.write1_of_ready hcheck hready isDirect_sealCmd hvalue, hmark, hnow, hcmd]

/-- PARAM_DATA takes a word while Tally is unsealed, and refuses it otherwise (09 R356, R363). -/
theorem Blk.inRun.write1_paramData (h : b.inRun) {who : Who} {v : Word} (hcheck : b.writeCheck who Reg.TLYC_PARAM_DATA = 0)
    (hready : b.domReady 1 = true) :
    b.write1 who Reg.TLYC_PARAM_DATA v = ((b.reached Reg.TLYC_PARAM_DATA).paramWrite who v.toNat).2.answer
      ((b.reached Reg.TLYC_PARAM_DATA).paramWrite who v.toNat).1 0 := by
  have hmark : (b.reached Reg.TLYC_PARAM_DATA).markChanged Reg.TLYC_PARAM_DATA = b.reached Reg.TLYC_PARAM_DATA := by
    rw [Blk.markChanged, show directSetting Reg.TLYC_PARAM_DATA = false from rfl]
    rfl
  have hvalue : valueOk Reg.TLYC_PARAM_DATA v.toNat = true := by
    have hdef : valueOk Reg.TLYC_PARAM_DATA v.toNat = (fieldsOk v.toNat [⟨31, 0, 0, 0xFFFFFFFF⟩] && true && true && true) := rfl
    rw [hdef, fieldsOk_word]
    rfl
  have hnow : (b.reached Reg.TLYC_PARAM_DATA).writeNow who Reg.TLYC_PARAM_DATA v.toNat =
      (b.reached Reg.TLYC_PARAM_DATA).paramWrite who v.toNat := rfl
  rw [h.write1_of_ready hcheck hready isDirect_paramData hvalue, hmark, hnow]

theorem Blk.inRun.read1_paramData (h : b.inRun) {who : Who} (hcheck : b.readCheck who Reg.TLYC_PARAM_DATA = 0)
    (hready : b.domReady 1 = true) (hfree : lookupReg b.hiCapture Reg.TLYC_PARAM_DATA = none) :
    b.read1 who Reg.TLYC_PARAM_DATA = ((b.reached Reg.TLYC_PARAM_DATA).paramRead who).2.answer 0
      ((b.reached Reg.TLYC_PARAM_DATA).paramRead who).1 := by
  have hnow : (b.reached Reg.TLYC_PARAM_DATA).readNow who Reg.TLYC_PARAM_DATA =
      (b.reached Reg.TLYC_PARAM_DATA).paramRead who := by
    unfold Blk.readNow takeCapture
    rw [show (b.reached Reg.TLYC_PARAM_DATA).hiCapture = b.hiCapture from rfl, hfree]
    rfl
  simp only [Blk.read1, h.reaches, Bool.not_true, Bool.false_eq_true, if_false, Blk.readReg_of_ready hcheck hready, hnow]

end Commands

/-! ### Completions and the case -/

section Completions
variable {b : Blk}

theorem unsealComplete_of_running (h : b.tly.unsealing = true) : unsealComplete b =
    (((({ b with tly := { b.tly with unsealing := false, sealSt := .unsealed } } : Blk).logged 0x22).setF Reg.TLY_SEAL_RESULT 0 0 0).event
      0x50 3 0x0000).tamperOwed := by
  simp only [unsealComplete, h, Bool.not_true, Bool.false_eq_true, if_false]

theorem resealComplete_of_waiting (h : b.candWaits = true) : resealComplete b = b :=
  if_pos (by simp [h])

theorem resealComplete_of_done (h : b.tly.sealSt = .resealing) (hdone : b.candWaits = false) : resealComplete b =
    ((((({ b.closeBlock 0x03 with tly := { (b.closeBlock 0x03).tly with
      sealSt := .closed, active := some (b.closeBlock 0x03).stagedBlock, counter := (b.closeBlock 0x03).tly.counter + 1 } } : Blk).logged
        0x23).setF Reg.TLY_SEAL_RESULT 0 0 0).event 0x50 3 0x0000).engTag .tallyParam).tamperOwed :=
  if_neg (by simp [h, hdone])

theorem Blk.tamperOwed_of_held (h : b.time.ringRuns = false ∨ b.tly.unsealing = true ∨ b.tly.sealSt = .resealing) :
    b.tamperOwed = b :=
  if_pos (by simpa [Blk.tamperHeld, or_assoc] using h)

theorem Blk.tamperOwed_of_free (h : b.time.ringRuns = true) (hrun : b.tly.unsealing = false) (hst : b.tly.sealSt ≠ .resealing) :
    b.tamperOwed = b.tly.tampOwed.foldl (fun s o => s.recordTamper o) { b with tly := { b.tly with tampOwed := [] } } :=
  if_neg (by simp [Blk.tamperHeld, h, hrun, hst])

/-- The engine with the case as the pin now shows it, and the changes that are owed a record. -/
def Blk.caseShown (b : Blk) (isOpen : Bool) (owed : List Bool) : Blk :=
  { b with tly := { b.tly with tampOpen := isOpen, tampOwed := owed } }

theorem tamperChange_of_new {isOpen : Bool} (h : b.tly.supplied = true) (hnew : isOpen ≠ b.tly.tampOpen) : tamperChange isOpen b =
    (b.caseShown isOpen (b.tly.tampOwed ++ [isOpen])).tamperOwed :=
  if_neg (by simp [h, hnew])

/-- A change with none waiting before it is recorded at once (09 R352). -/
theorem tamperChange_of_free {isOpen : Bool} (h : b.tly.supplied = true) (hnew : isOpen ≠ b.tly.tampOpen) (hring : b.time.ringRuns = true)
    (hrun : b.tly.unsealing = false) (hst : b.tly.sealSt ≠ .resealing) (howed : b.tly.tampOwed = []) : tamperChange isOpen b =
    (b.caseShown isOpen b.tly.tampOwed).recordTamper isOpen := by
  rw [tamperChange_of_new h hnew, Blk.tamperOwed_of_free (b := b.caseShown isOpen (b.tly.tampOwed ++ [isOpen])) hring hrun hst, howed]
  rfl

end Completions

/-! ### O43 -/

section SealCmd
variable {b : Blk} {who : Who} {code : Nat} {g : Blk}

theorem Blk.inRun.unseal_of_taken (h : b.inRun) (hcheck : b.writeCheck who Reg.TLY_SEAL_CMD = 0) (hready : b.domReady 1 = true)
    (hcmd : (b.reached Reg.TLY_SEAL_CMD).unseal = (0, g)) :
    b.write1 who Reg.TLY_SEAL_CMD 1 = (g.setN Reg.TLY_SEAL_CMD 1).answer 0 0 :=
  h.write1_sealCmd (v := 1) hcheck hready (by decide) hcmd

theorem Blk.inRun.unseal_of_refused (h : b.inRun) (hcheck : b.writeCheck who Reg.TLY_SEAL_CMD = 0) (hready : b.domReady 1 = true)
    (hne : code ≠ 0) (hcmd : (b.reached Reg.TLY_SEAL_CMD).unseal = (code, g)) : b.write1 who Reg.TLY_SEAL_CMD 1 = g.answer code 0 := by
  rw [h.write1_sealCmd (v := 1) hcheck hready (by decide) hcmd, if_neg hne]

theorem Blk.inRun.reseal_of_taken (h : b.inRun) (hcheck : b.writeCheck who Reg.TLY_SEAL_CMD = 0) (hready : b.domReady 1 = true)
    (hcmd : (b.reached Reg.TLY_SEAL_CMD).reseal = (0, g)) :
    b.write1 who Reg.TLY_SEAL_CMD 2 = (g.setN Reg.TLY_SEAL_CMD 2).answer 0 0 :=
  h.write1_sealCmd (v := 2) hcheck hready (by decide) hcmd

theorem Blk.inRun.reseal_of_refused (h : b.inRun) (hcheck : b.writeCheck who Reg.TLY_SEAL_CMD = 0) (hready : b.domReady 1 = true)
    (hne : code ≠ 0) (hcmd : (b.reached Reg.TLY_SEAL_CMD).reseal = (code, g)) : b.write1 who Reg.TLY_SEAL_CMD 2 = g.answer code 0 := by
  rw [h.write1_sealCmd (v := 2) hcheck hready (by decide) hcmd, if_neg hne]

end SealCmd

/-- Settles O43: each command by the first check that it fails, a change of the case by whether anything holds its record back. -/
theorem theSealStateChangesAsCommanded : Obligations.TheSealStateChangesAsCommanded := by
  unfold Obligations.TheSealStateChangesAsCommanded
  intro dt i isOpen v s b r p sel right refused
  refine ⟨fun hin hcheck hready => ⟨fun hst hrun hright hshut hmore => ?_, fun hwrong => ?_, fun hst hrun hright hopen => ?_,
      fun hst hrun hright hshut hend => ?_, fun hst hright hshut hok => ?_, fun hwrong => ?_, fun hst hright hopen => ?_,
      fun hst hright hshut hbad => ?_⟩,
    fun hrun => ?_, fun hst hwaits => ?_, fun hst hdone => ?_, fun hin hcheck hready => ⟨fun hst => ?_, fun hst => ?_⟩,
    fun hin hcheck hready hfree => ?_, fun hsupplied hnew => ⟨fun hring hrun hst howed => ?_, fun hheld => ?_⟩⟩
  · rw [exec_unseal, hin.unseal_of_taken hcheck hready (Blk.unseal_of_right (b := r) hst hrun hright hshut hmore),
      (r.closeBlock_kept 0x03).1, (r.closeBlock_kept 0x03).2.1]
    rfl
  · rw [exec_unseal, hin.unseal_of_refused hcheck hready (by decide) (Blk.unseal_of_wrong (b := r) hwrong)]
  · rw [exec_unseal, hin.unseal_of_refused hcheck hready (by decide)
      (Blk.unseal_of_code (b := r) (code := 0x8032) hst hrun hright (if_pos hopen) (by decide))]
  · have hcode : (if r.tly.tampOpen = true then 0x8032 else if r.tly.counter = 0xFFFFFE then 0x8034 else 0) = 0x8034 := by
      rw [if_neg (ne_true_of_eq_false (show r.tly.tampOpen = false from hshut))]
      exact if_pos hend
    rw [exec_unseal, hin.unseal_of_refused hcheck hready (by decide) (Blk.unseal_of_code (b := r) hst hrun hright hcode (by decide))]
  · rw [exec_reseal, hin.reseal_of_taken hcheck hready (Blk.reseal_of_right (b := r) hst hright hshut hok)]
    rfl
  · rw [exec_reseal, hin.reseal_of_refused hcheck hready (by decide) (Blk.reseal_of_wrong (b := r) hwrong)]
  · rw [exec_reseal, hin.reseal_of_refused hcheck hready (by decide)
      (Blk.reseal_of_code (b := r) (code := 0x8032) hst hright (if_pos hopen) (by decide))]
  · have hcode : (if r.tly.tampOpen = true then 0x8032 else if (!paramOk r.stagedBlock) = true then 0x8033 else 0) = 0x8033 := by
      rw [if_neg (ne_true_of_eq_false (show r.tly.tampOpen = false from hshut))]
      exact if_pos ((Bool.not_eq_true' _).mpr hbad)
    rw [exec_reseal, hin.reseal_of_refused hcheck hready (by decide) (Blk.reseal_of_code (b := r) hst hright hcode (by decide))]
  · rw [exec_unsealComplete, unsealComplete_of_running hrun]
  · rw [exec_resealComplete, resealComplete_of_waiting hwaits]
  · rw [exec_resealComplete, resealComplete_of_done hst hdone, (b.closeBlock_kept 0x03).1, (b.closeBlock_kept 0x03).2.2]
  · have hwrite : p.paramWrite (some i) v.toNat = (0, ({ p with tly := { b.tly with
        staged := some (setWord b.stagedBlock (fld sel 13 0) v.toNat) } } : Blk).setSelector (some i) 0 (nextParamSel sel)) := by
      unfold Blk.paramWrite
      rw [show p.tly.sealSt = .unsealed from hst]
      rfl
    rw [exec_paramDataWrite, hin.write1_paramData hcheck hready, hwrite]
  · have hwrite : p.paramWrite (some i) v.toNat = (0x8035, p.raise 0x8035) := if_pos (bne_iff_ne.mpr hst)
    rw [exec_paramDataWrite, hin.write1_paramData hcheck hready, hwrite]
    rfl
  · rw [exec_paramDataRead, hin.read1_paramData hcheck hready hfree]
    rfl
  · rw [exec_tamperChange, tamperChange_of_free hsupplied hnew hring hrun hst howed]
    rfl
  · rw [exec_tamperChange, tamperChange_of_new hsupplied hnew,
      Blk.tamperOwed_of_held (b := b.caseShown isOpen (b.tly.tampOwed ++ [isOpen])) hheld]
    rfl

end Sys2Proof.Machine
end

section
/-! Why O44 fails: the start of a photodiode measurement notes that a moment of the channel has come (`calMet`; 10 R378), and the
statement's state after the start does not. -/
namespace Sys2Proof.Machine

theorem exec_pdCalStart (dt ch : Nat) (s : State) : exec (.pdCalStart dt ch) s = .next (s.after (pdCalStart ch (s.blk.elapse dt))) := rfl

/-- The engine after reset, with the photodiode loop on and channel 2 enabled and due for calibration. -/
def dueChannel : State :=
  { pending := []
    blk := (({ pd := { calDue := [(2, 0)] } } : Blk).setN Reg.ADM_CAL_CTL 2).setN (Reg.PDC_CFG 2) 0x10000 }

/-- The start of the measurement notes that a moment of channel 2 has come. -/
theorem dueChannel_met : (pdCalStart 2 (dueChannel.blk.elapse 0)).pd.calMet = [2] := by
  decide +kernel

/-- Refutes O44: the measurement of channel 2 of `dueChannel` starts, and `calMet` does not stay as it was. -/
theorem not_calibrationLoopsAdjustTheirUnits : ¬ Obligations.CalibrationLoopsAdjustTheirUnits := by
  unfold Obligations.CalibrationLoopsAdjustTheirUnits
  intro h
  obtain ⟨-, -, -, -, hstart, -⟩ :=
    h 0 0 2 0 0 0 0 [] [] { ch := 2, since := 0, input := 0, k := 0, code := 0, wait := 0 } ((dueChannel.blk.elapse 0).slotMay .pd 2).2 dueChannel
  have hexec := hstart (by decide +kernel) (by decide +kernel) (by decide +kernel) (by decide +kernel) (by decide +kernel)
    (by decide +kernel)
  have hleaves : Leaves (.pdCalStart 0 2) dueChannel (fun c => c.pd.calMet = []) := leaves_of_exec hexec (by decide +kernel)
  have hmet := hleaves.of_exec (exec_pdCalStart 0 2 dueChannel)
  rw [Blk.settle_pd, dueChannel_met] at hmet
  exact absurd hmet (by decide)

end Sys2Proof.Machine
end

section
/-! Why O45 fails: the loop's own scan has its turn before a scan a write asked for when it was deferred before that one (`Blk.loopFirst`;
02 R74), and the statement does not ask that none was. -/
namespace Sys2Proof.Machine

theorem exec_laneEqScan (dt : Nat) (pts : List Word) (s : State) :
    exec (.laneEqScan dt pts) s = .next (s.after (laneEqScan pts (s.blk.elapse dt))) := rfl

/-- The engine with its link up, the loop's scan of lane 2 deferred, and a scan of lane 1 asked for since. -/
def deferredLoopScan : State :=
  { pending := []
    blk := { cal := { waiting := [(.eq, 2)] }
             lnk := { ({} : LnkSt) with state := .up, eqLane := 2, lanes := upd ({} : LnkSt).lanes 1 (fun l => { l with scanAsked := true }) } } }

/-- No slot runs: the loop's scan, whose turn it is, is not due. -/
theorem deferredLoopScan_waits : (laneEqScan [] (deferredLoopScan.blk.elapse 0)).cal.slotsRun = 0 := by
  decide +kernel

/-- Refutes O45: the scan of lane 1 of `deferredLoopScan` may run and is asked for, but the loop's scan has its turn first. -/
theorem not_slotsRunWhenDue : ¬ Obligations.SlotsRunWhenDue := by
  unfold Obligations.SlotsRunWhenDue
  intro h
  obtain ⟨-, hasked, -⟩ := h 0 1 [] [] ((deferredLoopScan.blk.elapse 0).slotMay .eye 1).2 deferredLoopScan
  have hexec := hasked (by decide +kernel) (by decide +kernel)
  have hleaves : Leaves (.laneEqScan 0 []) deferredLoopScan (fun c => c.cal.slotsRun = 1) := leaves_of_exec hexec (by decide +kernel)
  have hruns := hleaves.of_exec (exec_laneEqScan 0 [] deferredLoopScan)
  rw [Blk.settle_cal, deferredLoopScan_waits] at hruns
  exact absurd hruns (by decide)

end Sys2Proof.Machine
end

section
/-! Why O46 fails: a fit whose store held an uncorrectable word is run again from the Tally records (`Campaign.storeBad`; 15 R577), and
the statement's packet does not wait for that. -/
namespace Sys2Proof.Machine

theorem exec_fitEnd (dt seq : Nat) (unitFault : Bool) (s : State) :
    exec (.fitEnd dt seq unitFault) s = .next (s.after (fitEnd seq unitFault (s.blk.elapse dt))) := rfl

/-- A campaign's job, with no marks. -/
def emptyCampaignJob : Job := { seq := 12, desc := [3, 3], acceptedAt := 0 }

/-- A campaign whose fit runs, with an uncorrectable word in its fit store. -/
def badStoreCampaign : Campaign := { jobSeq := 12, tag := 0, start := some 0, deadline := 1000000000, fitAt := some 0, storeBad := true }

/-- The engine with that campaign on its first fit unit. -/
def badFitStore : State :=
  { pending := [], blk := { jobs := [emptyCampaignJob], cal := { units := [some badStoreCampaign, none] } } }

/-- The end of the fit leaves no packet: the fit starts again. -/
theorem badFitStore_refits : (fitEnd 12 false (badFitStore.blk.elapse 0)).store.corr = [] := by
  decide +kernel

/-- Refutes O46: the fit of `badFitStore` ends in time and without a fault of its unit, and no packet stands in the correction store. -/
theorem not_campaignsAreFitted : ¬ Obligations.CampaignsAreFitted := by
  unfold Obligations.CampaignsAreFitted
  intro h
  obtain ⟨-, -, hend⟩ := h 0 0 emptyCampaignJob badStoreCampaign badFitStore (by decide +kernel) (by decide +kernel) rfl
  obtain ⟨hpacket, -⟩ := hend rfl (by decide)
  obtain ⟨hcorr, -⟩ := hpacket.of_exec (exec_fitEnd 0 12 false badFitStore)
  rw [Blk.settle_store, badFitStore_refits] at hcorr
  exact absurd hcorr.symm (List.append_ne_nil_of_right_ne_nil _ (List.cons_ne_nil _ _))

end Sys2Proof.Machine
end

section
/-! Conductions, row outputs and the duty rule (11 R397 to R405, R419): O47. -/
namespace Sys2Proof.Machine

theorem exec_prechargeStart (dt : Nat) (s : State) : exec (.prechargeStart dt) s = .next (s.after (prechargeStart (s.blk.elapse dt))) := rfl

theorem exec_rowdrvAssert (dt : Nat) (s : State) : exec (.rowdrvAssert dt) s = .next (s.after (rowdrvAssert (s.blk.elapse dt))) := rfl

theorem exec_conductionStart (dt : Nat) (s : State) :
    exec (.conductionStart dt) s = .next (s.after (conductionStart (s.blk.elapse dt))) := rfl

theorem exec_conductionEnd (dt : Nat) (s : State) : exec (.conductionEnd dt) s = .next (s.after (conductionEnd (s.blk.elapse dt))) := rfl

theorem exec_dutyClamp (dt col : Nat) (s : State) : exec (.dutyClamp dt col) s = .next (s.after (dutyClamp col (s.blk.elapse dt))) := rfl

/-! ### What latching drives changes -/

/-- Only the illumination's own state and registers may differ. -/
def Blk.LitRegs (b c : Blk) : Prop := ∃ lit regs, c = { b with lit := lit, regs := regs }

theorem Blk.LitRegs.refl (b : Blk) : b.LitRegs b := ⟨b.lit, b.regs, rfl⟩

theorem Blk.LitRegs.trans {b c d : Blk} (h : b.LitRegs c) (k : c.LitRegs d) : b.LitRegs d := by
  obtain ⟨lit, regs, rfl⟩ := h
  obtain ⟨lit', regs', rfl⟩ := k
  exact ⟨lit', regs', rfl⟩

theorem Blk.LitRegs.ite {b c d : Blk} {p : Prop} [Decidable p] (h : b.LitRegs c) (k : b.LitRegs d) : b.LitRegs (if p then c else d) := by
  split
  · exact h
  · exact k

theorem Blk.litRegs_foldl {α β : Type} {blk : β → Blk} {f : β → α → β} (hf : ∀ x a, (blk x).LitRegs (blk (f x a))) (l : List α) (x : β) :
    (blk x).LitRegs (blk (l.foldl f x)) := by
  induction l generalizing x with
  | nil => exact .refl _
  | cons a l ih => exact (hf x a).trans (ih (f x a))

section Latching
variable (b : Blk)

theorem Blk.litRegs_setReg (a : Nat) (v : Word) : b.LitRegs (b.setReg a v) := ⟨b.lit, putReg b.regs a v, rfl⟩

theorem Blk.litRegs_lit (lit : LitSt) : b.LitRegs { b with lit := lit } := ⟨lit, b.regs, rfl⟩

theorem Blk.litRegs_latchCol (row c : Nat) (top : LitSrc) (l : List Want) : b.LitRegs (b.latchCol row c top l).2 := by
  unfold Blk.latchCol
  extract_lets x
  have hsink : b.LitRegs x := b.litRegs_lit _
  refine hsink.trans ?_
  split
  · exact .refl x
  · next src i _ =>
    split
    · exact .refl x
    · have hcut (p : Prop) [Decidable p] : x.LitRegs (if p then x.bump Reg.LIT_CLAMPS 31 16 1 else x) :=
        .ite (x.litRegs_setReg _ _) (.refl x)
      exact (hcut _).trans (Blk.litRegs_setReg _ _ _)

theorem length_fst_foldl {α β γ : Type} {f : List α × β → γ → List α × β} (hf : ∀ x c, (f x c).1.length = x.1.length + 1) (l : List γ)
    (x : List α × β) : (l.foldl f x).1.length = x.1.length + l.length := by
  induction l generalizing x with
  | nil => rfl
  | cons c l ih => rw [List.foldl_cons, ih, hf, List.length_cons]; omega

theorem Blk.latchCols_spec (row : Nat) (top : LitSrc) (l : List Want) :
    (b.latchCols row top l).1.length = 24 ∧ b.LitRegs (b.latchCols row top l).2 := by
  unfold Blk.latchCols
  refine ⟨?_, Blk.litRegs_foldl (blk := fun x : List ColDrive × Blk => x.2) (fun x c => x.2.litRegs_latchCol row c top l) _ ([], b)⟩
  rw [length_fst_foldl (fun x c => List.length_append)]
  rfl

theorem Blk.dropIdle_spec (row : Nat) (cols : List ColDrive) (dur : Option Nat) :
    (b.dropIdle row cols dur).1.length = cols.length ∧ b.LitRegs (b.dropIdle row cols dur).2 :=
  ⟨List.length_map _, Blk.litRegs_foldl (blk := id) (fun x _ => x.litRegs_lit _) _ b⟩

/-- A stretch lengthens a conduction to 2 µs, or leaves it as it is (11 R422). -/
theorem Blk.stretch_spec (w : Want) (c : Conduct) (hfresh : c.stretch = false) :
    b.LitRegs (b.stretch w c).2 ∧ (b.stretch w c).1.src = c.src ∧ (b.stretch w c).1.row = c.row ∧ (b.stretch w c).1.start4 = c.start4 ∧
      (b.stretch w c).1.cols.length = c.cols.length ∧ ((b.stretch w c).1.stretch = false → (b.stretch w c).1 = c) ∧
      ((b.stretch w c).1.stretch = true → (b.stretch w c).1.end4 = some (c.start4 + 2500)) := by
  unfold Blk.stretch
  extract_lets short prog owes l e4 cols e x y
  split
  · exact ⟨.refl b, rfl, rfl, rfl, rfl, fun _ => rfl, fun h => absurd (hfresh.symm.trans h) (by decide)⟩
  · have hpat : b.LitRegs x := b.litRegs_lit _
    have hpos : x.LitRegs y := Blk.litRegs_foldl (blk := id) (fun z i => (z.litRegs_lit _).trans (Blk.litRegs_setReg _ _ _)) l x
    refine ⟨hpat.trans (hpos.trans (y.litRegs_setReg _ _)), rfl, rfl, rfl, ?_, fun h => Bool.noConfusion (h : true = false), fun _ => rfl⟩
    exact (List.length_map _).trans (List.length_zipIdx)

end Latching

/-! ### Pre-charge, row and conduction -/

section Rows
variable {b : Blk} {w : Want}

theorem prechargeStart_of_due (htop : b.litReview.top = some w) (hprech : b.litReview.lit.prech = none) (hcond : b.litReview.lit.cond = none)
    (hdue : b.litReview.dueQ w.ps = true) (hopen : w.src = .strobe → w.ce.all (fun e => decide (b.litReview.q < e)) = true) :
    prechargeStart b = { b.litReview with lit := { b.litReview.lit with prech := some (w.src, w.row, b.litReview.at4 w.ps), rowdrv := none } } := by
  unfold prechargeStart
  generalize b.litReview = r at *
  dsimp only
  rw [htop]
  dsimp only
  rw [hprech, hcond, hdue]
  simp only [Option.isSome_none, Bool.not_true, Bool.false_eq_true, if_false]
  refine if_neg fun h => ?_
  obtain ⟨hstrobe, hpast⟩ := Bool.and_eq_true_iff.mp h
  have hleft := hopen (of_decide_eq_true hstrobe)
  cases hce : w.ce with
  | none => simp [hce] at hpast
  | some e =>
    simp only [hce, decide_eq_true_eq, Option.all_some] at hpast hleft
    omega

theorem rowdrvAssert_of_due {src : LitSrc} {row since : Nat} (hprech : b.lit.prech = some (src, row, since)) (htop : b.top = some w)
    (hdue : b.dueQ (max since (b.condAt w since - b.leadOf w)) = true) :
    rowdrvAssert b = { b with lit := { b.lit with rowdrv := some row } } := by
  unfold rowdrvAssert
  rw [hprech, htop]
  exact if_pos hdue

/-- The drives that a conduction latches, with those apart that draw no current in it. -/
def Blk.drives (r : Blk) (row : Nat) (src : LitSrc) (w : Want) (since : Nat) : List ColDrive × Blk :=
  (r.latchCols row src r.wants).2.dropIdle row (r.latchCols row src r.wants).1
    (w.ce.map (fun e => e - (r.latchCols row src r.wants).2.at4 (r.condAt w since)))

theorem Blk.drives_spec (r : Blk) (row : Nat) (src : LitSrc) (w : Want) (since : Nat) :
    (r.drives row src w since).1.length = 24 ∧ r.LitRegs (r.drives row src w since).2 := by
  obtain ⟨hlength, hkept⟩ := r.latchCols_spec row src r.wants
  obtain ⟨hlength', hkept'⟩ := (r.latchCols row src r.wants).2.dropIdle_spec row (r.latchCols row src r.wants).1
    (w.ce.map (fun e => e - (r.latchCols row src r.wants).2.at4 (r.condAt w since)))
  exact ⟨hlength'.trans hlength, hkept.trans hkept'⟩

/-- The conduction that a request begins. -/
def Blk.conduct (x : Blk) (row : Nat) (src : LitSrc) (w : Want) (cs : Nat) (cols : List ColDrive) : Conduct :=
  { src := src, row := row, cols := cols, start4 := x.at4 cs, end4 := w.ce,
    used := (List.range 24).map (fun i => (x.colSource row i src x.wants).map (·.1)) }

section Start
variable {src : LitSrc} {row since : Nat} (hprech : b.litReview.lit.prech = some (src, row, since)) (htop : b.litReview.top = some w)
  (hdue : b.litReview.dueQ (b.litReview.condAt w since) = true)
  (hopen : w.ce.all (fun e => decide (b.litReview.condAt w since < e)) = true)
include hprech htop hdue hopen

theorem conductionStart_eq : conductionStart b =
    (let p := b.litReview.drives row src w since
     if p.1.all (fun d => d.code = 0) then { p.2 with lit := { p.2.lit with prech := none, rowdrv := none } }
     else
       let k := p.2.stretch w (p.2.conduct row src w (b.litReview.condAt w since) p.1)
       { k.2 with
         lit := { k.2.lit with prech := none, rowdrv := some row, cond := some k.1 }
         sns := { k.2.sns with
           frames := k.2.sns.frames.map (fun f => if f.exposing then { f with sectors := putBit f.sectors row true } else f) } }) := by
  unfold conductionStart Blk.drives Blk.conduct
  generalize b.litReview = r at *
  dsimp only
  rw [hprech, htop]
  dsimp only
  generalize (r.latchCols row src r.wants).2.dropIdle row (r.latchCols row src r.wants).1
    (w.ce.map (fun e => e - (r.latchCols row src r.wants).2.at4 (r.condAt w since))) = p
  have hstarts : ¬ ((!r.dueQ (r.condAt w since) || (match w.ce with | some e => decide (e ≤ r.condAt w since) | none => false)) = true) := by
    rw [hdue]
    cases hce : w.ce with
    | none => simp
    | some e =>
      simp only [hce, decide_eq_true_eq, Option.all_some] at hopen
      simpa using hopen
  exact if_neg hstarts

theorem conductionStart_of_dark (hdark : (b.litReview.drives row src w since).1.all (fun d => d.code = 0) = true) :
    conductionStart b = { (b.litReview.drives row src w since).2 with
      lit := { (b.litReview.drives row src w since).2.lit with prech := none, rowdrv := none } } := by
  rw [conductionStart_eq hprech htop hdue hopen]
  exact if_pos hdark

/-- A conduction in which some column draws current stands with what its columns latched, or is stretched (11 R397, R402, R408, R422). -/
theorem conductionStart_of_light (hlight : (b.litReview.drives row src w since).1.any (fun d => d.code != 0) = true) :
    (∃ x, (conductionStart b).lit.cond = some x ∧ x.src = src ∧ x.row = row ∧
      x.start4 = b.litReview.at4 (b.litReview.condAt w since) ∧ x.cols.length = 24 ∧
      (x.stretch = false → x.cols = (b.litReview.drives row src w since).1 ∧ x.end4 = w.ce) ∧
      (x.stretch = true → x.end4 = some (x.start4 + 2500))) ∧
    (conductionStart b).lit.prech = none ∧ (conductionStart b).lit.rowdrv = some row ∧
    (conductionStart b).sns.frames = b.litReview.sns.frames.map
      (fun f => if f.exposing then { f with sectors := putBit f.sectors row true } else f) ∧
    (conductionStart b).jobs = b.jobs ∧ (conductionStart b).store = b.store := by
  rw [conductionStart_eq hprech htop hdue hopen]
  obtain ⟨hlength, hdrives⟩ := b.litReview.drives_spec row src w since
  obtain ⟨lit, regs, evt, flog, frames, doms, hreview⟩ := b.lightOnly_litReview
  have hjobs : b.litReview.jobs = b.jobs ∧ b.litReview.store = b.store := by
    rw [hreview]
    exact ⟨rfl, rfl⟩
  clear hreview
  rw [← hjobs.1, ← hjobs.2]
  generalize b.litReview.drives row src w since = p at *
  generalize b.litReview = r at *
  have hsome : ¬ p.1.all (fun d => decide (d.code = 0)) = true := by
    rw [List.any_eq_true] at hlight
    obtain ⟨d, hd, hcode⟩ := hlight
    exact fun hall => (bne_iff_ne.mp hcode) (of_decide_eq_true (List.all_eq_true.mp hall d hd))
  dsimp only
  rw [if_neg hsome]
  obtain ⟨hkept, hsrc, hrow, hstart, hcols, hplain, hstretched⟩ :=
    p.2.stretch_spec w (p.2.conduct row src w (r.condAt w since) p.1) rfl
  have hat : p.2.at4 (r.condAt w since) = r.at4 (r.condAt w since) := by
    obtain ⟨lit, regs, hp⟩ := hdrives
    rw [hp]
    rfl
  have hstart' : (p.2.conduct row src w (r.condAt w since) p.1).start4 = r.at4 (r.condAt w since) := hat
  generalize p.2.stretch w (p.2.conduct row src w (r.condAt w since) p.1) = k at *
  obtain ⟨lit, regs, hall⟩ := hdrives.trans hkept
  refine ⟨⟨k.1, rfl, hsrc, hrow, hstart.trans hstart', hcols.trans hlength, fun h => ?_, fun h => ?_⟩, rfl, rfl, ?_, ?_, ?_⟩
  · rw [hplain h]
    exact ⟨rfl, rfl⟩
  · rw [hstretched h, hstart]
  · rw [hall]
  · rw [hall]
  · rw [hall]

end Start

theorem conductionEnd_of_due {k : Conduct} {e4 : Nat} (hcond : b.lit.cond = some k) (hend : k.end4 = some e4) (hdue : b.dueQ e4 = true) :
    conductionEnd b = b.endCond := by
  unfold conductionEnd
  rw [hcond]
  dsimp only
  rw [hend]
  exact if_pos hdue

theorem Blk.judged_cond {k : Conduct} (hcond : b.lit.cond = some k) : ∃ x, b.judged.lit.cond = some x := by
  unfold Blk.judged
  rw [hcond]
  exact ⟨_, rfl⟩

theorem Blk.endCond_dark {k : Conduct} (hcond : b.lit.cond = some k) : b.endCond.lit.cond = none ∧ b.endCond.lit.rowdrv = none := by
  obtain ⟨x, hx⟩ := Blk.judged_cond hcond
  unfold Blk.endCond
  dsimp only
  rw [hx]
  exact ⟨rfl, rfl⟩

end Rows

/-! ### Limits of the sinks -/

theorem sinkLimit_ge (half low : Bool) : 1600 ≤ sinkLimit half low := by
  cases half <;> cases low <;> decide

/-- A drive exceeds the current it stands for by at most half a step (11 R401). -/
theorem driveOf_code_le {n d lim : Nat} (hd : 0 < d) (hn : 3 * n ≤ lim * d) (hlim : 749 ≤ lim) : 3 * (driveOf n d).code ≤ lim + 1 := by
  unfold driveOf
  dsimp only
  split
  · exact Nat.zero_le _
  · split
    · have hround : (2 * n + d) / (2 * d) * (2 * d) ≤ 2 * n + d := Nat.div_mul_le_self _ _
      dsimp only
      generalize (2 * n + d) / (2 * d) = q at hround
      have hq : 3 * q * (2 * d) < (lim + 2) * (2 * d) := by
        calc 3 * q * (2 * d) = 3 * (q * (2 * d)) := Nat.mul_assoc _ _ _
          _ ≤ 3 * (2 * n + d) := Nat.mul_le_mul_left 3 hround
          _ = 2 * (3 * n) + 3 * d := by ring
          _ ≤ 2 * (lim * d) + 3 * d := by omega
          _ < (lim + 2) * (2 * d) := by nlinarith
      have := Nat.lt_of_mul_lt_mul_right hq
      omega
    · split
      · dsimp only; omega
      · dsimp only; omega

theorem Blk.colDrive_le (x : Blk) (c : Nat) (i : Nat × Nat) (h : 0 < i.2) :
    3 * (x.colDrive c i).1.code ≤ sinkLimit (x.sink c).half ((x.sink c).lowered || x.pwr.mode = .rosemary) + 1 := by
  have hlim := sinkLimit_ge (x.sink c).half ((x.sink c).lowered || x.pwr.mode = .rosemary)
  unfold Blk.colDrive
  dsimp only
  generalize sinkLimit (x.sink c).half ((x.sink c).lowered || x.pwr.mode = .rosemary) = lim at hlim
  split
  · exact driveOf_code_le (by decide) (by omega) (by omega)
  · exact driveOf_code_le h (by omega) (by omega)

section Duty
variable {b : Blk} {k : Conduct} {col : Nat}

/-- The sink lowered to its continuous limit, as the duty rule leaves it. -/
theorem dutyClamp_of_hot (hcond : b.lit.cond = some k) (hcol : col < 24) (hlowered : (b.sink col).lowered = false)
    (hhot : hotCode (b.sink col).half (k.cols.getD col {}) = true) (htime : 250000 ≤ (b.hotTime col).1)
    (hrecent : b.lit.clampAt.any (fun t => decide (b.now < t + 625000)) = true) :
    dutyClamp col b = (((({ b.updSink col (fun q => { q with
        lowered := true, hot := ((k.cols.getD col {}).start k.start4 + (k.cols.getD col {}).cut4, b.q) :: q.hot }) with
      lit := { (b.updSink col (fun q => { q with
        lowered := true, hot := ((k.cols.getD col {}).start k.start4 + (k.cols.getD col {}).cut4, b.q) :: q.hot })).lit with
        cond := some { k with cols := upd k.cols col (fun y => { y with code := if (b.sink col).half then 533 else 1067 }) } } } : Blk).setF
      (Reg.LITC_COL_STAT col) 11 0 (if (b.sink col).half then 533 else 1067)).bump Reg.LIT_CLAMPS 15 0 1)) := by
  have hno : ¬ (24 ≤ col ∨ (b.sink col).lowered = true ∨ (!hotCode (b.sink col).half (k.cols.getD col {})) = true ∨
      ((b.hotTime col).1 < 250000 ∧ (b.hotTime col).2 < 250000)) := by
    rw [hlowered, hhot]
    simp only [Bool.not_true, Bool.false_eq_true, false_or, not_or, not_and_or, not_lt]
    exact ⟨by omega, .inl htime⟩
  unfold dutyClamp
  dsimp only
  rw [hcond]
  dsimp only
  rw [if_neg hno]
  refine if_neg ?_
  obtain ⟨t, ht, hlt⟩ := (Option.any_eq_true _ _).mp hrecent
  change ¬ (match b.lit.clampAt with | some t => decide (t + 625000 ≤ b.now) | none => true) = true
  rw [ht]
  simpa using hlt

end Duty

/-! ### O47 -/

/-- Settles O47: each start and end by what its source asks for, the limits by the rounding of a drive. -/
theorem rowsConductForTheirSource : Obligations.RowsConductForTheirSource := by
  unfold Obligations.RowsConductForTheirSource
  intro dt row since col e4 src w k s b r open_
  refine ⟨fun htop hprech hcond hdue hopen => ?_, fun hprech htop hdue => ?_,
    fun hprech htop hdue hopen => ?_, fun hcond hend hdue => ⟨?_, Blk.endCond_dark hcond⟩,
    Blk.colDrive_le, fun hcond hcol hlowered hhot htime hrecent => ?_⟩
  · rw [exec_prechargeStart, prechargeStart_of_due htop hprech hcond hdue hopen]
  · rw [exec_rowdrvAssert, rowdrvAssert_of_due hprech htop hdue]
  · intro l p
    have hp : p = r.drives row src w since := rfl
    rw [hp]
    refine ⟨fun hdark => ?_, fun hlight => ?_⟩
    · rw [exec_conductionStart, conductionStart_of_dark hprech htop hdue hopen hdark]
    · exact leaves_of_exec (exec_conductionStart dt s) (conductionStart_of_light hprech htop hdue hopen hlight)
  · rw [exec_conductionEnd, conductionEnd_of_due hcond hend hdue]
  · rw [exec_dutyClamp, dutyClamp_of_hot hcond hcol hlowered hhot htime hrecent]

end Sys2Proof.Machine
end

section
/-! Why O48 fails: the shutdown on an open or shorted thermistor ends the conduction under way, and a reading that is judged then may find
an open position: its fault 0x7011 is on the same page and overtakes the thermistor's in FAULT. -/
namespace Sys2Proof.Machine

theorem exec_ltempRead (dt ohms vled : Nat) (s : State) :
    exec (.ltempRead dt ohms vled) s = .next (s.after (ltempRead ohms vled (s.blk.elapse dt))) := rfl

/-- A conduction of row 0 with a reading of column 0 that found no current. -/
def unjudgedConduct : Conduct :=
  { src := .pat0, row := 0, cols := [{ code := 1000 }], start4 := 0, tested := [0], readings := [{ col := 0, ia := 0, ib := 0, volt := 0 }] }

/-- The engine 1 000 ticks into that conduction, the position once found open, with the thermistor in use. -/
def unjudgedReading : State :=
  { pending := []
    blk := ({ now := 1000, lit := { cond := some unjudgedConduct, pos := { opens := 1 } :: List.replicate 191 {} } } : Blk).setN Reg.LIT_THERM 1 }

/-- FAULT of the LIT page shows the open position. -/
theorem unjudgedReading_fault : (ltempRead 1000001 0 (unjudgedReading.blk.elapse 0)).regF (Reg.HDR_FAULT 0x48) 15 0 = 0x7011 := by
  decide +kernel

/-- Refutes O48: the thermistor of `unjudgedReading` reads open, and FAULT shows 0x7011, not 0x7043. -/
theorem not_lampsAreTestedAndProtected : ¬ Obligations.LampsAreTestedAndProtected := by
  unfold Obligations.LampsAreTestedAndProtected
  intro h
  obtain ⟨-, -, -, -, htherm, -⟩ := h 0 0 0 0 0 1000001 0 0 0 unjudgedConduct unjudgedReading
  obtain ⟨hopen, -⟩ := htherm (by decide +kernel) (by decide +kernel)
  obtain ⟨-, -, hfault⟩ := (hopen (by decide) (by decide +kernel)).of_exec (exec_ltempRead 0 1000001 0 unjudgedReading)
  rw [Blk.regF_congr (Blk.settle_regs _), unjudgedReading_fault] at hfault
  exact absurd hfault (by decide)

end Sys2Proof.Machine
end

section
/-! The pattern engines' programs (11 R409 to R414): O49. -/
namespace Sys2Proof.Machine

theorem exec_patStepExpiry (dt e : Nat) (s : State) : exec (.patStepExpiry dt e) s = .next (s.after (patStepExpiry e (s.blk.elapse dt))) :=
  rfl

theorem exec_patRampUnit (dt e : Nat) (s : State) : exec (.patRampUnit dt e) s = .next (s.after (patRampUnit e (s.blk.elapse dt))) := rfl

theorem exec_patWaitexpTimeout (dt e : Nat) (s : State) :
    exec (.patWaitexpTimeout dt e) s = .next (s.after (patWaitexpTimeout e (s.blk.elapse dt))) := rfl

theorem exec_muxSlot (dt e : Nat) (s : State) : exec (.muxSlot dt e) s = .next (s.after (muxSlot e (s.blk.elapse dt))) := rfl

section Programs
variable {b : Blk} {e : Nat} (hrun : (b.pat e).running = true)
include hrun

/-- A HOLD that has lasted its duration goes on (11 R411). -/
theorem patStepExpiry_of_hold (hdue : b.dueQ ((b.pat e).stepAt4 + fld (b.patWord e) 15 0 * b.unit4 e) = true)
    (hop : fld (b.patWord e) 31 28 = 3) :
    patStepExpiry e b = b.patNext e ((b.pat e).stepAt4 + fld (b.patWord e) 15 0 * b.unit4 e) (fun x => x) := by
  unfold patStepExpiry
  simp only [hrun, hop, hdue, decide_true, Bool.or_true, Bool.and_self, if_true, show ¬ (3 : Nat) = 2 by decide, if_false]

/-- A RAMP that has lasted its duration goes on at its target (11 R411). -/
theorem patStepExpiry_of_ramp (hdue : b.dueQ ((b.pat e).stepAt4 + fld (b.patWord e) 15 0 * b.unit4 e) = true)
    (hop : fld (b.patWord e) 31 28 = 2) :
    patStepExpiry e b = b.patNext e ((b.pat e).stepAt4 + fld (b.patWord e) 15 0 * b.unit4 e)
      (fun x => { x with level := fld (b.patWord e) 27 16 }) := by
  unfold patStepExpiry
  simp only [hrun, hop, hdue, decide_true, Bool.true_or, Bool.and_self, if_true]

theorem patRampUnit_of_due (hop : fld (b.patWord e) 31 28 = 2) (hleft : (b.pat e).elapsed < fld (b.patWord e) 15 0)
    (hdue : b.dueQ ((b.pat e).stepAt4 + ((b.pat e).elapsed + 1) * b.unit4 e) = true) :
    patRampUnit e b = (b.updPat e (fun x => { x with
      elapsed := (b.pat e).elapsed + 1
      level := (((b.pat e).lev0 : Int) + Q.rhaz ⟨((fld (b.patWord e) 27 16 : Int) - (b.pat e).lev0) * ((b.pat e).elapsed + 1 : Nat),
        fld (b.patWord e) 15 0⟩).toNat })).patMoved e (b.pat e) :=
  if_pos (by simp only [hrun, hop, hdue, decide_true, Bool.true_and, Bool.and_true, decide_eq_true_eq]; omega)

theorem patWaitexpTimeout_of_due (hwait : (b.pat e).waiting = true) (hset : fld (b.patWord e) 15 0 ≠ 0)
    (hdue : b.dueQ ((b.pat e).stepAt4 + fld (b.patWord e) 15 0 * b.unit4 e) = true) :
    patWaitexpTimeout e b = b.patNext e ((b.pat e).stepAt4 + fld (b.patWord e) 15 0 * b.unit4 e) (fun x => { x with timedOut := true }) :=
  if_pos (by simp [hrun, hwait, hset, hdue])

/-- What the engine itself conducts ends with its multiplex slot (11 R413). -/
def Blk.slotEnded (b : Blk) (e : Nat) : Blk :=
  match b.lit.cond with
  | some c => if c.src = LitSrc.pat e then b.endCond else b
  | none => b

theorem muxSlot_of_due (hrows : 2 ≤ popcount 8 (b.pat e).rows) (hdue : b.dueQ ((b.pat e).slotAt4 + b.mux4) = true) :
    muxSlot e b = prechargeStart ((b.slotEnded e).updPat e (fun y =>
      { y with slotAt4 := (b.pat e).slotAt4 + b.mux4, slotRow := nextRow y.rows y.slotRow })) :=
  if_pos (by simp [hrun, hrows, hdue])

end Programs

theorem roundHalfUp_mul (x : Int) {n : Nat} (h : 0 < n) : roundHalfUp (x * n) n = x := by
  have hhalf : (n : Int) / (2 * n) = 0 := Int.ediv_eq_zero_of_lt (by omega) (by omega)
  rw [roundHalfUp, show 2 * (x * n) + (n : Int) = n + x * (2 * n) by ring, Int.add_mul_ediv_right _ _ (by omega), hhalf, zero_add]

/-- In its last unit a RAMP meets its target (11 R412). -/
theorem ramp_last (lev0 target : Int) {n : Nat} (h : 0 < n) : lev0 + Q.rhaz ⟨(target - lev0) * n, n⟩ = target := by
  have hneg : -((target - lev0) * (n : Int)) = -(target - lev0) * n := by ring
  simp only [Q.rhaz, Q.rhu, Q.neg, hneg, roundHalfUp_mul _ h]
  split <;> omega

/-- Settles O49: every step of an engine by the branch that its word and the time name. -/
theorem patternsRunTheirPrograms : Obligations.PatternsRunTheirPrograms := by
  unfold Obligations.PatternsRunTheirPrograms
  intro dt e s b p w n end4 hrun
  refine ⟨fun hdue hop => ?_, fun hdue hop => ?_, fun hop hleft hdue => ⟨?_, fun hlast => ?_⟩, fun hwait hset hdue => ?_,
    fun hrows hdue => ?_⟩
  · rw [exec_patStepExpiry, patStepExpiry_of_hold hrun hdue hop]
  · rw [exec_patStepExpiry, patStepExpiry_of_ramp hrun hdue hop]
  · rw [exec_patRampUnit, patRampUnit_of_due hrun hop hleft hdue]
  · rw [hlast]
    exact ramp_last _ _ (Nat.zero_lt_of_lt hleft)
  · rw [exec_patWaitexpTimeout, patWaitexpTimeout_of_due hrun hwait hset hdue]
  · rw [exec_muxSlot, muxSlot_of_due hrun hrows hdue]
    rfl

end Sys2Proof.Machine
end

section
/-! Acknowledgement, replay, reception and transmission on the lane link (14 R525 to R534): O50. -/
namespace Sys2Proof.Machine

theorem exec_ackReceive (dt lseq credit : Nat) (s : State) :
    exec (.ackReceive dt lseq credit) s = .next (s.after (ackReceive lseq credit (s.blk.elapse dt))) := rfl

theorem exec_nakReceive (dt lseq credit : Nat) (s : State) :
    exec (.nakReceive dt lseq credit) s = .next (s.after (nakReceive lseq credit (s.blk.elapse dt))) := rfl

theorem exec_replayTimer (dt : Nat) (s : State) : exec (.replayTimer dt) s = .next (s.after (replayTimer (s.blk.elapse dt))) := rfl

theorem exec_linkPacketBad (dt : Nat) (sop data : List Byte) (s : State) :
    exec (.linkPacketBad dt sop data) s = .next (s.after (linkPacketBad sop data (s.blk.elapse dt))) := rfl

theorem exec_ackSend (dt : Nat) (s : State) : exec (.ackSend dt) s = .next (s.after (ackSend (s.blk.elapse dt))) := rfl

theorem exec_linkTransmit (dt : Nat) (s : State) : exec (.linkTransmit dt) s = .next (s.after (linkTransmit (s.blk.elapse dt))) := rfl

theorem exec_packetDiscard (dt ptype : Nat) (s : State) :
    exec (.packetDiscard dt ptype) s = .next (s.after (packetDiscard ptype (s.blk.elapse dt))) := rfl

/-! ### What a delivery to the partner leaves of the link -/

/-- The link, its wire, the registers and the time stand as they were. -/
def Blk.KeepsLink (b c : Blk) : Prop := c.lnk = b.lnk ∧ c.wire = b.wire ∧ c.regs = b.regs ∧ c.now = b.now

theorem Blk.KeepsLink.refl (b : Blk) : b.KeepsLink b := ⟨rfl, rfl, rfl, rfl⟩

theorem Blk.KeepsLink.trans {b c d : Blk} (h : b.KeepsLink c) (k : c.KeepsLink d) : b.KeepsLink d :=
  ⟨k.1.trans h.1, k.2.1.trans h.2.1, k.2.2.1.trans h.2.2.1, k.2.2.2.trans h.2.2.2⟩

theorem Blk.KeepsLink.ite {b c d : Blk} {p : Prop} [Decidable p] (h : b.KeepsLink c) (k : b.KeepsLink d) :
    b.KeepsLink (if p then c else d) := by
  split
  · exact h
  · exact k

theorem Blk.keepsLink_foldl {α : Type} {f : Blk → α → Blk} (hf : ∀ (x : Blk) a, x.KeepsLink (f x a)) (l : List α) (b : Blk) :
    b.KeepsLink (l.foldl f b) := by
  induction l generalizing b with
  | nil => exact .refl _
  | cons a l ih => exact (hf b a).trans (ih (f b a))

section Stores
variable (b : Blk)

theorem Blk.keepsLink_closeBlock (cause : Nat) : b.KeepsLink (b.closeBlock cause) := (Blk.KeepsLink.refl b).ite ⟨rfl, rfl, rfl, rfl⟩

theorem Blk.keepsLink_appendRaw (num : Nat) (epoch : Bool) (bytes : List Byte) : b.KeepsLink (b.appendRaw num epoch bytes) := by
  unfold Blk.appendRaw
  extract_lets x h blk blk' item tly y
  have hclosed : b.KeepsLink x := (b.keepsLink_closeBlock _).ite (.refl b)
  have hchained : x.KeepsLink y := ⟨rfl, rfl, rfl, rfl⟩
  exact (hclosed.trans hchained).trans ((y.keepsLink_closeBlock _).ite (.refl y))

theorem Blk.keepsLink_flushEpochs (n : Nat) : b.KeepsLink (flushEpochs n b) := by
  induction n generalizing b with
  | zero => exact .refl b
  | succ n ih =>
    unfold flushEpochs
    split
    · next num bytes t _ =>
      have htaken : b.KeepsLink { b with tly := { b.tly with taken := t } } := ⟨rfl, rfl, rfl, rfl⟩
      exact (Blk.KeepsLink.refl b).ite ((htaken.trans (Blk.keepsLink_appendRaw _ _ _ _)).trans (ih _))
    · exact .refl b

theorem Blk.keepsLink_updMeas (f : List MeasItem → List MeasItem) : b.KeepsLink (b.updMeas f) := by
  have hstored : b.KeepsLink { b with tly := { b.tly with store := f b.tly.store } } := ⟨rfl, rfl, rfl, rfl⟩
  exact hstored.trans (Blk.keepsLink_flushEpochs _ _)

theorem Blk.keepsLink_touch (l : List Nat) : b.KeepsLink (b.touch l) :=
  Blk.keepsLink_foldl (f := fun s d => s.updDom d (fun x => { x with touched := s.now })) (fun _ _ => ⟨rfl, rfl, rfl, rfl⟩) l b

theorem Blk.keepsLink_endJob (seq : Nat) : b.KeepsLink (b.endJob seq) := by
  unfold Blk.endJob
  split
  · exact .refl b
  · exact b.keepsLink_touch _

theorem Blk.keepsLink_releaseCorr (tag : Nat) : b.KeepsLink (b.releaseCorr tag) := by
  unfold Blk.releaseCorr
  split
  · exact .refl b
  · extract_lets store x y
    have hdropped : b.KeepsLink x := ⟨rfl, rfl, rfl, rfl⟩
    have hfreed : x.KeepsLink y := by
      simp only [y]
      split <;> exact ⟨rfl, rfl, rfl, rfl⟩
    have hslots (z : Blk) : z.KeepsLink z.freeSlots := ⟨rfl, rfl, rfl, rfl⟩
    exact ((hdropped.trans hfreed).trans (y.keepsLink_endJob _)).trans (hslots _)

/-- A delivered item leaves its store, and the link as it was. -/
theorem Blk.keepsLink_delivered (src : PktSrc) : b.KeepsLink (b.delivered src) := by
  cases src with
  | answer => exact .refl b
  | event => exact .refl b
  | pool p seq => exact ⟨rfl, rfl, rfl, rfl⟩
  | meas n => exact b.keepsLink_updMeas _
  | blockSeal n => exact b.keepsLink_updMeas _
  | corr tag size =>
    have hacked : b.KeepsLink (b.updCorr (fun l => l.map (CorrItem.ack tag size))) := ⟨rfl, rfl, rfl, rfl⟩
    exact hacked.trans ((Blk.keepsLink_releaseCorr _ _).ite (.refl _))
  | bulk tag unit kind => exact ⟨rfl, rfl, rfl, rfl⟩

end Stores

/-! ### Acknowledgement (14 R531 to R533) -/

section Acknowledgement
variable {b : Blk}

theorem Blk.noteContest_shape (b : Blk) : ∃ regs, b.noteContest = { b with regs := regs } := by
  unfold Blk.noteContest
  extract_lets x
  obtain ⟨regs, hx⟩ : ∃ regs, x = { b with regs := regs } := by
    simp only [x]
    split
    · exact ⟨_, rfl⟩
    · exact ⟨b.regs, rfl⟩
  rw [hx]
  split
  · split
    · exact ⟨_, rfl⟩
    · exact ⟨regs, rfl⟩
  · exact ⟨regs, rfl⟩

/-- The engine once the packets that an ACK covers have left the retry buffer. -/
def Blk.acked (b : Blk) (lseq : Nat) : Blk :=
  let rest := b.lnk.retry.filter (fun p => !seqCovers lseq p.lseq)
  if (b.lnk.retry.filter (fun p => seqCovers lseq p.lseq)).isEmpty then b
  else { b.noteContest with lnk := { b.noteContest.lnk with
    retry := rest, replayQ := b.noteContest.lnk.replayQ.filter (fun q => rest.any (fun p => p.lseq = q)),
    replayFrom := b.noteContest.now, replayedAt := none } }

theorem ackReceive_of_up (h : b.linkUp = true) (lseq credit : Nat) : ackReceive lseq credit b =
    (b.lnk.retry.filter (fun p => seqCovers lseq p.lseq)).foldl (fun s p => s.delivered p.src) ((b.acked lseq).takeCredit credit) := by
  unfold ackReceive
  rw [h, List.partition_eq_filter_filter]
  rfl

/-- What stays of the retry buffer is all of it just when the ACK covers nothing. -/
theorem filter_covers_isEmpty (lseq : Nat) (l : List Pkt) :
    (l.filter (fun p => seqCovers lseq p.lseq)).isEmpty = true ↔ l.filter (fun p => !seqCovers lseq p.lseq) = l := by
  rw [List.isEmpty_iff, List.filter_eq_nil_iff, List.filter_eq_self]
  simp only [Bool.not_eq_true, Bool.not_eq_true']

theorem Blk.acked_of_none {lseq : Nat} (h : b.lnk.retry.filter (fun p => !seqCovers lseq p.lseq) = b.lnk.retry) : b.acked lseq = b :=
  if_pos ((filter_covers_isEmpty lseq _).mpr h)

/-- The link once the packets that an ACK covers have left. -/
theorem Blk.acked_of_some {lseq : Nat} (h : b.lnk.retry.filter (fun p => !seqCovers lseq p.lseq) ≠ b.lnk.retry) :
    (b.acked lseq).now = b.now ∧ (b.acked lseq).lnk = { b.lnk with
      retry := b.lnk.retry.filter (fun p => !seqCovers lseq p.lseq)
      replayQ := b.lnk.replayQ.filter (fun q => (b.lnk.retry.filter (fun p => !seqCovers lseq p.lseq)).any (fun p => p.lseq = q))
      replayFrom := b.now, replayedAt := none } := by
  obtain ⟨regs, hnote⟩ := b.noteContest_shape
  unfold Blk.acked
  dsimp only
  rw [if_neg (mt (filter_covers_isEmpty lseq _).mp h), hnote]
  exact ⟨rfl, rfl⟩

theorem Blk.acked_kept (b : Blk) (lseq : Nat) :
    (b.acked lseq).lnk.retry = b.lnk.retry.filter (fun p => !seqCovers lseq p.lseq) ∧ (b.acked lseq).now = b.now ∧
      (b.lnk.replayQ = [] → (b.acked lseq).lnk.replayQ = []) ∧ (b.acked lseq).lnk.txSeq = b.lnk.txSeq ∧
      (b.acked lseq).lnk.rxSeq = b.lnk.rxSeq := by
  by_cases h : b.lnk.retry.filter (fun p => !seqCovers lseq p.lseq) = b.lnk.retry
  · rw [Blk.acked_of_none h]
    exact ⟨h.symm, rfl, id, rfl, rfl⟩
  · obtain ⟨hnow, hlnk⟩ := Blk.acked_of_some h
    rw [hlnk]
    refine ⟨rfl, hnow, fun hnone => ?_, rfl, rfl⟩
    dsimp only
    rw [hnone]
    rfl

theorem Blk.bytesOut_of_noReplay (h : b.lnk.replayQ = []) : b.bytesOut = b.retryBytes := by
  unfold Blk.bytesOut Blk.retryBytes
  rw [h]
  exact congrArg pktBytes (List.filter_eq_self.mpr fun _ _ => rfl)

theorem ackReceive_spec (h : b.linkUp = true) (lseq credit : Nat) :
    let c := ackReceive lseq credit b
    let rest := b.lnk.retry.filter (fun p => !seqCovers lseq p.lseq)
    c.lnk.retry = rest ∧ c.lnk.lastAckIn = b.now ∧
      c.lnk.creditLeft = 64 * (credit % 65536) - c.bytesOut ∧ (b.lnk.replayQ = [] → c.bytesOut = c.retryBytes) ∧
      c.lnk.txSeq = b.lnk.txSeq ∧ c.lnk.rxSeq = b.lnk.rxSeq ∧ (rest ≠ b.lnk.retry → c.lnk.replayFrom = b.now) ∧
      (rest = b.lnk.retry → c.store = b.store ∧ c.tly = b.tly ∧ c.regs = b.regs) := by
  intro c rest
  obtain ⟨hlnk, -, -, -⟩ := Blk.keepsLink_foldl (fun x (p : Pkt) => x.keepsLink_delivered p.src)
    (b.lnk.retry.filter (fun p => seqCovers lseq p.lseq)) ((b.acked lseq).takeCredit credit)
  rw [← ackReceive_of_up h] at hlnk
  have hcredit : c.lnk.creditLeft = 64 * (credit % 65536) - c.bytesOut := by
    simp only [c, Blk.bytesOut]
    rw [hlnk]
    rfl
  obtain ⟨hretry, hnow, hqueue, htx, hrx⟩ := b.acked_kept lseq
  refine ⟨(congrArg LnkSt.retry hlnk).trans hretry, (congrArg LnkSt.lastAckIn hlnk).trans hnow, hcredit,
    fun hnone => Blk.bytesOut_of_noReplay ((congrArg LnkSt.replayQ hlnk).trans (hqueue hnone)), (congrArg LnkSt.txSeq hlnk).trans htx,
    (congrArg LnkSt.rxSeq hlnk).trans hrx,
    fun hsome => (congrArg LnkSt.replayFrom hlnk).trans (congrArg LnkSt.replayFrom (Blk.acked_of_some hsome).2), fun hnone => ?_⟩
  simp only [c]
  rw [ackReceive_of_up h, Blk.acked_of_none hnone, List.isEmpty_iff.mp ((filter_covers_isEmpty lseq _).mpr hnone)]
  exact ⟨rfl, rfl, rfl⟩

end Acknowledgement

/-! ### Replay (14 R531, R532) -/

section Replay
variable {b : Blk}

/-- What a replay of packets leaves: as many as the credit pays for on the wire, the others in the queue. -/
def Blk.Replayed (b : Blk) (l : List Pkt) (credit : Nat) (c : Blk) : Prop :=
  c.wire = b.wire ++ (l.take (affordable credit l)).map (fun p => .packet p.ptype 1 p.lseq p.payload) ∧
  c.lnk.replayQ = (l.drop (affordable credit l)).map (·.lseq) ∧ c.lnk.creditLeft = credit - pktBytes (l.take (affordable credit l)) ∧
  c.lnk.retry.map (·.lseq) = b.lnk.retry.map (·.lseq)

theorem Blk.replayed_replay (b : Blk) (l : List Pkt) : b.Replayed l b.lnk.creditLeft (b.replay l) := by
  refine ⟨rfl, rfl, rfl, ?_⟩
  refine (List.map_map).trans (List.map_congr_left fun p _ => ?_)
  dsimp only [Function.comp_apply]
  split <;> rfl

/-- The engine with the packets that a NAK names due for replay and its credit taken. -/
def Blk.nakTaken (b : Blk) (lseq credit : Nat) : Blk :=
  ({ b with lnk := { b.lnk with replayQ := (b.lnk.retry.filter (fun p => seqCovers p.lseq lseq)).map (·.lseq) } } : Blk).takeCredit credit

theorem Blk.nakTaken_replay_regs (b : Blk) (lseq credit : Nat) (l : List Pkt) : ((b.nakTaken lseq credit).replay l).regs = b.regs := rfl

/-- A 16-bit count after a step that leaves the registers alone otherwise. -/
theorem Blk.regF_counted {x c : Blk} {a hi lo : Nat} (hx : x.regs = b.regs) (hc : c.regs = (x.bump a hi lo 1).regs) (h : hi = lo + 15)
    (hhi : hi < 32) : c.regF a hi lo = min (b.regF a hi lo + 1) 65535 := by
  rw [Blk.regF_congr hc, Blk.regF_bump_16 x a 1 h hhi, Blk.regF_congr hx]

theorem nakReceive_of_named (h : b.linkUp = true) (lseq credit : Nat) (hl : b.lnk.retry.filter (fun p => seqCovers p.lseq lseq) ≠ []) :
    ∃ from_, nakReceive lseq credit b =
      (let x := (((b.nakTaken lseq credit).replay (b.lnk.retry.filter (fun p => seqCovers p.lseq lseq))).bump Reg.LNK_REPLAYS 31 16 1)
       { x with lnk := { x.lnk with replayFrom := from_ } }) := by
  unfold nakReceive
  rw [h]
  dsimp only [Bool.not_true]
  rw [if_neg (by decide), if_neg (mt List.isEmpty_iff.mp hl)]
  split
  · exact ⟨_, rfl⟩
  · exact ⟨_, rfl⟩

theorem nakReceive_spec (h : b.linkUp = true) (lseq credit : Nat) (hl : b.lnk.retry.filter (fun p => seqCovers p.lseq lseq) ≠ []) :
    let l := b.lnk.retry.filter (fun p => seqCovers p.lseq lseq)
    let before := b.lnk.retry.filter (fun p => !(l.map (·.lseq)).contains p.lseq)
    let c := nakReceive lseq credit b
    b.Replayed l (64 * (credit % 65536) - pktBytes before) c ∧
      c.regF Reg.LNK_REPLAYS 31 16 = min (b.regF Reg.LNK_REPLAYS 31 16 + 1) 65535 ∧ c.store = b.store ∧ c.tly = b.tly := by
  obtain ⟨from_, hnak⟩ := nakReceive_of_named h lseq credit hl
  dsimp only
  rw [hnak]
  exact ⟨(b.nakTaken lseq credit).replayed_replay _, Blk.regF_counted (b.nakTaken_replay_regs lseq credit _) rfl rfl (by decide), rfl, rfl⟩

theorem replayTimer_of_due (h : b.linkUp = true) (hretry : b.lnk.retry ≠ []) (hdue : b.replayEnd ≤ b.now) : replayTimer b =
    (let x := (b.replay b.lnk.retry).bump Reg.LNK_REPLAYS 15 0 1
     { x with lnk := { x.lnk with replayFrom := b.now, replayedAt := some b.now } }) :=
  if_neg (by simp [h, hretry, hdue])

theorem replayTimer_spec (h : b.linkUp = true) (hretry : b.lnk.retry ≠ []) (hdue : b.replayEnd ≤ b.now) :
    b.Replayed b.lnk.retry b.lnk.creditLeft (replayTimer b) ∧
      (replayTimer b).regF Reg.LNK_REPLAYS 15 0 = min (b.regF Reg.LNK_REPLAYS 15 0 + 1) 65535 ∧
      (replayTimer b).lnk.replayFrom = b.now ∧ (replayTimer b).store = b.store ∧ (replayTimer b).tly = b.tly := by
  rw [replayTimer_of_due h hretry hdue]
  exact ⟨b.replayed_replay _, Blk.regF_counted (b := b) (x := b.replay b.lnk.retry) rfl rfl rfl (by decide), rfl, rfl, rfl⟩

end Replay

/-! ### Packets that are not accepted (14 R529, R530) -/

section Reception
variable {b : Blk}

theorem Blk.sendNak_of_none (h : b.lnk.nakAt = none) : b.sendNak =
    { b with wire := b.wire ++ [.packet 0x0D 0 b.lnk.rxSeq (le 4 512)]
             lnk := { b.lnk with nakAt := some b.now, lastAckOut := b.now, granted := 512 } } := by
  unfold Blk.sendNak
  rw [h]
  rfl

theorem Blk.sendNak_of_recent {t : Nat} (h : b.lnk.nakAt = some t) (hrecent : b.now < t + b.regF Reg.LNK_REPLAY_LIMIT 11 0) :
    b.sendNak = b := by
  unfold Blk.sendNak
  rw [h]
  exact if_pos (decide_eq_true hrecent)

/-- The CRC event changes nothing of the link but the time it is noted at. -/
theorem Blk.crcEvent_spec (b : Blk) : ∃ t, b.crcEvent.lnk = { b.lnk with lastCrcEvt := t } ∧ b.crcEvent.wire = b.wire ∧
    b.crcEvent.now = b.now ∧ b.crcEvent.reg Reg.LNK_RX_ERRORS = b.reg Reg.LNK_RX_ERRORS := by
  unfold Blk.crcEvent
  split_ifs
  · exact ⟨b.lnk.lastCrcEvt, rfl, rfl, rfl, rfl⟩
  · exact ⟨some b.now, by simp, by simp, by simp, Blk.reg_raise _ _ (by decide) (by decide) (by decide)⟩

/-- A NAK stands on the wire and the numbers as they were. -/
def Blk.Nakked (b c : Blk) : Prop :=
  c.wire = b.wire ++ [.packet 0x0D 0 b.lnk.rxSeq (le 4 512)] ∧ c.lnk.rxSeq = b.lnk.rxSeq ∧ c.lnk.nakAt = some b.now ∧
  c.lnk.txSeq = b.lnk.txSeq ∧ c.lnk.retry = b.lnk.retry

theorem Blk.nakked_sendNak (h : b.lnk.nakAt = none) : b.Nakked b.sendNak := by
  rw [Blk.sendNak_of_none h]
  exact ⟨rfl, rfl, rfl, rfl, rfl⟩

theorem linkPacketBad_of_crc {sop data : List Byte} (h : b.linkUp = true) (hcrc : packetCrcOk sop data = false) :
    linkPacketBad sop data b = ((b.bump Reg.LNK_RX_ERRORS 15 0 1).crcEvent).sendNak := by
  simp only [linkPacketBad, h, hcrc, Bool.not_true, Bool.not_false, Bool.false_eq_true, if_false, if_true]

theorem linkPacketBad_of_number {sop data : List Byte} (h : b.linkUp = true) (hcrc : packetCrcOk sop data = true) (hd : 4096 < b.behind sop) :
    linkPacketBad sop data b = (b.bump Reg.LNK_RX_ERRORS 31 16 1).sendNak := by
  have hnone : ¬ b.behind sop = 0 := by omega
  have hold : ¬ b.behind sop ≤ 4096 := by omega
  simp only [linkPacketBad, h, hcrc, hnone, hold, Bool.not_true, Bool.false_eq_true, if_false]

theorem linkPacketBad_of_duplicate {sop data : List Byte} (h : b.linkUp = true) (hcrc : packetCrcOk sop data = true)
    (hpos : 0 < b.behind sop) (hd : b.behind sop ≤ 4096) : linkPacketBad sop data b = b.sendAck := by
  have hnone : ¬ b.behind sop = 0 := by omega
  simp only [linkPacketBad, h, hcrc, hnone, hd, Bool.not_true, Bool.false_eq_true, if_false, if_true]

theorem linkPacketBad_of_crc_spec {sop data : List Byte} (h : b.linkUp = true) (hnak : b.lnk.nakAt = none) (hcrc : packetCrcOk sop data = false) :
    b.Nakked (linkPacketBad sop data b) ∧
      (linkPacketBad sop data b).regF Reg.LNK_RX_ERRORS 15 0 = min (b.regF Reg.LNK_RX_ERRORS 15 0 + 1) 65535 := by
  rw [linkPacketBad_of_crc h hcrc]
  obtain ⟨t, hlnk, hwire, hnow, hreg⟩ := (b.bump Reg.LNK_RX_ERRORS 15 0 1).crcEvent_spec
  have hcount : (b.bump Reg.LNK_RX_ERRORS 15 0 1).crcEvent.regF Reg.LNK_RX_ERRORS 15 0 = min (b.regF Reg.LNK_RX_ERRORS 15 0 + 1) 65535 := by
    rw [← Blk.regF_bump_16 b _ 1 rfl (by decide), Blk.regF, Blk.regN, hreg]
    rfl
  rw [Blk.sendNak_of_none (by rw [hlnk]; exact hnak), Blk.Nakked, hlnk, hwire, hnow]
  exact ⟨⟨rfl, rfl, rfl, rfl, rfl⟩, hcount⟩

theorem linkPacketBad_of_number_spec {sop data : List Byte} (h : b.linkUp = true) (hnak : b.lnk.nakAt = none)
    (hcrc : packetCrcOk sop data = true) (hd : 4096 < b.behind sop) :
    b.Nakked (linkPacketBad sop data b) ∧
      (linkPacketBad sop data b).regF Reg.LNK_RX_ERRORS 31 16 = min (b.regF Reg.LNK_RX_ERRORS 31 16 + 1) 65535 := by
  rw [linkPacketBad_of_number h hcrc hd, Blk.sendNak_of_none (b := b.bump Reg.LNK_RX_ERRORS 31 16 1) hnak]
  exact ⟨⟨rfl, rfl, rfl, rfl, rfl⟩, Blk.regF_bump_16 b _ 1 rfl (by decide)⟩

theorem linkPacketBad_of_recentNak {sop data : List Byte} {t : Nat} (h : b.linkUp = true) (hnak : b.lnk.nakAt = some t)
    (hrecent : b.now < t + b.regF Reg.LNK_REPLAY_LIMIT 11 0) (hcrc : packetCrcOk sop data = true) (hd : 4096 < b.behind sop) :
    linkPacketBad sop data b = b.bump Reg.LNK_RX_ERRORS 31 16 1 := by
  have hlimit : (b.bump Reg.LNK_RX_ERRORS 31 16 1).regF Reg.LNK_REPLAY_LIMIT 11 0 = b.regF Reg.LNK_REPLAY_LIMIT 11 0 := by
    rw [Blk.regF, Blk.regN, Blk.bump_eq, Blk.reg_setReg_other _ _ (by decide)]
    rfl
  rw [linkPacketBad_of_number h hcrc hd, Blk.sendNak_of_recent (b := b.bump Reg.LNK_RX_ERRORS 31 16 1) hnak (by rw [hlimit]; exact hrecent)]

theorem ackSend_of_due (h : b.linkUp = true) (hdue : 0 < b.lnk.unacked ∨ b.lnk.lastAckOut + 3125 ≤ b.now) : ackSend b = b.sendAck :=
  if_pos (by simpa [h] using hdue)

theorem packetDiscard_of_unknown {ptype : Nat} (h : b.linkUp = true) (htype : inboundType ptype = false) :
    packetDiscard ptype b = b.linkAccept.bump Reg.LNK_RX_DISCARD 15 0 1 :=
  if_neg (by simp [h, htype])

end Reception

/-! ### Transmission (14 R534) -/

section Transmission
variable {b : Blk} {turn : Option Nat} {r : Ready}

theorem linkTransmit_of_replay (h : b.linkUp = true) (hqueue : b.lnk.replayQ ≠ []) : linkTransmit b = b.replay b.replays := by
  simp [linkTransmit, h, hqueue]

theorem linkTransmit_of_noRoom (h : b.linkUp = true) (hqueue : b.lnk.replayQ = []) (hnext : b.nextPacket = some (turn, r))
    (hroom : b.lnk.creditLeft < packetSize r.payload.length ∨ 65536 < b.retryBytes + packetSize r.payload.length) : linkTransmit b = b := by
  simp [linkTransmit, h, hqueue, hnext, hroom]

/-- A source that gives up its packet changes nothing of the link but the answers that wait. -/
theorem Blk.markSent_spec (b : Blk) (r : Ready) : ∃ answers, (b.markSent r).lnk = { b.lnk with answers := answers } ∧
    (b.markSent r).wire = b.wire ∧ (b.markSent r).regs = b.regs ∧ (b.markSent r).now = b.now := by
  have hmeas : (b.updMeas sendFirst).lnk = { b.lnk with answers := b.lnk.answers } ∧ (b.updMeas sendFirst).wire = b.wire ∧
      (b.updMeas sendFirst).regs = b.regs ∧ (b.updMeas sendFirst).now = b.now := b.keepsLink_updMeas sendFirst
  unfold Blk.markSent
  split
  case h_4 => exact ⟨_, hmeas⟩
  case h_5 => exact ⟨_, hmeas⟩
  all_goals exact ⟨_, rfl, rfl, rfl, rfl⟩

theorem linkTransmit_spec (h : b.linkUp = true) (hqueue : b.lnk.replayQ = []) (hnext : b.nextPacket = some (turn, r))
    (hcredit : packetSize r.payload.length ≤ b.lnk.creditLeft) (hroom : b.retryBytes + packetSize r.payload.length ≤ 65536) :
    let c := linkTransmit b
    c.wire = b.wire ++ [.packet r.ptype 0 b.lnk.txSeq r.payload] ∧ c.lnk.txSeq = (b.lnk.txSeq + 1) % 65536 ∧
      c.lnk.creditLeft = b.lnk.creditLeft - packetSize r.payload.length ∧
      c.lnk.turn = (turn.map (fun k => (k + 1) % 18)).getD b.lnk.turn ∧
      c.lnk.retry = b.lnk.retry ++ [{ lseq := b.lnk.txSeq, ptype := r.ptype, payload := r.payload, sentAt := b.now, src := r.src }] ∧
      c.regN Reg.LNK_TX_PACKETS = (b.regN Reg.LNK_TX_PACKETS + 1) % 2 ^ 32 := by
  have hfits : ¬ ((decide (b.lnk.creditLeft < packetSize r.payload.length) || decide (65536 < b.retryBytes + packetSize r.payload.length)) = true) := by
    simp only [Bool.or_eq_true, decide_eq_true_eq]
    omega
  obtain ⟨answers, hlnk, hwire, hregs, hnow⟩ := b.markSent_spec r
  have hcount (x : Blk) (hx : x.regs = b.regs) :
      (x.count Reg.LNK_TX_PACKETS 1).regN Reg.LNK_TX_PACKETS = (b.regN Reg.LNK_TX_PACKETS + 1) % 2 ^ 32 := by
    rw [Blk.count_eq, Blk.regN, Blk.reg_setReg_same, BitVec.toNat_ofNat, Blk.regN, Blk.regN, Blk.reg, Blk.reg, hx]
  unfold linkTransmit
  rw [h, hqueue, hnext]
  dsimp only [Bool.not_true, List.isEmpty_nil]
  rw [if_neg (by decide), if_neg (by decide), if_neg hfits]
  generalize b.markSent r = x at *
  refine ⟨congrArg (· ++ _) hwire, rfl, ?_, ?_, ?_, hcount (x.send _) hregs⟩
  · change x.lnk.creditLeft - packetSize r.payload.length = _
    rw [hlnk]
  · change (match turn with | some k => (k + 1) % 18 | none => x.lnk.turn) = _
    rw [hlnk]
    cases turn <;> rfl
  · change x.lnk.retry ++ [{ lseq := b.lnk.txSeq, ptype := r.ptype, payload := r.payload, sentAt := x.now, src := r.src }] = _
    rw [hlnk, hnow]

theorem Blk.nextPacket_of_answer {t : Nat} {p : List Byte} {l : List (Nat × List Byte)} (h : b.lnk.answers = (t, p) :: l) :
    b.nextPacket = some (none, { ptype := t, payload := p, src := .answer }) := by
  rw [Blk.nextPacket, h]

theorem Blk.nextPacket_of_event {n : Notice} {l : List Notice} (h : b.lnk.answers = []) (hevent : b.evt.toLink = n :: l) :
    b.nextPacket = some (none, { ptype := 0x09, payload := n.bytes, src := .event }) := by
  rw [Blk.nextPacket, h, hevent]

theorem Blk.nextPacket_of_turn (h : b.lnk.answers = []) (hevent : b.evt.toLink = []) (hready : b.readyTurn b.lnk.turn = some r)
    (hturn : b.lnk.turn < 18) : b.nextPacket = some (some b.lnk.turn, r) := by
  have hfirst : b.turnReady = some (b.lnk.turn, r) := by
    have hmod : (b.lnk.turn + 0) % 18 = b.lnk.turn := by omega
    rw [Blk.turnReady, show List.range 18 = 0 :: List.range' 1 17 from rfl, List.findSome?_cons]
    dsimp only
    rw [hmod, hready]
    rfl
  rw [Blk.nextPacket, h, hevent]
  dsimp only
  rw [hfirst]

end Transmission

/-! ### O50 -/

/-- Settles O50: each packet of the link by the branch that it takes. -/
theorem packetsAreAcknowledgedAndReplayed : Obligations.PacketsAreAcknowledgedAndReplayed := by
  unfold Obligations.PacketsAreAcknowledgedAndReplayed
  intro dt lseq credit ptype sop data s b again nak ack d hup
  refine ⟨?acked, fun hl => ?naked, fun hretry hdue => ?timed, fun hnone => ⟨fun hcrc => ?_, fun hcrc hd => ?_⟩,
    fun t hnak hrecent hcrc hd => ?_, fun hcrc hpos hd => ?_, fun hdue => ?_, fun hqueue => ?_,
    fun turn r hqueue hnext => ⟨fun hroom => ?_, fun hcredit hroom => ?_⟩, ⟨fun t p l h => Blk.nextPacket_of_answer h,
      fun n l h hevent => Blk.nextPacket_of_event h hevent, fun k r h hevent hready hk hlt => ?_⟩, fun htype => ?_⟩
  case acked => exact leaves_of_exec (exec_ackReceive dt lseq credit s) (ackReceive_spec hup lseq credit)
  case naked => exact leaves_of_exec (exec_nakReceive dt lseq credit s) (nakReceive_spec hup lseq credit hl)
  case timed => exact leaves_of_exec (exec_replayTimer dt s) (replayTimer_spec hup hretry hdue)
  · obtain ⟨⟨hwire, hrx, hnak, htx, hretry⟩, hcount⟩ := linkPacketBad_of_crc_spec hup hnone hcrc
    exact leaves_of_exec (exec_linkPacketBad dt sop data s) ⟨hwire, hrx, hnak, htx, hretry, hcount⟩
  · obtain ⟨⟨hwire, hrx, hnak, htx, hretry⟩, hcount⟩ := linkPacketBad_of_number_spec hup hnone hcrc hd
    exact leaves_of_exec (exec_linkPacketBad dt sop data s) ⟨hwire, hrx, htx, hretry, hnak, hcount⟩
  · rw [exec_linkPacketBad, linkPacketBad_of_recentNak hup hnak hrecent hcrc hd]
  · refine leaves_of_exec (exec_linkPacketBad dt sop data s) ?_
    rw [linkPacketBad_of_duplicate hup hcrc hpos hd]
    exact ⟨rfl, rfl, rfl⟩
  · refine leaves_of_exec (exec_ackSend dt s) ?_
    rw [ackSend_of_due hup hdue]
    exact ⟨rfl, rfl, rfl⟩
  · rw [exec_linkTransmit, linkTransmit_of_replay hup hqueue]
  · rw [exec_linkTransmit, linkTransmit_of_noRoom hup hqueue hnext hroom]
  · exact leaves_of_exec (exec_linkTransmit dt s) (linkTransmit_spec hup hqueue hnext hcredit hroom)
  · subst hk
    exact Blk.nextPacket_of_turn h hevent hready hlt
  · rw [exec_packetDiscard, packetDiscard_of_unknown hup htype]

end Sys2Proof.Machine
end

section
/-! Training, fallback and leaving UP (14 R535 to R539): O51. -/
namespace Sys2Proof.Machine

theorem exec_detectCheck (dt lanes : Nat) (s : State) :
    exec (.detectCheck dt lanes) s = .next (s.after (detectCheck lanes (s.blk.elapse dt))) := rfl

theorem exec_trainPhaseDone (dt : Nat) (i : TrainInfo) (s : State) :
    exec (.trainPhaseDone dt i) s = .next (s.after (trainPhaseDone i (s.blk.elapse dt))) := rfl

theorem exec_lnkTrainTimeout (dt : Nat) (s : State) : exec (.lnkTrainTimeout dt) s = .next (s.after (lnkTrainTimeout (s.blk.elapse dt))) := rfl

theorem exec_linkAckLoss (dt : Nat) (s : State) : exec (.linkAckLoss dt) s = .next (s.after (linkAckLoss (s.blk.elapse dt))) := rfl

/-! ### A fault that latches -/

/-- A fault just raised on a page stands in its FAULT register (12 R448). -/
theorem Blk.fault_raiseAt (b : Blk) {page code : Nat} {i : CodeInfo} (hcode : codeInfo code = some i) (hfault : i.fault = true)
    (hpage : page < 256) (hword : code < 65536) : (b.raiseAt page code).regF (Reg.HDR_FAULT page) 15 0 = code := by
  have hlatch : (b.latch page code).regF (Reg.HDR_FAULT page) 15 0 = code := by
    obtain ⟨-, hvalue, -⟩ := faultsLatchAndAreLogged b page code hword hpage
    have hlow (n : Nat) : fld (code + n * 65536) 15 0 = code := by
      simp only [fld, Nat.sub_zero, Nat.pow_zero, Nat.div_one]
      omega
    exact (congrArg (fun v => fld v 15 0) hvalue).trans (hlow _)
  have hevent (x : Blk) (bit : Nat) : (x.event page bit code).regF (Reg.HDR_FAULT page) 15 0 = x.regF (Reg.HDR_FAULT page) 15 0 := by
    rw [Blk.regF, Blk.regN, x.reg_event page bit code (by simp) (by simp) (hdr_ne_evtLost page (by decide))]
    rfl
  unfold Blk.raiseAt
  rw [hcode]
  dsimp only
  rw [hfault]
  split
  · rw [if_pos rfl, hevent, hlatch]
  · rw [if_pos rfl, hlatch]

theorem Blk.fault_raise (b : Blk) {code : Nat} {i : CodeInfo} (hcode : codeInfo code = some i) (hfault : i.fault = true)
    (hpage : i.page < 256) (hword : code < 65536) : (b.raise code).regF (Reg.HDR_FAULT i.page) 15 0 = code := by
  unfold Blk.raise
  rw [hcode]
  exact b.fault_raiseAt hcode hfault hpage hword

/-! ### Sessions of a port close -/

/-- Nothing of the link, the stores, Tally, the jobs and LNK.TRAINS differs, nor, while the link is down, the notices that wait for it. -/
def Blk.PortOnly (b c : Blk) : Prop :=
  c.lnk = b.lnk ∧ c.now = b.now ∧ c.store = b.store ∧ c.tly = b.tly ∧ c.jobs = b.jobs ∧ c.reg Reg.LNK_TRAINS = b.reg Reg.LNK_TRAINS ∧
  (b.linkUp = false → c.evt.toLink = b.evt.toLink)

theorem Blk.PortOnly.refl (b : Blk) : b.PortOnly b := ⟨rfl, rfl, rfl, rfl, rfl, rfl, fun _ => rfl⟩

theorem Blk.PortOnly.trans {b c d : Blk} (h : b.PortOnly c) (k : c.PortOnly d) : b.PortOnly d := by
  obtain ⟨hlnk, hnow, hstore, htly, hjobs, hreg, hlink⟩ := h
  obtain ⟨klnk, know, kstore, ktly, kjobs, kreg, klink⟩ := k
  refine ⟨klnk.trans hlnk, know.trans hnow, kstore.trans hstore, ktly.trans htly, kjobs.trans hjobs, kreg.trans hreg, fun hdown => ?_⟩
  have hdown' : c.linkUp = false := by rw [Blk.linkUp, hlnk]; exact hdown
  exact (klink hdown').trans (hlink hdown)

theorem Blk.PortOnly.ite {b c d : Blk} {p : Prop} [Decidable p] (h : b.PortOnly c) (k : b.PortOnly d) : b.PortOnly (if p then c else d) := by
  split
  · exact h
  · exact k

section Ports
variable (b : Blk)

theorem Blk.notice_toLink_of_down (page bit code : Nat) (h : b.linkUp = false) : (b.notice page bit code).evt.toLink = b.evt.toLink := by
  unfold Blk.notice
  dsimp only
  split_ifs with hroute hroom hlink
  · rfl
  · rfl
  · exact absurd (hlink.symm.trans h) (by decide)
  · rfl

theorem Blk.portOnly_event (page bit code : Nat) : b.PortOnly (b.event page bit code) := by
  have hreg : (b.event page bit code).reg Reg.LNK_TRAINS = b.reg Reg.LNK_TRAINS :=
    b.reg_event page bit code (by change 0x2874 ≠ page * 0x400 + 0x10; omega) (by change 0x2874 ≠ page * 0x400 + 0x14; omega) (by decide)
  refine ⟨by simp, by simp, by simp, by simp, by simp, hreg, fun h => ?_⟩
  rw [Blk.event_eq]
  split
  · exact Blk.notice_toLink_of_down _ _ _ _ h
  · rfl

theorem Blk.portOnly_latch (page code : Nat) : b.PortOnly (b.latch page code) :=
  ⟨rfl, rfl, rfl, rfl, rfl, b.reg_latch page code (by change 0x2874 ≠ page * 0x400 + 0x1C; omega) (by decide), fun _ => rfl⟩

theorem Blk.portOnly_raiseAt (page code : Nat) : b.PortOnly (b.raiseAt page code) := by
  unfold Blk.raiseAt
  split
  · exact .refl b
  · next i _ =>
    extract_lets x
    have hx : b.PortOnly x := (b.portOnly_latch page code).ite (.refl b)
    split
    · exact hx.trans (x.portOnly_event _ _ _)
    · exact hx

theorem Blk.portOnly_raise (code : Nat) : b.PortOnly (b.raise code) := by
  unfold Blk.raise
  split
  · exact .refl b
  · exact b.portOnly_raiseAt _ _

theorem Blk.portOnly_foldl {α : Type} {f : Blk → α → Blk} (hf : ∀ (x : Blk) a, x.PortOnly (f x a)) (l : List α) : b.PortOnly (l.foldl f b) := by
  induction l generalizing b with
  | nil => exact .refl _
  | cons a l ih => exact (hf b a).trans (ih (f b a))

theorem Blk.portOnly_setReg {a : Nat} (v : Word) (h : Reg.LNK_TRAINS ≠ a) : b.PortOnly (b.setReg a v) :=
  ⟨rfl, rfl, rfl, rfl, rfl, b.reg_setReg_other v h, fun _ => rfl⟩

theorem Blk.portOnly_bump {a : Nat} (hi lo k : Nat) (h : Reg.LNK_TRAINS ≠ a) : b.PortOnly (b.bump a hi lo k) := b.portOnly_setReg _ h

theorem Blk.portOnly_abortBundle (d : Bundle) (code addr wonBy : Nat) : b.PortOnly (b.abortBundle d code addr wonBy) := by
  unfold Blk.abortBundle
  dsimp only
  have htouch : b.PortOnly (b.touch (d.writes.map (fun w => domOf w.1))) :=
    b.portOnly_foldl (f := fun s d => s.updDom d (fun x => { x with touched := s.now })) (fun x _ => .refl x) _
  have hbnd (x : Blk) (bnd : BndSt) : x.PortOnly { x with bnd := bnd } := ⟨rfl, rfl, rfl, rfl, rfl, rfl, fun _ => rfl⟩
  have hfault (x : Blk) : x.PortOnly (x.abortFault code addr) := (x.portOnly_raiseAt _ _).ite (x.portOnly_raise _)
  refine .trans ?_ (hfault _)
  refine .trans ?_ (Blk.portOnly_event _ _ _ _)
  refine .trans ?_ (Blk.portOnly_bump _ _ _ _ (by decide))
  exact (htouch.trans (hbnd _ _)).trans (hbnd (b.dropBundle d) _)

theorem Blk.portOnly_closeSlot (n : Nat) : b.PortOnly (b.closeSlot n) := by
  unfold Blk.closeSlot
  extract_lets x bnd y
  have hx : b.PortOnly x := by
    simp only [x]
    split
    · exact b.portOnly_abortBundle _ _ _ _
    · exact .refl b
  have hy : x.PortOnly y := by
    simp only [y]
    split <;> exact .refl x
  exact (hx.trans hy).trans (.refl y)

theorem Blk.portOnly_closePort (link : Bool) : b.PortOnly (b.closePort link) :=
  b.portOnly_foldl (fun x n => (x.portOnly_closeSlot n).ite (.refl x)) _

/-- Aborting a bundle leaves the sessions alone. -/
theorem Blk.ses_abortBundle (d : Bundle) (code addr wonBy : Nat) : (b.abortBundle d code addr wonBy).ses = b.ses := by
  have htouch (l : List Nat) (x : Blk) : (x.touch l).ses = x.ses := by
    induction l generalizing x with
    | nil => rfl
    | cons d l ih => exact ih _
  have hfault (x : Blk) : (x.abortFault code addr).ses = x.ses := by
    unfold Blk.abortFault
    split <;> simp
  unfold Blk.abortBundle
  dsimp only
  rw [hfault, Blk.event_ses]
  exact htouch _ b

theorem Blk.ses_closeSlot (n : Nat) : (b.closeSlot n).ses = { b.ses with slots := upd b.ses.slots n (fun k => { counter := k.counter }) } := by
  unfold Blk.closeSlot
  extract_lets x bnd y
  have hx : x.ses = b.ses := by
    simp only [x]
    split
    · exact b.ses_abortBundle _ _ _ _
    · rfl
  have hy : y.ses = b.ses := by
    simp only [y]
    split <;> exact hx
  rw [Blk.updSlot]
  dsimp only
  rw [hy]

end Ports

end Sys2Proof.Machine
end

section
/-! The link leaves UP, trains and falls back (14 R535 to R539): O51. -/
namespace Sys2Proof.Machine

/-! ### Leaving UP (14 R538) -/

section Leaving
variable {b : Blk}

/-- The link's own state once it has left UP. -/
def LnkSt.left (l : LnkSt) : LnkSt :=
  { l with state := .down, retry := [], replayQ := [], answers := [], creditLeft := 0, granted := 0, unacked := 0, nakAt := none,
           replayedAt := none, faultAt := none }

/-- The engine with the link down and every store's items to be sent again. -/
def Blk.unsent (b : Blk) : Blk :=
  (((({ b with lnk := b.lnk.left, evt := { b.evt with toLink := [] }
               store := { b.store with pools := b.store.pools.map PoolSt.unsend } } : Blk).updCorr (fun l => l.map CorrItem.unsend)).updBulk
    (fun l => l.map Bulk.unsend)).updMeas (fun l => l.map MeasItem.unsend))

theorem Blk.leaveUp_of_up (h : b.linkUp = true) : b.leaveUp =
    ((b.unsent.bump Reg.EVT_LOST 15 0
      (b.evt.toLink.length + (b.lnk.retry.filter (fun p => p.src = .event)).length)).raise 0x2024).closePort true :=
  if_neg (by simp [h])

theorem Blk.leaveUp_of_down (h : b.linkUp = false) : b.leaveUp = b :=
  if_pos (by simp [h])

/-- Closing a block changes Tally's state, and not what is stored. -/
theorem Blk.closeBlock_store (b : Blk) (cause : Nat) : ∃ tly, b.closeBlock cause = { b with tly := tly } ∧ tly.store = b.tly.store := by
  unfold Blk.closeBlock
  dsimp only
  split
  · exact ⟨b.tly, rfl, rfl⟩
  · exact ⟨_, rfl, rfl⟩

theorem Blk.appendRaw_eq (b : Blk) (num : Nat) (bytes : List Byte) : b.appendRaw num false bytes =
    if 256 ≤ (b.nextBlock num).count then (b.chained num bytes).closeBlock 0x01 else b.chained num bytes := rfl

/-- An epoch record stands behind what the measurement store holds (09 R345). -/
theorem Blk.appendRaw_store (b : Blk) (num : Nat) (bytes : List Byte) :
    ∃ tly more, b.appendRaw num true bytes = { b with tly := tly } ∧ tly.store = b.tly.store ++ more := by
  obtain ⟨tly, hclosed, hstore⟩ := b.closeBlock_store 0x03
  have hepoch : b.appendRaw num true bytes = (b.closeBlock 0x03).appendRaw num false bytes := rfl
  rw [hepoch, hclosed, Blk.appendRaw_eq, ← hstore]
  split
  · obtain ⟨tly', hfull, hstore'⟩ := (({ b with tly := tly } : Blk).chained num bytes).closeBlock_store 0x01
    exact ⟨tly', _, by rw [hfull]; rfl, hstore'⟩
  · exact ⟨_, _, rfl, rfl⟩

/-- Epoch records that follow into the measurement store stand behind what is there. -/
theorem flushEpochs_store (n : Nat) (b : Blk) : ∃ tly more, flushEpochs n b = { b with tly := tly } ∧ tly.store = b.tly.store ++ more := by
  have hnone (x : Blk) : ∃ tly more, x = { x with tly := tly } ∧ tly.store = x.tly.store ++ more :=
    ⟨x.tly, [], rfl, (List.append_nil _).symm⟩
  induction n generalizing b with
  | zero => exact hnone b
  | succ n ih =>
    unfold flushEpochs
    split
    · split
      · exact hnone b
      · next num bytes t _ _ =>
        obtain ⟨tly, more, hx, hstore⟩ := Blk.appendRaw_store { b with tly := { b.tly with taken := t } } num bytes
        obtain ⟨tly', more', hy, hstore'⟩ := ih (({ b with tly := { b.tly with taken := t } } : Blk).appendRaw num true bytes)
        rw [hx] at hy hstore'
        refine ⟨tly', more ++ more', by rw [hx, hy], hstore'.trans ?_⟩
        rw [hstore, List.append_assoc]
    · exact hnone b

theorem Blk.flushed_of_empty (h : b.tly.taken = []) : b.flushed = b := by
  unfold Blk.flushed flushEpochs
  rw [h]

theorem Blk.unsent_shape (b : Blk) : ∃ tly more, b.unsent = { b with
      lnk := b.lnk.left, evt := { b.evt with toLink := [] }
      store := { b.store with pools := b.store.pools.map PoolSt.unsend, corr := b.store.corr.map CorrItem.unsend, bulk := b.store.bulk.map Bulk.unsend }
      tly := tly } ∧ tly.store = b.tly.store.map MeasItem.unsend ++ more ∧ (b.tly.taken = [] → more = []) := by
  by_cases htaken : b.tly.taken = []
  · refine ⟨{ b.tly with store := b.tly.store.map MeasItem.unsend }, [], ?_, (List.append_nil _).symm, fun _ => rfl⟩
    exact Blk.flushed_of_empty (b := { b with
      lnk := b.lnk.left, evt := { b.evt with toLink := [] }
      store := { b.store with pools := b.store.pools.map PoolSt.unsend, corr := b.store.corr.map CorrItem.unsend, bulk := b.store.bulk.map Bulk.unsend }
      tly := { b.tly with store := b.tly.store.map MeasItem.unsend } }) htaken
  · obtain ⟨tly, more, hflush, hstore⟩ := flushEpochs_store (b.tly.taken.length + 1) { b with
      lnk := b.lnk.left, evt := { b.evt with toLink := [] }
      store := { b.store with pools := b.store.pools.map PoolSt.unsend, corr := b.store.corr.map CorrItem.unsend, bulk := b.store.bulk.map Bulk.unsend }
      tly := { b.tly with store := b.tly.store.map MeasItem.unsend } }
    exact ⟨tly, more, hflush, hstore, fun h => absurd h htaken⟩

/-- What is left of the stores, the jobs and LNK.TRAINS when the link has left UP. -/
theorem Blk.leaveUp_portOnly (h : b.linkUp = true) : b.unsent.PortOnly b.leaveUp := by
  rw [Blk.leaveUp_of_up h]
  exact ((b.unsent.portOnly_bump _ _ _ (by decide)).trans (Blk.portOnly_raise _ _)).trans (Blk.portOnly_closePort _ _)

theorem Blk.leaveUp_lnk (h : b.linkUp = true) : b.leaveUp.lnk = b.lnk.left := by
  obtain ⟨tly, more, hunsent, -, -⟩ := b.unsent_shape
  obtain ⟨hlnk, -⟩ := Blk.leaveUp_portOnly h
  rw [hlnk, hunsent]

/-- Every slot of a port is free once its sessions have closed (13 R504). -/
theorem Blk.closePort_free {link : Bool} {n : Nat} (hslots : b.ses.slots.length = 4) (hn : n < 4) (hlink : (b.slot n).link = link) :
    ((b.closePort link).slot n).st = .free := by
  have hstep (x : Blk) (k : Nat) (hx : x.ses.slots.length = 4) :
      let y := if (x.slot k).st != .free && (x.slot k).link = link then x.closeSlot k else x
      y.ses.slots.length = 4 ∧ (k ≠ n → y.slot n = x.slot n) ∧
        (k = n → (x.slot n).link = link ∨ (x.slot n).st = .free → (y.slot n).st = .free) := by
    intro y
    by_cases hclose : ((x.slot k).st != .free && decide ((x.slot k).link = link)) = true
    · have hy : y = x.closeSlot k := if_pos hclose
      have hses := x.ses_closeSlot k
      rw [hy]
      refine ⟨?_, fun hk => ?_, fun hk _ => ?_⟩
      · rw [hses]
        exact (upd_length _ _ _).trans hx
      · rw [Blk.slot, hses]
        exact upd_getD_other _ _ _ _ _ (Ne.symm hk)
      · rw [Blk.slot, hses, hk]
        dsimp only
        rw [upd_getD_same _ _ _ _ (by omega)]
    · have hy : y = x := if_neg hclose
      rw [hy]
      refine ⟨hx, fun _ => rfl, fun hk hor => ?_⟩
      subst hk
      rcases hor with hl | hfree
      · simpa [hl] using hclose
      · exact hfree
  have hfold (l : List Nat) (x : Blk) (hx : x.ses.slots.length = 4) (hor : (x.slot n).link = link ∨ (x.slot n).st = .free) :
      let y := l.foldl (fun s i => if (s.slot i).st != .free && (s.slot i).link = link then s.closeSlot i else s) x
      ((x.slot n).st = .free ∨ n ∈ l → (y.slot n).st = .free) := by
    induction l generalizing x with
    | nil => exact fun h => h.resolve_right List.not_mem_nil
    | cons k l ih =>
      obtain ⟨hlen, hother, hsame⟩ := hstep x k hx
      intro y h
      by_cases hk : k = n
      · have hfree := hsame hk hor
        exact ih _ hlen (.inr hfree) (.inl hfree)
      · have hkept := hother hk
        refine ih _ hlen ?_ ?_
        · rw [hkept]
          exact hor
        · rw [hkept]
          exact h.imp_right fun hmem => (List.mem_cons.mp hmem).resolve_left (Ne.symm hk)
  exact hfold _ b hslots (.inl hlink) (.inr (List.mem_range.mpr hn))

theorem Blk.leaveUp_spec (h : b.linkUp = true) :
    let c := b.leaveUp
    c.lnk.state = .down ∧ c.lnk.retry = [] ∧ c.lnk.answers = [] ∧ c.evt.toLink = [] ∧ c.linkUp = false ∧
      (b.ses.slots.length = 4 → ∀ n < 4, (b.slot n).link = true → (c.slot n).st = .free) ∧
      c.store.pools.all (fun p => p.recs.all (fun r => !r.sent)) = true ∧
      c.store.pools.map (fun p => p.recs.map (fun r => r.bytes)) = b.store.pools.map (fun p => p.recs.map (fun r => r.bytes)) ∧
      (c.tly.store.map (·.bytes)).take b.tly.store.length = b.tly.store.map (·.bytes) ∧
      (b.tly.taken = [] → c.tly.store.map (·.bytes) = b.tly.store.map (·.bytes)) ∧ c.jobs = b.jobs := by
  obtain ⟨tly, more, hunsent, hmeas, hmore⟩ := b.unsent_shape
  obtain ⟨-, -, hstore, htly, hjobs, -, htoLink⟩ := Blk.leaveUp_portOnly h
  have hlnk := Blk.leaveUp_lnk h
  have hdown : b.unsent.linkUp = false := by rw [hunsent]; rfl
  have hbytes : b.leaveUp.tly.store.map (·.bytes) = b.tly.store.map (·.bytes) ++ more.map (·.bytes) := by
    rw [htly, hunsent]
    dsimp only
    rw [hmeas, List.map_append, List.map_map]
    rfl
  refine ⟨congrArg LnkSt.state hlnk, congrArg LnkSt.retry hlnk, congrArg LnkSt.answers hlnk, ?_, ?_, fun hslots n hn hlink => ?_, ?_, ?_, ?_,
    fun htaken => ?_, ?_⟩
  · rw [htoLink hdown, hunsent]
  · rw [Blk.linkUp, hlnk]
    rfl
  · rw [Blk.leaveUp_of_up h]
    have hses : ((b.unsent.bump Reg.EVT_LOST 15 0
        (b.evt.toLink.length + (b.lnk.retry.filter (fun p => p.src = .event)).length)).raise 0x2024).ses = b.ses := by
      rw [Blk.raise_ses, hunsent]
      rfl
    exact Blk.closePort_free (by rw [hses]; exact hslots) hn (by rw [Blk.slot, hses]; exact hlink)
  · rw [hstore, hunsent]
    simp [PoolSt.unsend]
  · rw [hstore, hunsent]
    simp [PoolSt.unsend]
  · rw [hbytes]
    exact List.take_left' (List.length_map _)
  · rw [hbytes, hmore htaken]
    exact List.append_nil _
  · rw [hjobs, hunsent]

end Leaving

end Sys2Proof.Machine
end

section
/-! Training phases, their timeouts and the ends of training (14 R535 to R539): O51. -/
namespace Sys2Proof.Machine

/-! ### Starts of training -/

section Starts
variable {b : Blk}

theorem Blk.clearLanes_lanes (b : Blk) : b.clearLanes.lnk.lanes.all (fun l => l.rx == .off && l.tx == .off && !l.aligned) = true := by
  simp [Blk.clearLanes]

theorem Blk.leaveUp_kept (a : Blk) : a.leaveUp.now = a.now ∧ a.leaveUp.reg Reg.LNK_TRAINS = a.reg Reg.LNK_TRAINS ∧
    a.leaveUp.lnk.retry = (if a.linkUp then [] else a.lnk.retry) := by
  cases h : a.linkUp with
  | false =>
    rw [Blk.leaveUp_of_down h]
    exact ⟨rfl, rfl, rfl⟩
  | true =>
    obtain ⟨-, hnow, -, -, -, hreg, -⟩ := Blk.leaveUp_portOnly h
    obtain ⟨tly, more, hunsent, -, -⟩ := a.unsent_shape
    rw [hunsent] at hnow hreg
    exact ⟨hnow, hreg, congrArg LnkSt.retry (Blk.leaveUp_lnk h)⟩

theorem Blk.startTraining_spec (a : Blk) (p : Nat) :
    let c := a.startTraining p
    c.lnk.state = (if p = 1 then .detect else .clock) ∧ c.lnk.phase = p ∧ c.lnk.phaseAt = a.now ∧ c.lnk.attempt = 1 ∧
      c.lnk.retry = (if a.linkUp then [] else a.lnk.retry) ∧
      c.lnk.lanes.all (fun l => l.rx == .off && l.tx == .off && !l.aligned) = true ∧
      c.regF Reg.LNK_TRAINS 15 0 = min (a.regF Reg.LNK_TRAINS 15 0 + 1) 65535 := by
  obtain ⟨hnow, hreg, hretry⟩ := a.leaveUp_kept
  refine ⟨rfl, rfl, hnow, rfl, hretry, a.leaveUp.clearLanes_lanes, ?_⟩
  have hcount : (a.startTraining p).regF Reg.LNK_TRAINS 15 0 = (a.leaveUp.clearLanes.bump Reg.LNK_TRAINS 15 0 1).regF Reg.LNK_TRAINS 15 0 :=
    rfl
  have hold : a.leaveUp.clearLanes.regF Reg.LNK_TRAINS 15 0 = a.regF Reg.LNK_TRAINS 15 0 := by
    rw [Blk.regF, Blk.regN, Blk.regF, Blk.regN, ← hreg]
    rfl
  rw [hcount, Blk.regF_bump_16 _ _ 1 rfl (by decide), hold]

theorem detectCheck_of_clock {lanes : Nat} (hstate : b.lnk.state = .detect) (hclock : b.lnk.ckPresent = true) (hlanes : 3 ≤ popcount 5 lanes)
    (hready : b.domReady 6 = true) : detectCheck lanes b = if b.coppice || b.sys.coppiceStart then b.startLimp 1 else
      { b with lnk := { b.lnk with
        state := .clock, phase := 2, phaseAt := b.now, lastPhase := max 2 b.lnk.lastPhase, attempt := 1 } } := by
  have hmore : ¬ popcount 5 lanes < 3 := by omega
  exact if_neg (by simp [hstate, hclock, hmore, hready])

theorem linkAckLoss_of_silent (h : b.linkUp = true) (hsilent : b.lnk.lastAckIn + 312500 ≤ b.now) (hclock : b.lnk.ckPresent = true)
    (hno : b.coppice = false) : linkAckLoss b = b.startTraining 2 := by
  simp [linkAckLoss, h, hsilent, Blk.retrain, hclock, hno]

end Starts

/-! ### Phases that make no progress (14 R536) -/

section Timeouts
variable {b : Blk}

/-- The engine with one more failed phase counted and shown. -/
def Blk.phaseFailed (b : Blk) : Blk := (b.bump Reg.LNK_TRAINS 31 16 1).raise 0x2021

theorem Blk.phaseFailed_lnk (b : Blk) : b.phaseFailed.lnk = b.lnk := Blk.raise_lnk _ _

theorem Blk.phaseFailed_now (b : Blk) : b.phaseFailed.now = b.now := Blk.raise_now _ _

/-- One of the phases of full training runs. -/
def Blk.inPhase (b : Blk) : Prop := b.lnk.state = .clock ∨ b.lnk.state = .align ∨ b.lnk.state = .eq ∨ b.lnk.state = .confirm

theorem lnkTrainTimeout_of_phase (h : b.inPhase) (hdue : b.lnk.phaseAt + 3125000 ≤ b.now) : lnkTrainTimeout b =
    if b.lnk.attempt < 3 then { b.phaseFailed with lnk := { b.phaseFailed.lnk with attempt := b.lnk.attempt + 1, phaseAt := b.now } }
    else (b.phaseFailed.raise 0x2022).startLimp 1 := by
  have hlate : ¬ b.now < b.lnk.phaseAt + 3125000 := by omega
  have hphase : (decide (b.lnk.state = .clock) || decide (b.lnk.state = .align) || decide (b.lnk.state = .eq) ||
      decide (b.lnk.state = .confirm)) = true := by
    simpa [Blk.inPhase, or_assoc] using h
  have hfull : ¬ b.lnk.state = .limpTrain := by
    rcases h with h | h | h | h <;> rw [h] <;> decide
  have hlnk := b.phaseFailed_lnk
  have hnow := b.phaseFailed_now
  unfold Blk.phaseFailed at hlnk hnow
  simp only [lnkTrainTimeout, hphase, hfull, hlate, decide_false, Bool.or_true, Bool.not_true, Bool.or_self, Bool.false_eq_true, if_false,
    Blk.phaseFailed, hlnk, hnow]

theorem lnkTrainTimeout_of_limp (h : b.lnk.state = .limpTrain) (hdue : b.lnk.phaseAt + 3125000 ≤ b.now) : lnkTrainTimeout b =
    if b.lnk.limpAttempt < 2 then b.phaseFailed.startLimp 2 else b.phaseFailed.standalone := by
  have hlate : ¬ b.now < b.lnk.phaseAt + 3125000 := by omega
  have hlnk := b.phaseFailed_lnk
  unfold Blk.phaseFailed at hlnk
  simp only [lnkTrainTimeout, h, hlate, decide_true, decide_false, Bool.true_or, Bool.not_true, Bool.or_self, Bool.false_eq_true, if_false,
    if_true, Blk.phaseFailed, hlnk]

/-- The ring's source is as asked; only its own flag in the link's state differs. -/
theorem Blk.ringSource_shape (b : Blk) (forward : Bool) :
    ∃ regs evt, b.ringSource forward = { b with regs := regs, evt := evt, lnk := { b.lnk with ckForward := forward } } := by
  unfold Blk.ringSource
  split
  · next h => subst h; exact ⟨b.regs, b.evt, rfl⟩
  · obtain ⟨regs, evt, hevent⟩ := Blk.event_shape (({ b with lnk := { b.lnk with ckForward := forward } } : Blk).bump Reg.LNKCK_CK_EVENTS 31 16 1)
      0x10 1 0x0000
    exact ⟨regs, evt, hevent⟩

theorem Blk.standalone_spec (b : Blk) : b.standalone.lnk.state = .standalone ∧ b.standalone.lnk.ckForward = false ∧
    b.standalone.lnk.ckLocked = false ∧ b.standalone.regF (Reg.HDR_FAULT 0x0A) 15 0 = 0x2023 := by
  obtain ⟨regs, evt, hring⟩ := b.leaveUp.clearLanes.ringSource_shape false
  have hlnk : ((b.leaveUp.clearLanes.ringSource false).raise 0x2023).lnk.ckForward = false := by
    rw [Blk.raise_lnk, hring]
  have hfault := (b.leaveUp.clearLanes.ringSource false).fault_raise (code := 0x2023) rfl rfl (by decide) (by decide)
  exact ⟨rfl, hlnk, rfl, hfault⟩

end Timeouts

/-! ### The end of a phase (14 R535, R545) -/

theorem getD_map_zipIdx {α : Type} (l : List α) (f : α × Nat → α) {n : Nat} (h : n < l.length) (d : α) :
    (l.zipIdx.map f).getD n d = f (l.getD n d, n) := by
  simp [List.getD_eq_getElem?_getD, h]

section Phases
variable (b : Blk) (i : TrainInfo)

/-- One lane's equaliser as EQ leaves it (14 R545, R546). -/
def Blk.eqLaneDone (s : Blk) (i : TrainInfo) (n : Nat) : Blk :=
  if !(s.lane n).aligned then s
  else
    (s.setF (Reg.LNK_CTLE n) 3 0 (if bitN (s.regN (Reg.LNK_CTLE_CFG n)) 4 then fld (s.regN (Reg.LNK_CTLE_CFG n)) 3 0 else eqSetting (i.peaks.getD n []))).updLane
      n (fun l => { l with trial := 0, openPts := 0, lowEyes := 0 })

/-- Only registers and what the lanes keep differ. -/
def Blk.LaneOnly (b c : Blk) : Prop := ∃ regs lanes, c = { b with regs := regs, lnk := { b.lnk with lanes := lanes } } ∧ lanes.length = b.lnk.lanes.length

theorem Blk.LaneOnly.refl : b.LaneOnly b := ⟨b.regs, b.lnk.lanes, rfl, rfl⟩

theorem Blk.LaneOnly.trans {b c d : Blk} (h : b.LaneOnly c) (k : c.LaneOnly d) : b.LaneOnly d := by
  obtain ⟨regs, lanes, rfl, hlen⟩ := h
  obtain ⟨regs', lanes', rfl, hlen'⟩ := k
  exact ⟨regs', lanes', rfl, hlen'.trans hlen⟩

theorem Blk.laneOnly_foldl {f : Blk → Nat → Blk} (hf : ∀ (x : Blk) n, x.LaneOnly (f x n)) (l : List Nat) (b : Blk) : b.LaneOnly (l.foldl f b) := by
  induction l generalizing b with
  | nil => exact .refl _
  | cons n l ih => exact (hf b n).trans (ih (f b n))

theorem Blk.laneOnly_eqLaneDone (n : Nat) : b.LaneOnly (b.eqLaneDone i n) := by
  unfold Blk.eqLaneDone
  split
  · exact .refl b
  · exact ⟨_, _, rfl, upd_length _ _ _⟩

/-- The lanes as a phase leaves them, before EQ's settings. -/
def Blk.phaseSeen (s : Blk) (phase : Nat) (i : TrainInfo) : Blk :=
  let lanes := s.lnk.lanes.zipIdx.map (fun (l, n) =>
    if phase = 2 then { l with lock := bitN i.rxLanes n }
    else if phase = 3 then { l with lock := bitN i.rxLanes n, aligned := bitN i.rxLanes n, inverted := bitN i.inverted n, partner := i.partner.getD n n % 8 }
    else { l with aligned := l.aligned && bitN i.rxLanes n })
  let s := (List.range 5).foldl (fun s n =>
    if phase = 3 && (s.lane n).lock && !bitN i.rxLanes n then s.bump (Reg.LNK_ERRORS n) 31 16 1 else s) s
  { s with lnk := { s.lnk with lanes := lanes } }

theorem Blk.phaseLanes_eq (phase : Nat) : b.phaseLanes phase i =
    if phase = 4 then (List.range 5).foldl (fun s n => s.eqLaneDone i n) (b.phaseSeen phase i) else b.phaseSeen phase i := rfl

theorem Blk.laneOnly_phaseSeen (phase : Nat) : b.LaneOnly (b.phaseSeen phase i) := by
  unfold Blk.phaseSeen
  extract_lets lanes x
  have hx : b.LaneOnly x := by
    refine Blk.laneOnly_foldl (fun y n => ?_) _ b
    split
    · exact ⟨_, y.lnk.lanes, rfl, rfl⟩
    · exact .refl y
  exact hx.trans ⟨x.regs, lanes, rfl, by
    obtain ⟨regs, seen, hshape, hlen⟩ := hx
    rw [hshape]
    exact (List.length_map _).trans (List.length_zipIdx.trans hlen.symm)⟩

theorem Blk.laneOnly_phaseLanes (phase : Nat) : b.LaneOnly (b.phaseLanes phase i) := by
  rw [Blk.phaseLanes_eq]
  split
  · exact (b.laneOnly_phaseSeen i phase).trans (Blk.laneOnly_foldl (fun x n => x.laneOnly_eqLaneDone i n) _ _)
  · exact b.laneOnly_phaseSeen i phase

end Phases

/-! ### EQ's settings (14 R545) -/

section Settings
variable (b : Blk) (i : TrainInfo)

theorem eqSetting_lt (counts : List Nat) : eqSetting counts < 16 := Nat.mod_lt _ (by decide)

theorem Blk.eqLaneDone_cfg (n m : Nat) : (b.eqLaneDone i n).regN (Reg.LNK_CTLE_CFG m) = b.regN (Reg.LNK_CTLE_CFG m) := by
  have hne : Reg.LNK_CTLE_CFG m ≠ Reg.LNK_CTLE n := by simp only [Reg.LNK_CTLE_CFG, Reg.LNK_CTLE]; omega
  unfold Blk.eqLaneDone
  split
  · rfl
  · exact congrArg BitVec.toNat (b.reg_setReg_other _ hne)

theorem Blk.eqLaneDone_aligned (n m : Nat) : ((b.eqLaneDone i n).lane m).aligned = (b.lane m).aligned := by
  unfold Blk.eqLaneDone
  split
  · rfl
  · by_cases hm : m = n
    · subst hm
      by_cases hlt : m < b.lnk.lanes.length
      · exact (congrArg LaneSt.aligned (upd_getD_same b.lnk.lanes m _ {} hlt)).trans rfl
      · have hout (l : List LaneSt) (h : ¬ m < l.length) : l.getD m {} = {} := List.getD_eq_default _ _ (Nat.le_of_not_lt h)
        refine congrArg LaneSt.aligned ((hout _ ?_).trans (hout _ hlt).symm)
        exact fun h => hlt ((upd_length b.lnk.lanes m _).symm ▸ h)
    · exact congrArg LaneSt.aligned (upd_getD_other b.lnk.lanes n m _ _ hm)

theorem Blk.eqLaneDone_other {n m : Nat} (h : m ≠ n) : (b.eqLaneDone i n).regF (Reg.LNK_CTLE m) 3 0 = b.regF (Reg.LNK_CTLE m) 3 0 := by
  have hne : Reg.LNK_CTLE m ≠ Reg.LNK_CTLE n := by simp only [Reg.LNK_CTLE]; omega
  unfold Blk.eqLaneDone
  split
  · rfl
  · exact congrArg (fun w : Word => fld w.toNat 3 0) (b.reg_setReg_other _ hne)

theorem Blk.eqLaneDone_same {n : Nat} (haligned : (b.lane n).aligned = true) (hfree : bitN (b.regN (Reg.LNK_CTLE_CFG n)) 4 = false) :
    (b.eqLaneDone i n).regF (Reg.LNK_CTLE n) 3 0 = eqSetting (i.peaks.getD n []) := by
  unfold Blk.eqLaneDone
  rw [haligned, hfree]
  refine (Blk.regF_setF_same b (Reg.LNK_CTLE n) _ (by decide) (by decide)).trans ?_
  exact Nat.mod_eq_of_lt (eqSetting_lt _)

theorem Blk.eqSettings_foldl (l : List Nat) (hnodup : l.Nodup) {n : Nat} :
    (n ∉ l → (l.foldl (fun s n => s.eqLaneDone i n) b).regF (Reg.LNK_CTLE n) 3 0 = b.regF (Reg.LNK_CTLE n) 3 0) ∧
    (n ∈ l → (b.lane n).aligned = true → bitN (b.regN (Reg.LNK_CTLE_CFG n)) 4 = false →
      (l.foldl (fun s n => s.eqLaneDone i n) b).regF (Reg.LNK_CTLE n) 3 0 = eqSetting (i.peaks.getD n [])) := by
  induction l generalizing b with
  | nil => exact ⟨fun _ => rfl, fun h => absurd h List.not_mem_nil⟩
  | cons m l ih =>
    obtain ⟨hm, hl⟩ := List.nodup_cons.mp hnodup
    obtain ⟨hout, hin⟩ := ih (b.eqLaneDone i m) hl
    refine ⟨fun h => ?_, fun h haligned hfree => ?_⟩
    · obtain ⟨hne, hnl⟩ := not_or.mp (mt List.mem_cons.mpr h)
      exact (hout hnl).trans (b.eqLaneDone_other i hne)
    · rcases List.mem_cons.mp h with rfl | hmem
      · exact (hout hm).trans (b.eqLaneDone_same i haligned hfree)
      · exact hin hmem (by rw [Blk.eqLaneDone_aligned]; exact haligned) (by rw [Blk.eqLaneDone_cfg]; exact hfree)

theorem Blk.phaseSeen_eq_regs : (b.phaseSeen 4 i).regs = b.regs := rfl

theorem Blk.phaseSeen_eq_aligned {n : Nat} (hlen : b.lnk.lanes.length = 5) (hn : n < 5) (haligned : (b.lnk.lanes.getD n {}).aligned = true)
    (hlane : bitN i.rxLanes n = true) : ((b.phaseSeen 4 i).lane n).aligned = true := by
  have hget := getD_map_zipIdx b.lnk.lanes (fun (l, n) => if (4 : Nat) = 2 then { l with lock := bitN i.rxLanes n }
    else if (4 : Nat) = 3 then { l with lock := bitN i.rxLanes n, aligned := bitN i.rxLanes n, inverted := bitN i.inverted n, partner := i.partner.getD n n % 8 }
    else { l with aligned := l.aligned && bitN i.rxLanes n }) (n := n) (by omega) {}
  refine (congrArg LaneSt.aligned hget).trans ?_
  dsimp only
  rw [if_neg (by decide), if_neg (by decide)]
  dsimp only
  rw [haligned, hlane]
  rfl

/-- EQ leaves each aligned lane that has no fixed setting at the one with the most open points (14 R545). -/
theorem Blk.phaseLanes_eqSetting {n : Nat} (hlen : b.lnk.lanes.length = 5) (hn : n < 5) (haligned : (b.lnk.lanes.getD n {}).aligned = true)
    (hlane : bitN i.rxLanes n = true) (hfree : bitN (b.regN (Reg.LNK_CTLE_CFG n)) 4 = false) :
    (b.phaseLanes 4 i).regF (Reg.LNK_CTLE n) 3 0 = eqSetting (i.peaks.getD n []) := by
  rw [Blk.phaseLanes_eq, if_pos rfl]
  obtain ⟨-, hin⟩ := (b.phaseSeen 4 i).eqSettings_foldl i (List.range 5) List.nodup_range (n := n)
  exact hin (List.mem_range.mpr hn) (b.phaseSeen_eq_aligned i hlen hn haligned hlane) hfree

end Settings

/-! ### The link comes up (14 R535) -/

/-- The lanes of a link that has come up. -/
def upLanes (limp : Bool) (rx tx : Nat) (lanes : List LaneSt) : List LaneSt :=
  let lanes := giveRoles (if limp then 1 else 4) (if limp then rx % 2 else rx) (if limp then tx % 2 else tx) lanes
  if limp then lanes.zipIdx.map (fun (l, i) => if i = 0 then l else { l with rx := .off, tx := .off }) else lanes

section Up
variable (b : Blk)

theorem Blk.enterUp_spec (limp : Bool) (rx tx : Nat) :
    let c := b.enterUp limp rx tx
    c.lnk.state = (if limp then .limpUp else .up) ∧ c.lnk.txSeq = 0 ∧ c.lnk.rxSeq = 0 ∧ c.lnk.retry = [] ∧ c.linkUp = true ∧
      c.lnk.lanes = upLanes limp rx tx b.lnk.lanes := by
  have hclear (x : Blk) (dir : Bool) (bit : Nat) :
      (if x.laneSpare dir then x.setN Reg.UST_DEGRADED (putBit (x.regN Reg.UST_DEGRADED) bit false) else x).lnk = x.lnk := by
    split <;> rfl
  unfold Blk.enterUp
  extract_lets lanes lanes' lnk x clear
  have hfirst : (clear x false 2).lnk = x.lnk := hclear x false 2
  have hsecond : (clear (clear x false 2) true 3).lnk = (clear x false 2).lnk := hclear _ true 3
  have hlnk := hsecond.trans hfirst
  have hsent (y : Blk) (hy : y.lnk = x.lnk) : y.sendAlign.lnk.state = (if limp then .limpUp else .up) ∧ y.sendAlign.lnk.txSeq = 0 ∧
      y.sendAlign.lnk.rxSeq = 0 ∧ y.sendAlign.lnk.retry = [] ∧ y.sendAlign.lnk.lanes = upLanes limp rx tx b.lnk.lanes := by
    have hstate : y.sendAlign.lnk = { y.lnk with stripeAt := y.now, stripeNo := y.stripeNow } := rfl
    rw [hstate, hy]
    exact ⟨rfl, rfl, rfl, rfl, rfl⟩
  obtain ⟨hstate, htx, hrx, hretry, hlanes⟩ := hsent _ hlnk
  refine ⟨hstate, htx, hrx, hretry, ?_, hlanes⟩
  rw [Blk.linkUp, hstate]
  cases limp <;> rfl

/-- A lane's role in a direction, of up to `max` active ones (14 R535). -/
def roleOf (max mask i : Nat) : LaneRole :=
  if !bitN mask i then .failed else if popcount i mask < max then .active else if max = 4 && popcount i mask = max then .spare else .off

theorem giveRoles_getD (max rx tx : Nat) (lanes : List LaneSt) {n : Nat} (h : n < lanes.length) :
    (giveRoles max rx tx lanes).getD n {} = { lanes.getD n {} with rx := roleOf max rx n, tx := roleOf max tx n } :=
  getD_map_zipIdx lanes (fun (l, i) => { l with rx := roleOf max rx i, tx := roleOf max tx i }) h {}

theorem roleOf_active (mask n : Nat) : roleOf 4 mask n = .active ↔ bitN mask n = true ∧ popcount n mask < 4 := by
  unfold roleOf
  cases bitN mask n with
  | false => simp
  | true =>
    by_cases h : popcount n mask < 4
    · simp [h]
    · by_cases h4 : popcount n mask = 4 <;> simp [h, h4]

theorem roleOf_failed (mask n : Nat) : roleOf 4 mask n = .failed ↔ bitN mask n = false := by
  unfold roleOf
  cases bitN mask n with
  | false => simp
  | true =>
    by_cases h : popcount n mask < 4
    · simp [h]
    · by_cases h4 : popcount n mask = 4 <;> simp [h, h4]

theorem upLanes_full (rx tx : Nat) (lanes : List LaneSt) {n : Nat} (h : n < lanes.length) :
    ((upLanes false rx tx lanes).getD n {}).rx = roleOf 4 rx n ∧ ((upLanes false rx tx lanes).getD n {}).tx = roleOf 4 tx n := by
  have hget := giveRoles_getD 4 rx tx lanes h
  exact ⟨congrArg LaneSt.rx hget, congrArg LaneSt.tx hget⟩

theorem roleOf_limp {mask : Nat} (h : bitN mask 0 = true) : roleOf 1 (mask % 2) 0 = .active := by
  have hbit : bitN (mask % 2) 0 = true := by
    rw [bitN_eq_testBit] at h ⊢
    simpa using h
  unfold roleOf
  rw [hbit]
  rfl

theorem upLanes_limp {rx tx : Nat} (lanes : List LaneSt) (hrx : bitN rx 0 = true) (htx : bitN tx 0 = true) (hlen : lanes.length = 5) :
    ((upLanes true rx tx lanes).getD 0 {}).rx = .active ∧ ((upLanes true rx tx lanes).getD 0 {}).tx = .active ∧
      ∀ n < 5, 0 < n → ((upLanes true rx tx lanes).getD n {}).rx = .off := by
  have hroles : (giveRoles 1 (rx % 2) (tx % 2) lanes).length = 5 := (List.length_map _).trans (List.length_zipIdx.trans hlen)
  have hget {n : Nat} (hn : n < 5) : (upLanes true rx tx lanes).getD n {} =
      if n = 0 then (giveRoles 1 (rx % 2) (tx % 2) lanes).getD n {} else { (giveRoles 1 (rx % 2) (tx % 2) lanes).getD n {} with rx := .off, tx := .off } :=
    getD_map_zipIdx (giveRoles 1 (rx % 2) (tx % 2) lanes)
      (fun (p : LaneSt × Nat) => if p.2 = 0 then p.1 else { p.1 with rx := .off, tx := .off }) (by omega) {}
  have hzero := (hget (n := 0) (by decide)).trans (if_pos rfl)
  rw [giveRoles_getD _ _ _ _ (by omega)] at hzero
  refine ⟨(congrArg LaneSt.rx hzero).trans (roleOf_limp hrx), (congrArg LaneSt.tx hzero).trans (roleOf_limp htx), fun n hn hpos => ?_⟩
  rw [hget hn, if_neg (by omega)]

end Up

/-! ### O51 -/

section Done
variable {b : Blk} {i : TrainInfo}

/-- The ring on the forwarded clock, as CLOCK's end leaves it (14 R517). -/
def Blk.clocked (b : Blk) : Blk :=
  { b.ringSource true with lnk := { (b.ringSource true).lnk with ckLocked := true, holdover := none } }

theorem trainPhaseDone_of_training (h : b.inPhase ∨ b.lnk.state = .limpTrain) (henough : enoughLanes (b.lnk.state = .limpTrain) i = true) :
    trainPhaseDone i b =
      (let y := b.phaseLanes b.lnk.phase i
       let z := if b.lnk.phase = 2 then y.clocked else y
       if 5 ≤ b.lnk.phase then z.enterUp (b.lnk.state = .limpTrain) i.rxLanes i.txLanes
       else { z with lnk := { z.lnk with
         phase := b.lnk.phase + 1, phaseAt := z.now, lastPhase := max z.lnk.lastPhase (b.lnk.phase + 1), attempt := 1
         state := if b.lnk.state = .limpTrain then .limpTrain else phaseState (b.lnk.phase + 1) } }) := by
  have htrain : (decide (b.lnk.state = .limpTrain) || decide (b.lnk.state = .clock) || decide (b.lnk.state = .align) ||
      decide (b.lnk.state = .eq) || decide (b.lnk.state = .confirm)) = true := by
    simp only [Blk.inPhase] at h
    simp only [Bool.or_eq_true, decide_eq_true_eq]
    tauto
  unfold trainPhaseDone
  dsimp only
  rw [if_neg (by rw [htrain, henough]; decide)]
  rfl

theorem trainPhaseDone_spec (h : b.inPhase ∨ b.lnk.state = .limpTrain) (henough : enoughLanes (b.lnk.state = .limpTrain) i = true) :
    let c := trainPhaseDone i b
    (b.lnk.phase < 5 → c.lnk.phase = b.lnk.phase + 1 ∧ c.lnk.phaseAt = b.now ∧ c.lnk.attempt = 1 ∧
      c.lnk.state = (if b.lnk.state = .limpTrain then .limpTrain else phaseState (b.lnk.phase + 1))) ∧
    (b.lnk.phase = 2 → c.lnk.ckForward = true ∧ c.lnk.ckLocked = true ∧ c.lnk.holdover = none) ∧
    (b.lnk.phase = 4 → c.regs = (b.phaseLanes 4 i).regs) ∧
    (b.lnk.phase = 5 → ∃ z : Blk, c = z.enterUp (b.lnk.state = .limpTrain) i.rxLanes i.txLanes ∧ z.lnk.lanes.length = b.lnk.lanes.length) := by
  obtain ⟨regs, lanes, hseen, hlen⟩ := b.laneOnly_phaseLanes i b.lnk.phase
  obtain ⟨regs', evt, hring⟩ := (b.phaseLanes b.lnk.phase i).ringSource_shape true
  rw [trainPhaseDone_of_training h henough]
  dsimp only
  refine ⟨fun hphase => ?_, fun hphase => ?_, fun hphase => ?_, fun hphase => ?_⟩
  · rw [if_neg (by omega)]
    refine ⟨rfl, ?_, rfl, rfl⟩
    dsimp only
    split
    · rw [Blk.clocked, hring, hseen]
    · rw [hseen]
  · rw [if_neg (by omega), if_pos hphase]
    exact ⟨congrArg (fun x : Blk => x.lnk.ckForward) hring, rfl, rfl⟩
  · rw [if_neg (by omega), if_neg (by omega), hphase]
  · rw [if_pos (by omega), if_neg (by omega)]
    exact ⟨_, rfl, by rw [hseen]; exact hlen⟩

end Done

theorem Blk.settle_lane (b : Blk) (n : Nat) : b.settle.lane n = b.lane n := rfl

/-- Settles O51: each end of a phase by what it leaves in the lanes, and leaving UP by what the stores keep. -/
theorem theLinkTrains : Obligations.TheLinkTrains := by
  unfold Obligations.TheLinkTrains
  intro dt lanes i s b k x limp phase
  refine ⟨fun hstate hclock hlanes hready => ⟨fun hno hno' => ?_, fun hcoppice => ?_⟩, fun htrain henough => ?_, fun hdue => ?timeout,
    fun hup hsilent hclock hno => ?_, fun hup => Blk.leaveUp_spec hup, fun a p => a.startTraining_spec p⟩
  · rw [exec_detectCheck, detectCheck_of_clock hstate hclock hlanes hready, hno, hno']
    rfl
  · refine leaves_of_exec (exec_detectCheck dt lanes s) ?_
    rw [detectCheck_of_clock hstate hclock hlanes hready, hcoppice]
    have hdown : b.linkUp = false := by rw [Blk.linkUp, show b.lnk.state = .detect from hstate]; rfl
    rw [if_pos (by rfl), Blk.startLimp, Blk.leaveUp_of_down hdown]
    exact ⟨rfl, rfl, rfl, rfl, rfl⟩
  · have htrain' : b.inPhase ∨ b.lnk.state = .limpTrain := htrain.imp id of_decide_eq_true
    obtain ⟨hnext, hclock, hregs, hup⟩ := trainPhaseDone_spec htrain' henough
    refine leaves_of_exec (exec_trainPhaseDone dt i s) ⟨fun hphase => ?_, hclock, fun hphase hlen n hn haligned hlane hfree => ?_, fun hphase hlen => ?_⟩
    · obtain ⟨hp, hat, hattempt, hstate⟩ := hnext hphase
      refine ⟨hp, hat, hattempt, hstate.trans ?_⟩
      simp only [limp, decide_eq_true_eq]
      rfl
    · exact (Blk.regF_congr (hregs hphase) _ _ _).trans (b.phaseLanes_eqSetting i hlen hn haligned hlane hfree)
    · obtain ⟨z, hz, hzlen⟩ := hup hphase
      obtain ⟨hstate, htx, hrx, hretry, hlink, hroles⟩ := z.enterUp_spec limp i.rxLanes i.txLanes
      have hlanes : z.lnk.lanes.length = 5 := hzlen.trans hlen
      rw [← hz] at hstate htx hrx hretry hlink hroles
      have hlane (n : Nat) : (trainPhaseDone i b).settle.lane n = (upLanes limp i.rxLanes i.txLanes z.lnk.lanes).getD n {} := by
        rw [Blk.settle_lane, Blk.lane, hroles]
      refine ⟨hstate, htx, hrx, hretry, hlink, fun hfull n hn => ?_, fun hlimp => ?_⟩
      · obtain ⟨hrole, htrole⟩ := upLanes_full i.rxLanes i.txLanes z.lnk.lanes (n := n) (by omega)
        rw [hfull] at hlane
        have hr := (congrArg LaneSt.rx (hlane n)).trans hrole
        have ht := (congrArg LaneSt.tx (hlane n)).trans htrole
        exact ⟨hr ▸ roleOf_active i.rxLanes n, ht ▸ roleOf_active i.txLanes n, hr ▸ roleOf_failed i.rxLanes n⟩
      · rw [hlimp] at hlane henough
        obtain ⟨hrx0, htx0⟩ := Bool.and_eq_true_iff.mp henough
        obtain ⟨hr, ht, hoff⟩ := upLanes_limp z.lnk.lanes hrx0 htx0 hlanes
        exact ⟨(congrArg LaneSt.rx (hlane 0)).trans hr, (congrArg LaneSt.tx (hlane 0)).trans ht,
          fun n hn hpos => (congrArg LaneSt.rx (hlane n)).trans (hoff n hn hpos)⟩
  case timeout =>
    refine ⟨fun hphase hmore => ?_, fun hphase hlast => ?_, fun hlimp hmore => ?_, fun hlimp hlast => ?_⟩
    · rw [exec_lnkTrainTimeout, lnkTrainTimeout_of_phase hphase hdue, if_pos hmore]
      rfl
    · rw [exec_lnkTrainTimeout, lnkTrainTimeout_of_phase hphase hdue, if_neg (Nat.not_lt.mpr hlast)]
      rfl
    · rw [exec_lnkTrainTimeout, lnkTrainTimeout_of_limp (of_decide_eq_true hlimp) hdue, if_pos hmore]
      rfl
    · refine leaves_of_exec (exec_lnkTrainTimeout dt s) ?_
      rw [lnkTrainTimeout_of_limp (of_decide_eq_true hlimp) hdue, if_neg (Nat.not_lt.mpr hlast)]
      exact Blk.standalone_spec _
  · rw [exec_linkAckLoss, linkAckLoss_of_silent hup hsilent hclock hno]

end Sys2Proof.Machine
end

section
/-! Why O52 fails: a link that stands alone stays so when it is held down (14 R537; `Blk.holdDown`), and the statement has every held link
down. -/
namespace Sys2Proof.Machine

theorem exec_lnkHoldDown (dt : Nat) (who : Who) (v : Bool) (s : State) : exec (.lnkHoldDown dt who v) s =
    .next (s.after ((s.blk.elapse dt).write1 who Reg.LNK_CTL (BitVec.ofNat 32 (2 * b2n v)))) := rfl

/-- The engine in STANDALONE, with a Service session on slot 0. -/
def standingAlone : State :=
  { pending := [], blk := { lnk := { state := .standalone }, ses := { slots := [{ st := .opened, role := 2 }, {}, {}, {}] } } }

/-- The write leaves the link in STANDALONE. -/
theorem standingAlone_held : ((standingAlone.blk.elapse 0).write1 (some 0) Reg.LNK_CTL (BitVec.ofNat 32 (2 * b2n true))).lnk.state = .standalone := by
  decide +kernel

/-- Refutes O52: LNK.CTL.hold_down written in `standingAlone` does not take the link down. -/
theorem not_clocksAndLanesComeAndGo : ¬ Obligations.ClocksAndLanesComeAndGo := by
  unfold Obligations.ClocksAndLanesComeAndGo
  intro h
  obtain ⟨-, -, -, -, -, -, hwrites⟩ := h 0 0 0 0 0 0 standingAlone
  obtain ⟨hctl, -⟩ := hwrites ⟨by decide +kernel, by decide +kernel⟩ (by decide +kernel)
  obtain ⟨hfree, -⟩ := hctl (by decide +kernel)
  obtain ⟨-, hdown⟩ := hfree (by decide +kernel)
  obtain ⟨hstate, -⟩ := hdown.of_exec (exec_lnkHoldDown 0 (some 0) true standingAlone)
  rw [Blk.settle_lnk, standingAlone_held] at hstate
  exact absurd hstate (by decide)

end Sys2Proof.Machine
end

section
/-! The refresh debt of the external memory (15 R570 to R574): O53. -/
namespace Sys2Proof.Machine

/-! ### One rank put in its place -/

theorem upd_congr {α : Type} (d : α) {l : List α} {i : Nat} {f g : α → α} (h : f (l.getD i d) = g (l.getD i d)) : upd l i f = upd l i g := by
  induction l generalizing i with
  | nil => rfl
  | cons a t ih =>
    cases i with
    | zero => exact congrArg (· :: t) h
    | succ i => exact congrArg (a :: ·) (ih h)

theorem upd_upd {α : Type} (l : List α) (i : Nat) (f g : α → α) : upd (upd l i f) i g = upd l i (g ∘ f) := by
  induction l generalizing i with
  | nil => rfl
  | cons a t ih =>
    cases i with
    | zero => rfl
    | succ i => exact congrArg (a :: ·) (ih i)

theorem upd_of_eq {α : Type} (d : α) {l : List α} {i : Nat} {f : α → α} (h : f (l.getD i d) = l.getD i d) : upd l i f = l := by
  induction l generalizing i with
  | nil => rfl
  | cons a t ih =>
    cases i with
    | zero => exact congrArg (· :: t) h
    | succ i => exact congrArg (a :: ·) (ih h)

/-- A rank's state replaced. -/
def Blk.putRank (b : Blk) (ch r : Nat) (q : RankSt) : Blk := b.updMem ch (fun c => c.updRank r (fun _ => q))

section
variable (b : Blk) (ch r : Nat) (q : RankSt)

theorem Blk.updRank_eq_putRank (f : RankSt → RankSt) :
    b.updMem ch (fun c => c.updRank r f) = b.putRank ch r (f ((b.memCh ch).rank r)) := by
  have hranks : (b.memCh ch).updRank r f = (b.memCh ch).updRank r (fun _ => f ((b.memCh ch).rank r)) := by
    unfold MemCh.updRank
    rw [upd_congr (g := fun _ => f ((b.memCh ch).rank r)) {} rfl]
  have hchans : upd b.mem.chans ch (fun c => c.updRank r f) = upd b.mem.chans ch (fun c => c.updRank r (fun _ => f ((b.memCh ch).rank r))) :=
    upd_congr (f := fun c => c.updRank r f) ({} : MemCh) hranks
  exact congrArg (fun l => ({ b with mem := { b.mem with chans := l } } : Blk)) hchans

theorem Blk.putRank_putRank (p : RankSt) : (b.putRank ch r p).putRank ch r q = b.putRank ch r q := by
  have hranks : (fun c : MemCh => c.updRank r (fun _ => q)) ∘ (fun c : MemCh => c.updRank r (fun _ => p)) =
      fun c => c.updRank r (fun _ => q) := by
    funext c
    exact congrArg (fun l => ({ c with ranks := l } : MemCh)) (upd_upd c.ranks r _ _)
  unfold Blk.putRank Blk.updMem
  dsimp only
  rw [upd_upd, hranks]

theorem Blk.rank_putRank {b : Blk} {ch r : Nat} {q : RankSt} (hch : ch < b.mem.chans.length) (hr : r < (b.memCh ch).ranks.length) :
    ((b.putRank ch r q).memCh ch).rank r = q := by
  rw [Blk.putRank, Blk.memCh_updMem_same _ _ _ hch]
  exact upd_getD_same _ _ _ _ hr

theorem Blk.burst_putRank : ((b.putRank ch r q).memCh ch).burst = (b.memCh ch).burst :=
  b.memCh_updMem MemCh.burst ch (f := fun c => c.updRank r (fun _ => q)) (fun _ => rfl) ch

theorem Blk.bump_putRank (a hi lo n : Nat) : (b.putRank ch r q).bump a hi lo n = (b.bump a hi lo n).putRank ch r q := rfl

/-! ### What is raised does not concern the memory -/

theorem Blk.notice_withMem (m : MemSt) (page bit code : Nat) :
    ({ b with mem := m } : Blk).notice page bit code = { b.notice page bit code with mem := m } := by
  cases hroute : bitN (b.regN Reg.EVT_ROUTE) 0 with
  | true =>
    by_cases hroom : b.evt.held.length < 64
    · rw [Blk.notice_of_held page bit code (b := { b with mem := m }) hroute hroom, Blk.notice_of_held page bit code hroute hroom]
      rfl
    · have hfull : bitN (b.regN Reg.EVT_ROUTE) 0 = true ∧ 64 ≤ b.evt.held.length ∨
          bitN (b.regN Reg.EVT_ROUTE) 0 = false ∧ b.linkUp = false := .inl ⟨hroute, Nat.le_of_not_lt hroom⟩
      rw [Blk.notice_of_lost page bit code (b := { b with mem := m }) hfull, Blk.notice_of_lost page bit code hfull]
      rfl
  | false =>
    cases hlink : b.linkUp with
    | true =>
      rw [Blk.notice_of_linked page bit code (b := { b with mem := m }) hroute hlink, Blk.notice_of_linked page bit code hroute hlink]
      rfl
    | false =>
      rw [Blk.notice_of_lost page bit code (b := { b with mem := m }) (.inr ⟨hroute, hlink⟩),
        Blk.notice_of_lost page bit code (.inr ⟨hroute, hlink⟩)]
      rfl

/-- An event of a bit would be newly latched, enabled and reported. -/
def Blk.reportsBit (b : Blk) (page bit : Nat) : Bool :=
  !bitN (b.regN (Reg.HDR_EVT_LATCH page)) bit && bitN (b.regN (Reg.HDR_EVT_ENABLE page)) bit && bitN (b.regN (Reg.HDR_CONTROL page)) 1

theorem Blk.event_of_reported {page bit : Nat} (code : Nat) (h : b.reportsBit page bit = true) :
    b.event page bit code = (b.eventSet page bit).notice page bit code := (b.event_eq page bit code).trans (if_pos h)

theorem Blk.event_of_quiet {page bit : Nat} (code : Nat) (h : b.reportsBit page bit = false) :
    b.event page bit code = b.eventSet page bit := (b.event_eq page bit code).trans (if_neg (ne_true_of_eq_false h))

theorem Blk.event_withMem (m : MemSt) (page bit code : Nat) :
    ({ b with mem := m } : Blk).event page bit code = { b.event page bit code with mem := m } := by
  cases h : b.reportsBit page bit with
  | true =>
    rw [b.event_of_reported code h, Blk.event_of_reported { b with mem := m } code h]
    exact (b.eventSet page bit).notice_withMem m page bit code
  | false =>
    rw [b.event_of_quiet code h, Blk.event_of_quiet { b with mem := m } code h]
    rfl

theorem Blk.raise_withMem (m : MemSt) (code : Nat) : ({ b with mem := m } : Blk).raise code = { b.raise code with mem := m } := by
  unfold Blk.raise
  cases codeInfo code with
  | none => rfl
  | some i =>
    unfold Blk.raiseAt
    cases codeInfo code with
    | none => rfl
    | some i =>
      cases hfault : i.fault <;> cases hbit : i.bit <;> simp only [hfault, hbit, Bool.false_eq_true, if_false, if_true]
      · exact b.event_withMem m _ _ code
      · rfl
      · exact (b.latch _ code).event_withMem m _ _ code

theorem Blk.raise_putRank (code : Nat) : (b.putRank ch r q).raise code = (b.raise code).putRank ch r q := by
  have hraise := b.raise_withMem { b.mem with chans := upd b.mem.chans ch (fun c => c.updRank r (fun _ => q)) } code
  have hput (x : MemSt) (hx : x = b.mem) : ({ b.raise code with
      mem := { x with chans := upd x.chans ch (fun c => c.updRank r (fun _ => q)) } } : Blk) =
      { b.raise code with mem := { b.mem with chans := upd b.mem.chans ch (fun c => c.updRank r (fun _ => q)) } } := by rw [hx]
  exact hraise.trans (hput _ (b.raise_mem code)).symm

/-! ### What has been overdue (15 R573) -/

/-- A rank whose catch-up has met no chunk boundary within 625 ticks has caught up. -/
def RankSt.caughtUp (k : RankSt) (now : Nat) : RankSt :=
  if k.catchUp.any (fun t => t + 625 < now) then { k with debt := k.ceiling / 2, catchUp := none, insertDue := false } else k

end

/-- Ranks of a channel change, and counters of refreshes; nothing else does. -/
structure Blk.RanksTo (b : Blk) (ch : Nat) (f : List RankSt → List RankSt) (c : Blk) : Prop where
  shape : ∃ regs, c = { b.updMem ch (fun k => { k with ranks := f k.ranks }) with regs := regs }
  reg : ∀ a, a ≠ Reg.MEMF_REF_COUNTS → c.reg a = b.reg a

theorem Blk.RanksTo.trans {b c d : Blk} {ch : Nat} {f g : List RankSt → List RankSt} (h : b.RanksTo ch f c) (k : c.RanksTo ch g d) :
    b.RanksTo ch (g ∘ f) d := by
  obtain ⟨regs, rfl⟩ := h.shape
  obtain ⟨regs', rfl⟩ := k.shape
  refine ⟨⟨regs', ?_⟩, fun a ha => (k.reg a ha).trans (h.reg a ha)⟩
  unfold Blk.updMem
  dsimp only
  rw [upd_upd]
  rfl

theorem foldl_upd_succ (g : RankSt → RankSt) (a : RankSt) (t : List RankSt) (js : List Nat) :
    js.foldl (fun l i => upd l (i + 1) g) (a :: t) = a :: js.foldl (fun l i => upd l i g) t := by
  induction js generalizing t with
  | nil => rfl
  | cons j js ih => exact ih _

/-- Each rank changed in turn: all of them. -/
theorem foldl_upd_range (g : RankSt → RankSt) (l : List RankSt) : (List.range l.length).foldl (fun l i => upd l i g) l = l.map g := by
  induction l with
  | nil => rfl
  | cons a t ih =>
    rw [List.length_cons, List.range_succ_eq_map, List.foldl_cons, List.foldl_map]
    exact (foldl_upd_succ g (g a) t _).trans (congrArg (g a :: ·) ih)

section
variable {b : Blk} {ch : Nat}

theorem Blk.RanksTo.now {c : Blk} {f : List RankSt → List RankSt} (h : b.RanksTo ch f c) : c.now = b.now := by
  obtain ⟨regs, rfl⟩ := h.shape
  rfl

theorem Blk.RanksTo.refl (b : Blk) {ch : Nat} {f : List RankSt → List RankSt} (h : f (b.memCh ch).ranks = (b.memCh ch).ranks) :
    b.RanksTo ch f b := by
  have hch : ({ b.memCh ch with ranks := f (b.memCh ch).ranks } : MemCh) = b.memCh ch := by rw [h]
  have hchans : upd b.mem.chans ch (fun k => { k with ranks := f k.ranks }) = b.mem.chans :=
    upd_of_eq (f := fun k => { k with ranks := f k.ranks }) ({} : MemCh) hch
  refine ⟨⟨b.regs, ?_⟩, fun _ _ => rfl⟩
  unfold Blk.updMem
  rw [hchans]

theorem Blk.RanksTo.foldl {g : RankSt → RankSt} {step : Blk → Nat → Blk}
    (hstep : ∀ (s : Blk) (r : Nat), s.now = b.now → s.RanksTo ch (fun l => upd l r g) (step s r)) (js : List Nat) (c : Blk)
    (hc : c.now = b.now) : c.RanksTo ch (fun l => js.foldl (fun l i => upd l i g) l) (js.foldl step c) := by
  induction js generalizing c with
  | nil => exact .refl c rfl
  | cons j js ih =>
    have hone := hstep c j hc
    exact hone.trans (ih _ (hone.now.trans hc))

theorem Blk.RanksTo.congr {c : Blk} {f g : List RankSt → List RankSt} (h : b.RanksTo ch f c)
    (hfg : f (b.memCh ch).ranks = g (b.memCh ch).ranks) : b.RanksTo ch g c := by
  have hch : ({ b.memCh ch with ranks := f (b.memCh ch).ranks } : MemCh) = { b.memCh ch with ranks := g (b.memCh ch).ranks } := by rw [hfg]
  have hchans : upd b.mem.chans ch (fun k => { k with ranks := f k.ranks }) = upd b.mem.chans ch (fun k => { k with ranks := g k.ranks }) :=
    upd_congr (f := fun k => { k with ranks := f k.ranks }) (g := fun k => { k with ranks := g k.ranks }) ({} : MemCh) hch
  obtain ⟨regs, rfl⟩ := h.shape
  refine ⟨⟨regs, ?_⟩, h.reg⟩
  unfold Blk.updMem
  rw [hchans]

/-- A step done on every rank of a channel in turn. -/
theorem Blk.RanksTo.all {g : RankSt → RankSt} {step : Blk → Nat → Blk}
    (hstep : ∀ (s : Blk) (r : Nat), s.now = b.now → s.RanksTo ch (fun l => upd l r g) (step s r)) :
    b.RanksTo ch (List.map g) ((List.range (b.memCh ch).ranks.length).foldl step b) :=
  (Blk.RanksTo.foldl hstep _ b rfl).congr (foldl_upd_range g _)

theorem Blk.RanksTo.ranks {c : Blk} {f : List RankSt → List RankSt} (h : b.RanksTo ch f c) (hch : ch < b.mem.chans.length) :
    (c.memCh ch).ranks = f (b.memCh ch).ranks := by
  obtain ⟨regs, rfl⟩ := h.shape
  exact congrArg MemCh.ranks (Blk.memCh_updMem_same b ch (fun k => { k with ranks := f k.ranks }) hch)

theorem Blk.RanksTo.rank {c : Blk} {g : RankSt → RankSt} (h : b.RanksTo ch (List.map g) c) (hch : ch < b.mem.chans.length) {i : Nat}
    (hi : i < (b.memCh ch).ranks.length) : (c.memCh ch).rank i = g ((b.memCh ch).rank i) := by
  unfold MemCh.rank
  rw [h.ranks hch, List.getD_eq_getElem _ _ (by rwa [List.length_map]), List.getElem_map, List.getD_eq_getElem _ _ hi]

theorem Blk.RanksTo.counted {c : Blk} {f : List RankSt → List RankSt} (h : b.RanksTo ch f c) (hi lo n : Nat) :
    b.RanksTo ch f (c.bump Reg.MEMF_REF_COUNTS hi lo n) := by
  obtain ⟨regs, rfl⟩ := h.shape
  exact ⟨⟨_, rfl⟩, fun a ha => (Blk.reg_setReg_other _ _ ha).trans (h.reg a ha)⟩

/-- What of a channel its ranks do not show stays. -/
theorem Blk.RanksTo.memCh {c : Blk} {f : List RankSt → List RankSt} {α : Type} (h : b.RanksTo ch f c) (p : MemCh → α)
    (hp : ∀ k l, p { k with ranks := l } = p k) (k : Nat) : p (c.memCh k) = p (b.memCh k) := by
  obtain ⟨regs, rfl⟩ := h.shape
  exact b.memCh_updMem p ch (f := fun k => { k with ranks := f k.ranks }) (fun _ => hp _ _) k

end

section
variable (b : Blk) (ch : Nat)

theorem Blk.ranksTo_runCatchUp (r : Nat) : b.RanksTo ch
    (fun l => upd l r (fun k => { k with debt := k.ceiling / 2, catchUp := none, insertDue := false })) (b.runCatchUp ch r) :=
  ⟨⟨_, rfl⟩, fun _ ha => Blk.reg_setReg_other _ _ ha⟩

theorem RankSt.caughtUp_of_none {k : RankSt} (now : Nat) (h : ∀ t, k.catchUp = some t → now ≤ t + 625) : k.caughtUp now = k := by
  unfold RankSt.caughtUp
  cases hwait : k.catchUp with
  | none => rfl
  | some t =>
    have ht := h t hwait
    rw [if_neg]
    simpa using ht

theorem RankSt.caughtUp_of_late {k : RankSt} {now t : Nat} (h : k.catchUp = some t) (ht : t + 625 < now) :
    k.caughtUp now = { k with debt := k.ceiling / 2, catchUp := none, insertDue := false } := by
  unfold RankSt.caughtUp
  rw [h, if_pos]
  simpa using ht

theorem Blk.overdueRank_of_none {b : Blk} {ch r : Nat} (h : ∀ t, ((b.memCh ch).rank r).catchUp = some t → b.now ≤ t + 625) :
    b.overdueRank ch r = b := by
  unfold Blk.overdueRank
  split
  next t hwait => rw [if_neg (Nat.not_lt.mpr (h t hwait))]
  next => rfl

theorem Blk.overdueRank_of_late {b : Blk} {ch r t : Nat} (h : ((b.memCh ch).rank r).catchUp = some t) (ht : t + 625 < b.now) :
    b.overdueRank ch r = (b.bump Reg.MEMF_REF_COUNTS 31 24 1).runCatchUp ch r := by
  simp only [Blk.overdueRank, h, if_pos ht]

theorem Blk.ranksTo_overdueRank (r : Nat) : b.RanksTo ch (fun l => upd l r (fun k => k.caughtUp b.now)) (b.overdueRank ch r) := by
  by_cases hlate : ∃ t, ((b.memCh ch).rank r).catchUp = some t ∧ t + 625 < b.now
  · obtain ⟨t, hwait, ht⟩ := hlate
    rw [Blk.overdueRank_of_late hwait ht]
    have hcounted : b.RanksTo ch id (b.bump Reg.MEMF_REF_COUNTS 31 24 1) := .counted (.refl b rfl) _ _ _
    refine (hcounted.trans (Blk.ranksTo_runCatchUp _ ch r)).congr ?_
    exact upd_congr ({} : RankSt) (RankSt.caughtUp_of_late hwait ht).symm
  · have hnone : ∀ t, ((b.memCh ch).rank r).catchUp = some t → b.now ≤ t + 625 := fun t ht =>
      Nat.le_of_not_lt (fun hlt => hlate ⟨t, ht, hlt⟩)
    rw [Blk.overdueRank_of_none hnone]
    exact .refl b (upd_of_eq (f := fun k => k.caughtUp b.now) ({} : RankSt) (RankSt.caughtUp_of_none _ hnone))

theorem Blk.ranksTo_overdue : b.RanksTo ch (List.map (fun k => k.caughtUp b.now)) (b.overdue ch) :=
  .all (fun s r hs => hs ▸ s.ranksTo_overdueRank ch r)

theorem foldl_of_fixed {α β : Type} {f : β → α → β} {b : β} {l : List α} (h : ∀ a ∈ l, f b a = b) : l.foldl f b = b := by
  induction l with
  | nil => rfl
  | cons a l ih =>
    rw [List.foldl_cons, h a List.mem_cons_self]
    exact ih (fun x hx => h x (List.mem_cons_of_mem _ hx))

theorem Blk.overdue_of_none {b : Blk} {ch : Nat}
    (h : ∀ i < (b.memCh ch).ranks.length, ∀ t, ((b.memCh ch).rank i).catchUp = some t → b.now ≤ t + 625) : b.overdue ch = b :=
  foldl_of_fixed (fun i hi => Blk.overdueRank_of_none (h i (List.mem_range.mp hi)))

end

/-! ### A refresh that is due (15 R571) -/

section
variable {b : Blk} {ch r : Nat} (hready : b.memRank ch r = true)
include hready

theorem refreshDue_of_early {idle : Bool} (h : (b.overdue ch).now < (((b.overdue ch).memCh ch).rank r).nextDue) :
    refreshDue ch r idle b = b.overdue ch := by
  unfold refreshDue
  rw [hready, if_neg (by decide)]
  exact if_pos h

theorem refreshDue_of_due {idle : Bool} (h : (((b.overdue ch).memCh ch).rank r).nextDue ≤ (b.overdue ch).now) : refreshDue ch r idle b =
    (let c := b.overdue ch
     let k := (c.memCh ch).rank r
     let burst := (c.memCh ch).burst
     (c.noteDebt (k.debt + 1)).putRank ch r
       { k with debt := if burst then k.debt + 1 else if idle then -k.ceiling else k.debt + 1 - 1
                nextDue := k.nextDue + k.interval
                insertDue := k.insertDue || (burst && decide (k.ceiling < k.debt + 1)) }) := by
  unfold refreshDue
  rw [hready, if_neg (by decide)]
  dsimp only
  rw [if_neg (Nat.not_lt.mpr h)]
  exact Blk.updRank_eq_putRank _ ch r _

theorem refreshDue_in_burst {idle : Bool} (h : (((b.overdue ch).memCh ch).rank r).nextDue ≤ (b.overdue ch).now)
    (hburst : ((b.overdue ch).memCh ch).burst = true) : refreshDue ch r idle b =
    (let c := b.overdue ch
     let k := (c.memCh ch).rank r
     (c.noteDebt (k.debt + 1)).putRank ch r
       { k with debt := k.debt + 1, nextDue := k.nextDue + k.interval, insertDue := k.insertDue || decide (k.ceiling < k.debt + 1) }) := by
  rw [refreshDue_of_due hready h]
  dsimp only
  rw [hburst]
  rfl

theorem refreshDue_outside_burst {idle : Bool} (h : (((b.overdue ch).memCh ch).rank r).nextDue ≤ (b.overdue ch).now)
    (hburst : ((b.overdue ch).memCh ch).burst = false) : refreshDue ch r idle b =
    (let c := b.overdue ch
     let k := (c.memCh ch).rank r
     (c.noteDebt (k.debt + 1)).putRank ch r
       { k with debt := if idle then -k.ceiling else k.debt, nextDue := k.nextDue + k.interval }) := by
  rw [refreshDue_of_due hready h]
  simp only [hburst, Bool.false_eq_true, if_false, Bool.false_and, Bool.or_false, Int.add_sub_cancel]

/-! ### MR4 is read (15 R572, R573) -/

omit hready in
theorem mr4Read_of_early {code : Nat} (h : b.now < ((b.memCh ch).rank r).mr4At + 1250000) : mr4Read ch r code b = b := by
  unfold mr4Read
  rw [if_pos]
  simp [h]

theorem mr4Read_of_due {code : Nat} (h : ((b.memCh ch).rank r).mr4At + 1250000 ≤ b.now) :
    mr4Read ch r code b = (b.overdue ch).takeMr4 ch r code := by
  unfold mr4Read
  rw [hready, if_neg]
  simpa using h

/-- The window of a rank ends (15 R574). -/
theorem refreshWindow_of_over (h : ((b.memCh ch).rank r).winAt + 8192 * ((b.memCh ch).rank r).interval ≤ b.now) :
    refreshWindow ch r b = (b.setF Reg.MEMF_DIST_COUNTS 31 16 (min ((b.memCh ch).rank r).distMax 65535)).putRank ch r
      { (b.memCh ch).rank r with winAt := b.now, distMax := 0, banks := ((b.memCh ch).rank r).banks.map (fun q => { q with dist := [] }) } := by
  unfold refreshWindow
  rw [hready, if_neg (by decide)]
  dsimp only
  rw [if_neg (Nat.not_lt.mpr h)]
  exact Blk.updRank_eq_putRank _ ch r _

theorem refreshWindow_of_early (h : b.now < ((b.memCh ch).rank r).winAt + 8192 * ((b.memCh ch).rank r).interval) :
    refreshWindow ch r b = b := by
  unfold refreshWindow
  rw [hready, if_neg (by decide)]
  exact if_pos h

end

/-- A reading that says 111 is counted and raised. -/
def Blk.hotRead (b : Blk) (m : Nat) : Blk := if m = 7 then (b.bump Reg.MEMF_HOT 31 16 1).raise 0x3032 else b

/-- A shorter interval is counted and raised. -/
def Blk.fasterRead (b : Blk) (faster : Prop) [Decidable faster] : Blk := if faster then (b.bump Reg.MEMF_HOT 15 0 1).raise 0x3031 else b

section
variable (b : Blk) (ch r : Nat) (q : RankSt)

theorem Blk.hotRead_putRank (m : Nat) : (b.putRank ch r q).hotRead m = (b.hotRead m).putRank ch r q := by
  unfold Blk.hotRead
  split
  · rw [Blk.bump_putRank, Blk.raise_putRank]
  · rfl

theorem Blk.fasterRead_putRank (faster : Prop) [Decidable faster] :
    (b.putRank ch r q).fasterRead faster = (b.fasterRead faster).putRank ch r q := by
  unfold Blk.fasterRead
  split
  · rw [Blk.bump_putRank, Blk.raise_putRank]
  · rfl

end

theorem RankSt.ceiling_pos (k : RankSt) : 0 < k.ceiling := by
  unfold RankSt.ceiling mr4Ceiling
  split_ifs <;> decide

theorem RankSt.neg_ceiling_le (k : RankSt) : -k.ceiling ≤ k.ceiling := by
  have := k.ceiling_pos
  omega

/-- A debt above the ceiling stands as it is. -/
theorem RankSt.debt_above {k : RankSt} (h : k.ceiling < k.debt) : max k.debt (-k.ceiling) = k.debt := by
  have := k.ceiling_pos
  omega

section
variable {b : Blk} {ch r : Nat} (hch : ch < b.mem.chans.length) (hr : r < (b.memCh ch).ranks.length) (k : RankSt)
include hch hr

/-- A debt that the new ceiling holds. -/
theorem Blk.underCeiling_of_held (h : k.debt ≤ k.ceiling) : (b.putRank ch r k).underCeiling ch r =
    b.putRank ch r { k with debt := max k.debt (-k.ceiling), catchUp := none } := by
  unfold Blk.underCeiling
  simp only [Blk.updRank_eq_putRank, Blk.putRank_putRank, Blk.rank_putRank hch hr, RankSt.ceiling]
  exact if_pos (Int.max_le.mpr ⟨h, k.neg_ceiling_le⟩)

variable (h : k.ceiling < k.debt)
include h

/-- A debt above it waits for the burst's next chunk boundary. -/
theorem Blk.underCeiling_of_burst (hburst : (b.memCh ch).burst = true) :
    (b.putRank ch r k).underCeiling ch r = b.putRank ch r { k with catchUp := some b.now } := by
  unfold Blk.underCeiling
  have hdebt := RankSt.debt_above h
  unfold RankSt.ceiling at h hdebt
  simp only [Blk.updRank_eq_putRank, Blk.putRank_putRank, Blk.rank_putRank hch hr, Blk.burst_putRank, RankSt.ceiling, hdebt, hburst, if_true,
    if_neg (Int.not_le.mpr h)]
  rfl

/-- Without a burst it is caught up at once. -/
theorem Blk.underCeiling_of_idle (hburst : (b.memCh ch).burst = false) : (b.putRank ch r k).underCeiling ch r =
    (b.bump Reg.MEMF_REF_COUNTS 23 12 1).putRank ch r { k with debt := k.ceiling / 2, catchUp := none, insertDue := false } := by
  unfold Blk.underCeiling
  have hdebt := RankSt.debt_above h
  unfold RankSt.ceiling at h hdebt
  simp only [Blk.updRank_eq_putRank, Blk.putRank_putRank, Blk.rank_putRank hch hr, Blk.burst_putRank, RankSt.ceiling, hdebt, hburst,
    Bool.false_eq_true, if_false, if_neg (Int.not_le.mpr h), Blk.runCatchUp, Blk.bump_putRank]

end

theorem Blk.hotRead_kept (b : Blk) (m : Nat) : (b.hotRead m).mem = b.mem ∧ (b.hotRead m).now = b.now := by
  unfold Blk.hotRead
  split
  · exact ⟨Blk.raise_mem _ _, Blk.raise_now _ _⟩
  · exact ⟨rfl, rfl⟩

theorem Blk.fasterRead_kept (b : Blk) (faster : Prop) [Decidable faster] :
    (b.fasterRead faster).mem = b.mem ∧ (b.fasterRead faster).now = b.now := by
  unfold Blk.fasterRead
  split
  · exact ⟨Blk.raise_mem _ _, Blk.raise_now _ _⟩
  · exact ⟨rfl, rfl⟩

/-- A reading in its steps: noted, shown hot, taken over with its shorter interval shown, and held against the new ceiling. -/
theorem Blk.takeMr4_eq (b : Blk) (ch r code : Nat) : b.takeMr4 ch r code =
    (let m := code % 8
     let s := b.updMem ch (fun c => c.updRank r (fun k => { k with mr4At := b.now }))
     let old := (s.memCh ch).rank r
     let s := s.hotRead m
     if m = old.mr4 then s
     else
       let s := s.updMem ch (fun c => c.updRank r (fun k => { k with mr4 := m, nextDue := s.now + mr4Interval m }))
       (s.fasterRead (mr4Interval m < old.interval)).underCeiling ch r) := rfl

section
variable {b : Blk} {ch r : Nat} (code : Nat) (hch : ch < b.mem.chans.length) (hr : r < (b.memCh ch).ranks.length)
include hch hr

theorem Blk.takeMr4_of_same (h : code % 8 = ((b.memCh ch).rank r).mr4) : b.takeMr4 ch r code =
    (b.hotRead (code % 8)).putRank ch r { (b.memCh ch).rank r with mr4At := b.now } := by
  rw [Blk.takeMr4_eq]
  simp only [Blk.updRank_eq_putRank, Blk.rank_putRank hch hr]
  rw [if_pos h]
  exact b.hotRead_putRank ch r _ _

/-- A changed code takes effect at once, its ceiling included. -/
theorem Blk.takeMr4_of_changed (h : code % 8 ≠ ((b.memCh ch).rank r).mr4) : b.takeMr4 ch r code =
    (((b.hotRead (code % 8)).fasterRead (mr4Interval (code % 8) < ((b.memCh ch).rank r).interval)).putRank ch r
      { (b.memCh ch).rank r with mr4At := b.now, mr4 := code % 8, nextDue := b.now + mr4Interval (code % 8) }).underCeiling ch r := by
  obtain ⟨hmem, hnow⟩ := b.hotRead_kept (code % 8)
  have hnow' (q : RankSt) : ((b.hotRead (code % 8)).putRank ch r q).now = b.now := hnow
  have hrank (q : RankSt) : (((b.hotRead (code % 8)).putRank ch r q).memCh ch).rank r = q :=
    Blk.rank_putRank (by rwa [hmem]) (by rwa [Blk.memCh, hmem])
  rw [Blk.takeMr4_eq]
  simp only [Blk.updRank_eq_putRank, Blk.rank_putRank hch hr, Blk.hotRead_putRank, Blk.fasterRead_putRank, hnow', hrank, Blk.putRank_putRank]
  exact if_neg h

/-- What a reading has shown by the time it is held against the ceiling leaves the memory and the time. -/
theorem Blk.shownRead_kept (faster : Prop) [Decidable faster] : let c := (b.hotRead (code % 8)).fasterRead faster
    c.now = b.now ∧ (c.memCh ch).burst = (b.memCh ch).burst ∧ ch < c.mem.chans.length ∧ r < (c.memCh ch).ranks.length := by
  intro c
  obtain ⟨hmem, hnow⟩ := (b.hotRead (code % 8)).fasterRead_kept faster
  obtain ⟨hmem', hnow'⟩ := b.hotRead_kept (code % 8)
  have hkept : c.mem = b.mem := hmem.trans hmem'
  refine ⟨hnow.trans hnow', ?_, by rwa [hkept], ?_⟩
  · rw [Blk.memCh, hkept, Blk.memCh]
  · rwa [Blk.memCh, hkept]

section
variable {iv : Nat} {cl : Int} (hiv : mr4Interval (code % 8) = iv) (hcl : ((mr4Ceiling (code % 8) : Nat) : Int) = cl)
  (h : code % 8 ≠ ((b.memCh ch).rank r).mr4)
include hiv hcl h

theorem Blk.takeMr4_of_held (hheld : ((b.memCh ch).rank r).debt ≤ cl) : b.takeMr4 ch r code =
    ((b.hotRead (code % 8)).fasterRead (iv < ((b.memCh ch).rank r).interval)).putRank ch r
      { (b.memCh ch).rank r with mr4At := b.now, mr4 := code % 8, nextDue := b.now + iv, debt := max ((b.memCh ch).rank r).debt (-cl)
                                 catchUp := none } := by
  subst hiv hcl
  obtain ⟨-, -, hch', hr'⟩ := Blk.shownRead_kept code hch hr (mr4Interval (code % 8) < ((b.memCh ch).rank r).interval)
  rw [Blk.takeMr4_of_changed code hch hr h, Blk.underCeiling_of_held hch' hr' _ hheld]
  rfl

theorem Blk.takeMr4_of_above_burst (habove : cl < ((b.memCh ch).rank r).debt) (hburst : (b.memCh ch).burst = true) :
    b.takeMr4 ch r code = ((b.hotRead (code % 8)).fasterRead (iv < ((b.memCh ch).rank r).interval)).putRank ch r
      { (b.memCh ch).rank r with mr4At := b.now, mr4 := code % 8, nextDue := b.now + iv, catchUp := some b.now } := by
  subst hiv hcl
  obtain ⟨hnow, hburst', hch', hr'⟩ := Blk.shownRead_kept code hch hr (mr4Interval (code % 8) < ((b.memCh ch).rank r).interval)
  have hkept := Blk.underCeiling_of_burst hch' hr'
    { (b.memCh ch).rank r with mr4At := b.now, mr4 := code % 8, nextDue := b.now + mr4Interval (code % 8) } habove (hburst'.trans hburst)
  rw [Blk.takeMr4_of_changed code hch hr h, hkept, hnow]

theorem Blk.takeMr4_of_above_idle (habove : cl < ((b.memCh ch).rank r).debt) (hburst : (b.memCh ch).burst = false) :
    b.takeMr4 ch r code =
      (((b.hotRead (code % 8)).fasterRead (iv < ((b.memCh ch).rank r).interval)).bump Reg.MEMF_REF_COUNTS 23 12 1).putRank ch r
        { (b.memCh ch).rank r with mr4At := b.now, mr4 := code % 8, nextDue := b.now + iv, debt := cl / 2, catchUp := none
                                   insertDue := false } := by
  subst hiv hcl
  obtain ⟨-, hburst', hch', hr'⟩ := Blk.shownRead_kept code hch hr (mr4Interval (code % 8) < ((b.memCh ch).rank r).interval)
  have hcaught := Blk.underCeiling_of_idle hch' hr'
    { (b.memCh ch).rank r with mr4At := b.now, mr4 := code % 8, nextDue := b.now + mr4Interval (code % 8) } habove (hburst'.trans hburst)
  rw [Blk.takeMr4_of_changed code hch hr h, hcaught]
  rfl

end
end

/-! ### The end of a burst (15 R571, R573) -/

/-- A rank that has paid its debt back. -/
def RankSt.paidBack (k : RankSt) : RankSt :=
  { k with debt := if k.catchUp.isSome then 0 else min k.debt 0, catchUp := none, insertDue := false }

theorem RankSt.paidBack_of_waiting {k : RankSt} (h : k.catchUp.isSome = true) :
    { k with debt := min (k.ceiling / 2) 0, catchUp := none, insertDue := false } = k.paidBack := by
  have hmin : min (k.ceiling / 2) 0 = 0 := by
    have := k.ceiling_pos
    omega
  rw [RankSt.paidBack, if_pos h, hmin]

theorem RankSt.paidBack_of_none {k : RankSt} (h : k.catchUp.isSome = false) :
    { k with debt := min k.debt 0, insertDue := false } = k.paidBack := by
  have hnone : k.catchUp = none := by simpa using h
  rw [RankSt.paidBack, if_neg (ne_true_of_eq_false h), hnone]

theorem Blk.ranksTo_rankPaid (b : Blk) (ch r : Nat) : b.RanksTo ch (fun l => upd l r RankSt.paidBack) (b.rankPaid ch r) := by
  have hpaid (s : Blk) : s.RanksTo ch (fun l => upd l r (fun k => { k with debt := min k.debt 0, insertDue := false }))
      (s.updMem ch (fun c => c.updRank r (fun k => { k with debt := min k.debt 0, insertDue := false }))) := ⟨⟨_, rfl⟩, fun _ _ => rfl⟩
  unfold Blk.rankPaid
  cases hwait : ((b.memCh ch).rank r).catchUp.isSome with
  | true =>
    rw [if_pos rfl]
    refine ((b.ranksTo_runCatchUp ch r).trans (hpaid _)).congr ((upd_upd _ _ _ _).trans (upd_congr ({} : RankSt) ?_))
    exact RankSt.paidBack_of_waiting hwait
  | false =>
    rw [if_neg (by decide)]
    exact (hpaid _).congr (upd_congr ({} : RankSt) (RankSt.paidBack_of_none hwait))

/-- A rank without the tables of its banks. -/
def RankSt.bare (k : RankSt) : RankSt := { k with banks := [], distMax := 0 }

theorem getD_upd_kept {α β : Type} (p : α → β) {f : α → α} (hf : ∀ x, p (f x) = p x) (l : List α) (i j : Nat) (d : α) :
    p ((upd l i f).getD j d) = p (l.getD j d) := by
  by_cases hj : j = i
  · subst hj
    by_cases hlt : j < l.length
    · rw [upd_getD_same _ _ _ _ hlt, hf]
    · rw [List.getD_eq_default _ _ (by rw [upd_length]; omega), List.getD_eq_default _ _ (by omega)]
  · rw [upd_getD_other _ _ _ _ _ hj]

/-- Tables of banks change, the refreshes that wait for neighbours and a count; debts, bursts and data stay. -/
structure Blk.TablesOnly (b c : Blk) : Prop where
  shape : ∃ regs chans, c = { b with regs := regs, mem := { b.mem with chans := chans } }
  burst : ∀ ch, (c.memCh ch).burst = (b.memCh ch).burst
  rank : ∀ ch r, ((c.memCh ch).rank r).bare = ((b.memCh ch).rank r).bare

theorem Blk.TablesOnly.refl (b : Blk) : b.TablesOnly b := ⟨⟨_, _, rfl⟩, fun _ => rfl, fun _ _ => rfl⟩

theorem Blk.TablesOnly.trans {b c d : Blk} (h : b.TablesOnly c) (k : c.TablesOnly d) : b.TablesOnly d := by
  obtain ⟨regs, chans, rfl⟩ := h.shape
  obtain ⟨regs', chans', rfl⟩ := k.shape
  exact ⟨⟨_, _, rfl⟩, fun ch => (k.burst ch).trans (h.burst ch), fun ch r => (k.rank ch r).trans (h.rank ch r)⟩

theorem Blk.TablesOnly.foldl {α : Type} {f : Blk → α → Blk} (hf : ∀ s a, Blk.TablesOnly s (f s a)) (l : List α) (b : Blk) :
    b.TablesOnly (l.foldl f b) := by
  induction l generalizing b with
  | nil => exact .refl b
  | cons a l ih => exact (hf b a).trans (ih _)

section
variable (b : Blk)

theorem Blk.tablesOnly_bump (a hi lo n : Nat) : b.TablesOnly (b.bump a hi lo n) := ⟨⟨_, _, rfl⟩, fun _ => rfl, fun _ _ => rfl⟩

theorem Blk.tablesOnly_updRank (ch r : Nat) (n : MemCh → List (Nat × Nat × Nat)) {f : RankSt → RankSt} (hf : ∀ k, (f k).bare = k.bare) :
    b.TablesOnly (b.updMem ch (fun c => { c.updRank r f with neighbours := n c })) :=
  ⟨⟨_, _, rfl⟩, b.memCh_updMem MemCh.burst ch (f := fun c => { c.updRank r f with neighbours := n c }) (fun _ => rfl),
    fun k i => b.memCh_updMem (fun c => (c.rank i).bare) ch (f := fun c => { c.updRank r f with neighbours := n c })
      (fun c => getD_upd_kept RankSt.bare hf c.ranks r i {}) k⟩

theorem Blk.tablesOnly_neighbours (ch : Nat) (n : MemCh → List (Nat × Nat × Nat)) :
    b.TablesOnly (b.updMem ch (fun c => { c with neighbours := n c })) :=
  ⟨⟨_, _, rfl⟩, b.memCh_updMem MemCh.burst ch (f := fun c => { c with neighbours := n c }) (fun _ => rfl),
    fun k i => b.memCh_updMem (fun c => (c.rank i).bare) ch (f := fun c => { c with neighbours := n c }) (fun _ => rfl) k⟩

theorem Blk.tablesOnly_activate (ch rank bank row : Nat) : b.TablesOnly (b.activate ch rank bank row) := by
  unfold Blk.activate
  dsimp only
  have hcount (n : Nat) (t : List (Nat × Nat)) : b.TablesOnly (b.updMem ch (fun c => c.updRank rank (fun k =>
      { k.updBank bank (fun b => { b with dist := t }) with distMax := max k.distMax n }))) :=
    b.tablesOnly_updRank ch rank MemCh.neighbours (fun _ => rfl)
  split
  · exact (hcount _ _).trans (Blk.tablesOnly_neighbours _ _ _)
  · exact hcount _ _

theorem Blk.tablesOnly_refreshNeighbours (ch : Nat) (n : Nat × Nat × Nat) : b.TablesOnly (b.refreshNeighbours ch n) := by
  obtain ⟨rank, bank, row⟩ := n
  unfold Blk.refreshNeighbours
  dsimp -zeta only
  extract_lets cleared rows done
  have hcleared : b.TablesOnly cleared := b.tablesOnly_updRank ch rank _ (fun _ => rfl)
  have hdone : cleared.TablesOnly done :=
    Blk.TablesOnly.foldl (fun s r => s.tablesOnly_activate ch rank bank (s.servingRow ch rank bank r)) _ _
  refine ((hcleared.trans hdone).trans (done.tablesOnly_bump Reg.MEMF_DIST_COUNTS 15 0 1)).trans ?_
  exact Blk.tablesOnly_updRank _ ch rank MemCh.neighbours (fun _ => rfl)

theorem Blk.tablesOnly_allNeighbours (ch : Nat) : b.TablesOnly (b.allNeighbours ch) :=
  .foldl (fun s n => s.tablesOnly_refreshNeighbours ch n) _ _

end

theorem Blk.RanksTo.mem {b c : Blk} {ch : Nat} {f : List RankSt → List RankSt} (h : b.RanksTo ch f c) :
    ∃ chans, c.mem = { b.mem with chans := chans } := by
  obtain ⟨regs, rfl⟩ := h.shape
  exact ⟨_, rfl⟩

theorem Blk.TablesOnly.mem {b c : Blk} (h : b.TablesOnly c) : ∃ chans, c.mem = { b.mem with chans := chans } := by
  obtain ⟨regs, chans, rfl⟩ := h.shape
  exact ⟨_, rfl⟩

/-- The channel at the end of its burst: no burst, every rank paid back, the data as they were. -/
theorem Blk.endBurst_spec {b : Blk} {ch : Nat} (hch : ch < b.mem.chans.length) : ((b.endBurst ch).memCh ch).burst = false ∧
    (∀ i < (b.memCh ch).ranks.length, (((b.endBurst ch).memCh ch).rank i).bare = ((b.memCh ch).rank i).paidBack.bare) ∧
    ∃ chans, (b.endBurst ch).mem = { b.mem with chans := chans } := by
  let ended := b.updMem ch (fun c => { c with burst := false })
  let paid := (List.range (ended.memCh ch).ranks.length).foldl (fun s r => s.rankPaid ch r) ended
  have hended : ended.memCh ch = { b.memCh ch with burst := false } := Blk.memCh_updMem_same b ch (fun c => { c with burst := false }) hch
  have hlen : ch < ended.mem.chans.length := by rwa [show ended.mem.chans = upd b.mem.chans ch _ from rfl, upd_length]
  have hpaid : ended.RanksTo ch (List.map RankSt.paidBack) paid := .all (fun s r _ => s.ranksTo_rankPaid ch r)
  have hrefreshed : paid.TablesOnly (b.endBurst ch) := paid.tablesOnly_allNeighbours ch
  obtain ⟨chans, hmem⟩ := hpaid.mem
  obtain ⟨chans', hmem'⟩ := hrefreshed.mem
  refine ⟨?_, fun i hi => ?_, chans', by rw [hmem', hmem]; rfl⟩
  · rw [hrefreshed.burst, hpaid.memCh MemCh.burst (fun _ _ => rfl), hended]
  · rw [hrefreshed.rank, hpaid.rank hlen (by rw [hended]; exact hi)]
    rw [hended]
    rfl

/-! ### O53 -/

theorem exec_refreshDue (dt ch r : Nat) (idle : Bool) (s : State) :
    exec (.refreshDue dt ch r idle) s = .next (s.after (refreshDue ch r idle (s.blk.elapse dt))) := rfl

theorem exec_mr4Read (dt ch r code : Nat) (s : State) :
    exec (.mr4Read dt ch r code) s = .next (s.after (mr4Read ch r code (s.blk.elapse dt))) := rfl

theorem exec_refreshWindow (dt ch r : Nat) (s : State) :
    exec (.refreshWindow dt ch r) s = .next (s.after (refreshWindow ch r (s.blk.elapse dt))) := rfl

theorem exec_burstEnd (dt ch : Nat) (s : State) : exec (.burstEnd dt ch) s = .next (s.after (burstEnd ch (s.blk.elapse dt))) := rfl

theorem burstEnd_of_early {b : Blk} {ch : Nat} (h : b.now < (b.memCh ch).chunkEnd + b.regF Reg.MEMF_BURST_GAP 9 0) :
    burstEnd ch b = b := by
  unfold burstEnd
  rw [if_pos]
  simp [h]

theorem burstEnd_of_over {b : Blk} {ch : Nat} (hready : b.domReady 5 = true) (hch : ch < 2) (hburst : (b.memCh ch).burst = true)
    (h : (b.memCh ch).chunkEnd + b.regF Reg.MEMF_BURST_GAP 9 0 ≤ b.now) : burstEnd ch b = (b.overdue ch).endBurst ch := by
  unfold burstEnd
  rw [if_neg]
  simp [hready, hburst, hch, h]

theorem Blk.overdue_chans (b : Blk) {ch : Nat} (hch : ch < b.mem.chans.length) : ch < (b.overdue ch).mem.chans.length := by
  obtain ⟨regs, hshape⟩ := (b.ranksTo_overdue ch).shape
  rw [hshape]
  exact (upd_length _ _ _).symm ▸ hch

/-- What is overdue leaves the number of channels and ranks. -/
theorem Blk.overdue_sizes (b : Blk) {ch r : Nat} (hch : ch < b.mem.chans.length) (hr : r < (b.memCh ch).ranks.length) :
    ch < (b.overdue ch).mem.chans.length ∧ r < ((b.overdue ch).memCh ch).ranks.length := by
  exact ⟨b.overdue_chans hch, by rw [(b.ranksTo_overdue ch).ranks hch, List.length_map]; exact hr⟩

theorem Blk.overdue_now (b : Blk) (ch : Nat) : (b.overdue ch).now = b.now := (b.ranksTo_overdue ch).now

theorem mr4Ceiling_mod (code : Nat) : ((mr4Ceiling (code % 8) : Nat) : Int) = if code % 8 ≤ 3 then 8 else if code % 8 = 4 then 4 else 2 := by
  rw [mr4Ceiling, Nat.mod_mod]
  split_ifs <;> rfl

theorem mr4Interval_mod (code : Nat) : mr4Interval (code % 8) = if code % 8 ≤ 3 then 1220 else if code % 8 = 4 then 610 else 305 := by
  rw [mr4Interval, Nat.mod_mod]

theorem RankSt.of_bare_eq_paidBack {k q : RankSt} (h : k.bare = q.paidBack.bare) :
    k.debt = (if q.catchUp.isSome then 0 else min q.debt 0) ∧ k.insertDue = false ∧ k.catchUp = none ∧ k.nextDue = q.nextDue ∧
      k.mr4 = q.mr4 :=
  ⟨congrArg RankSt.debt h, congrArg RankSt.insertDue h, congrArg RankSt.catchUp h, (congrArg RankSt.nextDue h :), (congrArg RankSt.mr4 h :)⟩

/-- The end of a burst, what was overdue having run before it. -/
theorem Blk.burstOver_spec {b x : Blk} {ch : Nat} (hch : ch < b.mem.chans.length) (hx : x.mem = ((b.overdue ch).endBurst ch).mem) :
    (x.memCh ch).burst = false ∧
    (∀ i < (b.memCh ch).ranks.length, let q := ((b.overdue ch).memCh ch).rank i
      ((x.memCh ch).rank i).debt = (if q.catchUp.isSome then 0 else min q.debt 0) ∧ ((x.memCh ch).rank i).insertDue = false ∧
      ((x.memCh ch).rank i).catchUp = none ∧ ((x.memCh ch).rank i).nextDue = q.nextDue ∧ ((x.memCh ch).rank i).mr4 = q.mr4) ∧
    x.mem.owed = b.mem.owed ∧ x.mem.rows = b.mem.rows ∧ x.mem.moved = b.mem.moved := by
  have hsize (i : Nat) (hi : i < (b.memCh ch).ranks.length) := b.overdue_sizes hch hi
  obtain ⟨chans, hmem⟩ := (b.ranksTo_overdue ch).mem
  obtain ⟨hended, hranks, chans', hmem'⟩ := Blk.endBurst_spec (b.overdue_chans hch)
  have hxch : x.memCh ch = ((b.overdue ch).endBurst ch).memCh ch := by rw [Blk.memCh, hx, Blk.memCh]
  refine ⟨by rw [hxch, hended], fun i hi => ?_, by rw [hx, hmem', hmem]; exact ⟨rfl, rfl, rfl⟩⟩
  have hrank := hranks i (hsize i hi).2
  rw [hxch]
  exact RankSt.of_bare_eq_paidBack hrank

/-- Settles O53: each command's lemma by what stands on the rank once what is overdue has run. -/
theorem refreshDebtIsPaid : Obligations.RefreshDebtIsPaid := by
  unfold Obligations.RefreshDebtIsPaid
  intro dt ch r code idle s b c k put own m iv cl hot hot2 hchans hready hch
  have hch' : ch < b.mem.chans.length := by omega
  have hover : b.RanksTo ch (List.map (fun k => k.caughtUp b.now)) c := b.ranksTo_overdue ch
  have hnow : c.now = b.now := b.overdue_now ch
  refine ⟨fun hnone => Blk.overdue_of_none hnone, fun hr => ?rank, fun hburst hover' => ⟨?_, ?_⟩, fun hearly => ?_⟩
  case rank =>
    have hrank : b.memRank ch r = true := by simp [Blk.memRank, hready, hch, hr]
    obtain ⟨hcch, hcr⟩ := b.overdue_sizes hch' hr
    have hk : k = (own b).caughtUp b.now := hover.rank hch' hr
    have hiv : mr4Interval m = iv := mr4Interval_mod code
    have hcl : ((mr4Ceiling m : Nat) : Int) = cl := mr4Ceiling_mod code
    refine ⟨fun t hwait ht => hk.trans (RankSt.caughtUp_of_late hwait ht), fun hearly => ?_, fun hdue => ⟨fun hburst => ?_, fun hburst => ?_⟩,
      fun hearly => ?_, fun hdue => ⟨fun hsame => ?_, fun hdiff hheld => ?_, fun hdiff habove hburst => ?_, fun hdiff habove hburst => ?_⟩,
      fun hend => ?_, fun hearly => ?_⟩
    · rw [exec_refreshDue, refreshDue_of_early hrank (by rwa [b.overdue_now ch])]
    · rw [exec_refreshDue, refreshDue_in_burst hrank (by rwa [b.overdue_now ch]) hburst]
      rfl
    · rw [exec_refreshDue, refreshDue_outside_burst hrank (by rwa [b.overdue_now ch]) hburst]
      rfl
    · rw [exec_mr4Read, mr4Read_of_early hearly]
    · rw [exec_mr4Read, mr4Read_of_due hrank hdue, Blk.takeMr4_of_same code hcch hcr hsame, hnow]
      rfl
    · rw [exec_mr4Read, mr4Read_of_due hrank hdue, Blk.takeMr4_of_held code hcch hcr hiv hcl hdiff hheld, hnow]
      rfl
    · rw [exec_mr4Read, mr4Read_of_due hrank hdue, Blk.takeMr4_of_above_burst code hcch hcr hiv hcl hdiff habove hburst, hnow]
      rfl
    · rw [exec_mr4Read, mr4Read_of_due hrank hdue, Blk.takeMr4_of_above_idle code hcch hcr hiv hcl hdiff habove hburst, hnow]
      rfl
    · rw [exec_refreshWindow, refreshWindow_of_over hrank hend]
      rfl
    · rw [exec_refreshWindow, refreshWindow_of_early hrank hearly]
  · rw [exec_burstEnd, burstEnd_of_over hready hch hburst hover']
  · have hexec : exec (.burstEnd dt ch) s = .next (s.after (c.endBurst ch)) := by
      rw [exec_burstEnd, burstEnd_of_over hready hch hburst hover']
    refine leaves_of_exec hexec ?_
    exact Blk.burstOver_spec hch' (Blk.settle_mem _)
  · rw [exec_burstEnd, burstEnd_of_early hearly]

end Sys2Proof.Machine
end

section
/-! Why O54 fails: the refresh of a row's neighbours activates, for each of them, the row that serves its address (15 R575, R578), and
that can be the row itself: then its bank's table counts it anew, and its entry is not cleared. -/
namespace Sys2Proof.Machine

theorem exec_neighbourRefresh (dt ch r bk row : Nat) (s : State) :
    exec (.neighbourRefresh dt ch r bk row) s = .next (s.after (neighbourRefresh ch r bk row (s.blk.elapse dt))) := rfl

/-- The engine with the last data row of a bank remapped to the spare row above it, 65 526, whose neighbours wait for their refresh. -/
def besideItsSpare : State :=
  { pending := []
    blk := { mem := { chans := [{ remapped := [((0, 0, 65525), 65526)], neighbours := [(0, 0, 65526)] }, {}] } } }

/-- Row 65 526 is the eighth spare row of its bank, and 65 525 a data row. -/
theorem besideItsSpare_rows : topRow 65536 7 = 65526 ∧ besideItsSpare.blk.isSpare 0 65526 = true ∧
    besideItsSpare.blk.isSpare 0 65525 = false := by
  decide +kernel

/-- The refresh activates the spare row, which serves its neighbour's address. -/
theorem besideItsSpare_counts :
    ((((neighbourRefresh 0 0 0 65526 (besideItsSpare.blk.elapse 0)).memCh 0).rank 0).bank 0).dist.all (fun p => p.1 != 65526) = false := by
  decide +kernel

/-- Refutes O54: in `besideItsSpare` the neighbour refresh of row 65 526 leaves an entry of that row in its bank's table. -/
theorem not_rowsAreReadCorrectedAndMoved : ¬ Obligations.RowsAreReadCorrectedAndMoved := by
  unfold Obligations.RowsAreReadCorrectedAndMoved
  intro h
  obtain ⟨-, hneighbour, -⟩ := h 0 0 0 0 65526 0 { who := .sensor, bytes := 0, write := false } {} [] [] false
    { kind := .mapRow, jobSeq := 0, unit := 0 } besideItsSpare rfl (by decide +kernel) (by decide) (by decide +kernel)
  obtain ⟨-, hleaves⟩ := hneighbour (by decide +kernel) (by decide +kernel)
  obtain ⟨-, hclear, -⟩ := hleaves.of_exec (exec_neighbourRefresh 0 0 0 0 65526 besideItsSpare)
  rw [Blk.memCh, Blk.settle_mem] at hclear
  exact absurd hclear (ne_true_of_eq_false besideItsSpare_counts)

end Sys2Proof.Machine
end

section
/-! Domains gate and wake (16 R590, R593 to R599): O55. -/
namespace Sys2Proof.Machine

/-! ### Domains by their codes -/

theorem domIdx_lt {d : Nat} (h : d ∈ domCodes) : domIdx d < 26 := by
  have hall : ∀ d ∈ domCodes, domIdx d < 26 := by decide
  exact hall d h

theorem domIdx_ne {d e : Nat} (hd : d ∈ domCodes) (he : e ∈ domCodes) (hne : e ≠ d) : domIdx e ≠ domIdx d := by
  have hall : ∀ d ∈ domCodes, ∀ e ∈ domCodes, e ≠ d → domIdx e ≠ domIdx d := by decide
  exact hall d hd e he hne

theorem Blk.dom_updDom_same {b : Blk} {d : Nat} (hd : d ∈ domCodes) (hdoms : b.doms.length = 26) (f : DomSt → DomSt) :
    (b.updDom d f).dom d = f (b.dom d) := upd_getD_same _ _ _ _ (hdoms ▸ domIdx_lt hd)

theorem Blk.dom_updDom_other (b : Blk) {d e : Nat} (hd : d ∈ domCodes) (he : e ∈ domCodes) (hne : e ≠ d) (f : DomSt → DomSt) :
    (b.updDom d f).dom e = b.dom e := upd_getD_other _ _ _ _ _ (domIdx_ne hd he hne)

theorem Blk.updDom_congr {b : Blk} {d : Nat} {f g : DomSt → DomSt} (h : f (b.dom d) = g (b.dom d)) : b.updDom d f = b.updDom d g :=
  congrArg (fun l => ({ b with doms := l } : Blk)) (upd_congr (f := f) (g := g) ({} : DomSt) h)

/-! ### The lights go off without touching a domain -/

theorem foldl_kept {α β γ : Type} (p : β → γ) {f : β → α → β} (hf : ∀ x a, p (f x a) = p x) (l : List α) (x : β) : p (l.foldl f x) = p x := by
  induction l generalizing x with
  | nil => rfl
  | cons a l ih => exact (ih _).trans (hf x a)

section
variable (b : Blk)

theorem Blk.doms_judgeReading (row code : Nat) (k : LedReading) : (b.judgeReading row code k).doms = b.doms := by
  unfold Blk.judgeReading
  dsimp only
  have hsink (g : Blk) (p : Prop) [Decidable p] (f : SinkSt → SinkSt) : (if p then g else g.updSink k.col f).doms = g.doms := by
    split <;> rfl
  split
  · exact (Blk.raise_doms _ _).trans (hsink _ _ _)
  · exact hsink _ _ _

theorem Blk.doms_judged : b.judged.doms = b.doms := by
  unfold Blk.judged
  split
  · rfl
  · exact foldl_kept Blk.doms (fun s k => s.doms_judgeReading _ _ k) _ b

theorem Blk.doms_endCol (c : Conduct) (e4 col : Nat) (d : ColDrive) : (b.endCol c e4 col d).doms = b.doms := by
  unfold Blk.endCol
  dsimp only
  split_ifs <;> rfl

theorem Blk.doms_endCond : b.endCond.doms = b.doms := by
  unfold Blk.endCond
  dsimp only
  split
  · exact b.doms_judged
  · exact (foldl_kept Blk.doms (fun s p => s.doms_endCol _ _ _ _) _ b.judged).trans b.doms_judged

theorem Blk.doms_lightsOff : b.lightsOff.doms = b.doms := b.doms_endCond

theorem Blk.lightsOff_dark : b.lightsOff.lit.cond = none ∧ b.lightsOff.lit.prech = none ∧ b.lightsOff.lit.rowdrv = none := by
  refine ⟨?_, rfl, rfl⟩
  cases hcond : b.lit.cond with
  | none =>
    have hjudged : b.judged = b := by
      unfold Blk.judged
      rw [hcond]
    have hend : b.endCond = b := by
      unfold Blk.endCond
      dsimp only
      rw [hjudged, hcond]
    rw [Blk.lightsOff, hend]
    exact hcond
  | some k => exact (Blk.endCond_dark hcond).1

end

/-! ### Gating (16 R590, R595, R597) -/

theorem exec_domainGate (dt d : Nat) (s : State) : exec (.domainGate dt d) s = .next (s.after (domainGate d (s.blk.elapse dt))) := rfl

theorem exec_pwrGateWait (dt d : Nat) (s : State) : exec (.pwrGateWait dt d) s = .next (s.after (pwrGateWait d (s.blk.elapse dt))) := rfl

theorem exec_domainReady (dt d : Nat) (s : State) : exec (.domainReady dt d) s = .next (s.after (domainReady d (s.blk.elapse dt))) := rfl

theorem exec_pwrDomainLate (dt d : Nat) (s : State) :
    exec (.pwrDomainLate dt d) s = .next (s.after (pwrDomainLate d (s.blk.elapse dt))) := rfl

theorem exec_domainWake (dt : Nat) (who : Who) (a : Nat) (s : State) :
    exec (.domainWake dt who a) s = .next (s.after ((s.blk.elapse dt).read1 who a)) := rfl

section
variable {b : Blk} {d : Nat}

theorem domainGate_of_idle (hrun : b.inRun) (hctl : bitN (b.regN Reg.PWR_CTL) 0 = true) (hready : (b.dom d).ready = true)
    (hdelay : (b.dom d).touched + b.gateDelay ≤ b.now) (hheld : b.held d = false) (hmay : b.mayGate d = true) :
    domainGate d b = b.gateOff d := by
  unfold domainGate
  dsimp only
  rw [if_pos]
  simp [hrun.serving, hctl, hready, hdelay, hheld, hmay]

theorem domainGate_of_mayNot (hmay : b.mayGate d = false) : domainGate d b = b := by
  unfold domainGate
  dsimp only
  rw [if_neg]
  simp [hmay]

/-- A gated domain, with every other as it was; the illumination's clamps end its conduction. -/
theorem Blk.gateOff_spec (hd : d ∈ domCodes) (hdoms : b.doms.length = 26) :
    (d ≠ 4 → (b.gateOff d).regs = b.regs) ∧
    (b.gateOff d).dom d = { b.dom d with powered := false, ready := false, clamped := true, gateAt := none } ∧
    (∀ e ∈ domCodes, e ≠ d → (b.gateOff d).dom e = b.dom e) ∧
    (d = 4 → (b.gateOff d).lit.cond = none ∧ (b.gateOff d).lit.prech = none ∧ (b.gateOff d).lit.rowdrv = none) := by
  unfold Blk.gateOff Blk.gateDom
  by_cases hlit : d = 4
  · subst hlit
    rw [if_pos rfl]
    have hdom (e : Nat) : b.lightsOff.dom e = b.dom e := by rw [Blk.dom, b.doms_lightsOff, Blk.dom]
    refine ⟨fun h => absurd rfl h, ?_, fun e he hne => ?_, fun _ => b.lightsOff_dark⟩
    · rw [Blk.dom_updDom_same hd (by rw [b.doms_lightsOff, hdoms]), hdom]
    · rw [Blk.dom_updDom_other _ hd he hne, hdom]
  · rw [if_neg hlit]
    exact ⟨fun _ => rfl, Blk.dom_updDom_same hd hdoms _, fun e he hne => b.dom_updDom_other hd he hne _, fun h => absurd h hlit⟩

theorem pwrGateWait_of_late {t : Nat} (h5 : d ≠ 5) (h7 : d ≠ 7) (hasked : (b.dom d).gateAt = some t) (hlate : t + 1562500 ≤ b.now)
    (hheld : b.gateHeld d = true) : pwrGateWait d b =
      ((((b.abortDomain 0xB027 d).abortEng 0xB027 d).updDom d (fun x => { x with gateAt := none })).gateOff d).raise 0x1011 := by
  unfold pwrGateWait
  rw [hasked]
  dsimp only
  rw [if_neg (by simp [hlate, hheld]), if_neg (by simp [h5, h7])]

/-! ### A woken domain (16 R593, R599) -/

theorem Blk.eachStall_nil (h : b.chn.stalls = []) (f : Blk → Stall → Blk) : b.eachStall d f = b := by
  have hchn : { b.chn with stalls := [] } = b.chn := by rw [← h]
  unfold Blk.eachStall
  rw [h]
  exact congrArg (fun c => ({ b with chn := c } : Blk)) hchn

theorem Blk.eachStall_single {w : Stall} (h : b.chn.stalls = [w]) (hdom : w.dom = d) (f : Blk → Stall → Blk) :
    b.eachStall d f = f { b with chn := { b.chn with stalls := [] } } w := by
  unfold Blk.eachStall
  rw [h]
  simp [List.partition, List.partition.loop, hdom]

theorem Blk.resume_read {w : Stall} {who : Who} {a : Nat} (h : w.what = .read who a) : b.resume w = (b.noteStall w).read1 who a := by
  unfold Blk.resume
  rw [h]

theorem Blk.refuseStall_read {w : Stall} {who : Who} {a : Nat} (h : w.what = .read who a) :
    b.refuseStall w = (b.noteStall w).answer 0x1012 0 := by
  unfold Blk.refuseStall
  rw [h]

theorem Blk.domainUp_chn : (b.domainUp d).chn = b.chn := by
  unfold Blk.domainUp
  dsimp only
  split
  · unfold Blk.pdaBack
    exact foldl_kept Blk.chn (f := fun s ch => (s.restartCh ch).switchCh ch) (fun _ _ => rfl) _ _
  · rfl

theorem Blk.domainUp_plain (h : d ≠ 3) : b.domainUp d = b.readyDom d := if_neg h

/-- A domain whose ready signal rises. -/
theorem Blk.readyDom_spec (hd : d ∈ domCodes) (hdoms : b.doms.length = 26) (hpowered : (b.dom d).powered = true)
    (hrestart : (b.dom d).restartAt = none) :
    (b.readyDom d).dom d = { b.dom d with ready := true, clamped := false, touched := b.now } := by
  unfold Blk.readyDom
  rw [Blk.dom_updDom_same hd hdoms, if_pos hpowered, ← hrestart]

section
variable (hd : d ∈ domCodes) (hpowered : (b.dom d).powered = true) (hwaits : (b.dom d).ready = false) (hrestart : (b.dom d).restartAt = none)
include hd hpowered hwaits hrestart

theorem domainReady_of_waking : domainReady d b = (b.domainUp d).eachStall d Blk.resume := by
  unfold domainReady
  dsimp only
  rw [if_neg]
  simp [hd, hpowered, hwaits, hrestart]

theorem pwrDomainLate_of_late (h0 : d ≠ 0) (h1 : d ≠ 1) (hlate : (b.dom d).wakeAt + 2 * readyBound d ≤ b.now) :
    pwrDomainLate d b = ((b.raise 0x1012).eachStall d Blk.refuseStall).restartFor d 0x1012 := by
  unfold pwrDomainLate
  dsimp only
  rw [if_neg]
  simp [hd, hpowered, hwaits, hrestart, h0, h1, hlate]

end

/-- The first access to a gated domain closes its switch, is counted, and waits (16 R593, R599). -/
theorem read1_of_gated {who : Who} {a : Nat} (hrun : b.inRun) (hcheck : b.readCheck who a = 0) (hready : b.domReady (domOf a) = false)
    (hpowered : (b.dom (domOf a)).powered = false) : b.read1 who a =
      ((b.bump Reg.PWR_COUNTS 31 16 1).updDom (domOf a) (fun x =>
        { x with powered := true, ready := false, wakeAt := b.now, touched := b.now })).park (domOf a) (.read who a) := by
  have hoff : ((b.bump Reg.PWR_COUNTS 31 16 1).dom (domOf a)).powered = false := hpowered
  have hwake : (b.bump Reg.PWR_COUNTS 31 16 1).wakeDom (domOf a) = (b.bump Reg.PWR_COUNTS 31 16 1).updDom (domOf a) (fun x =>
      { x with powered := true, ready := false, wakeAt := b.now, touched := b.now }) :=
    Blk.updDom_congr (if_neg (ne_true_of_eq_false hoff))
  have hdemand : b.demandWake (domOf a) = (b.bump Reg.PWR_COUNTS 31 16 1).wakeDom (domOf a) := by
    rw [Blk.demandWake, if_neg (ne_true_of_eq_false hpowered)]
  have hread : b.readReg who a = (none, b.demandWake (domOf a)) := by simp [Blk.readReg, hcheck, hready]
  unfold Blk.read1
  rw [hrun.reaches, hread, hdemand, hwake]
  rfl

end

/-! ### O55 -/

/-- Settles O55: each command's lemma, with what the domain's clamps and switch leave. -/
theorem domainsGateAndWake : Obligations.DomainsGateAndWake := by
  unfold Obligations.DomainsGateAndWake
  constructor
  case right =>
    intro dt i a s b hrun hcheck hready hpowered
    rw [exec_domainWake, read1_of_gated hrun hcheck hready hpowered]
  intro dt d t a w who s b hd hdoms
  refine ⟨fun hrun hctl hready hdelay hheld hmay => ?_, fun hlive => ?_, fun h5 h7 hasked hlate hheld => ?_,
    fun hpowered hwaits hrestart => ⟨fun hnone h3 => ?_, fun hone hdom hwhat => ?_, fun h0 h1 hlate => ⟨fun hone hdom hwhat => ?_, fun hnone => ?_⟩⟩⟩
  · have hexec : exec (.domainGate dt d) s = .next (s.after (b.gateOff d)) := by
      rw [exec_domainGate, domainGate_of_idle hrun hctl hready hdelay hheld hmay]
    exact leaves_of_exec hexec (Blk.gateOff_spec hd hdoms)
  · rw [exec_domainGate, domainGate_of_mayNot (by simp [Blk.mayGate, b, hlive])]
  · rw [exec_pwrGateWait, pwrGateWait_of_late h5 h7 hasked hlate hheld]
  · have hexec : exec (.domainReady dt d) s = .next (s.after (b.readyDom d)) := by
      rw [exec_domainReady, domainReady_of_waking hd hpowered hwaits hrestart, Blk.domainUp_plain h3, Blk.eachStall_nil (b := b.readyDom d) hnone]
    exact leaves_of_exec hexec ⟨rfl, Blk.readyDom_spec hd hdoms hpowered hrestart⟩
  · rw [exec_domainReady, domainReady_of_waking hd hpowered hwaits hrestart,
      Blk.eachStall_single ((congrArg ChnSt.stalls Blk.domainUp_chn).trans hone) hdom, Blk.resume_read hwhat]
  · rw [exec_pwrDomainLate, pwrDomainLate_of_late hd hpowered hwaits hrestart h0 h1 hlate,
      Blk.eachStall_single (by rw [Blk.raise_chn]; exact hone) hdom, Blk.refuseStall_read hwhat, Blk.raise_chn]
  · rw [exec_pwrDomainLate, pwrDomainLate_of_late hd hpowered hwaits hrestart h0 h1 hlate, Blk.eachStall_nil (by rw [Blk.raise_chn]; exact hnone)]

end Sys2Proof.Machine
end

section
/-! Heat (17 R640): O60. -/
namespace Sys2Proof.Machine

/-! ### What the forfeits leave as it stands -/

/-- The time, the lamps, and how many domains and session slots there are. -/
def Blk.standing (b : Blk) : Nat × LitSt × Nat × Nat := (b.now, b.lit, b.doms.length, b.ses.slots.length)

theorem Blk.standing_parts {b c : Blk} (h : c.standing = b.standing) : c.now = b.now ∧ c.lit = b.lit ∧ c.doms.length = b.doms.length := by
  simp only [Blk.standing, Prod.mk.injEq] at h
  obtain ⟨hnow, hlit, hdoms, -⟩ := h
  exact ⟨hnow, hlit, hdoms⟩

theorem Blk.standing_slots {b c : Blk} (h : c.standing = b.standing) : c.ses.slots.length = b.ses.slots.length := by
  simp only [Blk.standing, Prod.mk.injEq] at h
  exact h.2.2.2

section
variable (b : Blk)

theorem Blk.standing_event (page bit code : Nat) : (b.event page bit code).standing = b.standing := by
  obtain ⟨r, e, h⟩ := b.event_shape page bit code
  rw [h]
  rfl

theorem Blk.standing_raiseAt (page code : Nat) : (b.raiseAt page code).standing = b.standing := by
  obtain ⟨r, e, f, h⟩ := b.raiseAt_shape page code
  rw [h]
  rfl

theorem Blk.standing_raise (code : Nat) : (b.raise code).standing = b.standing := by
  obtain ⟨r, e, f, h⟩ := b.raise_shape code
  rw [h]
  rfl

theorem Blk.standing_updDom (d : Nat) (f : DomSt → DomSt) : (b.updDom d f).standing = b.standing := by
  unfold Blk.standing
  rw [show (b.updDom d f).doms.length = b.doms.length from upd_length _ _ _]
  rfl

theorem Blk.standing_touch (l : List Nat) : (b.touch l).standing = b.standing :=
  foldl_kept Blk.standing (f := fun s d => s.updDom d (fun x => { x with touched := s.now })) (fun s d => s.standing_updDom d _) l b

theorem Blk.standing_engStage (point : Nat) (a : EngAct) : (b.engStage point a).standing = b.standing := by
  obtain ⟨bnd, h⟩ := b.engStage_shape point a
  rw [h]
  rfl

theorem Blk.standing_engTag (a : EngAct) : (b.engTag a).standing = b.standing :=
  (Blk.standing_event _ _ _ _).trans (b.standing_touch _)

/-! ### Recoveries (17 R635, R636) -/

theorem Blk.standing_exhausted (k : SpareKind) (u : Nat) : (b.exhausted k u).standing = b.standing := Blk.standing_raise _ _

theorem Blk.standing_exhaustedEffect (r : Recovery) : (b.exhaustedEffect r).standing = b.standing := by
  have hretired : (if r.wear then b else b.retireEngine r.u).standing = b.standing := by split <;> rfl
  have heffect (x : Blk) (h : x.standing = b.standing) :
      (if r.kind = .row && (x.memCh (r.u % 2)).spares < 64 then x else x.exhausted r.kind r.u).standing = b.standing := by
    split
    · exact h
    · exact (x.standing_exhausted _ _).trans h
  unfold Blk.exhaustedEffect
  refine heffect _ ?_
  split
  · exact (Blk.standing_raise _ _).trans hretired
  · exact b.standing_engStage _ _
  · rfl
  · rfl
  · exact b.standing_raise _
  all_goals rfl

theorem Blk.standing_beginRecovery (r : Recovery) : (b.beginRecovery r).standing = b.standing := by
  unfold Blk.beginRecovery
  split
  · cases b.spareEngines.head? with
    | none => rfl
    | some e => exact b.standing_updDom _ _
  · exact b.standing_engStage _ _
  all_goals rfl

theorem Blk.standing_recoveryStats (since : Nat) : (b.recoveryStats since).standing = b.standing := Blk.standing_event _ _ _ _

theorem Blk.standing_startHead (n : Nat) : (Blk.startHead n b).standing = b.standing := by
  induction n generalizing b with
  | zero => rfl
  | succ n ih =>
    unfold Blk.startHead
    split
    · rfl
    · dsimp only
      split
      · exact (ih _).trans ((Blk.standing_recoveryStats _ _).trans (Blk.standing_exhaustedEffect _ _))
      · exact Blk.standing_beginRecovery _ _

theorem Blk.standing_endRecovery : b.endRecovery.standing = b.standing := by
  unfold Blk.endRecovery
  split
  · rfl
  · exact (Blk.standing_startHead _ _).trans (b.standing_recoveryStats _)

theorem Blk.standing_recovered (k : SpareKind) (u : Nat) : (if b.recovering k u then b.endRecovery else b).standing = b.standing := by
  split
  · exact b.standing_endRecovery
  · rfl

/-! ### The engine's own bundles (12 R459, R462) -/

theorem Blk.standing_rowMapped (ch : Nat) (k : RowCopy) : (b.rowMapped ch k).standing = b.standing := by
  unfold Blk.rowMapped
  dsimp only
  split
  · split
    · exact Blk.standing_raise _ _
    · rfl
  · have hcause (x : Blk) : ((if k.uncorr then x.bump Reg.MEMX_REMAP_CAUSE 31 16 1 else x.bump Reg.MEMX_REMAP_CAUSE 15 0 1).raise
        0x3021).standing = x.standing := by
      rw [Blk.standing_raise]
      split <;> rfl
    exact (Blk.standing_recovered _ _ _).trans (hcause _)

theorem Blk.standing_remapCommit (ch : Nat) : (b.remapCommit ch).standing = b.standing :=
  foldl_kept Blk.standing (fun s k => s.standing_rowMapped ch k) _ b

theorem Blk.standing_engApply (a : EngAct) : (b.engApply a).standing = b.standing := by
  unfold Blk.engApply
  split
  case h_2 => exact Blk.standing_raise _ _
  case h_7 =>
    split
    · exact (Blk.standing_recovered _ _ _).trans (Blk.standing_raise _ _)
    · rfl
  case h_11 => exact b.standing_remapCommit _
  all_goals rfl

theorem Blk.standing_commitEng (point : Nat) : (b.commitEng point).standing = b.standing := by
  unfold Blk.commitEng
  exact foldl_kept Blk.standing (f := fun s (e : EngBundle) => (s.engTag e.act).engApply e.act)
    (fun s e => (Blk.standing_engApply _ _).trans (s.standing_engTag _)) _ _

theorem Blk.standing_jobsOver : b.jobsOver.standing = b.standing := by
  unfold Blk.jobsOver
  split
  · rfl
  · exact foldl_kept Blk.standing (fun s _ => s.standing_commitEng 3) _ b

/-! ### Forfeits (02 R76 to R80) -/

theorem Blk.standing_rollWindow : b.rollWindow.standing = b.standing := by
  unfold Blk.rollWindow
  dsimp only
  split <;> rfl

theorem Blk.standing_book (cal : Bool) (start ticks : Nat) : (b.book cal start ticks).standing = b.standing := by
  unfold Blk.book
  dsimp only
  split_ifs <;> exact b.standing_rollWindow

theorem Blk.standing_stopTask (t : Task) : (b.stopTask t).standing = b.standing := by
  unfold Blk.stopTask
  dsimp only
  split
  · exact Blk.standing_touch _ _
  · exact (Blk.standing_book _ _ _ _).trans (Blk.standing_touch _ _)

theorem Blk.standing_squashTask (cause : Nat) (t : Task) : (b.squashTask cause t).standing = b.standing := by
  unfold Blk.squashTask
  dsimp only
  have hbooked : (if t.admitted then (b.stopTask t).book false t.startedAt (b.now - t.startedAt) else b.stopTask t).standing = b.standing := by
    split
    · exact (Blk.standing_book _ _ _ _).trans (b.standing_stopTask t)
    · exact b.standing_stopTask t
  exact hbooked

theorem Blk.standing_dropSlot (cause : Nat) (o : Option Outcome) : (b.dropSlot cause o).standing = b.standing := by
  unfold Blk.dropSlot
  split
  · split <;> rfl
  · rfl

theorem Blk.standing_squashFrame (jobSeq unit : Nat) : (b.squashFrame jobSeq unit).standing = b.standing := by
  have hrunning (p : Task → Bool) : (b.squashWhere Reg.CRU_SQ_OTHER p).standing = b.standing :=
    foldl_kept Blk.standing (fun s t => s.standing_squashTask _ t) _ b
  unfold Blk.squashFrame
  dsimp only
  split
  · exact hrunning _
  · exact (foldl_kept Blk.standing (f := fun s (c : Cluster) => (s.dropSlot Reg.CRU_SQ_OTHER c.prim).dropSlot Reg.CRU_SQ_OTHER c.sec)
      (fun s c => (Blk.standing_dropSlot _ _ _).trans (s.standing_dropSlot _ _)) _ _).trans (hrunning _)

theorem Blk.standing_storeGroup (j : Job) (unit : Nat) (recs : List (List Byte)) : (b.storeGroup j unit recs).standing = b.standing := by
  have hrecs (size : Nat) : (recs.foldl (fun s r => s.storeRec j.pool j.seq unit size r) b).standing = b.standing :=
    foldl_kept Blk.standing (f := fun s r => s.storeRec j.pool j.seq unit size r) (fun _ _ => rfl) recs b
  have hlost (x : Blk) (v p : Nat) (f : Job → Job) :
      ((((x.raise 0xB141).bump Reg.ADM_POOL_LOST 15 0 1).setF Reg.ADM_POOL_LOST 19 16 p).updJob v f).standing = x.standing :=
    x.standing_raise _
  unfold Blk.storeGroup
  extract_lets size stored
  split
  · split
    · exact hrecs size
    · exact hrecs size
  · exact hlost _ _ _ _

theorem Blk.standing_countForfeit : b.countForfeit.standing = b.standing := Blk.standing_event _ _ _ _

theorem Blk.standing_endJob (seq : Nat) : (b.endJob seq).standing = b.standing := by
  unfold Blk.endJob
  split
  · rfl
  · exact b.standing_touch _

theorem Blk.standing_maybeEndExposure (seq : Nat) : (b.maybeEndExposure seq).standing = b.standing := by
  unfold Blk.maybeEndExposure
  split
  · rfl
  · dsimp only
    split
    · rw [Blk.standing_endJob]
      split <;> rfl
    · rfl

theorem Blk.standing_thirdLost : b.thirdLost.standing = b.standing := by
  unfold Blk.thirdLost
  split
  · split
    · rfl
    · dsimp only
      split <;> rfl
  · rfl

theorem Blk.standing_pruneFrames : b.pruneFrames.standing = b.standing := Blk.standing_thirdLost _

theorem Blk.standing_forfeitFrame (jobSeq unit fault wonBy : Nat) (contest : Bool) :
    (b.forfeitFrame jobSeq unit fault wonBy contest).standing = b.standing := by
  unfold Blk.forfeitFrame
  split
  · split
    · rfl
    · extract_lets squashed ended stored mem freed
      have hsquashed : squashed.standing = b.standing := b.standing_squashFrame _ _
      have hended : ended.standing = squashed.standing := rfl
      have hstored : stored.standing = ended.standing := ended.standing_storeGroup _ _ _
      clear_value stored
      have hfreed : freed.standing = stored.standing := rfl
      rw [Blk.standing_maybeEndExposure, Blk.standing_countForfeit, hfreed, hstored, hended, hsquashed]
  · rfl

theorem Blk.standing_forfeitSweep (jobSeq fault wonBy : Nat) (contest : Bool) :
    (b.forfeitSweep jobSeq fault wonBy contest).standing = b.standing := by
  have hstopped (x : Blk) (p : Prop) [Decidable p] (f : Job → Job) : (if p then x.updJob jobSeq f else x).standing = x.standing := by
    split <;> rfl
  unfold Blk.forfeitSweep
  split
  · split
    · rfl
    · extract_lets ended stored stopped
      have hended : ended.standing = b.standing := rfl
      have hpruned : ((stopped.endJob jobSeq).countForfeit).pruneSweeps.standing = ((stopped.endJob jobSeq).countForfeit).standing := rfl
      rw [Blk.standing_jobsOver, hpruned, Blk.standing_countForfeit, Blk.standing_endJob, hstopped, Blk.standing_storeGroup, hended]
  · rfl

theorem Blk.standing_forfeitCampaign (jobSeq fault wonBy : Nat) (contest : Bool) :
    (b.forfeitCampaign jobSeq fault wonBy contest).standing = b.standing := by
  have hstopped (x : Blk) (p : Prop) [Decidable p] (f : Job → Job) : (if p then x.updJob jobSeq f else x).standing = x.standing := by
    split <;> rfl
  unfold Blk.forfeitCampaign
  split
  · split
    · rfl
    · extract_lets ended stopped
      have hended : ended.standing = b.standing := rfl
      have hkept (x : Blk) (l : List Byte) (i : Job) : (x.storeCorr i l).standing = x.standing := rfl
      rw [Blk.standing_countForfeit, hkept, hstopped, hended]
  · rfl

theorem Blk.standing_forfeitPend (d : Pend) (fault : Nat) : (b.forfeitPend d fault).standing = b.standing := by
  unfold Blk.forfeitPend
  split_ifs
  · have hkept (x : Blk) : x.pruneFrames.freeSlots.standing = x.standing := x.standing_pruneFrames
    have hclosed (x : Blk) : (x.closeAccount d.jobSeq d.unit).standing = x.standing := rfl
    rw [Blk.standing_jobsOver, hkept, hclosed, Blk.standing_forfeitFrame]
  · exact b.standing_forfeitSweep _ _ _ _
  · exact b.standing_forfeitCampaign _ _ _ _

theorem Blk.standing_forfeitAll (fault : Nat) : (b.forfeitAll fault).standing = b.standing :=
  foldl_kept Blk.standing (fun s d => s.standing_forfeitPend d fault) _ b

/-! ### Sessions close (13 R504) -/

theorem Blk.standing_abortBundle (d : Bundle) (code addr wonBy : Nat) : (b.abortBundle d code addr wonBy).standing = b.standing := by
  have hfault (x : Blk) : (x.abortFault code addr).standing = x.standing := by
    unfold Blk.abortFault
    split
    · exact x.standing_raiseAt _ _
    · exact x.standing_raise _
  unfold Blk.abortBundle
  dsimp only
  rw [hfault, Blk.standing_event]
  exact b.standing_touch _

theorem Blk.standing_closeSlot (n : Nat) : (b.closeSlot n).standing = b.standing := by
  have hfree (x : Blk) (f : SesSlot → SesSlot) : (x.updSlot n f).standing = x.standing :=
    congrArg (fun k : Nat => (x.now, x.lit, x.doms.length, k)) (upd_length x.ses.slots n f)
  unfold Blk.closeSlot
  extract_lets aborted bnd orphaned
  have haborted : aborted.standing = b.standing := by
    simp only [aborted]
    split
    · exact b.standing_abortBundle _ _ _ _
    · rfl
  have hset (x : Blk) (p : Prop) [Decidable p] (n : BndSt) : (if p then { x with bnd := n } else x).standing = x.standing := by
    split <;> rfl
  have horphaned : orphaned.standing = aborted.standing := hset aborted _ _
  rw [hfree, horphaned, haborted]

theorem Blk.standing_closePort (link : Bool) : (b.closePort link).standing = b.standing :=
  foldl_kept Blk.standing (f := fun s i => if (s.slot i).st != .free && (s.slot i).link = link then s.closeSlot i else s)
    (fun s i => by split <;> [exact s.standing_closeSlot i; rfl]) _ b

theorem Blk.standing_closeAll : b.closeAll.standing = b.standing := (Blk.standing_closePort _ _).trans (b.standing_closePort _)

theorem Blk.standing_leaveUp : b.leaveUp.standing = b.standing := by
  cases hup : b.linkUp with
  | false => rw [Blk.leaveUp_of_down hup]
  | true =>
    obtain ⟨tly, more, hunsent, -, -⟩ := b.unsent_shape
    have hkept (x : Blk) (n : Nat) : (x.bump Reg.EVT_LOST 15 0 n).standing = x.standing := rfl
    rw [Blk.leaveUp_of_up hup, Blk.standing_closePort, Blk.standing_raise, hkept, hunsent]
    rfl

/-- A slot once the sessions of a port have closed. -/
def SesSlot.closedOn (k : SesSlot) (link : Bool) : SesSlot := if k.st != .free && k.link = link then { counter := k.counter } else k

theorem Blk.slot_closeSlot {n : Nat} (hn : n < b.ses.slots.length) (k : Nat) :
    (b.closeSlot n).slot k = if k = n then { counter := (b.slot n).counter } else b.slot k := by
  rw [Blk.slot, b.ses_closeSlot]
  split
  next h =>
    subst h
    exact upd_getD_same _ _ _ _ hn
  next h => exact upd_getD_other _ _ _ _ _ h

theorem Blk.slot_closePort {link : Bool} {k : Nat} (hslots : b.ses.slots.length = 4) (hk : k < 4) :
    (b.closePort link).slot k = (b.slot k).closedOn link := by
  have hfold (l : List Nat) (x : Blk) (hl : ∀ n ∈ l, n < 4) (hnodup : l.Nodup) (hx : x.ses.slots.length = 4) :
      (l.foldl (fun s i => if (s.slot i).st != .free && (s.slot i).link = link then s.closeSlot i else s) x).slot k =
        if k ∈ l then (x.slot k).closedOn link else x.slot k := by
    induction l generalizing x with
    | nil => rfl
    | cons n l ih =>
      have hn : n < x.ses.slots.length := hx ▸ hl n List.mem_cons_self
      obtain ⟨hnl, hl'⟩ := List.nodup_cons.mp hnodup
      let y := if (x.slot n).st != .free && (x.slot n).link = link then x.closeSlot n else x
      have hy : y.slot k = if k = n then (x.slot k).closedOn link else x.slot k := by
        simp only [y, SesSlot.closedOn]
        by_cases hkn : k = n
        · subst hkn
          rw [if_pos rfl]
          split
          · rw [x.slot_closeSlot hn, if_pos rfl]
          · rfl
        · rw [if_neg hkn]
          split
          · rw [x.slot_closeSlot hn, if_neg hkn]
          · rfl
      have hylen : y.ses.slots.length = 4 := by
        simp only [y]
        split
        · exact (Blk.standing_slots (x.standing_closeSlot n)).trans hx
        · exact hx
      refine (ih y (fun m hm => hl m (List.mem_cons_of_mem _ hm)) hl' hylen).trans ?_
      rw [hy]
      by_cases hkn : k = n
      · subst hkn
        simp [hnl]
      · simp [hkn]
  have hmem : k ∈ List.range 4 := List.mem_range.mpr hk
  exact (hfold _ b (fun n hn => List.mem_range.mp hn) List.nodup_range hslots).trans (if_pos hmem)

/-- Once every session has closed, every slot is free. -/
theorem Blk.closeAll_free {k : Nat} (hslots : b.ses.slots.length = 4) (hk : k < 4) : (b.closeAll.slot k).st = .free := by
  have hslots' : (b.closePort true).ses.slots.length = 4 := (Blk.standing_slots (b.standing_closePort true)).trans hslots
  rw [Blk.closeAll, Blk.slot_closePort _ hslots' hk, b.slot_closePort hslots hk]
  have hclosed (q : SesSlot) : ((q.closedOn true).closedOn false).st = .free := by
    by_cases hfree : q.st = .free
    · simp [SesSlot.closedOn, hfree]
    · cases hlink : q.link <;> simp [SesSlot.closedOn, hfree, hlink]
  exact hclosed _

theorem Blk.closePort_of_free {link : Bool} (hfree : ∀ k < 4, (b.slot k).st = .free) : b.closePort link = b :=
  foldl_of_fixed (fun i hi => if_neg (by simp [hfree i (List.mem_range.mp hi)]))

theorem Blk.leaveUp_linkUp : b.leaveUp.linkUp = false := by
  cases hup : b.linkUp with
  | false => rw [Blk.leaveUp_of_down hup, hup]
  | true =>
    obtain ⟨-, -, -, -, hdown, -⟩ := Blk.leaveUp_spec hup
    exact hdown

/-- Leaving UP closes no slot that is free. -/
theorem Blk.leaveUp_free (hfree : ∀ k < 4, (b.slot k).st = .free) : ∀ k < 4, (b.leaveUp.slot k).st = .free := by
  cases hup : b.linkUp with
  | false => rwa [Blk.leaveUp_of_down hup]
  | true =>
    obtain ⟨tly, more, hunsent, -, -⟩ := b.unsent_shape
    have hkept (n : Nat) : ((b.unsent.bump Reg.EVT_LOST 15 0 n).raise 0x2024).ses = b.ses := by
      rw [Blk.raise_ses, hunsent]
      rfl
    have hfree' (n : Nat) : ∀ k < 4, (((b.unsent.bump Reg.EVT_LOST 15 0 n).raise 0x2024).slot k).st = .free := fun k hk => by
      rw [Blk.slot, hkept]
      exact hfree k hk
    rw [Blk.leaveUp_of_up hup, Blk.closePort_of_free _ (hfree' _)]
    exact hfree' _

end

/-! ### Domains that are gated one after another -/

/-- Gating codes in turn, those of a set apart, gates each of the others. -/
theorem foldl_gated {gate : Blk → Nat → Blk} {on : Nat → Bool} {d : Nat} (hd : d ∈ domCodes) (hon : on d = false)
    (hlen : ∀ s e, (gate s e).doms.length = s.doms.length)
    (hgate : ∀ s, s.doms.length = 26 → ((gate s d).dom d).powered = false ∧ ((gate s d).dom d).clamped = true)
    (hother : ∀ s e, e ∈ domCodes → e ≠ d → (gate s e).dom d = s.dom d) (l : List Nat) (hl : ∀ e ∈ l, e ∈ domCodes) (b : Blk)
    (hdoms : b.doms.length = 26) (h : d ∈ l ∨ (b.dom d).powered = false ∧ (b.dom d).clamped = true) :
    let c := l.foldl (fun s e => if on e then s else gate s e) b
    (c.dom d).powered = false ∧ (c.dom d).clamped = true := by
  induction l generalizing b with
  | nil => exact h.resolve_left List.not_mem_nil
  | cons e l ih =>
    have hl' : ∀ e ∈ l, e ∈ domCodes := fun x hx => hl x (List.mem_cons_of_mem _ hx)
    have hnext : (if on e then b else gate b e).doms.length = 26 := by
      split
      · exact hdoms
      · rw [hlen, hdoms]
    refine ih hl' _ hnext ?_
    change d ∈ l ∨ ((if on e then b else gate b e).dom d).powered = false ∧ ((if on e then b else gate b e).dom d).clamped = true
    by_cases hed : e = d
    · subst hed
      rw [if_neg (ne_true_of_eq_false hon)]
      exact .inr (hgate b hdoms)
    · have hsame : (if on e then b else gate b e).dom d = b.dom d := by
        split
        · rfl
        · exact hother b e (hl e List.mem_cons_self) hed
      rw [hsame]
      exact h.imp_left (fun hmem => (List.mem_cons.mp hmem).resolve_left (Ne.symm hed))

/-! ### O60 -/

theorem exec_thmHot (dt temp : Nat) (s : State) : exec (.thmHot dt temp) s = .next (s.after (thmHot temp (s.blk.elapse dt))) := rfl

theorem exec_thmShutdown (dt temp : Nat) (s : State) :
    exec (.thmShutdown dt temp) s = .next (s.after (thmShutdown temp (s.blk.elapse dt))) := rfl

section
variable {b : Blk} {temp : Nat}

/-- A reading of the junction, with its highest since reset. -/
def Blk.heatSeen (b : Blk) (temp : Nat) : Blk :=
  b.setN Reg.THM_TEMP (temp % 65536 + 65536 *
    (if sgn 16 (b.regF Reg.THM_TEMP 31 16) < sgn 16 temp then temp % 65536 else b.regF Reg.THM_TEMP 31 16))

theorem thmHot_of_crossing (hot : 256 * (b.regF Reg.THM_LIMITS 7 0 : Int) < sgn 16 temp)
    (hwas : sgn 16 (b.regF Reg.THM_TEMP 15 0) ≤ 256 * (b.regF Reg.THM_LIMITS 7 0 : Int)) :
    thmHot temp b = (b.heatSeen temp).raise 0x1051 :=
  if_pos (by simp [hot, hwas])

theorem thmHot_of_quiet (h : sgn 16 temp ≤ 256 * (b.regF Reg.THM_LIMITS 7 0 : Int) ∨
    256 * (b.regF Reg.THM_LIMITS 7 0 : Int) < sgn 16 (b.regF Reg.THM_TEMP 15 0)) : thmHot temp b = b.heatSeen temp :=
  if_neg (by
    rcases h with h | h
    · simp [Int.not_lt.mpr h]
    · simp [h])

theorem thmHot_standing (temp : Nat) : (thmHot temp b).standing = b.standing := by
  unfold thmHot
  dsimp only
  split
  · exact Blk.standing_raise _ _
  · rfl

theorem Blk.gateDom_fold (l : List Nat) (b : Blk) :
    ∃ doms, l.foldl (fun s d => if d = 0 || d = 1 then s else s.gateDom d) b = { b with doms := doms } := by
  induction l generalizing b with
  | nil => exact ⟨_, rfl⟩
  | cons d l ih =>
    obtain ⟨doms, h⟩ := ih (if d = 0 || d = 1 then b else b.gateDom d)
    rw [List.foldl_cons, h]
    split <;> exact ⟨_, rfl⟩

theorem Blk.gateDom_off {b : Blk} {d : Nat} (hd : d ∈ domCodes) (hdoms : b.doms.length = 26) :
    ((b.gateDom d).dom d).powered = false ∧ ((b.gateDom d).dom d).clamped = true := by
  rw [Blk.gateDom, Blk.dom_updDom_same hd hdoms]
  exact ⟨rfl, rfl⟩

/-- The lights go off, every delivery is forfeited, the sessions close and the link goes down. -/
theorem Blk.workShut_spec {x w f c : Blk} {fault : Nat} (hw : x.lightsOff = w) (hf : w.forfeitAll fault = f) (hc : f.closeAll.leaveUp = c) :
    c.now = x.now ∧ c.lit.cond = none ∧ c.doms.length = x.doms.length ∧ c.linkUp = false ∧
      (x.ses.slots.length = 4 → ∀ n < 4, (c.slot n).st = .free) := by
  have hdark : w.lit.cond = none := hw ▸ x.lightsOff_dark.1
  have hdoms : w.doms = x.doms := hw ▸ x.doms_lightsOff
  obtain ⟨lit, regs, evt, flog, frames, doms, hshape⟩ := x.lightOnly_lightsOff
  have hnow : w.now = x.now := by rw [← hw, hshape]
  have hses : w.ses = x.ses := by rw [← hw, hshape]
  have hforfeited : f.standing = w.standing := hf ▸ w.standing_forfeitAll fault
  have hleft : c.standing = f.standing := hc ▸ f.closeAll.standing_leaveUp.trans f.standing_closeAll
  obtain ⟨cnow, clit, cdoms⟩ := Blk.standing_parts (hleft.trans hforfeited)
  refine ⟨cnow.trans hnow, by rw [clit, hdark], by rw [cdoms, hdoms], by rw [← hc, Blk.leaveUp_linkUp], fun hslots => ?_⟩
  have hslots' : f.ses.slots.length = 4 := by rw [Blk.standing_slots hforfeited, hses, hslots]
  rw [← hc]
  exact Blk.leaveUp_free _ (fun k hk => f.closeAll_free hslots' hk)

theorem Blk.stopRing_shape (x : Blk) : ∃ time, x.stopRing = { x with time := time } ∧ time.ringRuns = false := by
  unfold Blk.stopRing
  split
  next h => exact ⟨_, rfl, rfl⟩
  next h => exact ⟨x.time, rfl, by simpa using h⟩

/-- At 125 °C everything ends and the engine is off. -/
theorem thmShutdown_spec (hrun : b.pwr.mode = .run) (hot : (32000 : Int) ≤ sgn 16 temp) : let c := thmShutdown temp b
    c.pwr.mode = .off ∧ c.pwr.hotStop = true ∧ c.jobs = [] ∧ c.sns.frames = [] ∧ c.swp.sweeps = [] ∧ c.lit.cond = none ∧ c.linkUp = false ∧
      c.time.ringRuns = false ∧ c.now = b.now ∧ (b.ses.slots.length = 4 → ∀ n < 4, (c.slot n).st = .free) ∧
      (b.doms.length = 26 → ∀ d ∈ domCodes, d ≠ 0 → d ≠ 1 → (c.dom d).powered = false) := by
  unfold thmShutdown
  rw [if_neg (by simp [hrun, Int.not_lt.mpr hot])]
  extract_lets heated closed stopped sns dec swp cal ended gated
  have hstanding : heated.standing = b.standing := (Blk.standing_raise _ _).trans (thmHot_standing temp)
  obtain ⟨hnow, -, hdoms⟩ := Blk.standing_parts hstanding
  have hslots := Blk.standing_slots hstanding
  obtain ⟨cnow, ccond, cdoms, clink, cfree⟩ := Blk.workShut_spec (x := heated) (fault := 0x1052) (c := closed) rfl rfl rfl
  clear_value heated closed
  obtain ⟨time, hstopped, htime⟩ := closed.stopRing_shape
  replace hstopped : stopped = { closed with time := time } := hstopped
  clear_value stopped
  subst hstopped
  obtain ⟨doms, hgated⟩ : ∃ doms, gated = { ended.setN Reg.CHN_ADDR 0 with doms := doms } := Blk.gateDom_fold domCodes _
  have hpowered (h26 : b.doms.length = 26) (d : Nat) (hd : d ∈ domCodes) (h0 : d ≠ 0) (h1 : d ≠ 1) : (gated.dom d).powered = false :=
    (foldl_gated (gate := Blk.gateDom) (on := fun d => d = 0 || d = 1) hd (by simp [h0, h1]) (fun s e => upd_length _ _ _)
      (fun s hs => Blk.gateDom_off hd hs) (fun s e he hne => s.dom_updDom_other he hd (Ne.symm hne) _) domCodes (fun _ h => h)
      (ended.setN Reg.CHN_ADDR 0) ((cdoms.trans hdoms).trans h26) (.inl hd)).1
  clear_value gated
  subst hgated
  exact ⟨rfl, rfl, rfl, rfl, rfl, ccond, clink, htime, cnow.trans hnow, fun h4 => cfree (hslots.trans h4), hpowered⟩

end

/-- Settles O60: a reading crosses its limit or not; a shutdown ends the work, stops the ring and gates every domain. -/
theorem heatIsWatched : Obligations.HeatIsWatched := by
  unfold Obligations.HeatIsWatched
  intro dt temp s b warn high seen
  refine ⟨fun hot hwas => ?_, fun h => ?_, fun hrun hot => ?_⟩
  · rw [exec_thmHot, thmHot_of_crossing hot hwas]
    rfl
  · rw [exec_thmHot, thmHot_of_quiet h]
    rfl
  · refine leaves_of_exec (exec_thmShutdown dt temp s) ?_
    exact thmShutdown_spec hrun hot

end Sys2Proof.Machine
end

section
/-! What the restart of a domain leaves of Understory (17 R637): its queue, the domain it restarts, and its counts. -/
namespace Sys2Proof.Machine

/-- The time, how many domains there are, and what Understory has under way with its counts. -/
def Blk.repair (b : Blk) : Nat × Nat × List Recovery × Option Nat × Nat :=
  (b.now, b.doms.length, b.ust.queue, b.ust.restarting, b.regN Reg.UST_COUNTS)

theorem Blk.repair_parts {b c : Blk} (h : c.repair = b.repair) : c.now = b.now ∧ c.doms.length = b.doms.length ∧
    c.ust.queue = b.ust.queue ∧ c.ust.restarting = b.ust.restarting ∧ c.regN Reg.UST_COUNTS = b.regN Reg.UST_COUNTS := by
  simpa only [Blk.repair, Prod.mk.injEq] using h

theorem counts_ne_hdr (page : Nat) {k : Nat} (hk : k < 0x40) : Reg.UST_COUNTS ≠ page * 0x400 + k := by
  simp only [Reg.UST_COUNTS]
  omega

/-- The registers of the decode engines and of the photodiode channels stand on pages of their own. -/
theorem counts_ne_unit (n : Nat) {a : Nat} (h : 0x8000 ≤ a) : Reg.UST_COUNTS ≠ a + 0x400 * n := by
  simp only [Reg.UST_COUNTS]
  omega

section
variable (b : Blk)

/-! ### Registers, notices and domains -/

theorem Blk.repair_setReg {a : Nat} (v : Word) (h : Reg.UST_COUNTS ≠ a) : (b.setReg a v).repair = b.repair := by
  unfold Blk.repair
  rw [show (b.setReg a v).regN Reg.UST_COUNTS = b.regN Reg.UST_COUNTS from congrArg BitVec.toNat (b.reg_setReg_other v h)]
  rfl

theorem Blk.repair_setN {a : Nat} (n : Nat) (h : Reg.UST_COUNTS ≠ a) : (b.setN a n).repair = b.repair := b.repair_setReg _ h
theorem Blk.repair_setF {a : Nat} (hi lo n : Nat) (h : Reg.UST_COUNTS ≠ a) : (b.setF a hi lo n).repair = b.repair := b.repair_setReg _ h
theorem Blk.repair_bump {a : Nat} (hi lo n : Nat) (h : Reg.UST_COUNTS ≠ a) : (b.bump a hi lo n).repair = b.repair := b.repair_setReg _ h
theorem Blk.repair_count {a : Nat} (n : Nat) (h : Reg.UST_COUNTS ≠ a) : (b.count a n).repair = b.repair := b.repair_setReg _ h

theorem Blk.repair_event (page bit code : Nat) : (b.event page bit code).repair = b.repair := by
  have hreg : (b.event page bit code).reg Reg.UST_COUNTS = b.reg Reg.UST_COUNTS := 
    b.reg_event _ _ _ (counts_ne_hdr _ (by decide)) (counts_ne_hdr _ (by decide)) (by decide)
  obtain ⟨r, e, h⟩ := b.event_shape page bit code
  unfold Blk.repair
  rw [Blk.regN, hreg, h]
  rfl

theorem Blk.repair_raiseAt (page code : Nat) : (b.raiseAt page code).repair = b.repair := by
  have hreg : (b.raiseAt page code).reg Reg.UST_COUNTS = b.reg Reg.UST_COUNTS :=
    b.reg_raiseAt _ _ (counts_ne_hdr _ (by decide)) (counts_ne_hdr _ (by decide)) (counts_ne_hdr _ (by decide)) (by decide) (by decide)
  obtain ⟨r, e, f, h⟩ := b.raiseAt_shape page code
  unfold Blk.repair
  rw [Blk.regN, hreg, h]
  rfl

theorem Blk.repair_raise (code : Nat) : (b.raise code).repair = b.repair := by
  have hreg : (b.raise code).reg Reg.UST_COUNTS = b.reg Reg.UST_COUNTS := b.reg_raise _ (by decide) (by decide) (by decide)
  obtain ⟨r, e, f, h⟩ := b.raise_shape code
  unfold Blk.repair
  rw [Blk.regN, hreg, h]
  rfl

theorem Blk.repair_updDom (d : Nat) (f : DomSt → DomSt) : (b.updDom d f).repair = b.repair := by
  unfold Blk.repair
  rw [show (b.updDom d f).doms.length = b.doms.length from upd_length _ _ _]
  rfl

theorem Blk.repair_touch (l : List Nat) : (b.touch l).repair = b.repair :=
  foldl_kept Blk.repair (f := fun s d => s.updDom d (fun x => { x with touched := s.now })) (fun s d => s.repair_updDom d _) l b

/-! ### Decode tasks (04 R164 to R168) -/

theorem Blk.repair_rollWindow : b.rollWindow.repair = b.repair := by
  unfold Blk.rollWindow
  dsimp only
  split
  · rfl
  · exact b.repair_setF 31 16 _ (a := Reg.ADM_CAL_STATE) (by decide)

theorem Blk.repair_book (cal : Bool) (start ticks : Nat) : (b.book cal start ticks).repair = b.repair := by
  unfold Blk.book
  dsimp only
  split_ifs <;> exact b.repair_rollWindow

theorem Blk.repair_unbook (start stop : Nat) : (b.unbook start stop).repair = b.repair := by
  unfold Blk.unbook
  dsimp only
  split_ifs <;> exact b.repair_rollWindow

theorem Blk.repair_stopTask (t : Task) : (b.stopTask t).repair = b.repair := by
  have hstopped : ((({ b with dec := { b.dec with running := b.dec.running.filter (fun u => u.eng != t.eng) } } : Blk).touch
      [0x10 + t.eng]).count (Reg.DEC_BUSY t.eng) (b.now - t.startedAt)).repair = b.repair :=
    (Blk.repair_count _ _ (counts_ne_unit _ (by decide))).trans (Blk.repair_touch _ _)
  unfold Blk.stopTask
  dsimp only
  split
  · exact hstopped
  · exact (Blk.repair_book _ _ _ _).trans hstopped

theorem Blk.repair_squashTask {cause : Nat} (h : Reg.UST_COUNTS ≠ cause) (t : Task) : (b.squashTask cause t).repair = b.repair := by
  have hbooked : (if t.admitted then (b.stopTask t).book false t.startedAt (b.now - t.startedAt) else b.stopTask t).repair = b.repair := by
    split
    · exact (Blk.repair_book _ _ _ _).trans (b.repair_stopTask t)
    · exact b.repair_stopTask t
  unfold Blk.squashTask
  exact (Blk.repair_count _ _ h).trans ((Blk.repair_count _ _ (counts_ne_unit _ (by decide))).trans hbooked)

theorem Blk.repair_squashWhere {cause : Nat} (h : Reg.UST_COUNTS ≠ cause) (p : Task → Bool) : (b.squashWhere cause p).repair = b.repair :=
  foldl_kept Blk.repair (fun s t => s.repair_squashTask h t) _ b

theorem Blk.repair_dropSlot {cause : Nat} (h : Reg.UST_COUNTS ≠ cause) (o : Option Outcome) : (b.dropSlot cause o).repair = b.repair := by
  unfold Blk.dropSlot
  split
  · split
    · exact (Blk.repair_count _ _ h).trans (b.repair_count _ (counts_ne_unit _ (by decide)))
    · rfl
  · rfl

/-! ### A candidate is resolved (04 R170) -/

theorem Blk.repair_flushed : b.flushed.repair = b.repair := by
  obtain ⟨tly, more, h, -⟩ := flushEpochs_store (b.tly.taken.length + 1) b
  unfold Blk.flushed
  rw [h]
  rfl

theorem Blk.repair_startSegment : b.startSegment.repair = b.repair := by
  unfold Blk.startSegment
  split
  · rfl
  · exact Blk.repair_flushed _

theorem Blk.repair_notifyTally (audit : Nat) (c : TlyCand) : (b.notifyTally audit c).2.2.repair = b.repair := by
  unfold Blk.notifyTally
  dsimp only
  split
  · exact (Blk.repair_event _ _ _ _).trans (b.repair_bump 15 0 1 (a := Reg.TLY_REFUSED_CAND) (by decide))
  · exact b.repair_startSegment

theorem Blk.repair_takeResult (j : Job) (f : Frame) (id : Nat) (secondary : Bool) : (b.takeResult j f id secondary).repair = b.repair := by
  have hspent (x : Blk) (u n k : Nat) (o : Outcome) : ((x.spend u n k).noteRatio o k).repair = x.repair := rfl
  have hframe (x : Blk) (u n : Nat) (g : Frame → Frame) : (x.updFrame u n g).repair = x.repair := rfl
  unfold Blk.takeResult
  split
  · split
    · rfl
    · dsimp only
      rw [hframe, Blk.repair_count _ _ (counts_ne_unit _ (by decide)), hspent, Blk.repair_unbook]
  · rfl

theorem Blk.repair_tallyNotice (j : Job) (f : Frame) (c : Cluster) : (b.tallyNotice j f c).repair = b.repair := by
  unfold Blk.tallyNotice
  split
  · split_ifs
    · rfl
    · rfl
    · exact b.repair_notifyTally _ _
  · rfl

theorem Blk.repair_settleCand (j : Job) (jobSeq unit id : Nat) : (b.settleCand j jobSeq unit id).repair = b.repair := by
  unfold Blk.settleCand
  split
  · rfl
  · split
    · rfl
    · split
      · rfl
      · dsimp only
        split
        · split
          · exact (Blk.repair_tallyNotice _ _ _ _).trans (b.repair_takeResult _ _ _ _)
          · exact b.repair_takeResult _ _ _ _
        · exact b.repair_takeResult _ _ _ _

theorem Blk.repair_markResolved (j : Job) (f : Frame) (id : Nat) (secWon untried : Bool) :
    (b.markResolved j f id secWon untried).repair = b.repair := Blk.repair_settleCand _ _ _ _ _

theorem Blk.repair_startSpec (f : Frame) (c : Cluster) (secondary : Bool) (family e : Nat) :
    (b.startSpec f c secondary family e).repair = b.repair := by
  have htried (x : Blk) (p : Prop) [Decidable p] (u n : Nat) (g : Frame → Frame) : (if p then x.updFrame u n g else x).repair = x.repair := by
    split <;> rfl
  unfold Blk.startSpec
  exact (Blk.repair_count _ _ (by decide)).trans ((htried _ _ _ _ _).trans (Blk.repair_rollWindow _))

theorem Blk.repair_resolve (jobSeq unit id : Nat) : (b.resolve jobSeq unit id).repair = b.repair := by
  have hsquashed (x : Blk) (p : Task → Bool) : (x.squashWhere Reg.CRU_SQ_HYPO p).repair = x.repair := x.repair_squashWhere (by decide) p
  have hqueue (x : Blk) (q : List Task) : ({ x with dec := { x.dec with queue := q } } : Blk).repair = x.repair := rfl
  have hbook (x : Blk) (k m n : Nat) (start stop : Nat) : ((x.bookLoser start stop).unspend k m n).repair = x.repair := x.repair_book _ _ _
  unfold Blk.resolve
  split
  · split
    · rfl
    · split
      · rfl
      · dsimp only
        split
        · exact (Blk.repair_markResolved _ _ _ _ _ _).trans (hsquashed _ _)
        · split
          · refine (Blk.repair_markResolved _ _ _ _ _ _).trans ?_
            split
            · exact (hqueue _ _).trans (hsquashed _ _)
            · split
              · split
                · exact (hqueue _ _).trans (hsquashed _ _)
                · exact (hbook _ _ _ _ _ _).trans ((hqueue _ _).trans (hsquashed _ _))
              · exact (hqueue _ _).trans (hsquashed _ _)
          · split
            · rfl
            · split
              · rfl
              · split
                · exact b.repair_markResolved _ _ _ _ _
                · split
                  · exact b.repair_markResolved _ _ _ _ _
                  · split
                    · split
                      · exact b.repair_markResolved _ _ _ _ _
                      · exact b.repair_startSpec _ _ _ _ _
                    · split
                      · exact b.repair_markResolved _ _ _ _ _
                      · exact (Blk.repair_markResolved _ _ _ _ _ _).trans (b.repair_count 1 (a := Reg.CRU_UNTRIED) (by decide))
  · rfl

theorem Blk.repair_afterSquash (t : Task) : (b.afterSquash t).repair = b.repair := by
  unfold Blk.afterSquash
  split
  · split
    · split
      · exact Blk.repair_resolve _ _ _ _
      · rfl
    · rfl
  · rfl

theorem Blk.repair_slotAgain (t : Task) : (b.slotAgain t).repair = b.repair := by
  unfold Blk.slotAgain
  split <;> rfl

theorem Blk.repair_dropEngineWork (eng : Nat) : (b.dropEngineWork eng).repair = b.repair := by
  have hdrop (x : Blk) (p : Prop) [Decidable p] (o : Option Outcome) : (if p then x.dropSlot Reg.CRU_SQ_OTHER o else x).repair = x.repair := by
    split
    · exact x.repair_dropSlot (by decide) o
    · rfl
  have hupd (x : Blk) (p : Prop) [Decidable p] (u n : Nat) (g : Frame → Frame) : (if p then x.updFrame u n g else x).repair = x.repair := by
    split <;> rfl
  unfold Blk.dropEngineWork
  dsimp only
  refine (foldl_kept Blk.repair (fun x (f : Frame) => foldl_kept Blk.repair (fun y c => ?_) f.clusters x) _ _).trans ?_
  · exact (hupd _ _ _ _ _).trans ((hdrop _ _ _).trans (hdrop _ _ _))
  · split
    · split
      · exact b.repair_stopTask _
      · exact (Blk.repair_afterSquash _ _).trans ((Blk.repair_slotAgain _ _).trans (b.repair_squashTask (by decide) _))
    · rfl

/-! ### Bundles and sessions end (12 R459; 13 R504) -/

theorem Blk.repair_abortBundle (d : Bundle) (code addr wonBy : Nat) : (b.abortBundle d code addr wonBy).repair = b.repair := by
  have hfault (x : Blk) : (x.abortFault code addr).repair = x.repair := by
    unfold Blk.abortFault
    split
    · exact x.repair_raiseAt _ _
    · exact x.repair_raise _
  unfold Blk.abortBundle
  dsimp only
  rw [hfault, Blk.repair_event, Blk.repair_bump _ _ _ _ (by decide)]
  exact b.repair_touch _

theorem Blk.repair_abortDomain (code dom : Nat) : (b.abortDomain code dom).repair = b.repair :=
  foldl_kept Blk.repair (f := fun s d => s.abortBundle d code 0 0) (fun s d => s.repair_abortBundle d code 0 0) _ b

theorem Blk.repair_abortEng (code dom : Nat) : (b.abortEng code dom).repair = b.repair := by
  have htag (x : Blk) : ((x.takeTag.2.bump Reg.BND_COUNTS 31 16 1).event 0x03 1 0x0000 |>.raise code).repair = x.repair := by
    rw [Blk.repair_raise, Blk.repair_event, Blk.repair_bump _ _ _ _ (by decide)]
    rfl
  unfold Blk.abortEng
  refine (foldl_kept Blk.repair (fun x e => ?_) _ _).trans rfl
  dsimp only
  split
  · exact (Blk.repair_raise _ _).trans (htag x)
  · exact (Blk.repair_raise _ _).trans (htag x)
  · exact htag x

theorem Blk.repair_closeSlot (n : Nat) : (b.closeSlot n).repair = b.repair := by
  unfold Blk.closeSlot
  extract_lets aborted bnd orphaned
  have haborted : aborted.repair = b.repair := by
    simp only [aborted]
    split
    · exact b.repair_abortBundle _ _ _ _
    · rfl
  have hset (x : Blk) (p : Prop) [Decidable p] (n : BndSt) : (if p then { x with bnd := n } else x).repair = x.repair := by
    split <;> rfl
  exact (hset aborted _ _).trans haborted

theorem Blk.repair_closePort (link : Bool) : (b.closePort link).repair = b.repair :=
  foldl_kept Blk.repair (f := fun s i => if (s.slot i).st != .free && (s.slot i).link = link then s.closeSlot i else s)
    (fun s i => by split <;> [exact s.repair_closeSlot i; rfl]) _ b

theorem Blk.repair_leaveUp : b.leaveUp.repair = b.repair := by
  cases hup : b.linkUp with
  | false => rw [Blk.leaveUp_of_down hup]
  | true =>
    obtain ⟨tly, more, hunsent, -, -⟩ := b.unsent_shape
    rw [Blk.leaveUp_of_up hup, Blk.repair_closePort, Blk.repair_raise, Blk.repair_bump _ _ _ _ (by decide), hunsent]
    rfl

/-! ### The photodiode loop and the lamps -/

theorem Blk.repair_disturb (ch n : Nat) : (b.disturb ch n).repair = b.repair :=
  (Blk.repair_count _ _ (counts_ne_unit _ (by decide))).trans (b.repair_setN _ (a := Reg.PDC_SUPPRESS ch) (counts_ne_unit _ (by decide)))

theorem Blk.repair_switchCh (ch : Nat) : (b.switchCh ch).repair = b.repair := Blk.repair_disturb _ _ _

theorem Blk.repair_dropMeas (ch : Nat) : (b.dropMeas ch).repair = b.repair := by
  have hback (x : Blk) (p : Prop) [Decidable p] (n : Nat) :
      (if p then (x.setF (Reg.PDC_CFG ch) 5 4 n).switchCh ch else x).repair = x.repair := by
    split
    · rw [Blk.repair_switchCh, Blk.repair_setF _ _ _ _ (counts_ne_unit _ (by decide))]
    · rfl
  unfold Blk.dropMeas
  split
  · rfl
  · exact hback _ _ _

theorem Blk.repair_judgeReading (row code : Nat) (k : LedReading) : (b.judgeReading row code k).repair = b.repair := by
  have hsink (x : Blk) (p : Prop) [Decidable p] (f : SinkSt → SinkSt) : (if p then x else x.updSink k.col f).repair = x.repair := by
    split <;> rfl
  have hpos (x : Blk) (f : LedPos → LedPos) : (x.updPos row k.col f).repair = x.repair := rfl
  unfold Blk.judgeReading
  dsimp only
  split
  · rw [Blk.repair_raise, hsink, hpos]
  · rw [hsink, hpos]

theorem Blk.repair_judged : b.judged.repair = b.repair := by
  unfold Blk.judged
  split
  · rfl
  · exact (foldl_kept Blk.repair (fun s (k : LedReading) => s.repair_judgeReading _ _ k) _ b)

theorem Blk.repair_endCol (c : Conduct) (e4 col : Nat) (d : ColDrive) : (b.endCol c e4 col d).repair = b.repair := by
  unfold Blk.endCol
  dsimp only
  split_ifs <;> rfl

theorem Blk.repair_endCond : b.endCond.repair = b.repair := by
  unfold Blk.endCond
  dsimp only
  split
  · exact b.repair_judged
  · exact (foldl_kept Blk.repair (fun s (p : ColDrive × Nat) => s.repair_endCol _ _ p.2 p.1) _ _).trans b.repair_judged

theorem Blk.repair_lightsOff : b.lightsOff.repair = b.repair := b.repair_endCond

/-! ### The restart (17 R637) -/

/-- What runs in the domain stops; then it is powered down and up again. -/
theorem Blk.restartFor_shape (d code : Nat) : ∃ x : Blk, x.repair = b.repair ∧ b.restartFor d code = x.restartDomain d := by
  have hrecorded : (b.recordFault d code).repair = b.repair := rfl
  refine ⟨_, ?_, rfl⟩
  split_ifs
  · exact (foldl_kept Blk.repair (fun s ch => s.repair_dropMeas ch) _ _).trans hrecorded
  · exact (Blk.repair_lightsOff _).trans hrecorded
  · exact (Blk.repair_leaveUp _).trans hrecorded
  · exact (Blk.repair_dropEngineWork _ _).trans hrecorded
  · exact hrecorded

theorem Blk.repair_restartDomain (d : Nat) : (b.restartDomain d).repair = b.repair := by
  unfold Blk.restartDomain
  rw [Blk.repair_updDom, Blk.repair_abortEng, Blk.repair_abortDomain]

theorem Blk.repair_restartFor (d code : Nat) : (b.restartFor d code).repair = b.repair := by
  obtain ⟨x, hx, hrestart⟩ := b.restartFor_shape d code
  rw [hrestart, Blk.repair_restartDomain, hx]

theorem Blk.repair_retireEngine (e : Nat) : (b.retireEngine e).repair = b.repair := by
  unfold Blk.retireEngine
  rw [Blk.repair_setN _ _ (by decide), Blk.repair_setN _ _ (by decide), Blk.repair_setN _ _ (by decide)]

end

end Sys2Proof.Machine
end

section
/-! Spares take over and domains restart (17 R631 to R637; 13 R509): O59. -/
namespace Sys2Proof.Machine

theorem exec_understoryOffer (dt kind u : Nat) (wear : Bool) (s : State) :
    exec (.understoryOffer dt kind u wear) s = .next (s.after (understoryOffer kind u wear (s.blk.elapse dt))) := rfl
theorem exec_spareInsert (dt : Nat) (s : State) : exec (.spareInsert dt) s = .next (s.after (spareInsert (s.blk.elapse dt))) := rfl
theorem exec_safePointTimeout (dt : Nat) (s : State) :
    exec (.safePointTimeout dt) s = .next (s.after (safePointTimeout (s.blk.elapse dt))) := rfl
theorem exec_ustEscalated (dt : Nat) (s : State) : exec (.ustEscalated dt) s = .next (s.after (ustEscalated (s.blk.elapse dt))) := rfl
theorem exec_domainWatchdog (dt d : Nat) (s : State) :
    exec (.domainWatchdog dt d) s = .next (s.after (domainWatchdog d (s.blk.elapse dt))) := rfl
theorem exec_domainRestartDone (dt : Nat) (s : State) :
    exec (.domainRestartDone dt) s = .next (s.after (domainRestartDone (s.blk.elapse dt))) := rfl

section
variable {b : Blk}

/-! ### Offers of key slots (17 R633, R635; 13 R509) -/

section Offers
variable {u : Nat} (hcoppice : b.coppice = false) (hu : u < 3) (hspared : b.ust.keySpared = [])
include hcoppice hu hspared

omit hcoppice in
theorem understoryOffer_key : understoryOffer 7 u true b = b.offer .key u true := by
  have hkind : SpareKind.ofCode 7 = some .key := by decide
  simp [understoryOffer, hkind, hu, hspared]

theorem understoryOffer_of_idle (hqueue : b.ust.queue = []) : understoryOffer 7 u true b =
    { b with ust := { b.ust with running := true, queue := [{ kind := .key, u := u, wear := true, since := b.now }] } } := by
  have hnew : ¬(b.coppice = true ∨ b.ust.queue.any (fun r => r.kind = .key && r.u = u) = true) := by simp [hcoppice, hqueue]
  rw [understoryOffer_key hu hspared, Blk.offer, if_neg hnew]
  simp only [hqueue, List.take_nil, List.drop_nil, List.nil_append]
  simp [Blk.startHead, placeOffer, Blk.noSpare, hspared, Blk.beginRecovery]

theorem understoryOffer_of_busy {h : Recovery} {l : List Recovery} (hqueue : b.ust.queue = h :: l)
    (hnew : (h :: l).any (fun x => x.kind == .key && x.u == u) = false) : understoryOffer 7 u true b =
      ({ b with ust := { b.ust with queue := h :: l ++ [{ kind := .key, u := u, wear := true, since := b.now }] } } : Blk).raise 0xA101 := by
  have hplace (r : Recovery) (hr : r.wear = true) (n : Nat) : (h :: l).take n ++ placeOffer r ((h :: l).drop n) = h :: l ++ [r] := by
    rw [placeOffer, if_pos hr, ← List.append_assoc, List.take_append_drop]
  have hfresh : ¬(b.coppice = true ∨ b.ust.queue.any (fun r => r.kind = .key && r.u = u) = true) := by
    rw [hqueue, hcoppice]
    simpa using hnew
  rw [understoryOffer_key hu hspared, Blk.offer, if_neg hfresh]
  simp only [hqueue]
  rw [hplace _ rfl]
  simp

end Offers

theorem understoryOffer_lost (h : b.ust.keySpared.contains 0 = false) :
    understoryOffer 7 0 false b = ({ b with ses := { b.ses with opKey := .empty } } : Blk).raise 0x9041 := by
  have hkind : SpareKind.ofCode 7 = some .key := by decide
  have hheld : (b.ust.keySpared.contains 0 || decide (3 ≤ 0)) = false := by rw [h]; rfl
  unfold understoryOffer Blk.keyLost
  rw [hkind]
  dsimp only
  rw [if_pos (by decide), if_neg (by rw [hheld]; decide)]
  rfl

/-- A fault recovery stands before every wear offer (17 R635). -/
theorem placeOffer_fault {x : Recovery} {m : List Recovery} (hx : x.wear = false) (hm : ∀ y ∈ m, y.wear = true) : placeOffer x m = x :: m := by
  have htake : m.takeWhile (fun y => !y.wear) = [] := by
    cases m with
    | nil => rfl
    | cons y m => simp [hm y List.mem_cons_self]
  have hdrop : m.dropWhile (fun y => !y.wear) = m := by
    cases m with
    | nil => rfl
    | cons y m => simp [hm y List.mem_cons_self]
  simp [placeOffer, hx, htake, hdrop]

/-! ### The end of a recovery (17 R636) -/

/-- The one recovery of the queue has ended, and is counted. -/
def Blk.Recovered (b c : Blk) : Prop := c.ust.queue = [] ∧ c.ust.running = false ∧
  c.regF Reg.UST_COUNTS 15 0 = min (b.regF Reg.UST_COUNTS 15 0 + 1) 65535

/-- A register of its own page is no header of any page. -/
theorem ne_hdr_of_high {a page k : Nat} (ha : 0x40 ≤ offOf a) (hk : k < 0x40) : a ≠ page * 0x400 + k := by
  rintro rfl
  rw [offOf_hdr page (hk.trans (by decide))] at ha
  omega

theorem Blk.regN_setF_off {a e : Nat} (hi lo v : Nat) (h : a ≠ e) : (b.setF e hi lo v).regN a = b.regN a :=
  congrArg BitVec.toNat (b.reg_setReg_other _ h)

theorem Blk.recoveryStats_shape (b : Blk) (since : Nat) : ∃ regs evt, b.recoveryStats since = { b with regs := regs, evt := evt } := by
  obtain ⟨r, e, h⟩ := Blk.event_shape (((b.setF Reg.UST_LAST 15 0 (sat 16 ((b.now - since) / 3125))).atLeast Reg.UST_LAST 31 16
    (sat 16 ((b.now - since) / 3125))).bump Reg.UST_COUNTS 15 0 1) 0x08 6 0x0000
  exact ⟨r, e, h⟩

/-- Every register but those of events, UST.LAST and UST.COUNTS. -/
theorem Blk.regN_recoveryStats (since : Nat) {a : Nat} (hlow : 0x40 ≤ offOf a) (hlost : a ≠ Reg.EVT_LOST) (hlast : a ≠ Reg.UST_LAST)
    (hcounts : a ≠ Reg.UST_COUNTS) : (b.recoveryStats since).regN a = b.regN a := by
  have hhdr (page k : Nat) (hk : k < 0x40) : a ≠ page * 0x400 + k := ne_hdr_of_high hlow hk
  refine congrArg BitVec.toNat ((Blk.reg_event _ _ _ _ (hhdr _ _ (by decide)) (hhdr _ _ (by decide)) hlost).trans ?_)
  exact (Blk.reg_setReg_other _ _ hcounts).trans ((Blk.reg_setReg_other _ _ hlast).trans (Blk.reg_setReg_other _ _ hlast))

theorem Blk.counts_recoveryStats (since : Nat) : (b.recoveryStats since).regF Reg.UST_COUNTS 15 0 =
    min (b.regF Reg.UST_COUNTS 15 0 + 1) 65535 := by
  have hlast (x : Blk) (hi lo v : Nat) : (x.setF Reg.UST_LAST hi lo v).regF Reg.UST_COUNTS 15 0 = x.regF Reg.UST_COUNTS 15 0 :=
    congrArg (fld · 15 0) (x.regN_setF_off hi lo v (by decide))
  have hevent (x : Blk) : (x.event 0x08 6 0).regF Reg.UST_COUNTS 15 0 = x.regF Reg.UST_COUNTS 15 0 := by
    obtain ⟨-, -, -, -, h⟩ := Blk.repair_parts (x.repair_event 0x08 6 0)
    exact congrArg (fld · 15 0) h
  unfold Blk.recoveryStats
  dsimp only
  rw [hevent, Blk.regF_bump_16 _ _ _ rfl (by decide)]
  exact congrArg (fun n => min (n + 1) 65535) ((hlast _ _ _ _).trans (hlast _ _ _ _))

theorem Blk.endRecovery_of_last {r : Recovery} (h : b.ust.queue = [r]) : b.endRecovery =
    { b.recoveryStats r.since with ust := { b.ust with queue := [], restarting := none, running := false } } := by
  have hust : (b.recoveryStats r.since).ust = b.ust := by
    obtain ⟨regs, evt, hstats⟩ := b.recoveryStats_shape r.since
    rw [hstats]
  unfold Blk.endRecovery
  split
  case h_1 hnil => rw [h] at hnil; exact absurd hnil (List.cons_ne_nil _ _)
  case h_2 r' t hcons =>
    obtain ⟨rfl, rfl⟩ := List.cons.inj (hcons.symm.trans h)
    simp only [Blk.startHead, hust]

theorem Blk.recovered_endRecovery {x : Blk} {r : Recovery} (hqueue : x.ust.queue = [r]) (hcounts : x.regN Reg.UST_COUNTS = b.regN Reg.UST_COUNTS) :
    b.Recovered x.endRecovery := by
  rw [Blk.endRecovery_of_last hqueue]
  refine ⟨rfl, rfl, ?_⟩
  exact (x.counts_recoveryStats r.since).trans (congrArg (fun n => min (fld n 15 0 + 1) 65535) hcounts)

theorem Blk.regN_endRecovery {r : Recovery} (h : b.ust.queue = [r]) {a : Nat} (hlow : 0x40 ≤ offOf a) (hlost : a ≠ Reg.EVT_LOST)
    (hlast : a ≠ Reg.UST_LAST) (hcounts : a ≠ Reg.UST_COUNTS) : b.endRecovery.regN a = b.regN a := by
  rw [Blk.endRecovery_of_last h]
  exact b.regN_recoveryStats r.since hlow hlost hlast hcounts

/-! ### Channels that lose their ADC (07 R290) -/

/-- What a loss of channels does not change. -/
theorem Blk.loseAdcs_kept {γ : Type} (p : Blk → γ) (hpd : ∀ (x : Blk) ch, p (x.updPd ch (fun c => { c with lost := true, lostOwed := false })) = p x)
    (hraise : ∀ x : Blk, p (x.raise 0x6013) = p x) (b : Blk) : p b.loseAdcs = p b :=
  foldl_kept p (fun x ch => by
    split
    · exact (hraise _).trans (hpd x ch)
    · rfl) _ b

theorem Blk.loseAdcs_ust : b.loseAdcs.ust = b.ust := by
  have hpd (x : Blk) (ch : Nat) (f : PdCh → PdCh) : (x.updPd ch f).ust = x.ust := rfl
  exact Blk.loseAdcs_kept Blk.ust (fun x ch => hpd x ch _) (fun x => x.raise_ust _) b

theorem Blk.regN_loseAdcs {a : Nat} (hlow : 0x40 ≤ offOf a) (hlost : a ≠ Reg.EVT_LOST) (hflog : a ≠ Reg.SYS_FLOG_COUNT) :
    b.loseAdcs.regN a = b.regN a := by
  have hpd (x : Blk) (ch : Nat) (f : PdCh → PdCh) : (x.updPd ch f).regN a = x.regN a := rfl
  exact Blk.loseAdcs_kept (fun x => x.regN a) (fun x ch => hpd x ch _) (fun x => congrArg BitVec.toNat (x.reg_raise _ hlow hlost hflog)) b

theorem Blk.recovered_loseAdcs {c : Blk} (h : b.Recovered c) : b.Recovered c.loseAdcs := by
  obtain ⟨hqueue, hrunning, hcounts⟩ := h
  unfold Blk.Recovered
  rw [Blk.loseAdcs_ust, Blk.regF, Blk.regN_loseAdcs (by decide) (by decide) (by decide)]
  exact ⟨hqueue, hrunning, hcounts⟩

theorem Blk.adc_loseAdcs (u : Nat) : (b.loseAdcs.pdch u).adc = (b.pdch u).adc ∧ (b.loseAdcs.pdch u).adcBad = (b.pdch u).adcBad := by
  have hpd (x : Blk) (ch : Nat) (f : PdCh → PdCh) (hf : ∀ c, ((f c).adc, (f c).adcBad) = (c.adc, c.adcBad)) :
      (((x.updPd ch f).pdch u).adc, ((x.updPd ch f).pdch u).adcBad) = ((x.pdch u).adc, (x.pdch u).adcBad) :=
    getD_upd_kept (fun c : PdCh => (c.adc, c.adcBad)) hf x.pd.chans ch u { adc := u }
  have hkept := Blk.loseAdcs_kept (fun x => ((x.pdch u).adc, (x.pdch u).adcBad)) (fun x ch => hpd x ch _ (fun _ => rfl))
    (fun x => by simp only [Blk.pdch, Blk.raise_pd]) b
  simpa only [Prod.mk.injEq] using hkept

end
end Sys2Proof.Machine
end

section
/-! Insertions and restarts (17 R631, R632, R637): O59. -/
namespace Sys2Proof.Machine

section
variable {b : Blk}

/-! ### What a tag of the engine's own leaves as it is (12 R462) -/

theorem Blk.repair_engTag (a : EngAct) : (b.engTag a).repair = b.repair := by
  unfold Blk.engTag
  rw [Blk.repair_event, Blk.repair_bump _ _ _ _ (by decide), Blk.repair_setN _ _ (counts_ne_hdr _ (by decide))]
  exact b.repair_touch _

theorem Blk.engTag_shape (b : Blk) (a : EngAct) : ∃ doms bnd regs evt, b.engTag a = { b with doms := doms, bnd := bnd, regs := regs, evt := evt } := by
  have htouch (l : List Nat) (x : Blk) : ∃ doms, x.touch l = { x with doms := doms } := by
    induction l generalizing x with
    | nil => exact ⟨x.doms, rfl⟩
    | cons d l ih =>
      obtain ⟨doms, h⟩ := ih (x.updDom d (fun y => { y with touched := x.now }))
      exact ⟨doms, h⟩
  obtain ⟨doms, hdoms⟩ := htouch [a.dom] b
  obtain ⟨regs, evt, hevent⟩ := Blk.event_shape (((b.touch [a.dom]).takeTag.2.setN (Reg.HDR_BUNDLE_TAG a.page) (b.touch [a.dom]).takeTag.1).bump
    Reg.BND_COUNTS 15 0 1) 0x03 0 0x0000
  refine ⟨doms, (b.touch [a.dom]).takeTag.2.bnd, regs, evt, hevent.trans ?_⟩
  rw [hdoms]
  rfl

theorem Blk.regN_engTag (act : EngAct) {a : Nat} (hlow : 0x40 ≤ offOf a) (hlost : a ≠ Reg.EVT_LOST) (hcounts : a ≠ Reg.BND_COUNTS) :
    (b.engTag act).regN a = b.regN a := by
  have hhdr (page k : Nat) (hk : k < 0x40) : a ≠ page * 0x400 + k := ne_hdr_of_high hlow hk
  have htouch : (b.touch [act.dom]).takeTag.2.reg a = b.reg a := rfl
  refine congrArg BitVec.toNat ((Blk.reg_event _ _ _ _ (hhdr _ _ (by decide)) (hhdr _ _ (by decide)) hlost).trans ?_)
  exact (Blk.reg_setReg_other _ _ hcounts).trans ((Blk.reg_setReg_other _ _ (hhdr _ _ (by decide))).trans htouch)

/-! ### The insertions (17 R631, R632) -/

/-- An engine is retired and its spare in service. -/
def Blk.engineSeated (b : Blk) (u k : Nat) : Blk := ((b.retireEngine u).setF Reg.DECC_SPARE k k 0).setF Reg.DECC_ACTIVE k k 1

theorem Blk.repair_engineSeated (b : Blk) (u k : Nat) : (b.engineSeated u k).repair = b.repair := by
  unfold Blk.engineSeated
  rw [Blk.repair_setF _ _ _ _ (by decide), Blk.repair_setF _ _ _ _ (by decide), Blk.repair_retireEngine]

theorem Blk.retireEngine_bits (b : Blk) {u : Nat} (hu : u < 18) :
    bitN ((b.retireEngine u).regN Reg.DECC_ACTIVE) u = false ∧ bitN ((b.retireEngine u).regN Reg.DECC_RETIRED) u = true := by
  have hretire : b.retireEngine u = ((b.setF Reg.DECC_ACTIVE u u 0).setF Reg.DECC_SPARE u u 0).setF Reg.DECC_RETIRED u u 1 := rfl
  rw [hretire, Blk.bitN_setF_same _ _ _ (by omega), Blk.regN_setF_off _ _ _ (by decide), Blk.regN_setF_off _ _ _ (by decide),
    Blk.bitN_setF_same _ _ _ (by omega)]
  exact ⟨rfl, rfl⟩

theorem Blk.engineSeated_bits (b : Blk) {u k : Nat} (hu : u < 18) (hk : k < 18) (hne : u ≠ k) : let c := b.engineSeated u k
    bitN (c.regN Reg.DECC_ACTIVE) k = true ∧ bitN (c.regN Reg.DECC_ACTIVE) u = false ∧
      bitN (c.regN Reg.DECC_RETIRED) u = true ∧ bitN (c.regN Reg.DECC_SPARE) k = false := by
  obtain ⟨hout, hretired⟩ := b.retireEngine_bits hu
  dsimp only [Blk.engineSeated]
  refine ⟨?_, ?_, ?_, ?_⟩
  · rw [Blk.bitN_setF_same _ _ _ (by omega)]
    rfl
  · rw [Blk.bitN_setF_other _ _ _ (by omega) hne, Blk.regN_setF_off _ _ _ (by decide)]
    exact hout
  · rw [Blk.regN_setF_off _ _ _ (by decide), Blk.regN_setF_off _ _ _ (by decide)]
    exact hretired
  · rw [Blk.regN_setF_off _ _ _ (by decide), Blk.bitN_setF_same _ _ _ (by omega)]
    rfl

/-- The ADC that serves a channel, and whether it fails. -/
def Blk.adcOf (b : Blk) (u : Nat) : Nat × Bool := ((b.pdch u).adc, (b.pdch u).adcBad)

theorem Blk.adcOf_updPd (b : Blk) (u ch : Nat) {f : PdCh → PdCh} (hf : ∀ c, ((f c).adc, (f c).adcBad) = (c.adc, c.adcBad)) :
    (b.updPd ch f).adcOf u = b.adcOf u :=
  getD_upd_kept (fun c : PdCh => (c.adc, c.adcBad)) hf b.pd.chans ch u { adc := u }

theorem Blk.adcOf_switchCh (b : Blk) (u ch : Nat) : (b.switchCh ch).adcOf u = b.adcOf u := by
  have hreg (x : Blk) (a n : Nat) : (x.setN a n).adcOf u = x.adcOf u := rfl
  have hcount (x : Blk) (a n : Nat) : (x.count a n).adcOf u = x.adcOf u := rfl
  unfold Blk.switchCh Blk.disturb Blk.endFreeze
  dsimp only
  rw [hcount, Blk.adcOf_updPd, hreg, Blk.adcOf_updPd]
  all_goals exact fun _ => rfl

section Insertions
variable {r : Recovery} (hrec : b.recovery = some r) (hqueue : b.ust.queue = [r])

include hrec in
theorem spareInsert_of_recovery : spareInsert b = (b.insert r false).loseAdcs := by
  unfold spareInsert
  rw [hrec]

include hrec in
theorem safePointTimeout_of_fault (hwear : r.wear = false) (hdue : r.since + 9375000 ≤ b.now) : safePointTimeout b = b.insert r true := by
  unfold safePointTimeout
  rw [hrec]
  exact if_neg (by simp [hwear, hdue])

include hqueue

/-- The spare engine is in service, the failed one retired, and the recovery over (R631). -/
theorem Blk.insertEngine_spec {u k : Nat} (hu : u < 18) (hk : k < 18) (hne : u ≠ k) : let c := b.insertEngine u k
    bitN (c.regN Reg.DECC_ACTIVE) k = true ∧ bitN (c.regN Reg.DECC_ACTIVE) u = false ∧
      bitN (c.regN Reg.DECC_RETIRED) u = true ∧ bitN (c.regN Reg.DECC_SPARE) k = false ∧ b.Recovered c := by
  intro c
  obtain ⟨seated, hseated⟩ : ∃ x, b.engineSeated u k = x := ⟨_, rfl⟩
  obtain ⟨hactive, hout, hretired, hspare⟩ := b.engineSeated_bits hu hk hne
  have hseated_repair := b.repair_engineSeated u k
  rw [hseated] at hactive hout hretired hspare hseated_repair
  obtain ⟨cleared, hcleared⟩ : ∃ x, ({ seated with ust := { seated.ust with suspect := seated.ust.suspect.filter (fun e => e != u) } } : Blk) = x :=
    ⟨_, rfl⟩
  obtain ⟨tagged, htagged⟩ : ∃ x, (cleared.engTag (.spare .engine u)).raiseAt (0x20 + u) 0x5021 = x := ⟨_, rfl⟩
  have hc : c = tagged.endRecovery := by
    rw [← htagged, ← hcleared, ← hseated]
    rfl
  have hcleared_repair : cleared.repair = seated.repair := hcleared ▸ rfl
  have htagged_repair : tagged.repair = b.repair := by
    rw [← htagged, Blk.repair_raiseAt, Blk.repair_engTag, hcleared_repair, hseated_repair]
  obtain ⟨-, -, htagged_queue, -, htagged_counts⟩ := Blk.repair_parts htagged_repair
  have hqueue' : tagged.ust.queue = [r] := htagged_queue.trans hqueue
  have hreg {a : Nat} (hlow : 0x40 ≤ offOf a) (hlost : a ≠ Reg.EVT_LOST) (hlast : a ≠ Reg.UST_LAST) (hcounts : a ≠ Reg.UST_COUNTS)
      (hbnd : a ≠ Reg.BND_COUNTS) (hflog : a ≠ Reg.SYS_FLOG_COUNT) : c.regN a = seated.regN a := by
    have hhdr (page k : Nat) (hk : k < 0x40) : a ≠ page * 0x400 + k := ne_hdr_of_high hlow hk
    have hraised : tagged.regN a = (cleared.engTag (.spare .engine u)).regN a := by
      rw [← htagged]
      exact congrArg BitVec.toNat (Blk.reg_raiseAt _ _ _ (hhdr _ _ (by decide)) (hhdr _ _ (by decide)) (hhdr _ _ (by decide)) hlost hflog)
    rw [hc, Blk.regN_endRecovery hqueue' hlow hlost hlast hcounts, hraised, Blk.regN_engTag _ hlow hlost hbnd, ← hcleared]
    rfl
  rw [hreg (by decide) (by decide) (by decide) (by decide) (by decide) (by decide),
    hreg (by decide) (by decide) (by decide) (by decide) (by decide) (by decide),
    hreg (by decide) (by decide) (by decide) (by decide) (by decide) (by decide)]
  refine ⟨hactive, hout, hretired, hspare, ?_⟩
  rw [hc]
  exact Blk.recovered_endRecovery hqueue' htagged_counts

theorem Blk.insertEngine_loseAdcs {u k : Nat} (hu : u < 18) (hk : k < 18) (hne : u ≠ k) : let c := (b.insertEngine u k).loseAdcs
    bitN (c.regN Reg.DECC_ACTIVE) k = true ∧ bitN (c.regN Reg.DECC_ACTIVE) u = false ∧
      bitN (c.regN Reg.DECC_RETIRED) u = true ∧ bitN (c.regN Reg.DECC_SPARE) k = false ∧ b.Recovered c := by
  obtain ⟨hactive, hout, hretired, hspare, hended⟩ := Blk.insertEngine_spec hqueue hu hk hne
  dsimp only
  rw [Blk.regN_loseAdcs (by decide) (by decide) (by decide), Blk.regN_loseAdcs (by decide) (by decide) (by decide),
    Blk.regN_loseAdcs (by decide) (by decide) (by decide)]
  exact ⟨hactive, hout, hretired, hspare, Blk.recovered_loseAdcs hended⟩

omit hqueue in
theorem Blk.insert_engine {k : Nat} {q : List Nat} (hkind : r.kind = .engine) (hspares : b.spareEngines = k :: q)
    (hready : b.domReady (0x10 + k) = true) : b.insert r false = b.insertEngine r.u k := by
  unfold Blk.insert
  rw [hkind, hspares]
  exact if_pos hready

omit hqueue in
theorem Blk.insert_adc (hkind : r.kind = .adc) (now : Bool) :
    b.insert r now = if now || b.adcSafe r.u then b.insertAdc r.u else b := by
  unfold Blk.insert
  rw [hkind]

/-- The spare key slot stands in for a slot (13 R509). -/
theorem Blk.insertKey_spec (hkind : r.kind = .key) (now : Bool) : let c := b.insert r now
    c.ust.keySpared = r.u :: b.ust.keySpared ∧ b.Recovered c := by
  obtain ⟨tagged, htagged⟩ : ∃ x, ((({ b with ust := { b.ust with keySpared := r.u :: b.ust.keySpared } } : Blk).engTag (.spare .key r.u)).raise
    0x9042) = x := ⟨_, rfl⟩
  have hinsert : b.insert r now = tagged.endRecovery := by
    unfold Blk.insert
    rw [hkind, ← htagged]
  have hust : tagged.ust = { b.ust with keySpared := r.u :: b.ust.keySpared } := by
    obtain ⟨doms, bnd, regs, evt, h⟩ := Blk.engTag_shape { b with ust := { b.ust with keySpared := r.u :: b.ust.keySpared } } (.spare .key r.u)
    rw [← htagged, Blk.raise_ust, h]
  have hrepair : tagged.repair = b.repair := by
    rw [← htagged, Blk.repair_raise, Blk.repair_engTag]
    rfl
  obtain ⟨-, -, hq, -, hcounts⟩ := Blk.repair_parts hrepair
  intro c
  rw [show c = tagged.endRecovery from hinsert]
  refine ⟨?_, Blk.recovered_endRecovery (hq.trans hqueue) hcounts⟩
  rw [Blk.endRecovery_of_last (hq.trans hqueue)]
  exact congrArg UstSt.keySpared hust

/-- The spare ADC serves the channel, and the recovery is over (07 R290). -/
theorem Blk.insertAdc_spec {u : Nat} (hu : u < 8) (hchans : b.pd.chans.length = 8) : let c := b.insertAdc u
    (c.pdch u).adc = 8 ∧ (c.pdch u).adcBad = false ∧ b.Recovered c := by
  intro c
  obtain ⟨connected, hconnected⟩ : ∃ x, b.updPd u (fun c => { c with adc := 8, adcBad := false }) = x := ⟨_, rfl⟩
  obtain ⟨switched, hswitched⟩ : ∃ x, (connected.restartCh u).switchCh u = x := ⟨_, rfl⟩
  obtain ⟨tagged, htagged⟩ : ∃ x, (switched.engTag (.spare .adc u)).raise 0x6012 = x := ⟨_, rfl⟩
  have hc : c = tagged.endRecovery := by
    rw [← htagged, ← hswitched, ← hconnected]
    rfl
  have hserved : switched.adcOf u = (8, false) := by
    have hrestarted : (connected.restartCh u).adcOf u = connected.adcOf u := Blk.adcOf_updPd _ _ _ (fun _ => rfl)
    rw [← hswitched, Blk.adcOf_switchCh, hrestarted, ← hconnected, Blk.adcOf, Blk.pdch, Blk.updPd, upd_getD_same _ _ _ _ (hchans ▸ hu)]
  have hpd : tagged.pd = switched.pd := by
    obtain ⟨doms, bnd, regs, evt, h⟩ := switched.engTag_shape (.spare .adc u)
    rw [← htagged, Blk.raise_pd, h]
  have hconnected_repair : connected.repair = b.repair := hconnected ▸ rfl
  have hrestart_repair : (connected.restartCh u).repair = connected.repair := rfl
  have hrepair : tagged.repair = b.repair := by
    rw [← htagged, Blk.repair_raise, Blk.repair_engTag, ← hswitched, Blk.repair_switchCh, hrestart_repair, hconnected_repair]
  obtain ⟨-, -, hq, -, hcounts⟩ := Blk.repair_parts hrepair
  have hpdc : c.pd = switched.pd := by
    obtain ⟨regs, evt, h⟩ := tagged.recoveryStats_shape r.since
    rw [hc, Blk.endRecovery_of_last (hq.trans hqueue), h]
    exact hpd
  obtain ⟨hadc, hbad⟩ := Prod.mk.inj hserved
  unfold Blk.pdch at hadc hbad ⊢
  rw [hpdc, hadc, hbad, hc]
  exact ⟨rfl, rfl, Blk.recovered_endRecovery (hq.trans hqueue) hcounts⟩

end Insertions

/-! ### Restarts (17 R637) -/

/-- A domain that restarts is clamped and not ready, from now on. -/
def Blk.Restarted (b c : Blk) (d : Nat) : Prop :=
  (c.dom d).ready = false ∧ (c.dom d).clamped = true ∧ (c.dom d).restartAt = some b.now

theorem Blk.restarted_restartFor {d : Nat} (code : Nat) (hd : d ∈ domCodes) (hdoms : b.doms.length = 26) :
    b.Restarted (b.restartFor d code) d := by
  obtain ⟨x, hx, hrestart⟩ := b.restartFor_shape d code
  obtain ⟨y, hy⟩ : ∃ y, (x.abortDomain 0xB028 d).abortEng 0xB028 d = y := ⟨_, rfl⟩
  have hrepair : y.repair = b.repair := by rw [← hy, Blk.repair_abortEng, Blk.repair_abortDomain, hx]
  obtain ⟨hnow, hlen, -⟩ := Blk.repair_parts hrepair
  rw [hrestart, Blk.restartDomain, hy]
  unfold Blk.Restarted
  rw [Blk.dom_updDom_same hd (hlen.trans hdoms), ← hnow]
  exact ⟨rfl, rfl, rfl⟩

/-- A second fault under a recovery restarts the domain of the unit (17 R637). -/
theorem ustEscalated_spec {r : Recovery} {d : Nat} (hrec : b.recovery = some r) (hqueue : b.ust.queue = [r]) (hdoms : b.doms.length = 26)
    (hunit : d = b.unitDom r.kind r.u) (hd : d ∈ domCodes) : let c := ustEscalated b
    b.Restarted c d ∧ c.ust.restarting = some d ∧ c.ust.queue = [{ r with escalated := true }] ∧
      c.regF Reg.UST_COUNTS 31 16 = min (b.regF Reg.UST_COUNTS 31 16 + 1) 65535 := by
  intro c
  obtain ⟨raised, hraised⟩ : ∃ x, b.raise 0xA102 = x := ⟨_, rfl⟩
  have hraised_repair : raised.repair = b.repair := hraised ▸ b.repair_raise _
  obtain ⟨hnow, hlen, -, -, hcounts⟩ := Blk.repair_parts hraised_repair
  have hust : raised.ust = b.ust := hraised ▸ b.raise_ust _
  obtain ⟨noted, hnoted⟩ : ∃ x, ({ raised.bump Reg.UST_COUNTS 31 16 1 with
    ust := { raised.ust with queue := [{ r with escalated := true }], restarting := some d } } : Blk) = x := ⟨_, rfl⟩
  have hc : c = noted.restartFor d 0xA102 := by
    rw [show c = ustEscalated b from rfl, ustEscalated, hrec]
    dsimp only
    rw [← hunit, hraised, ← hnoted, hust, show (raised.bump Reg.UST_COUNTS 31 16 1).ust = raised.ust from rfl, hust, hqueue]
  obtain ⟨-, -, hq, hrestarting, hreg⟩ := Blk.repair_parts (noted.repair_restartFor d 0xA102)
  have hnow' : noted.now = b.now := by rw [← hnoted]; exact hnow
  rw [hc]
  refine ⟨?_, hrestarting.trans (by rw [← hnoted]), hq.trans (by rw [← hnoted]), ?_⟩
  · unfold Blk.Restarted
    rw [← hnow']
    exact Blk.restarted_restartFor _ hd (by rw [← hnoted]; exact hlen.trans hdoms)
  · have hbump := raised.regF_bump_16 Reg.UST_COUNTS (hi := 31) (lo := 16) 1 rfl (by decide)
    have hb : raised.regF Reg.UST_COUNTS 31 16 = b.regF Reg.UST_COUNTS 31 16 := congrArg (fld · 31 16) hcounts
    rw [Blk.regF, hreg, ← hb, ← hbump, ← hnoted]
    rfl

theorem domainWatchdog_of_run {d : Nat} (hrun : b.inRun) (hd : d ∈ domCodes) (h0 : d ≠ 0) (h1 : d ≠ 1) (hpowered : (b.dom d).powered = true)
    (hrestart : (b.dom d).restartAt = none) : domainWatchdog d b = (b.raise 0xA112).restartFor d 0xA112 := by
  unfold domainWatchdog
  refine if_neg ?_
  simp [hrun.serving, hd, h0, h1, hpowered, hrestart]

theorem domainWatchdog_restarted {d : Nat} (hd : d ∈ domCodes) (hdoms : b.doms.length = 26) :
    b.Restarted ((b.raise 0xA112).restartFor d 0xA112) d := by
  obtain ⟨hnow, hlen, -⟩ := Blk.repair_parts (b.repair_raise 0xA112)
  unfold Blk.Restarted
  rw [← hnow]
  exact Blk.restarted_restartFor _ hd (hlen.trans hdoms)

/-- The end of a restart that no recovery waits for (17 R637). -/
theorem domainRestartDone_spec {d : Nat} (hrestart : b.restartingDom = some d) (hd : d ∈ domCodes) (hdoms : b.doms.length = 26)
    (hpowered : (b.dom d).powered = true) (hstalls : b.chn.stalls = []) (h3 : d ≠ 3) (h6 : d ≠ 6) (hnone : b.ust.restarting = none) :
    let c := domainRestartDone b
    (c.dom d).ready = true ∧ (c.dom d).clamped = false ∧ (c.dom d).restartAt = none ∧
      c.regF Reg.UST_COUNTS 15 0 = min (b.regF Reg.UST_COUNTS 15 0 + 1) 65535 := by
  intro c
  obtain ⟨since, hsince⟩ : ∃ n, (b.dom d).restartAt.getD b.now = n := ⟨_, rfl⟩
  have hdone : b.restartDone d = (b.readyDom d).recoveryStats since := by
    unfold Blk.restartDone Blk.domainUp
    rw [if_neg h3, hsince]
    dsimp only
    have hust : (b.readyDom d).ust.restarting ≠ some d := by
      rw [show (b.readyDom d).ust = b.ust from rfl, hnone]
      exact (Option.some_ne_none d).symm
    rw [if_neg (by simp [h6] : ¬(decide (d = 6) && !bitN ((b.readyDom d).regN Reg.LNK_CTL) 1) = true), if_neg hust]
  obtain ⟨regs, evt, hstats⟩ := (b.readyDom d).recoveryStats_shape since
  have hc : c = (b.readyDom d).recoveryStats since := by
    rw [show c = domainRestartDone b from rfl, domainRestartDone, hrestart]
    dsimp only
    rw [hdone]
    exact Blk.eachStall_nil (by rw [hstats]; exact hstalls) _
  have hdom : ((b.readyDom d).recoveryStats since).dom d = (b.readyDom d).dom d := by rw [hstats]; rfl
  rw [hc, Blk.counts_recoveryStats, hdom, Blk.readyDom, Blk.dom_updDom_same hd hdoms, if_pos hpowered]
  exact ⟨rfl, rfl, rfl, rfl⟩

end

/-- Settles O59: an offer of a key slot stands in the queue, a recovery's insertion leaves the unit replaced and counted, and a restart
clamps its domain until its end. -/
theorem sparesTakeOver : Obligations.SparesTakeOver := by
  unfold Obligations.SparesTakeOver
  intro dt u k d r h l q s b ended restarted
  refine ⟨fun hcoppice hu hspared => ⟨fun hqueue => ?_, fun hqueue hnew => ?_⟩, fun hspared => ?_, fun x m hx hm => placeOffer_fault hx hm,
    fun hrec hqueue => ⟨fun hkind hru hu hk hne hspares hready => ?_, fun hkind => ?_, fun hkind hru hu hchans => ⟨fun hsafe => ?_, fun hsafe => ?_,
      fun hwear hdue => ?_⟩, fun hdoms hunit hd => ?_⟩, fun hrun hd hdoms h0 h1 hpowered hrestart => ?_,
    fun hrestart hd hdoms hpowered hstalls h3 h6 hnone => ?_⟩
  · rw [exec_understoryOffer, understoryOffer_of_idle hcoppice hu hspared hqueue]
  · rw [exec_understoryOffer, understoryOffer_of_busy hcoppice hu hspared hqueue hnew]
  · refine leaves_of_exec ((exec_understoryOffer _ _ _ _ s).trans (by rw [understoryOffer_lost hspared])) ?_
    rw [Blk.settle_ses, Blk.raise_ses]
    exact ⟨rfl, rfl, rfl⟩
  · refine leaves_of_exec ((exec_spareInsert dt s).trans (by rw [spareInsert_of_recovery hrec, Blk.insert_engine hkind hspares hready, hru])) ?_
    have hspec := Blk.insertEngine_loseAdcs hqueue hu hk hne
    generalize (b.insertEngine u k).loseAdcs = c at hspec ⊢
    exact hspec
  · refine leaves_of_exec ((exec_spareInsert dt s).trans (by rw [spareInsert_of_recovery hrec])) ?_
    have hspec : (b.insert r false).loseAdcs.ust.keySpared = r.u :: b.ust.keySpared ∧ b.Recovered (b.insert r false).loseAdcs := by
      obtain ⟨hspared, hended⟩ := Blk.insertKey_spec hqueue hkind false
      rw [Blk.loseAdcs_ust]
      exact ⟨hspared, Blk.recovered_loseAdcs hended⟩
    generalize (b.insert r false).loseAdcs = c at hspec ⊢
    exact hspec
  · rw [exec_spareInsert, spareInsert_of_recovery hrec, Blk.insert_adc hkind, hru, if_neg (by simp [hsafe])]
  · refine leaves_of_exec ((exec_spareInsert dt s).trans
      (by rw [spareInsert_of_recovery hrec, Blk.insert_adc hkind, hru, if_pos (by simp [hsafe])])) ?_
    have hspec : let c := (b.insertAdc u).loseAdcs
        (c.pdch u).adc = 8 ∧ (c.pdch u).adcBad = false ∧ b.Recovered c := by
      obtain ⟨hadc, hbad, hended⟩ := Blk.insertAdc_spec hqueue hu hchans
      obtain ⟨hkept, hkept'⟩ := (b.insertAdc u).adc_loseAdcs u
      exact ⟨hkept.trans hadc, hkept'.trans hbad, Blk.recovered_loseAdcs hended⟩
    generalize (b.insertAdc u).loseAdcs = c at hspec ⊢
    exact hspec
  · refine leaves_of_exec ((exec_safePointTimeout dt s).trans
      (by rw [safePointTimeout_of_fault hrec hwear hdue, Blk.insert_adc hkind, hru, if_pos (by simp)])) ?_
    have hspec := Blk.insertAdc_spec hqueue hu hchans
    generalize b.insertAdc u = c at hspec ⊢
    exact hspec
  · refine leaves_of_exec (exec_ustEscalated dt s) ?_
    have hspec := ustEscalated_spec hrec hqueue hdoms hunit hd
    generalize ustEscalated (s.blk.elapse dt) = c at hspec ⊢
    exact hspec
  · have hexec := (exec_domainWatchdog dt d s).trans (by rw [domainWatchdog_of_run hrun hd h0 h1 hpowered hrestart])
    refine ⟨hexec, leaves_of_exec hexec ?_⟩
    have hspec := domainWatchdog_restarted (b := b) hd hdoms
    generalize (b.raise 0xA112).restartFor d 0xA112 = c at hspec ⊢
    exact hspec
  · refine leaves_of_exec (exec_domainRestartDone dt s) ?_
    have hspec := domainRestartDone_spec hrestart hd hdoms hpowered hstalls h3 h6 hnone
    generalize domainRestartDone (s.blk.elapse dt) = c at hspec ⊢
    exact hspec

end Sys2Proof.Machine
end

section
/-! What the phases of a start leave as it is (17 R625, R626). -/
namespace Sys2Proof.Machine

/-- Registers of the SYS and THM pages that the phases of a start before its outcome do not write. -/
def startKept (a : Nat) : Bool :=
  [Reg.SYS_FAILED_STARTS, Reg.SYS_STARTS, Reg.SYS_START_HIST_A 0, Reg.SYS_START_HIST_B 0, Reg.THM_TEMP, Reg.THM_POWER_CYCLES].contains a

theorem startKept_own {a : Nat} (h : startKept a = true) : 0x40 ≤ offOf a ∧ a ≠ Reg.EVT_LOST ∧ a ≠ Reg.SYS_FLOG_COUNT := by
  have hall : ∀ a ∈ [Reg.SYS_FAILED_STARTS, Reg.SYS_STARTS, Reg.SYS_START_HIST_A 0, Reg.SYS_START_HIST_B 0, Reg.THM_TEMP, Reg.THM_POWER_CYCLES],
      0x40 ≤ offOf a ∧ a ≠ Reg.EVT_LOST ∧ a ≠ Reg.SYS_FLOG_COUNT := by decide
  exact hall a (List.contains_iff_mem.mp h)

/-- The registers of a link lane. -/
theorem startKept_lane (n : Nat) : startKept (Reg.LNK_CTLE n) = false ∧ startKept (Reg.LNK_ERRORS n) = false := by
  simp only [startKept, Reg.LNK_CTLE, Reg.LNK_ERRORS, Reg.SYS_FAILED_STARTS, Reg.SYS_STARTS, Reg.SYS_START_HIST_A, Reg.SYS_START_HIST_B, Reg.THM_TEMP,
    Reg.THM_POWER_CYCLES, List.contains_eq_mem, List.mem_cons, List.not_mem_nil, or_false, decide_eq_false_iff_not]
  omega

/-- Time, power, the start's own state but the fault log, the jobs, and the registers above. -/
def Blk.atStart (b : Blk) : Nat × PwrSt × SysSt × List Job × Bool × (Nat → Word) :=
  (b.now, b.pwr, { b.sys with flog := [] }, b.jobs, b.time.ringRuns, fun a => if startKept a then b.reg a else 0)

theorem Blk.atStart_parts {b c : Blk} (h : c.atStart = b.atStart) : c.now = b.now ∧ c.pwr = b.pwr ∧ c.sys = { b.sys with flog := c.sys.flog } ∧
    c.jobs = b.jobs ∧ c.time.ringRuns = b.time.ringRuns ∧ ∀ a, startKept a = true → c.reg a = b.reg a := by
  simp only [Blk.atStart, Prod.mk.injEq] at h
  obtain ⟨hnow, hpwr, hsys, hjobs, hring, hregs⟩ := h
  refine ⟨hnow, hpwr, ?_, hjobs, hring, fun a ha => ?_⟩
  · exact (congrArg (fun s : SysSt => { s with flog := c.sys.flog }) hsys)
  · simpa only [ha, if_true] using congrFun hregs a

theorem Blk.atStart_regs {b c : Blk} (hsame : (c.now, c.pwr, { c.sys with flog := [] }, c.jobs, c.time.ringRuns) =
    (b.now, b.pwr, { b.sys with flog := [] }, b.jobs, b.time.ringRuns)) (h : ∀ a, startKept a = true → c.reg a = b.reg a) : c.atStart = b.atStart := by
  have hregs : (fun a => if startKept a then c.reg a else 0) = fun a => if startKept a then b.reg a else 0 := by
    funext a
    split
    · next ha => exact h a ha
    · rfl
  simp only [Prod.mk.injEq] at hsame
  obtain ⟨hnow, hpwr, hsys, hjobs, hring⟩ := hsame
  unfold Blk.atStart
  rw [hnow, hpwr, hsys, hjobs, hring, hregs]

section
variable (b : Blk)

theorem Blk.atStart_setReg {a : Nat} (v : Word) (h : startKept a = false) : (b.setReg a v).atStart = b.atStart := by
  refine Blk.atStart_regs rfl (fun e he => b.reg_setReg_other v ?_)
  rintro rfl
  rw [h] at he
  exact absurd he (by decide)

theorem Blk.atStart_setN {a : Nat} (n : Nat) (h : startKept a = false) : (b.setN a n).atStart = b.atStart := b.atStart_setReg _ h
theorem Blk.atStart_setF {a : Nat} (hi lo n : Nat) (h : startKept a = false) : (b.setF a hi lo n).atStart = b.atStart := b.atStart_setReg _ h
theorem Blk.atStart_bump {a : Nat} (hi lo n : Nat) (h : startKept a = false) : (b.bump a hi lo n).atStart = b.atStart := b.atStart_setReg _ h

theorem Blk.atStart_event (page bit code : Nat) : (b.event page bit code).atStart = b.atStart := by
  obtain ⟨r, e, h⟩ := b.event_shape page bit code
  refine Blk.atStart_regs (by rw [h]) (fun a ha => ?_)
  obtain ⟨hlow, hlost, -⟩ := startKept_own ha
  exact b.reg_event _ _ _ (ne_hdr_of_high hlow (by decide)) (ne_hdr_of_high hlow (by decide)) hlost

theorem Blk.atStart_raiseAt (page code : Nat) : (b.raiseAt page code).atStart = b.atStart := by
  obtain ⟨r, e, f, h⟩ := b.raiseAt_shape page code
  refine Blk.atStart_regs (by rw [h]) (fun a ha => ?_)
  obtain ⟨hlow, hlost, hflog⟩ := startKept_own ha
  exact b.reg_raiseAt _ _ (ne_hdr_of_high hlow (by decide)) (ne_hdr_of_high hlow (by decide)) (ne_hdr_of_high hlow (by decide)) hlost hflog

theorem Blk.atStart_raise (code : Nat) : (b.raise code).atStart = b.atStart := by
  obtain ⟨r, e, f, h⟩ := b.raise_shape code
  refine Blk.atStart_regs (by rw [h]) (fun a ha => ?_)
  obtain ⟨hlow, hlost, hflog⟩ := startKept_own ha
  exact b.reg_raise _ hlow hlost hflog

theorem Blk.atStart_touch (l : List Nat) : (b.touch l).atStart = b.atStart :=
  foldl_kept Blk.atStart (f := fun s d => s.updDom d (fun x => { x with touched := s.now })) (fun _ _ => rfl) l b

/-! ### Sessions close and the link leaves UP (13 R504; 14 R538) -/

theorem Blk.atStart_abortBundle (d : Bundle) (code addr wonBy : Nat) : (b.abortBundle d code addr wonBy).atStart = b.atStart := by
  have hfault (x : Blk) : (x.abortFault code addr).atStart = x.atStart := by
    unfold Blk.abortFault
    split
    · exact x.atStart_raiseAt _ _
    · exact x.atStart_raise _
  unfold Blk.abortBundle
  dsimp only
  rw [hfault, Blk.atStart_event, Blk.atStart_bump _ _ _ _ (by decide)]
  exact b.atStart_touch _

theorem Blk.atStart_closeSlot (n : Nat) : (b.closeSlot n).atStart = b.atStart := by
  unfold Blk.closeSlot
  extract_lets aborted bnd orphaned
  have haborted : aborted.atStart = b.atStart := by
    simp only [aborted]
    split
    · exact b.atStart_abortBundle _ _ _ _
    · rfl
  have hset (x : Blk) (p : Prop) [Decidable p] (n : BndSt) : (if p then { x with bnd := n } else x).atStart = x.atStart := by
    split <;> rfl
  exact (hset aborted _ _).trans haborted

theorem Blk.atStart_closePort (link : Bool) : (b.closePort link).atStart = b.atStart :=
  foldl_kept Blk.atStart (f := fun s i => if (s.slot i).st != .free && (s.slot i).link = link then s.closeSlot i else s)
    (fun s i => by split <;> [exact s.atStart_closeSlot i; rfl]) _ b

theorem Blk.atStart_leaveUp : b.leaveUp.atStart = b.atStart := by
  cases hup : b.linkUp with
  | false => rw [Blk.leaveUp_of_down hup]
  | true =>
    obtain ⟨tly, more, hunsent, -, -⟩ := b.unsent_shape
    rw [Blk.leaveUp_of_up hup, Blk.atStart_closePort, Blk.atStart_raise, Blk.atStart_bump _ _ _ _ (by decide), hunsent]
    rfl

/-! ### The link's phase (17 R626; 14 R535 to R539) -/

theorem Blk.atStart_startTraining (phase : Nat) : (b.startTraining phase).atStart = b.atStart := by
  have htrains : (b.leaveUp.clearLanes.bump Reg.LNK_TRAINS 15 0 1).atStart = b.leaveUp.clearLanes.atStart := Blk.atStart_bump _ _ _ _ (by decide)
  exact htrains.trans b.atStart_leaveUp

theorem Blk.atStart_ringSource (forward : Bool) : (b.ringSource forward).atStart = b.atStart := by
  unfold Blk.ringSource
  split
  · rfl
  · rw [Blk.atStart_event, Blk.atStart_bump _ _ _ _ (by decide)]
    rfl

theorem Blk.atStart_standalone : b.standalone.atStart = b.atStart := by
  have hended : (((b.leaveUp.clearLanes.ringSource false).raise 0x2023).touch [6]).atStart = b.atStart := by
    rw [Blk.atStart_touch, Blk.atStart_raise, Blk.atStart_ringSource]
    exact b.atStart_leaveUp
  exact hended

theorem Blk.atStart_phaseLanes (phase : Nat) (i : TrainInfo) : (b.phaseLanes phase i).atStart = b.atStart := by
  have hseen (x : Blk) (n : Nat) (p : Prop) [Decidable p] : (if p then x.bump (Reg.LNK_ERRORS n) 31 16 1 else x).atStart = x.atStart := by
    split
    · exact x.atStart_bump _ _ _ (startKept_lane n).2
    · rfl
  have heq (x : Blk) (n : Nat) : (x.eqLaneDone i n).atStart = x.atStart := by
    unfold Blk.eqLaneDone
    split
    · rfl
    · exact x.atStart_setF _ _ _ (startKept_lane n).1
  have hphase : (b.phaseSeen phase i).atStart = b.atStart := (foldl_kept Blk.atStart (fun x n => hseen x n _) (List.range 5) b)
  rw [Blk.phaseLanes_eq]
  split
  · exact (foldl_kept Blk.atStart heq _ _).trans hphase
  · exact hphase

theorem Blk.atStart_enterUp (limp : Bool) (rx tx : Nat) : (b.enterUp limp rx tx).atStart = b.atStart := by
  have hclear (x : Blk) (p : Prop) [Decidable p] (n : Nat) : (if p then x.setN Reg.UST_DEGRADED n else x).atStart = x.atStart := by
    split
    · exact x.atStart_setN _ (by decide)
    · rfl
  have hsend (x : Blk) : x.sendAlign.atStart = x.atStart := rfl
  unfold Blk.enterUp
  dsimp only
  rw [hsend, hclear, hclear]
  rfl

theorem Blk.atStart_linkPhase (coppice : Bool) (link furthest : Nat) (i : TrainInfo) : (b.linkPhase coppice link furthest i).atStart = b.atStart := by
  have hlnk (x : Blk) (lnk : LnkSt) : ({ x with lnk := lnk } : Blk).atStart = x.atStart := rfl
  have hraise (x : Blk) (p : Prop) [Decidable p] : (if p then x else x.raise 0x2022).atStart = x.atStart := by
    split
    · rfl
    · exact x.atStart_raise _
  have hlimp (x : Blk) (p : Prop) [Decidable p] : (if p then ((x.bump Reg.LNK_TRAINS 31 16 3).raise 0x2021).raise 0x2022 else x).atStart =
      x.atStart := by
    split
    · rw [Blk.atStart_raise, Blk.atStart_raise, Blk.atStart_bump _ _ _ _ (by decide)]
    · rfl
  unfold Blk.linkPhase
  dsimp only
  split
  · rw [hlnk, Blk.atStart_standalone, hraise, Blk.atStart_raise, Blk.atStart_bump _ _ _ _ (by decide), Blk.atStart_startTraining]
  · split
    · rw [Blk.atStart_enterUp, hlnk, Blk.atStart_phaseLanes, Blk.atStart_phaseLanes, Blk.atStart_phaseLanes, hlimp, Blk.atStart_startTraining]
    · exact b.atStart_startTraining 1

/-! ### Memory, engines and macros (17 R626; 15 R580) -/

theorem Blk.atStart_memTrained (m : MemTrain) : (b.memTrained m).atStart = b.atStart := by
  have hmem (x : Blk) (mem : MemSt) (p : Prop) [Decidable p] :
      (if p then ({ x with mem := mem } : Blk).raise 0x3043 else { x with mem := mem }).atStart = x.atStart := by
    split
    · exact Blk.atStart_raise _ _
    · rfl
  unfold Blk.memTrained
  dsimp only
  rw [hmem, Blk.atStart_setF _ _ _ _ (by decide), Blk.atStart_setF _ _ _ _ (by decide), Blk.atStart_setN _ _ (by decide),
    Blk.atStart_setN _ _ (by decide), Blk.atStart_setN _ _ (by decide), Blk.atStart_setN _ _ (by decide), Blk.atStart_setN _ _ (by decide),
    Blk.atStart_setN _ _ (by decide)]

theorem Blk.atStart_retireEngine (e : Nat) : (b.retireEngine e).atStart = b.atStart := by
  unfold Blk.retireEngine
  dsimp only
  rw [Blk.atStart_setN _ _ (by decide), Blk.atStart_setN _ _ (by decide), Blk.atStart_setN _ _ (by decide)]

theorem Blk.atStart_exhausted (k : SpareKind) (u : Nat) : (b.exhausted k u).atStart = b.atStart := by
  unfold Blk.exhausted
  rw [Blk.atStart_raise, Blk.atStart_setN _ _ (by decide)]

theorem Blk.atStart_enginesTested (pass : Nat) : (b.enginesTested pass).atStart = b.atStart := by
  unfold Blk.enginesTested
  dsimp only
  refine (foldl_kept Blk.atStart (fun x e => ?_) _ _).trans (foldl_kept Blk.atStart (fun x e => ?_) _ b)
  · split
    · rfl
    · split
      · rw [Blk.atStart_raiseAt, Blk.atStart_setN _ _ (by decide), Blk.atStart_setN _ _ (by decide)]
      · rw [Blk.atStart_exhausted, Blk.atStart_raise]
  · split
    · rfl
    · exact x.atStart_retireEngine e

theorem Blk.atStart_powerEngines (on : Nat) : (b.powerEngines on).atStart = b.atStart :=
  foldl_kept Blk.atStart (fun x e => by split <;> rfl) _ b

/-! ### Tally's part (09 R347, R359) -/

theorem Blk.atStart_flushed : b.flushed.atStart = b.atStart := by
  obtain ⟨tly, more, h, -⟩ := flushEpochs_store (b.tly.taken.length + 1) b
  unfold Blk.flushed
  rw [h]
  rfl

theorem Blk.atStart_startSegment : b.startSegment.atStart = b.atStart := by
  unfold Blk.startSegment
  split
  · rfl
  · exact Blk.atStart_flushed _

theorem Blk.atStart_newSegment : b.newSegment.atStart = b.atStart := by
  unfold Blk.newSegment
  dsimp only
  rw [Blk.atStart_raise, Blk.atStart_startSegment]
  rfl

theorem Blk.atStart_epoch (kind logEntry detail : Nat) : (b.epoch kind logEntry detail).atStart = b.atStart := by
  unfold Blk.epoch
  dsimp only
  rw [Blk.atStart_flushed]
  exact b.atStart_startSegment

theorem Blk.atStart_tallyRestart (storeOk : Bool) (detail : Nat) : (b.tallyRestart storeOk detail).atStart = b.atStart := by
  unfold Blk.tallyRestart
  split
  · rw [Blk.atStart_raise, Blk.atStart_epoch]
  · rw [Blk.atStart_newSegment, Blk.atStart_raise]

theorem Blk.atStart_recordTamper (isOpen : Bool) : (b.recordTamper isOpen).atStart = b.atStart := by
  have hlog (kind : Nat) : (b.logEvent kind).atStart = b.atStart := rfl
  unfold Blk.recordTamper Blk.logged
  rw [Blk.atStart_raise, Blk.atStart_epoch, hlog]

theorem Blk.atStart_tamperOwed : b.tamperOwed.atStart = b.atStart := by
  unfold Blk.tamperOwed
  split
  · rfl
  · exact foldl_kept Blk.atStart (fun x o => x.atStart_recordTamper o) _ _

theorem Blk.atStart_tallyStart (h : b.tly.supplied = true) (selftest : Bool) : (b.tallyStart selftest).atStart = b.atStart := by
  have hfailed (x : Blk) (tly : TlySt) (p : Prop) [Decidable p] :
      (if p then { x with tly := tly } else ({ x with tly := tly } : Blk).raise 0x8051).atStart = x.atStart := by
    split
    · rfl
    · exact Blk.atStart_raise _ _
  unfold Blk.tallyStart
  rw [if_pos h]
  dsimp only
  rw [hfailed, Blk.atStart_tamperOwed, Blk.atStart_startSegment]

end

end Sys2Proof.Machine
end

section
/-! Resets and the beginning of a start (17 R625; 18 R662, R664): O58. -/
namespace Sys2Proof.Machine

/-! ### What a reset keeps (18 R662) -/

theorem getReg_filter (q : Nat → Bool) (l : List (Nat × Word)) {a : Nat} (h : q a = true) :
    getReg (l.filter (fun p => q p.1)) a = getReg l a := by
  induction l with
  | nil => rfl
  | cons p l ih =>
    obtain ⟨k, v⟩ := p
    unfold getReg at ih ⊢
    by_cases hk : k = a
    · subst hk
      simp [h, lookupReg]
    · by_cases hq : q k = true
      · simpa [hq, lookupReg, hk] using ih
      · simpa [hq, lookupReg, hk] using ih

section
variable (b : Blk)

theorem Blk.reg_fresh (tally : Bool) {a : Nat} (h : keptReg a = true) : (b.fresh tally).reg a = b.reg a :=
  getReg_filter (fun a => keptReg a || (!tally && tallyPage (pageOf a))) b.regs (by simp [h])

theorem Blk.slot_fresh (tally : Bool) (n : Nat) : ((b.fresh tally).slot n).st = .free := by
  match n with
  | 0 => rfl
  | 1 => rfl
  | 2 => rfl
  | 3 => rfl
  | n + 4 => rfl

/-- All work has ended, and the keys are kept (18 R662). -/
def Blk.Ended (b c : Blk) : Prop := c.pwr.mode = .reset ∧ c.jobs = [] ∧ c.bundles = [] ∧ c.lit.cond = none ∧ c.linkUp = false ∧
  c.time.ringRuns = false ∧ c.regN Reg.CHN_ADDR = 0 ∧ c.ses.opKey = b.ses.opKey ∧ c.ses.svcKey = b.ses.svcKey ∧
  c.ses.sealKey = b.ses.sealKey ∧ (∀ n < 4, (c.slot n).st = .free)

theorem Blk.holdReset_spec : b.Ended b.holdReset ∧ b.holdReset.now = b.now ∧ b.holdReset.tly = b.tly := by
  obtain ⟨time, hstop, hring⟩ := b.stopRing_shape
  have haddr : b.holdReset.regN Reg.CHN_ADDR = 0 :=
    Blk.regN_setN (b := b.stopRing.fresh true) (v := 0) Reg.CHN_ADDR (by decide)
  have htime : b.holdReset.time = b.stopRing.time := rfl
  refine ⟨⟨rfl, rfl, rfl, rfl, rfl, ?_, haddr, ?_, ?_, ?_, fun n _ => b.stopRing.slot_fresh true n⟩, ?_, ?_⟩
  · rw [htime, hstop]
    exact hring
  · exact congrArg (·.ses.opKey) hstop
  · exact congrArg (·.ses.svcKey) hstop
  · exact congrArg (·.ses.sealKey) hstop
  · exact congrArg (·.now) hstop
  · exact congrArg (·.tly) hstop

/-- The pages that the supplies keep do not hold the chain address. -/
theorem Blk.powerLost_spec : b.Ended b.powerLost ∧ b.powerLost.tly = { b.tly with store := [] } := by
  obtain ⟨⟨hmode, hjobs, hbundles, hcond, hlink, hring, haddr, hop, hsvc, hseal, hslots⟩, -, htly⟩ := b.holdReset_spec
  have haddr' : b.powerLost.regN Reg.CHN_ADDR = b.holdReset.regN Reg.CHN_ADDR :=
    congrArg BitVec.toNat (getReg_filter (fun a => pageOf a != 0x1A && pageOf a != 0x1B && pageOf a != 0x33) b.holdReset.regs (by decide))
  refine ⟨⟨hmode, hjobs, hbundles, hcond, hlink, hring, haddr'.trans haddr, hop, hsvc, hseal, hslots⟩, ?_⟩
  exact congrArg (fun t : TlySt => { t with store := [] }) htly

theorem aonPowerOn_spec : b.Ended (aonPowerOn b) ∧ (aonPowerOn b).now = 0 ∧ (aonPowerOn b).time.valid = false ∧
    (aonPowerOn b).time.lost = true := by
  obtain ⟨⟨hmode, hjobs, hbundles, hcond, hlink, -, haddr, hop, hsvc, hseal, hslots⟩, -⟩ := b.powerLost_spec
  exact ⟨⟨hmode, hjobs, hbundles, hcond, hlink, rfl, haddr, hop, hsvc, hseal, hslots⟩, rfl, rfl, rfl⟩

/-! ### A start begins at S1 (17 R625) -/

theorem Blk.startRing_shape : ∃ now time pd regs evt flog,
    b.startRing = { b with now := now, time := time, pd := pd, regs := regs, evt := evt, sys := { b.sys with flog := flog } } ∧
      time.ringRuns = true ∧ ∀ a, startKept a = true → b.startRing.reg a = b.reg a := by
  have hraise (x : Blk) (code a : Nat) (h : startKept a = true) : (x.raise code).reg a = x.reg a := by
    obtain ⟨hlow, hlost, hflog⟩ := startKept_own h
    exact x.reg_raise _ hlow hlost hflog
  have hshape (x : Blk) (p : Bool) (h : x.time.ringRuns = true) (hx : x = { b with now := x.now, time := x.time, pd := x.pd }) :
      ∃ now time pd regs evt flog, (if p then x else x.raise 0x1043) =
        { b with now := now, time := time, pd := pd, regs := regs, evt := evt, sys := { b.sys with flog := flog } } ∧
        time.ringRuns = true ∧ ∀ a, startKept a = true → (if p then x else x.raise 0x1043).reg a = b.reg a := by
    have hregs (a : Nat) : x.reg a = b.reg a := by rw [hx]; rfl
    cases p with
    | true => exact ⟨x.now, x.time, x.pd, b.regs, b.evt, b.sys.flog, hx, h, fun a _ => hregs a⟩
    | false =>
      obtain ⟨regs, evt, flog, hr⟩ := x.raise_shape 0x1043
      refine ⟨x.now, x.time, x.pd, regs, evt, flog, ?_, h, fun a ha => (hraise x 0x1043 a ha).trans (hregs a)⟩
      exact hr.trans (by rw [hx])
  unfold Blk.startRing
  split
  · next hruns => exact ⟨b.now, b.time, b.pd, b.regs, b.evt, b.sys.flog, rfl, hruns, fun _ _ => rfl⟩
  · dsimp only
    split
    · obtain ⟨regs, evt, flog, hr⟩ := Blk.raise_shape ({ b with
        pd := { b.pd with epoch := 4 * ceilDiv b.now 4 }
        time := { b.time with ringRuns := true, lost := false, valid := false, windowFrom := b.now } } : Blk) 0x1041
      exact ⟨_, _, _, regs, evt, flog, hr, rfl, fun a ha => hraise _ _ a ha⟩
    · exact hshape _ _ rfl rfl

/-- A start has begun at S1, and is counted (17 R625, R628). -/
def Blk.Begun (b c : Blk) : Prop := c.sys.mode = .starting ∧ c.sys.phase = 1 ∧ c.pwr.mode = .run ∧ c.jobs = [] ∧ c.time.ringRuns = true ∧
  c.regN Reg.SYS_STARTS = (b.regN Reg.SYS_STARTS + 1) % 2 ^ 32 ∧ c.regN Reg.SYS_FAILED_STARTS = b.regN Reg.SYS_FAILED_STARTS

theorem Blk.beginStart_spec (tally : Bool) : let c := b.beginStart tally
    b.Begun c ∧ c.sys.coppiceStart = b.sys.coppiceStart ∧ c.sys.retryAt = none ∧ c.regN Reg.THM_POWER_CYCLES = b.regN Reg.THM_POWER_CYCLES ∧
      c.tly = b.tly := by
  intro c
  obtain ⟨now, time, pd, regs, evt, flog, hshape, hring, hreg⟩ := (b.fresh tally).startRing_shape
  obtain ⟨x, hx⟩ : ∃ x, (b.fresh tally).startRing = x := ⟨_, rfl⟩
  have hkept {a : Nat} (ha : startKept a = true) (hk : keptReg a = true) : x.regN a = b.regN a :=
    congrArg BitVec.toNat ((hx ▸ hreg a ha).trans (b.reg_fresh tally hk))
  have hc : c = (({ x with sys := { x.sys with phase := 1 } } : Blk).count Reg.SYS_STARTS 1).fromNow := by rw [← hx]; rfl
  have hcreg (a : Nat) : c.regN a = (x.count Reg.SYS_STARTS 1).regN a := by rw [hc]; rfl
  have hother {a : Nat} (hne : a ≠ Reg.SYS_STARTS) : (x.count Reg.SYS_STARTS 1).regN a = x.regN a :=
    congrArg BitVec.toNat (x.reg_setReg_other _ hne)
  have hstarts : (x.count Reg.SYS_STARTS 1).regN Reg.SYS_STARTS = (x.regN Reg.SYS_STARTS + 1) % 2 ^ 32 := by
    rw [Blk.count_eq, Blk.regN, Blk.reg_setReg_same, BitVec.toNat_ofNat]
  rw [hx] at hshape
  refine ⟨⟨?_, by rw [hc]; rfl, ?_, ?_, ?_, ?_, ?_⟩, ?_, ?_, ?_, ?_⟩
  · rw [hc, hshape]; rfl
  · rw [hc, hshape]; rfl
  · rw [hc, hshape]; rfl
  · rw [hc, hshape]; exact hring
  · rw [hcreg, hstarts, hkept (by decide) (by decide)]
  · rw [hcreg, hother (by decide), hkept (by decide) (by decide)]
  · rw [hc, hshape]; rfl
  · rw [hc, hshape]; rfl
  · rw [hcreg, hother (by decide), hkept (by decide) (by decide)]
  · rw [hc, hshape]; rfl

/-- What the phases leave as it is, Begun among it. -/
theorem Blk.Begun.of_atStart {b c d : Blk} (h : b.Begun c) (hd : d.atStart = c.atStart) : b.Begun d := by
  obtain ⟨hmode, hphase, hpwr, hjobs, hring, hstarts, hfailed⟩ := h
  obtain ⟨-, dpwr, dsys, djobs, dring, dregs⟩ := Blk.atStart_parts hd
  refine ⟨dsys ▸ hmode, dsys ▸ hphase, dpwr ▸ hpwr, djobs ▸ hjobs, dring ▸ hring, ?_, ?_⟩
  · exact (congrArg BitVec.toNat (dregs _ (by decide))).trans hstarts
  · exact (congrArg BitVec.toNat (dregs _ (by decide))).trans hfailed

/-- PORST_N is released (17 R625): a start from S1, and one power cycle more. -/
theorem porstRelease_spec (ok : Bool) (h : b.pwr.mode = .reset) : let c := porstRelease ok b
    b.Begun c ∧ c.regN Reg.THM_POWER_CYCLES = (b.regN Reg.THM_POWER_CYCLES + 1) % 2 ^ 32 := by
  intro c
  obtain ⟨begun, -, -, hcycles, -⟩ := b.beginStart_spec true
  obtain ⟨x, hx⟩ : ∃ x, b.beginStart true = x := ⟨_, rfl⟩
  rw [hx] at begun hcycles
  obtain ⟨y, hy⟩ : ∃ y, x.count Reg.THM_POWER_CYCLES 1 = y := ⟨_, rfl⟩
  have hc : c = if y.tly.supplied then y.tallyRestart ok 1 else y := by
    rw [← hy, ← hx]
    exact if_neg (by simp [h])
  have hkept : c.atStart = y.atStart := by
    rw [hc]
    split
    · exact y.atStart_tallyRestart ok 1
    · rfl
  have hcycled : y.regN Reg.THM_POWER_CYCLES = (x.regN Reg.THM_POWER_CYCLES + 1) % 2 ^ 32 := by
    rw [← hy, Blk.count_eq, Blk.regN, Blk.reg_setReg_same, BitVec.toNat_ofNat]
  have hother {a : Nat} (hne : a ≠ Reg.THM_POWER_CYCLES) : y.regN a = x.regN a := by
    rw [← hy]
    exact congrArg BitVec.toNat (x.reg_setReg_other _ hne)
  obtain ⟨hmode, hphase, hpwr, hjobs, hring, hstarts, hfailed⟩ := begun
  have hybegun : b.Begun y := by
    refine ⟨?_, ?_, ?_, ?_, ?_, (hother (by decide)).trans hstarts, (hother (by decide)).trans hfailed⟩ <;> rw [← hy] <;> assumption
  refine ⟨hybegun.of_atStart hkept, ?_⟩
  obtain ⟨-, -, -, -, -, hregs⟩ := Blk.atStart_parts hkept
  exact (congrArg BitVec.toNat (hregs _ (by decide))).trans (hcycled.trans (by rw [hcycles]))

end
end Sys2Proof.Machine
end

section
/-! The phases of a start, failed starts and Coppice (17 R625 to R630, R645): O58. -/
namespace Sys2Proof.Machine

theorem exec_start (dt : Nat) (o : StartOutcome) (s : State) : exec (.start dt o) s = .next (s.after (start o (s.blk.elapse dt))) := rfl
theorem exec_startRetryDelay (dt : Nat) (s : State) : exec (.startRetryDelay dt) s = .next (s.after (startRetryDelay (s.blk.elapse dt))) := rfl
theorem exec_porstAssert (dt : Nat) (s : State) : exec (.porstAssert dt) s = .next (s.after (porstAssert (s.blk.elapse dt))) := rfl
theorem exec_porstRelease (dt : Nat) (ok : Bool) (s : State) :
    exec (.porstRelease dt ok) s = .next (s.after (porstRelease ok (s.blk.elapse dt))) := rfl
theorem exec_supplyOutOfRange (dt rail : Nat) (s : State) :
    exec (.supplyOutOfRange dt rail) s = .next (s.after (supplyOutOfRange rail (s.blk.elapse dt))) := rfl
theorem exec_aonPowerOn (dt : Nat) (s : State) : exec (.aonPowerOn dt) s = .next (s.after (aonPowerOn (s.blk.elapse dt))) := rfl
theorem exec_clearCount (dt : Nat) (who : Who) (s : State) :
    exec (.clearCount dt who) s = .next (s.after ((s.blk.elapse dt).write1 who Reg.SYS_START_CTL 1)) := rfl
theorem exec_restart (dt : Nat) (who : Who) (s : State) :
    exec (.restart dt who) s = .next (s.after ((s.blk.elapse dt).write1 who Reg.SYS_START_CTL 2)) := rfl

section
variable {b : Blk}

/-! ### START_CTL (17 R645) -/

/-- A permitted write to START_CTL is answered with what it set going. -/
theorem Blk.write1_startCtl (hserving : b.serving = true) {who : Who} {v : Word} (hcheck : b.writeCheck who Reg.SYS_START_CTL = 0)
    (hready : b.domReady 7 = true) (hvalue : valueOk Reg.SYS_START_CTL v.toNat = true) {code : Nat} {g : Blk}
    (hcmd : (b.reached Reg.SYS_START_CTL).startCtl v.toNat = (code, g)) : b.write1 who Reg.SYS_START_CTL v = g.answer code 0 := by
  have hmark : (b.reached Reg.SYS_START_CTL).markChanged Reg.SYS_START_CTL = b.reached Reg.SYS_START_CTL := by
    rw [Blk.markChanged, show directSetting Reg.SYS_START_CTL = false from rfl]
    rfl
  have hnow : (b.reached Reg.SYS_START_CTL).writeNow who Reg.SYS_START_CTL v.toNat = (b.reached Reg.SYS_START_CTL).startCtl v.toNat := rfl
  have hreaches : b.reaches true Reg.SYS_START_CTL = true := by simp [Blk.reaches, hserving]
  simp [Blk.write1, hreaches, Blk.writeReg_of_ready hcheck hready ⟨by decide, by decide, by decide⟩ hvalue, hmark, hnow, hcmd]

theorem Blk.startCtl_clear : b.startCtl 1 = (0, b.clearCount) := rfl

theorem Blk.startCtl_restart : b.startCtl 2 = b.restart := rfl

theorem Blk.restart_of_idle (h : b.jobs = []) : b.restart = (0, ({ b with sys := { b.sys with coppiceStart := false } } : Blk).beginStart false) := by
  rw [Blk.restart, Blk.jobLive, h]
  rfl

theorem Blk.restart_of_live (h : b.jobs ≠ []) : b.restart = (0xA085, b.raise 0xA085) := by
  have hlive : b.jobLive = true := by simpa [Blk.jobLive] using h
  rw [Blk.restart, if_pos hlive]

/-! ### The history (17 R628) -/

/-- An entry of the history takes the place of the next older one. -/
def Blk.histStep (b : Blk) (n : Nat) : Blk :=
  (b.setN (Reg.SYS_START_HIST_A n) (b.regN (Reg.SYS_START_HIST_A (n - 1)))).setN (Reg.SYS_START_HIST_B n) (b.regN (Reg.SYS_START_HIST_B (n - 1)))

/-- Only registers differ, and of them only the history's older entries. -/
def Blk.HistOnly (b c : Blk) : Prop :=
  (∃ regs, c = { b with regs := regs }) ∧ ∀ a, a < Reg.SYS_START_HIST_A 1 ∨ Reg.SYS_START_HIST_B 3 < a → c.regN a = b.regN a

theorem Blk.HistOnly.trans {b c d : Blk} (h : b.HistOnly c) (k : c.HistOnly d) : b.HistOnly d := by
  obtain ⟨⟨regs, hshape⟩, hreg⟩ := h
  obtain ⟨⟨regs', kshape⟩, kreg⟩ := k
  exact ⟨⟨regs', by rw [kshape, hshape]⟩, fun a ha => (kreg a ha).trans (hreg a ha)⟩

theorem Blk.histOnly_step (b : Blk) {n : Nat} (h1 : 1 ≤ n) (h3 : n ≤ 3) : b.HistOnly (b.histStep n) := by
  have hset (x : Blk) (a e n : Nat) (he : a ≠ e) : (x.setN e n).regN a = x.regN a := congrArg BitVec.toNat (x.reg_setReg_other _ he)
  refine ⟨⟨_, rfl⟩, fun a ha => ?_⟩
  simp only [Reg.SYS_START_HIST_A, Reg.SYS_START_HIST_B] at ha
  unfold Blk.histStep
  rw [hset _ _ _ _ (by simp only [Reg.SYS_START_HIST_B]; omega), hset _ _ _ _ (by simp only [Reg.SYS_START_HIST_A]; omega)]

/-- The history with its entries one place older. -/
def Blk.histShifted (b : Blk) : Blk := ((b.histStep 3).histStep 2).histStep 1

theorem Blk.histOnly_shifted (b : Blk) : b.HistOnly b.histShifted :=
  ((b.histOnly_step (n := 3) (by decide) (by decide)).trans (Blk.histOnly_step _ (n := 2) (by decide) (by decide))).trans
    (Blk.histOnly_step _ (n := 1) (by decide) (by decide))

/-- The first word of an entry (17 R628). -/
def startWord (phase attempts : Nat) (ready coppice : Bool) (code : Nat) : Nat :=
  phase + 8 * b2n ready + 16 * b2n coppice + 256 * (attempts % 4) + 65536 * code

/-- The engine with a new entry in its history. -/
def Blk.histEntered (b : Blk) (w phase : Nat) : Blk :=
  { (b.setN (Reg.SYS_START_HIST_A 0) w).setN (Reg.SYS_START_HIST_B 0) (b.regN Reg.SYS_STARTS) with sys := { b.sys with phase := phase } }

theorem Blk.noteStart_eq (b : Blk) (phase attempts : Nat) (ready coppice : Bool) (code : Nat) :
    b.noteStart phase attempts ready coppice code = b.histShifted.histEntered (startWord phase attempts ready coppice code) phase := rfl

theorem Blk.noteStart_spec (b : Blk) (phase attempts : Nat) (ready coppice : Bool) (code : Nat) (hword : startWord phase attempts ready coppice code < 2 ^ 32) :
    let c := b.noteStart phase attempts ready coppice code
    (∃ regs, c = { b with regs := regs, sys := { b.sys with phase := phase } }) ∧
      c.regN (Reg.SYS_START_HIST_A 0) = startWord phase attempts ready coppice code ∧ c.regN (Reg.SYS_START_HIST_B 0) = b.regN Reg.SYS_STARTS ∧
      ∀ a, a < Reg.SYS_START_HIST_A 0 ∨ Reg.SYS_START_HIST_B 3 < a → c.regN a = b.regN a := by
  intro c
  have hc : c = _ := b.noteStart_eq phase attempts ready coppice code
  obtain ⟨⟨regs, hshape⟩, hreg⟩ := b.histOnly_shifted
  generalize startWord phase attempts ready coppice code = w at hc hword ⊢
  generalize b.histShifted = x at hc hshape hreg
  have hcreg (a : Nat) : c.regN a = ((x.setN (Reg.SYS_START_HIST_A 0) w).setN (Reg.SYS_START_HIST_B 0) (x.regN Reg.SYS_STARTS)).regN a := by
    rw [hc]
    rfl
  have hset (y : Blk) {a e : Nat} (n : Nat) (he : a ≠ e) : (y.setN e n).regN a = y.regN a := congrArg BitVec.toNat (y.reg_setReg_other _ he)
  refine ⟨?_, ?_, ?_, fun a ha => ?_⟩
  · exact ⟨((x.setN (Reg.SYS_START_HIST_A 0) w).setN (Reg.SYS_START_HIST_B 0) (x.regN Reg.SYS_STARTS)).regs, by rw [hc, hshape]; rfl⟩
  · rw [hcreg, hset _ _ (by decide), Blk.regN_setN _ hword]
  · rw [hcreg, Blk.regN_setN _ (x.regN_lt _), hreg _ (by decide)]
  · simp only [Reg.SYS_START_HIST_A, Reg.SYS_START_HIST_B] at ha
    rw [hcreg, hset _ _ (by simp only [Reg.SYS_START_HIST_B]; omega), hset _ _ (by simp only [Reg.SYS_START_HIST_A]; omega), hreg]
    simp only [Reg.SYS_START_HIST_A, Reg.SYS_START_HIST_B]
    omega

/-! ### Failed starts (17 R627, R629) -/

/-- A failed start's faults, its count, and its entry in the history. -/
def Blk.startFailed (b : Blk) (phase attempts : Nat) (coppice : Bool) (code : Nat) : Blk :=
  (((b.raise code).raise 0xA071).bump Reg.SYS_FAILED_STARTS 7 0 1).noteStart phase attempts false coppice code

theorem Blk.failStart_eq (b : Blk) (phase attempts : Nat) (coppice halts : Bool) (code : Nat) :
    b.failStart phase attempts coppice halts code =
      if halts then ({ b.startFailed phase attempts coppice code with
        sys := { (b.startFailed phase attempts coppice code).sys with mode := .halted } } : Blk).raise 0xA091
      else if (b.startFailed phase attempts coppice code).regF Reg.SYS_FAILED_STARTS 7 0 < 3 then
        { b.startFailed phase attempts coppice code with
          sys := { (b.startFailed phase attempts coppice code).sys with retryAt := some (b.startFailed phase attempts coppice code).now } }
      else ({ b.startFailed phase attempts coppice code with
        sys := { (b.startFailed phase attempts coppice code).sys with coppiceStart := true } } : Blk).beginStart false := rfl

theorem Blk.startFailed_spec (b : Blk) (phase attempts : Nat) (coppice : Bool) (code : Nat)
    (hword : startWord phase attempts false coppice code < 2 ^ 32) : let c := b.startFailed phase attempts coppice code
    c.now = b.now ∧ c.sys.mode = b.sys.mode ∧ c.regF Reg.SYS_FAILED_STARTS 7 0 = min (b.regF Reg.SYS_FAILED_STARTS 7 0 + 1) 255 ∧
      c.regN (Reg.SYS_START_HIST_A 0) = startWord phase attempts false coppice code ∧
      c.regN (Reg.SYS_START_HIST_B 0) = b.regN Reg.SYS_STARTS := by
  intro c
  obtain ⟨raised, hraised⟩ : ∃ x, (b.raise code).raise 0xA071 = x := ⟨_, rfl⟩
  have hkept : raised.atStart = b.atStart := by rw [← hraised, Blk.atStart_raise, Blk.atStart_raise]
  obtain ⟨hnow, -, hsys, -, -, hregs⟩ := Blk.atStart_parts hkept
  obtain ⟨counted, hcounted⟩ : ∃ x, raised.bump Reg.SYS_FAILED_STARTS 7 0 1 = x := ⟨_, rfl⟩
  have hc : c = counted.noteStart phase attempts false coppice code := by rw [← hcounted, ← hraised]; rfl
  obtain ⟨⟨regs, hshape⟩, hist, histB, hother⟩ := counted.noteStart_spec phase attempts false coppice code hword
  rw [← hc] at hshape hist histB hother
  have hmode : raised.sys.mode = b.sys.mode := by rw [hsys]
  refine ⟨?_, ?_, ?_, hist, ?_⟩
  · rw [hshape, ← hcounted]
    exact hnow
  · rw [hshape, ← hcounted]
    exact hmode
  · have hfailed : raised.regF Reg.SYS_FAILED_STARTS 7 0 = b.regF Reg.SYS_FAILED_STARTS 7 0 :=
      congrArg (fun w : Word => fld w.toNat 7 0) (hregs _ (by decide))
    rw [Blk.regF, hother _ (by decide), ← hcounted, ← hfailed]
    refine (Blk.regF_setF_same _ _ _ (by decide) (by decide)).trans ?_
    simp only [sat]
    omega
  · have hstarts : counted.regN Reg.SYS_STARTS = raised.regN Reg.SYS_STARTS := by
      rw [← hcounted]
      exact congrArg BitVec.toNat (raised.reg_setReg_other _ (by decide))
    rw [histB, hstarts]
    exact congrArg BitVec.toNat (hregs _ (by decide))

/-- The first and the second failed start are followed by another after 100 ms (17 R627). -/
theorem Blk.failStart_retry (b : Blk) (phase attempts : Nat) (code : Nat) (hword : startWord phase attempts false false code < 2 ^ 32)
    (hcount : b.regF Reg.SYS_FAILED_STARTS 7 0 < 2) : let c := b.failStart phase attempts false false code
    c.sys.mode = b.sys.mode ∧ c.sys.retryAt = some b.now ∧ c.regF Reg.SYS_FAILED_STARTS 7 0 = b.regF Reg.SYS_FAILED_STARTS 7 0 + 1 ∧
      c.regN (Reg.SYS_START_HIST_A 0) = startWord phase attempts false false code ∧ c.regN (Reg.SYS_START_HIST_B 0) = b.regN Reg.SYS_STARTS := by
  intro c
  obtain ⟨hnow, hmode, hfailed, hist, histB⟩ := b.startFailed_spec phase attempts false code hword
  have hc : c = _ := b.failStart_eq phase attempts false false code
  rw [if_neg (by decide), if_pos (by omega)] at hc
  generalize b.startFailed phase attempts false code = x at hc hnow hmode hfailed hist histB
  rw [hc]
  refine ⟨hmode, congrArg some hnow, ?_, hist, histB⟩
  exact hfailed.trans (by omega)

/-- The third failed start is followed by a Coppice start (17 R629). -/
theorem Blk.failStart_coppice (b : Blk) (phase attempts : Nat) (code : Nat) (hword : startWord phase attempts false false code < 2 ^ 32)
    (hcount : b.regF Reg.SYS_FAILED_STARTS 7 0 = 2) : let c := b.failStart phase attempts false false code
    c.sys.mode = .starting ∧ c.sys.phase = 1 ∧ c.sys.coppiceStart = true ∧ c.sys.retryAt = none ∧
      c.regF Reg.SYS_FAILED_STARTS 7 0 = 3 := by
  intro c
  obtain ⟨-, -, hfailed, -, -⟩ := b.startFailed_spec phase attempts false code hword
  have hc : c = _ := b.failStart_eq phase attempts false false code
  rw [if_neg (by decide), if_neg (by omega)] at hc
  generalize b.startFailed phase attempts false code = x at hc hfailed
  obtain ⟨⟨hmode, hphase, -, -, -, -, hcount'⟩, hcoppice, hretry, -, -⟩ :=
    ({ x with sys := { x.sys with coppiceStart := true } } : Blk).beginStart_spec false
  rw [← hc] at hmode hphase hcount' hcoppice hretry
  refine ⟨hmode, hphase, hcoppice, hretry, ?_⟩
  rw [Blk.regF, hcount']
  exact hfailed.trans (by omega)

/-- A Coppice start that no engine passes halts (17 R629). -/
theorem Blk.failStart_halt (b : Blk) (phase attempts : Nat) (coppice : Bool) (code : Nat) :
    let c := b.failStart phase attempts coppice true code
    c.sys.mode = .halted ∧ c.regF (Reg.HDR_FAULT 0x01) 15 0 = 0xA091 := by
  intro c
  have hc : c = _ := b.failStart_eq phase attempts coppice true code
  rw [if_pos rfl] at hc
  obtain ⟨y, hy⟩ : ∃ y : Blk, ({ b.startFailed phase attempts coppice code with
    sys := { (b.startFailed phase attempts coppice code).sys with mode := .halted } } : Blk) = y := ⟨_, rfl⟩
  have hmode : y.sys.mode = .halted := by rw [← hy]
  rw [hy] at hc
  obtain ⟨-, -, hsys, -⟩ := Blk.atStart_parts (y.atStart_raise 0xA091)
  have hinfo : codeInfo 0xA091 = some ⟨0x01, true, none⟩ := rfl
  have hmode' : (y.raise 0xA091).sys.mode = y.sys.mode := by rw [hsys]
  rw [hc]
  have hfault := y.fault_raise hinfo rfl (by decide) (by decide)
  exact ⟨hmode'.trans hmode, hfault⟩

end
end Sys2Proof.Machine
end

section
/-! Starts that end ready, fail, or end in Coppice (17 R625 to R630): O58. -/
namespace Sys2Proof.Machine

section
variable {b : Blk}

/-! ### S7 and Coppice -/

theorem Blk.powerEngines_shape (b : Blk) (on : Nat) : ∃ doms, b.powerEngines on = { b with doms := doms } := by
  have hshape (l : List Nat) (x : Blk) : ∃ doms, l.foldl (fun s e =>
      if bitN on e then (s.wakeDom (0x10 + e)).readyDom (0x10 + e) else s.gateDom (0x10 + e)) x = { x with doms := doms } := by
    induction l generalizing x with
    | nil => exact ⟨x.doms, rfl⟩
    | cons e l ih =>
      obtain ⟨doms, h⟩ := ih (if bitN on e then (x.wakeDom (0x10 + e)).readyDom (0x10 + e) else x.gateDom (0x10 + e))
      refine ⟨doms, h.trans ?_⟩
      split <;> rfl
  exact hshape _ b

/-- A start in full has ended ready, with the failed-start count at 0 (17 R625, R627). -/
theorem Blk.startReady_spec (hpwr : b.pwr.mode = .run) : let c := b.startReady
    c.inRun ∧ c.sys.phase = 7 ∧ c.regN Reg.SYS_FAILED_STARTS = 0 ∧ c.regN (Reg.SYS_START_HIST_A 0) = 271 ∧
      c.regN (Reg.SYS_START_HIST_B 0) = b.regN Reg.SYS_STARTS ∧ c.regN Reg.THM_TEMP = b.regN Reg.THM_TEMP := by
  intro c
  obtain ⟨kept, hkept⟩ : ∃ x, ({ b with regs := b.regs.filter (fun p => pageOf p.1 != 0x1A && pageOf p.1 != 0x1B && pageOf p.1 != 0x33) } : Blk) = x :=
    ⟨_, rfl⟩
  have hkeptreg {a : Nat} (ha : (pageOf a != 0x1A && pageOf a != 0x1B && pageOf a != 0x33) = true) : kept.regN a = b.regN a := by
    rw [← hkept]
    exact congrArg BitVec.toNat (getReg_filter (fun a => pageOf a != 0x1A && pageOf a != 0x1B && pageOf a != 0x33) b.regs ha)
  obtain ⟨cleared, hcleared⟩ : ∃ x, kept.setN Reg.SYS_FAILED_STARTS 0 = x := ⟨_, rfl⟩
  have hclearedreg {a : Nat} (ha : a ≠ Reg.SYS_FAILED_STARTS) : cleared.regN a = kept.regN a := by
    rw [← hcleared]
    exact congrArg BitVec.toNat (kept.reg_setReg_other _ ha)
  have hzero : cleared.regN Reg.SYS_FAILED_STARTS = 0 := by
    rw [← hcleared]
    exact Blk.regN_setN _ (by decide)
  obtain ⟨noted, hnoted⟩ : ∃ x, cleared.noteStart 7 1 true false 0 = x := ⟨_, rfl⟩
  obtain ⟨⟨regs, hshape⟩, hist, histB, hother⟩ := cleared.noteStart_spec 7 1 true false 0 (by decide)
  rw [hnoted] at hshape hist histB hother
  obtain ⟨doms, hpower⟩ := noted.powerEngines_shape (noted.regN Reg.DECC_ACTIVE)
  have hc : c = ({ noted.powerEngines (noted.regN Reg.DECC_ACTIVE) with
      sys := { (noted.powerEngines (noted.regN Reg.DECC_ACTIVE)).sys with mode := .ready, coppiceStart := false } } : Blk).fromNow := by
    rw [← hnoted, ← hcleared, ← hkept]
    rfl
  have hcreg (a : Nat) : c.regN a = noted.regN a := by rw [hc, hpower]; rfl
  have hpwr' : noted.pwr.mode = .run := by rw [hshape, ← hcleared, ← hkept]; exact hpwr
  refine ⟨⟨?_, by rw [hc]; rfl⟩, ?_, ?_, ?_, ?_, ?_⟩
  · rw [hc, hpower]
    exact hpwr'
  · rw [hc, hpower, hshape]
    rfl
  · rw [hcreg, hother _ (by decide), hzero]
  · rw [hcreg, hist]
    rfl
  · rw [hcreg, histB, hclearedreg (by decide), hkeptreg (by decide)]
  · rw [hcreg, hother _ (by decide), hclearedreg (by decide), hkeptreg (by decide)]

/-- Coppice is entered on an engine (17 R629, R630). -/
theorem Blk.enterCoppice_spec {e : Nat} (he : e < 18) : let c := b.enterCoppice e
    c.sys.mode = .coppice ∧ c.sys.coppiceEng = e ∧ c.regN Reg.DECC_ACTIVE = 2 ^ e ∧ c.regN (Reg.SYS_START_HIST_A 0) = 0x116 ∧
      c.regF (Reg.HDR_FAULT 0x01) 15 0 = 0xA081 := by
  intro c
  obtain ⟨noted, hnoted⟩ : ∃ x, b.noteStart 6 1 false true 0 = x := ⟨_, rfl⟩
  obtain ⟨-, hist, -, -⟩ := b.noteStart_spec 6 1 false true 0 (by decide)
  rw [hnoted] at hist
  obtain ⟨active, hactive⟩ : ∃ x, (noted.setN Reg.DECC_ACTIVE (2 ^ e)).setN Reg.DECC_SPARE 0 = x := ⟨_, rfl⟩
  have hset (y : Blk) {a e : Nat} (n : Nat) (he : a ≠ e) : (y.setN e n).regN a = y.regN a := congrArg BitVec.toNat (y.reg_setReg_other _ he)
  have hone : active.regN Reg.DECC_ACTIVE = 2 ^ e := by
    rw [← hactive, hset _ _ (by decide), Blk.regN_setN _ (Nat.pow_lt_pow_right (by decide) (by omega))]
  have hist' : active.regN (Reg.SYS_START_HIST_A 0) = 0x116 := by
    rw [← hactive, hset _ _ (by decide), hset _ _ (by decide), hist]
    rfl
  obtain ⟨doms, hpower⟩ := active.powerEngines_shape (2 ^ e)
  obtain ⟨entered, hentered⟩ : ∃ x, ({ ((active.powerEngines (2 ^ e)).gateDom 3).gateDom 5 with
      sys := { (active.powerEngines (2 ^ e)).sys with mode := .coppice, coppiceStart := true, coppiceEng := e } } : Blk).fromNow = x := ⟨_, rfl⟩
  have hc : c = entered.raise 0xA081 := by
    rw [← hentered, ← hactive, ← hnoted]
    rfl
  have henteredreg (a : Nat) : entered.regN a = active.regN a := by rw [← hentered, hpower]; rfl
  have hraise {a : Nat} (h : 0x40 ≤ offOf a) (hlost : a ≠ Reg.EVT_LOST) (hflog : a ≠ Reg.SYS_FLOG_COUNT) :
      (entered.raise 0xA081).regN a = entered.regN a := congrArg BitVec.toNat (entered.reg_raise _ h hlost hflog)
  obtain ⟨-, -, hsys, -⟩ := Blk.atStart_parts (entered.atStart_raise 0xA081)
  have hinfo : codeInfo 0xA081 = some ⟨0x01, true, none⟩ := rfl
  have hfault := entered.fault_raise hinfo rfl (by decide) (by decide)
  rw [hc]
  refine ⟨?_, ?_, ?_, ?_, hfault⟩
  · rw [hsys, ← hentered]; rfl
  · rw [hsys, ← hentered]; rfl
  · rw [hraise (by decide) (by decide) (by decide), henteredreg, hone]
  · rw [hraise (by decide) (by decide) (by decide), henteredreg, hist']

/-! ### The phases (17 R625, R626, R629) -/

theorem lowestBit_lt {w n e : Nat} (h : lowestBit w n = some e) : e < w := List.mem_range.mp (List.mem_of_find?_eq_some h)

/-- S3 to S7 pass (17 R625). -/
theorem Blk.fullStart_of_passed {o : StartOutcome} (h3 : o.s3 < 3) (hmem : (trainEnd o.mem).fault = 0) (hengines : 4 ≤ popcount 18 o.engines)
    (hmacros : o.macros = []) (h6 : o.s6 < 3) : ∃ x : Blk, x.atStart = b.atStart ∧ b.fullStart o = x.startReady := by
  refine ⟨((b.memTrained o.mem).linkPhase false o.link o.furthest o.info).enginesTested o.engines, ?_, ?_⟩
  · rw [Blk.atStart_enginesTested, Blk.atStart_linkPhase, Blk.atStart_memTrained]
  · have hmarch (x : Blk) : x.sramMarch o.macros = (true, x) := by rw [hmacros]; rfl
    unfold Blk.fullStart
    dsimp only
    rw [if_neg (by omega), if_neg (by simp [hmem]), if_neg (by omega), hmarch]
    exact if_neg (by simp [h6])

theorem Blk.fullStart_of_memory {o : StartOutcome} (h3 : o.s3 < 3) (hmem : (trainEnd o.mem).fault ≠ 0) : b.fullStart o =
    (b.memTrained o.mem).failStart 4 (trainEnd o.mem).attempts false false (trainEnd o.mem).fault := by
  unfold Blk.fullStart
  dsimp only
  rw [if_neg (by omega)]
  exact if_pos (by simp [hmem])

theorem Blk.coppiceStart_of_engine {o : StartOutcome} (h3 : o.s3 < 3) {e : Nat} (h : lowestBit 18 o.engines = some e) :
    ∃ x : Blk, b.coppiceStart o = x.enterCoppice e := by
  unfold Blk.coppiceStart
  rw [if_neg (by omega), h]
  exact ⟨_, rfl⟩

theorem Blk.coppiceStart_of_none {o : StartOutcome} (h3 : o.s3 < 3) (h : lowestBit 18 o.engines = none) :
    ∃ x : Blk, b.coppiceStart o = x.failStart 6 3 true true 0xA062 := by
  unfold Blk.coppiceStart
  rw [if_neg (by omega), h]
  exact ⟨_, rfl⟩

/-- The codes that training ends with (15 R580). -/
theorem trainFrom_fault (m : MemTrain) (n i : Nat) : (trainFrom m n i).fault ≤ 0x3042 := by
  induction n generalizing i with
  | zero => exact (by decide : 0x3041 ≤ 0x3042)
  | succ n ih =>
    unfold trainFrom
    dsimp only
    split
    · exact Nat.le_refl _
    · split
      · exact Nat.zero_le _
      · split
        · exact (by decide : 0x3041 ≤ 0x3042)
        · exact ih _

section Starts
variable {o : StartOutcome} (hmode : b.sys.mode = .starting) (hpwr : b.pwr.mode = .run) (hphase : b.sys.phase = 1) (hretry : b.sys.retryAt = none)
  (hhot : b.pwr.hotStop = false) (hsupplied : b.tly.supplied = true)

/-- The engine with the reading of the junction that a start takes first (17 R640). -/
def Blk.tempRead (b : Blk) (o : StartOutcome) : Blk :=
  ({ b with pwr := { b.pwr with hotStop := false } } : Blk).setN Reg.THM_TEMP (o.temp % 65536 + 65536 * (o.temp % 65536))

theorem Blk.tempRead_regN (b : Blk) (o : StartOutcome) {a : Nat} (h : a ≠ Reg.THM_TEMP) : (b.tempRead o).regN a = b.regN a :=
  congrArg BitVec.toNat (Blk.reg_setReg_other _ _ h)

theorem Blk.tempRead_temp (b : Blk) (o : StartOutcome) : (b.tempRead o).regN Reg.THM_TEMP = o.temp % 65536 + 65536 * (o.temp % 65536) :=
  Blk.regN_setN (v := o.temp % 65536 + 65536 * (o.temp % 65536)) _ (by omega)

include hmode hpwr hphase hretry hhot hsupplied

/-- What a start comes to once Tally has started: its first phases fail, or the others follow. -/
theorem start_shape : ∃ t : Blk, t.atStart = (b.tempRead o).atStart ∧
    start o b = if 3 ≤ o.s1 then t.failStart 1 3 b.sys.coppiceStart b.sys.coppiceStart 0xA011
      else if o.nvBad then t.failStart 2 1 b.sys.coppiceStart b.sys.coppiceStart 0xA021
      else if b.sys.coppiceStart || 3 ≤ (if o.nvCopy then t.raise 0xA022 else t).regF Reg.SYS_FAILED_STARTS 7 0 then
        (if o.nvCopy then t.raise 0xA022 else t).coppiceStart o
      else (if o.nvCopy then t.raise 0xA022 else t).fullStart o := by
  obtain ⟨m, hm⟩ : ∃ x, b.tempRead o = x := ⟨_, rfl⟩
  obtain ⟨t, ht⟩ : ∃ x, m.tallyStart o.selftest = x := ⟨_, rfl⟩
  have hkept : t.atStart = m.atStart := ht ▸ m.atStart_tallyStart (hm ▸ hsupplied) o.selftest
  obtain ⟨-, -, hsys, -⟩ := Blk.atStart_parts hkept
  have hcoppice : t.sys.coppiceStart = b.sys.coppiceStart := by rw [hsys, ← hm]; rfl
  refine ⟨t, hm ▸ hkept, ?_⟩
  have hstart : start o b = if 3 ≤ o.s1 then t.failStart 1 3 t.sys.coppiceStart t.sys.coppiceStart 0xA011
      else if o.nvBad then t.failStart 2 1 t.sys.coppiceStart t.sys.coppiceStart 0xA021
      else if t.sys.coppiceStart || 3 ≤ (if o.nvCopy then t.raise 0xA022 else t).regF Reg.SYS_FAILED_STARTS 7 0 then
        (if o.nvCopy then t.raise 0xA022 else t).coppiceStart o
      else (if o.nvCopy then t.raise 0xA022 else t).fullStart o := by
    rw [← ht, ← hm]
    exact if_neg (by simp [hmode, hpwr, hphase, hretry, hhot])
  rw [hstart, hcoppice]

end Starts

end
end Sys2Proof.Machine
end

section
/-! Starts: O58. -/
namespace Sys2Proof.Machine

section
variable {b : Blk} {o : StartOutcome}

/-- What is left of a start's facts in whatever its Tally part and its notices make of the engine. -/
theorem Blk.atStart_tempRead {t : Blk} (h : t.atStart = (b.tempRead o).atStart) : t.now = b.now ∧ t.pwr.mode = b.pwr.mode ∧
    t.sys.mode = b.sys.mode ∧ t.regF Reg.SYS_FAILED_STARTS 7 0 = b.regF Reg.SYS_FAILED_STARTS 7 0 ∧
    t.regN Reg.SYS_STARTS = b.regN Reg.SYS_STARTS ∧ t.regF Reg.THM_TEMP 15 0 = o.temp % 65536 := by
  obtain ⟨hnow, hpwr, hsys, -, -, hregs⟩ := Blk.atStart_parts h
  have hreg {a : Nat} (ha : startKept a = true) : t.regN a = (b.tempRead o).regN a := congrArg BitVec.toNat (hregs a ha)
  refine ⟨hnow, hpwr ▸ rfl, hsys ▸ rfl, ?_, ?_, ?_⟩
  · rw [Blk.regF, hreg (by decide), b.tempRead_regN o (by decide)]
    rfl
  · rw [hreg (by decide), b.tempRead_regN o (by decide)]
  · rw [Blk.regF, hreg (by decide), b.tempRead_temp o]
    simp only [fld]
    omega

theorem startWord_lt {phase attempts code : Nat} (ready coppice : Bool) (hphase : phase < 8) (hcode : code < 65536) :
    startWord phase attempts ready coppice code < 2 ^ 32 := by
  have hready : b2n ready ≤ 1 := by cases ready <;> decide
  have hcoppice : b2n coppice ≤ 1 := by cases coppice <;> decide
  simp only [startWord]
  omega

section Starts
variable (hmode : b.sys.mode = .starting) (hpwr : b.pwr.mode = .run) (hphase : b.sys.phase = 1) (hretry : b.sys.retryAt = none)
  (hhot : b.pwr.hotStop = false) (hsupplied : b.tly.supplied = true)
include hmode hpwr hphase hretry hhot hsupplied

theorem start_of_s1 (hcoppice : b.sys.coppiceStart = false) (h1 : 3 ≤ o.s1) :
    ∃ t : Blk, t.atStart = (b.tempRead o).atStart ∧ start o b = t.failStart 1 3 false false 0xA011 := by
  obtain ⟨t, ht, hstart⟩ := start_shape (o := o) hmode hpwr hphase hretry hhot hsupplied
  exact ⟨t, ht, by rw [hstart, if_pos h1, hcoppice]⟩

/-- S1 and S2 pass: a start in full, or one into Coppice (17 R629). -/
theorem start_of_checked (h1 : o.s1 < 3) (hnv : o.nvBad = false) : ∃ t : Blk, t.atStart = (b.tempRead o).atStart ∧
    start o b = if b.sys.coppiceStart || 3 ≤ b.regF Reg.SYS_FAILED_STARTS 7 0 then t.coppiceStart o else t.fullStart o := by
  obtain ⟨t, ht, hstart⟩ := start_shape (o := o) hmode hpwr hphase hretry hhot hsupplied
  obtain ⟨u, hu⟩ : ∃ u, (if o.nvCopy then t.raise 0xA022 else t) = u := ⟨_, rfl⟩
  have hkept : u.atStart = t.atStart := by
    rw [← hu]
    split
    · exact t.atStart_raise _
    · rfl
  obtain ⟨-, -, -, hfailed, -⟩ := Blk.atStart_tempRead (hkept.trans ht)
  refine ⟨u, hkept.trans ht, ?_⟩
  rw [hstart, hu, hfailed, if_neg (by omega), if_neg (by simp [hnv])]

theorem start_ready (hcoppice : b.sys.coppiceStart = false) (hcount : b.regF Reg.SYS_FAILED_STARTS 7 0 < 3) (h1 : o.s1 < 3)
    (hnv : o.nvBad = false) (h3 : o.s3 < 3) (hmem : (trainEnd o.mem).fault = 0) (hengines : 4 ≤ popcount 18 o.engines) (hmacros : o.macros = [])
    (h6 : o.s6 < 3) : let c := start o b
    c.inRun ∧ c.sys.phase = 7 ∧ c.regN Reg.SYS_FAILED_STARTS = 0 ∧ c.regN (Reg.SYS_START_HIST_A 0) = 271 ∧
      c.regN (Reg.SYS_START_HIST_B 0) = b.regN Reg.SYS_STARTS ∧ c.regF Reg.THM_TEMP 15 0 = o.temp % 65536 := by
  intro c
  obtain ⟨t, ht, hstart⟩ := start_of_checked hmode hpwr hphase hretry hhot hsupplied h1 hnv
  obtain ⟨x, hx, hfull⟩ := t.fullStart_of_passed h3 hmem hengines hmacros h6
  obtain ⟨-, hxpwr, -, -, hstarts, htemp⟩ := Blk.atStart_tempRead (hx.trans ht)
  have hc : c = x.startReady := by
    rw [show c = start o b from rfl, hstart, if_neg (by simp [hcoppice, hcount]), hfull]
  obtain ⟨hrun, hphase', hfailed, hist, histB, htemp'⟩ := x.startReady_spec (hxpwr.trans hpwr)
  rw [hc]
  exact ⟨hrun, hphase', hfailed, hist, histB.trans hstarts, (congrArg (fld · 15 0) htemp').trans htemp⟩

theorem start_memory (hcoppice : b.sys.coppiceStart = false) (h1 : o.s1 < 3) (hnv : o.nvBad = false) (h3 : o.s3 < 3)
    (hmem : (trainEnd o.mem).fault ≠ 0) (hcount : b.regF Reg.SYS_FAILED_STARTS 7 0 < 2) : let c := start o b
    c.sys.mode = .starting ∧ c.sys.retryAt = some b.now ∧ c.regF Reg.SYS_FAILED_STARTS 7 0 = b.regF Reg.SYS_FAILED_STARTS 7 0 + 1 ∧
      c.regN (Reg.SYS_START_HIST_A 0) = 4 + 256 * ((trainEnd o.mem).attempts % 4) + 65536 * (trainEnd o.mem).fault := by
  intro c
  obtain ⟨t, ht, hstart⟩ := start_of_checked hmode hpwr hphase hretry hhot hsupplied h1 hnv
  obtain ⟨hnow, -, hmode', hfailed, -, -⟩ := Blk.atStart_tempRead ((t.atStart_memTrained o.mem).trans ht)
  have hc : c = (t.memTrained o.mem).failStart 4 (trainEnd o.mem).attempts false false (trainEnd o.mem).fault := by
    have hfull : 3 > b.regF Reg.SYS_FAILED_STARTS 7 0 := by omega
    rw [show c = start o b from rfl, hstart, if_neg (by simp [hcoppice, hfull]), Blk.fullStart_of_memory h3 hmem]
  have hcode : (trainEnd o.mem).fault < 65536 := Nat.lt_of_le_of_lt (trainFrom_fault o.mem 4 0) (by decide)
  obtain ⟨hm, hr, hf, hh, -⟩ := (t.memTrained o.mem).failStart_retry 4 (trainEnd o.mem).attempts (trainEnd o.mem).fault
    (startWord_lt _ _ (by decide) hcode) (by rw [hfailed]; exact hcount)
  rw [hc]
  refine ⟨hm.trans (hmode'.trans hmode), hr.trans (congrArg some hnow), hf.trans (by rw [hfailed]), hh.trans ?_⟩
  simp only [startWord, b2n, Bool.false_eq_true, if_false]

theorem start_first (hcoppice : b.sys.coppiceStart = false) (h1 : 3 ≤ o.s1) (hcount : b.regF Reg.SYS_FAILED_STARTS 7 0 < 2) : let c := start o b
    c.sys.mode = .starting ∧ c.sys.retryAt = some b.now ∧ c.regF Reg.SYS_FAILED_STARTS 7 0 = b.regF Reg.SYS_FAILED_STARTS 7 0 + 1 ∧
      c.regN (Reg.SYS_START_HIST_A 0) = 0xA0110301 ∧ c.regN (Reg.SYS_START_HIST_B 0) = b.regN Reg.SYS_STARTS := by
  intro c
  obtain ⟨t, ht, hstart⟩ := start_of_s1 hmode hpwr hphase hretry hhot hsupplied hcoppice h1
  obtain ⟨hnow, -, hmode', hfailed, hstarts, -⟩ := Blk.atStart_tempRead ht
  obtain ⟨hm, hr, hf, hh, hhB⟩ := t.failStart_retry 1 3 0xA011 (startWord_lt _ _ (by decide) (by decide)) (by rw [hfailed]; exact hcount)
  rw [show c = _ from hstart]
  exact ⟨hm.trans (hmode'.trans hmode), hr.trans (congrArg some hnow), hf.trans (by rw [hfailed]), hh.trans rfl, hhB.trans hstarts⟩

theorem start_third (hcoppice : b.sys.coppiceStart = false) (h1 : 3 ≤ o.s1) (hcount : b.regF Reg.SYS_FAILED_STARTS 7 0 = 2) : let c := start o b
    c.sys.mode = .starting ∧ c.sys.phase = 1 ∧ c.sys.coppiceStart = true ∧ c.sys.retryAt = none ∧ c.regF Reg.SYS_FAILED_STARTS 7 0 = 3 := by
  intro c
  obtain ⟨t, ht, hstart⟩ := start_of_s1 hmode hpwr hphase hretry hhot hsupplied hcoppice h1
  obtain ⟨-, -, -, hfailed, -, -⟩ := Blk.atStart_tempRead ht
  rw [show c = _ from hstart]
  exact t.failStart_coppice 1 3 0xA011 (startWord_lt _ _ (by decide) (by decide)) (hfailed.trans hcount)

theorem start_coppice (hcoppice : b.sys.coppiceStart = true ∨ 3 ≤ b.regF Reg.SYS_FAILED_STARTS 7 0) (h1 : o.s1 < 3) (hnv : o.nvBad = false) :
    ∃ t : Blk, start o b = t.coppiceStart o := by
  obtain ⟨t, -, hstart⟩ := start_of_checked hmode hpwr hphase hretry hhot hsupplied h1 hnv
  exact ⟨t, by rw [hstart, if_pos (by simpa using hcoppice)]⟩

end Starts

end

/-- Settles O58: a reset ends all work and keeps the keys, a start begins at S1, and its phases leave it ready, failed and counted, in Coppice or
halted. -/
theorem startsRunThroughTheirPhases : Obligations.StartsRunThroughTheirPhases := by
  unfold Obligations.StartsRunThroughTheirPhases
  intro dt rail t e i ok o s b x ended begun
  refine ⟨fun h => ?_, fun h2 h9 => ?_, ?_, ?_, fun h => ?_, fun hretry hdue => ?_, fun hcheck hready => ⟨fun hrun => ?_, fun hpwr hcop => ?_,
    fun hrun hidle => ?_, fun hrun hlive => ?_⟩, fun hmode hpwr hphase hretry hhot hsupplied => ?_⟩
  · have hc : porstAssert b = b.holdReset := if_neg h
    refine leaves_of_exec ((exec_porstAssert dt s).trans (by rw [hc])) ?_
    have hspec := b.holdReset_spec
    generalize b.holdReset = c at hspec ⊢
    exact hspec
  · have hc : supplyOutOfRange rail b = b.powerLost := by rw [supplyOutOfRange, if_neg h2, if_pos h9]
    refine leaves_of_exec ((exec_supplyOutOfRange dt rail s).trans (by rw [hc])) ?_
    have hspec := b.powerLost_spec
    generalize b.powerLost = c at hspec ⊢
    exact hspec
  · rw [exec_supplyOutOfRange]
    rfl
  · refine leaves_of_exec (exec_aonPowerOn dt s) ?_
    have hspec := aonPowerOn_spec (s.blk.elapse dt)
    generalize aonPowerOn (s.blk.elapse dt) = c at hspec ⊢
    exact hspec
  · refine leaves_of_exec (exec_porstRelease dt ok s) ?_
    have hspec := porstRelease_spec (s.blk.elapse dt) ok h
    generalize porstRelease ok (s.blk.elapse dt) = c at hspec ⊢
    exact hspec
  · have hc : startRetryDelay b = b.beginStart false := by
      rw [startRetryDelay, hretry]
      exact if_neg (by omega)
    refine leaves_of_exec ((exec_startRetryDelay dt s).trans (by rw [hc])) ?_
    obtain ⟨hspec, -⟩ := b.beginStart_spec false
    generalize b.beginStart false = c at hspec ⊢
    exact hspec
  · have hclear : x.clearCount = x.setN Reg.SYS_FAILED_STARTS 0 := if_neg (by
      rw [show (x.setN Reg.SYS_FAILED_STARTS 0).coppice = b.coppice from rfl, Blk.coppice, hrun.2]
      decide)
    rw [exec_clearCount, Blk.write1_startCtl hrun.serving hcheck hready (v := 1) (by decide) rfl]
    exact congrArg (fun c : Blk => Host.Outcome.next (s.after (c.answer 0 0))) hclear
  · have hserving : b.serving = true := by simp [Blk.serving, hpwr, hcop]
    have hclear : x.clearCount = (x.setN Reg.SYS_FAILED_STARTS 0).raise 0xA084 := if_pos (by
      rw [show (x.setN Reg.SYS_FAILED_STARTS 0).coppice = b.coppice from rfl, Blk.coppice, hcop]
      decide)
    rw [exec_clearCount, Blk.write1_startCtl hserving hcheck hready (v := 1) (by decide) rfl]
    exact congrArg (fun c : Blk => Host.Outcome.next (s.after (c.answer 0 0))) hclear
  · have hexec := (exec_restart dt (some i) s).trans
      (by rw [Blk.write1_startCtl hrun.serving hcheck hready (v := 2) (by decide) (Blk.restart_of_idle (b := x) hidle)])
    refine leaves_of_exec hexec ?_
    obtain ⟨hspec, hcop, -⟩ := ({ x with sys := { x.sys with coppiceStart := false } } : Blk).beginStart_spec false
    generalize ({ x with sys := { x.sys with coppiceStart := false } } : Blk).beginStart false = c at hspec hcop ⊢
    exact ⟨hspec, hcop⟩
  · rw [exec_restart, Blk.write1_startCtl hrun.serving hcheck hready (v := 2) (by decide) (Blk.restart_of_live (b := x) hlive)]
  · intro n
    refine ⟨fun hcop hcount => ⟨fun h1 hnv h3 hmem heng hmac h6 => ?_, fun h1 hnv h3 hmem hfew => ?_, fun h1 hfew => ?_, fun h1 htwo => ?_⟩,
      fun hcop h1 hnv h3 => ⟨fun hbit => ?_, fun hbit => ?_⟩⟩
    · refine leaves_of_exec (exec_start dt o s) ?_
      have hspec := start_ready (b := s.blk.elapse dt) hmode hpwr hphase hretry hhot hsupplied hcop hcount h1 hnv h3 hmem heng hmac h6
      generalize start o (s.blk.elapse dt) = c at hspec ⊢
      exact hspec
    · refine leaves_of_exec (exec_start dt o s) ?_
      have hspec := start_memory (b := s.blk.elapse dt) hmode hpwr hphase hretry hhot hsupplied hcop h1 hnv h3 hmem hfew
      generalize start o (s.blk.elapse dt) = c at hspec ⊢
      exact hspec
    · refine leaves_of_exec (exec_start dt o s) ?_
      have hspec := start_first (b := s.blk.elapse dt) hmode hpwr hphase hretry hhot hsupplied hcop h1 hfew
      generalize start o (s.blk.elapse dt) = c at hspec ⊢
      exact hspec
    · refine leaves_of_exec (exec_start dt o s) ?_
      have hspec := start_third (b := s.blk.elapse dt) hmode hpwr hphase hretry hhot hsupplied hcop h1 htwo
      generalize start o (s.blk.elapse dt) = c at hspec ⊢
      exact hspec
    · obtain ⟨y, hstart⟩ := start_coppice (b := s.blk.elapse dt) hmode hpwr hphase hretry hhot hsupplied hcop h1 hnv
      obtain ⟨z, hz⟩ := Blk.coppiceStart_of_engine (b := y) h3 hbit
      refine leaves_of_exec ((exec_start dt o s).trans (by rw [hstart, hz])) ?_
      have hspec := Blk.enterCoppice_spec (b := z) (lowestBit_lt hbit)
      generalize z.enterCoppice e = c at hspec ⊢
      exact hspec
    · obtain ⟨y, hstart⟩ := start_coppice (b := s.blk.elapse dt) hmode hpwr hphase hretry hhot hsupplied hcop h1 hnv
      obtain ⟨z, hz⟩ := Blk.coppiceStart_of_none (b := y) h3 hbit
      refine leaves_of_exec ((exec_start dt o s).trans (by rw [hstart, hz])) ?_
      have hspec := z.failStart_halt 6 3 true 0xA062
      generalize z.failStart 6 3 true true 0xA062 = c at hspec ⊢
      exact hspec

end Sys2Proof.Machine
end

section
/-! Why O56 fails: with the link up, an entry to Rosemary takes it down, and what the store then holds is looked at again (`Blk.updMeas`); an
epoch record at the head of Tally's queue is appended (09 R345, log 92) and opens a block, and the statement has Tally's block as before. -/
namespace Sys2Proof.Machine

theorem exec_enterRosemary (dt : Nat) (who : Who) (s : State) :
    exec (.enterRosemary dt who) s = .next (s.after ((s.blk.elapse dt).write1 who Reg.PWR_CMD 1)) := rfl

/-- The engine with the link up, an epoch record at the head of Tally's queue, and an Operator's session on slot 0. -/
def epochWaits : State :=
  { pending := [], blk := { lnk := { state := .up }, tly := { taken := [.epoch 0 []] }
                            ses := { slots := [{ st := .opened, role := 1 }, {}, {}, {}] } } }

/-- An empty request on the chain, for the statement's clauses on frames. -/
def emptyRequest : Req :=
  { link := false, cho := false, ptype := 0, addr := 0, slot := 0, hasMac := false, seq := 0, payload := [], mac := 0 }

/-- The entry to Rosemary leaves the record in Tally's block. -/
theorem epochWaits_appended : ((epochWaits.blk.elapse 0).write1 (some 0) Reg.PWR_CMD 1).tly.block.count = 1 := by
  decide +kernel

/-- Refutes O56: Tally's block holds no record in `epochWaits`, and one once the entry to Rosemary has begun. -/
theorem not_theEngineSleepsAndWakes : ¬ Obligations.TheEngineSleepsAndWakes := by
  unfold Obligations.TheEngineSleepsAndWakes
  intro h
  obtain ⟨hentry, -⟩ := h 0 0 0 0 {} 0 emptyRequest false false false epochWaits
  obtain ⟨hidle, -⟩ := hentry ⟨by decide +kernel, by decide +kernel⟩ (by decide +kernel) (by decide +kernel)
  obtain ⟨-, hleaves⟩ := hidle (by decide +kernel)
  obtain ⟨-, -, -, -, -, hblock⟩ := hleaves.of_exec (exec_enterRosemary 0 (some 0) epochWaits)
  have hcount := congrArg TlyBlock.count hblock
  rw [Blk.settle_tly, epochWaits_appended] at hcount
  exact absurd hcount (by decide +kernel)

end Sys2Proof.Machine
end
